-- ==== Sys2Proof/Word.lean ====
section
/-!
DEFINITION. The plain types of the model: words, the names the spec fixes (modes, ports, Barns, supplies),
and the operands that the command rows carry from outside. Nothing here computes.
-/
namespace Sys2Proof

/-- A byte on a wire, in a packet, in a mould or in the Seed Store (R7). -/
abbrev Byte := BitVec 8
/-- A packet word, 32 bits (R327). -/
abbrev PWord := BitVec 32
/-- A sheaf word, 64 bits (R5, R139). -/
abbrev SWord := BitVec 64
/-- The 56-bit beat count of R82. -/
abbrev Beat := BitVec 56
/-- A deckle number: beat count div 1 024 (R82), 46 bits. -/
abbrev Deckle := BitVec 46

/-- A sparse table by number, kept in ONE canonical form: keys strictly rising, no entry equal to the
table's default. -/
abbrev PMap (α : Type) := List (Nat × α)

/-- The ports that deliver packets (R336). -/
inductive Port where | dl0 | dl1 | spi
deriving DecidableEq, Repr

/-- The modes of Table 1.3. -/
inductive Mode where | held | startUp | cal | streaming | triggered | recovery
deriving DecidableEq, Repr

/-- The two control-and-merge units (R370, chapter 13). -/
inductive Barn where | a | b
deriving DecidableEq, Repr

/-- The seven supplies of Table 15.1. -/
inductive Supply where | vddAon | vddCore | vddMem | avdd | vddSd | vddaSd | vddio
deriving DecidableEq, Repr

/-- A port and the tag the host chose (R327). -/
structure Req where
  port : Port
  tag : Byte
deriving DecidableEq, Repr

/-- What the guard code found in the words a stage reads (R145, R146): nothing, some corrected words, or an
uncorrectable word, which may hide the source and the sequence number. -/
inductive Guard where
  | clean
  | corrected (words : Nat)
  | lost (unknown : Bool)
deriving DecidableEq, Repr

/-- A STAGE_PATCH edit record (R345): an offset and the new bytes. -/
structure Edit where
  offset : Nat
  bytes : List Byte
deriving DecidableEq, Repr

abbrev Chan := Fin 192
abbrev StookId := Fin 12
abbrev Lane := Fin 4
abbrev DlId := Fin 2
abbrev Conv := Fin 8

/-- A unit that a fence or a block reset can name (Table 12.1, RESET_BLOCK of Table 11.8). -/
inductive Target where
  | channel (c : Chan)
  | stook (s : StookId)
  | uplane (u : Lane)
  | converter (k : Conv)
  | downlane (d : DlId)
  | timingPort
  | triggerPort
deriving DecidableEq, Repr

/-- The header of a PTP message as the timing port takes it (R99). `domain` is the domain number, `sdo` the sdoId,
`source` the source port identity, `seq` the sequence number, `corr` the correction field in 2^-16 ns. -/
structure PtpHeader where
  domain : Byte
  sdo : BitVec 12
  source : BitVec 80
  seq : BitVec 16
  corr : Int
deriving DecidableEq, Repr

/-- The data set that an Announce message carries for master selection (R99, R100). -/
structure PtpDataset where
  priority1 : Byte
  clockClass : Byte
  accuracy : Byte
  variance : BitVec 16
  priority2 : Byte
  grandmaster : BitVec 64
  stepsRemoved : BitVec 16
deriving DecidableEq, Repr

/-- A calibrated value: its quantity (Table 9.1, 0 to 12), its unit (channel, converter or stook) and the element
within the unit (cell, segment, gain code, AAF setting, phase, Vernier cell or DAC range). -/
structure CalKey where
  quantity : Fin 13
  unit : Nat
  elem : Nat
deriving DecidableEq, Repr

/-- What one step of an input-path check measures (Table 8.6): nothing, the mean of 16 corrected samples in 1/16 LSB, the PEAK
of the injector's window in LSB, or the reported hit time less the instant at which the injector was triggered, in 1/16
fine tick; the last two are none when no hit edge was formed. -/
inductive CheckMeas where
  | quiet
  | level (mean : Int)
  | peak (p : Option Nat)
  | edge (t : Option Int)
deriving DecidableEq, Repr

/-- The redundant elements of a unit as a measurement found them (R273): the weight errors of a SAR cell's 15 MSB units and
2 spares, or the offset and the rms noise of its two comparators, in 1/16 LSB; the reference ratios of a converter's main
capacitor and 2 spares, in ppm from nominal. -/
inductive ElemMeas where
  | weights (ch cell : Nat) (errors : List Int)
  | comparators (ch cell : Nat) (main spare : Int) (mainNoise spareNoise : Nat)
  | capacitors (conv : Nat) (ratios : List Int)
deriving DecidableEq, Repr

/-- Quality figures of a unit as its stimuli showed them (R288): a channel (0-191) or converter k (208 + k), SAR residual
in 1/16 LSB, TDC residual in 0.1 ps, monitor residual in ppm. -/
structure Residual where
  unit : Nat
  sar : BitVec 16
  tdc : BitVec 16
  mon : BitVec 16
deriving DecidableEq, Repr

end Sys2Proof
end

