-- ==== Sys2Proof/Config.lean ====
section
/-!
DEFINITION. What the silicon fixes (revision, identity codes, periods) and the free values of the model.
-/
namespace Sys2Proof.Config

/-- `ID_DEVICE` (R350). -/
def deviceCode : Nat := 0x0192
/-- The silicon revision this model is (R467 leaves it to the part; revision 1 has the microcode of R413).
DESIGN CHOICE, log entry 3. -/
def revision : Nat := 1
/-- `LK_DEV_PROTO` (Table 7.11). -/
def devProto : Nat := 3
/-- The resident microcode of revision 1: MC_VERSION and STATE_VERSION (R413). -/
def mcVersion : Nat := 1
def mcStateVersion : Nat := 1
/-- `MD_MICROCODE_RANGE` of revision 1 (R413). -/
def mcLow : Nat := 0x00000001
def mcHigh : Nat := 0x0000FFFF

/-- Beats in a deckle, and beats in one second (Table 0.4). -/
def deckleBeats : Nat := 1024
def beatsPerSecond : Nat := 40960000
/-- Deckles in one second. -/
def decklesPerSecond : Nat := 40000
/-- The TDC dead time of 12.0 ns in fine ticks, rounded up (R57). DEDUCED, log entry 12. -/
def deadTicks : Nat := 4027
/-- The settling time of 100 ns after a gain or filter change, in fine ticks (R78). -/
def settleTicks : Nat := 33555

/-- What the proportional-integral loop of R104 moves the phase by at its k-th decision, in fine ticks, before
the limit of `TB_SLEW_MAX`. The spec gives the loop its bandwidth and its limit and no gains: a free value,
log entry 9. -/
opaque servoOutput : Nat → Int
/-- The frequency correction that the loop puts in force at its k-th decision where the reference is REFCLK, in parts in 10^12
(R102): a free value, log entry 9. -/
opaque servoFrequency : Nat → Int
/-- The random interval before the next Delay_Req, the k-th draw, as a part of 2^16 of its range (R99): a free value, log
entry 9. -/
opaque delayDraw : Nat → Fin 65537
/-- Source and sequence number that a GUARD_LOSS sheaf carries when they could not be recovered (R146): the k-th. The
spec gives no value beside the UNKNOWN bit: a free value, log entry 9. -/
opaque lostId : Nat → Nat

/-- The TDC record of a stuck entry whose hit edge allocated no entry, the k-th (R57, R70): the spec gives none. A free
value, log entry 9. -/
opaque unrecordedTdc : Nat → BitVec 24
/-- A sample of the window of such an edge, the k-th: a free value, log entry 9. -/
opaque unrecordedSample : Nat → BitVec 14

/-- The aperture lag, in fine ticks, of the window that an input active at the first beat of START-UP starts, the k-th (R465).
A free value, log entry 9. -/
opaque restartLag : Nat → BitVec 13
/-- The coefficients of internal point i before an identity is loaded, "nominal" (R467); and the temperature in 1/1024 °C that
coefficients give for a converter's reading in 1/2 µV (R252): the spec gives no formula. Free values, log entry 9. -/
opaque nominalCoef : Nat → BitVec 64
opaque temperature : BitVec 64 → Int → Int
/-- The field of `IPC_RESULT` and of its report for a quantity that the check did not measure, the k-th (R268 reports the values
measured). A free value, log entry 9. -/
opaque unmeasured : Nat → Int
/-- The cell that converted the sample an NL64 slot takes from a ring, the k-th (R430): the ring does not say. A free value,
log entry 9. -/
opaque scanCell : Nat → Bool
/-- Beats that the preload of a couch takes, the k-th: at most 40 deckles (R318). A free value, log entry 9. -/
opaque preloadBeats : Nat → Fin 40961
/-- `CK_POWER_EST`, mW: the k-th estimate (R403 gives its accuracy only); and `CK_KEEPER`, the k-th measurement (R397). Free
values, log entry 9. -/
opaque powerEstimate : Nat → BitVec 16
opaque keeperOffset : Nat → BitVec 16
/-- The status code of the outcome of a measured check or an integrity check that fails, the k-th (R290; R283 numbers the outcomes
of calibration runs and not this one), and of a boot report that finds no valid bank (R301): a free value, log entry 9. -/
opaque checkStatus : Nat → Fin 16
/-- `TB_FREQ_RATIO`: the k-th mean of the recovered clock against REFCLK (Table 3.8); and the move of `TG_IN_PHASE` at the k-th
boundary plus 1: at most one step either way (R183). Free values, log entry 9. -/
opaque freqRatio : Nat → BitVec 32
/-- The sampling instant of TG_IN lies at least 0.20 ns inside the measured eye at the k-th boundary (R183): a free value,
log entry 9. -/
opaque eyeClear : Nat → Bool
opaque phaseMove : Nat → Fin 3

end Sys2Proof.Config
end

