-- ==== Sys2Proof/Syntax.lean ====
section
/-!
DEFINITION. The commands of the block: one constructor per row of spec/opcode_table.json, in the table's order,
with the row's operands. Packet rows carry the port and tag of their packet and raw fields (so that a field out of
its range can be sent); event rows carry the unit concerned and what was measured outside the block.
-/
namespace Sys2Proof

inductive Instr where
  -- command packets (chapter 11)
  | nop (r : Req)
  | echo (r : Req) (words : List PWord)
  | identify (r : Req)
  /-- `at?` is none for the next deckle boundary, some D for a named deckle (Table 11.8). -/
  | modeRequest (r : Req) (target : BitVec 3) (at? : Option Deckle)
  | get (r : Req) (id : BitVec 16) (inst : BitVec 9)
  | set (r : Req) (id : BitVec 16) (inst : BitVec 9) (value : List PWord)
  | getBlock (r : Req) (id : BitVec 16) (inst count : BitVec 9)
  | tallyRead (r : Req) (id : BitVec 16) (inst count : BitVec 9)
  | tallyPeek (r : Req) (id : BitVec 16) (inst count : BitVec 9)
  | stageMould (r : Req) (offset : BitVec 20) (bytes : List Byte)
  | stageMouldFirst (r : Req) (offset : BitVec 20) (bytes : List Byte)
  | stagePatch (r : Req) (edits : List Edit)
  | stagePatchFirst (r : Req) (digest : List Byte) (edits : List Edit)
  | checkStaged (r : Req)
  | mouldCheckComplete
  | couchImmediate (r : Req)
  | couchAtDeckle (r : Req) (d : Deckle)
  | couchAtPtpTime (r : Req) (secs : BitVec 48) (ns : BitVec 32)
  | couchBeat
  | discardStaged (r : Req)
  | mouldInfo (r : Req)
  | injectConversion (r : Req) (input : Byte) (five : Bool)
  | readMonitor (r : Req) (first count : Byte)
  | testDacConnect (r : Req) (stook ch : BitVec 4) (low : Bool) (code : BitVec 12)
  | testDacRelease (r : Req) (stook : BitVec 4)
  | testDacSettled (stook : StookId)
  | inputPathCheck (r : Req) (ch : Byte)
  /-- A measurement of the step in progress (Table 8.6) is made at this beat; the check ends with the last one, or when its
  retries have run out. -/
  | inputPathCheckEnd (m : CheckMeas)
  | calStartForeground (r : Req) (mask : BitVec 12)
  | calStartGleanChannel (r : Req) (ch : Byte) (mask : BitVec 12)
  | calStartGleanSweep (r : Req) (mask : BitVec 12)
  | calAbort (r : Req)
  | calStatus (r : Req)
  | calCommit (r : Req)
  /-- Whether the bank read back without error (R295). -/
  | seedCommitComplete (readBack : Bool)
  | seedRead (r : Req) (bank : BitVec 1) (offset : BitVec 16) (count : BitVec 11)
  | fence (r : Req) (kind : BitVec 2) (index : Byte)
  | unfence (r : Req) (kind : BitVec 2) (index : Byte)
  | faultRead (r : Req) (first : BitVec 4) (count : BitVec 5)
  | faultClear (r : Req) (mask : BitVec 64)
  | faultClearFirst (r : Req) (mask : BitVec 64) (history : Bool)
  | faultClearHistory (r : Req) (mask : BitVec 64)
  | errpinRelease (r : Req)
  | resetBlock (r : Req) (target : BitVec 3) (index : Byte)
  | barnStatus (r : Req)
  | barnSwitch (r : Req)
  | barnResync (r : Req)
  | timeStatus (r : Req)
  | laneStatus (r : Req) (lane : BitVec 2)
  | granaryStatus (r : Req)
  | scrubStatus (r : Req)
  | legacyEnter (r : Req)
  | legacyLeave (r : Req)
  | mdKeyWrite (r : Req) (inst : BitVec 9) (value : BitVec 64)
  | keyLock (r : Req) (require : Bool)
  | keyRequire (r : Req) (value : Bool)
  -- transports
  | epochChange
  | commandFrame (d : DlId) (bytes : List Byte)
  | creditFrame (d : DlId) (bytes : List Byte)
  | aggAnnounceFrame (d : DlId) (bytes : List Byte)
  | spiWrite (bytes : List Byte)
  | spiRead (clocked : Nat)
  | spiStatus
  | spiUnknownTransaction (first : Byte)
  | replyFrameSend (u : Lane)
  -- trigger port
  | tgIdle (cls : BitVec 1) (operand : BitVec 12)
  | tgAccept (cls : BitVec 1) (type offset : BitVec 6)
  | tgDiscard (cls : BitVec 1) (age : BitVec 12)
  | tgSyncByteWord (cls : BitVec 1) (index : BitVec 3) (byte : Byte)
  | tgSyncLoadWord (cls : BitVec 1) (low : BitVec 11)
  | tgPing (cls : BitVec 1) (operand : BitVec 12)
  | tgReservedOpcode (op : Fin 3) (cls : BitVec 1) (operand : BitVec 12)
  | windowComesIntoForce
  | windowLeavesStore
  | earlyExpiry
  | pendingExpiry
  | tgLossOfSignal
  -- channel front end
  /-- The filtered input in 1/16 LSB (`level`) meets the threshold `fine` ticks into the beat; `lag` is the measured aperture
  lag, `inFlight` the conversions whose aperture closed before the window's first aperture and whose samples are still to
  come (R47, R53 to R55). -/
  | hitEdge (c : Chan) (level : Int) (fine lag : BitVec 13) (inFlight : Fin 4)
  /-- The filtered input in 1/16 LSB meets the release level. -/
  | discriminatorRelease (c : Chan) (level : Int)
  | sampleConverted (c : Chan) (code : BitVec 14)
  | tdcStop (c : Chan) (raw : BitVec 24)
  | entryComplete (c : Chan)
  | stuckLimitExpiry (c : Chan)
  | stuckBackoffEnd (c : Chan)
  | stuckBackoffReset (c : Chan)
  -- Winnower and Granary
  | winnowerReadEntry (c : Chan) (g : Guard)
  | sheafToStaging (st : StookId)
  | tallyReport (c : Chan)
  | stagingSwap (st : StookId)
  | stagingDrain (st : StookId) (g : Guard)
  | granaryWrite
  | p0HoldWrite
  | deferredP0Write
  | bankPowerOff (b : Fin 64)
  | scrubSlot (g : Guard)
  /-- `found` is what the guard code found in the first slots of the burst. -/
  | scrubBurst (found : List Guard)
  | granaryReport
  -- merge and links
  /-- `found` is what the guard code found in the first unit that the entry reads; `builder` says that the quire builder or a
  Barn's buffer found it, and not the Granary's read (R145, R146). -/
  | mergeScheduleEntry (k : BitVec 12) (found : Guard) (builder : Bool)
  | quireClose (u : Lane)
  | quireSend (u : Lane)
  | negotiationTimeout (u : Lane)
  | trainingEnd (u : Lane)
  | laneActivate (u : Lane)
  | trainingConfirmTimeout (u : Lane)
  | creditTimeout (u : Lane)
  | laneTransmitterFault (u : Lane)
  | laneFailedRetry (u : Lane)
  | laneSleepEntry
  | drainComplete (u : Lane)
  | linkReport
  | downlaneLockLoss (d : DlId)
  | downlaneLock (d : DlId)
  -- time base
  | refclkLoss
  | refclkReturn
  | syncInPulse
  | syncLoadOrCheck
  | timeStep
  | epochPeriodic
  /-- `t1` is the master's time in fine ticks of device time, known at once for a one-step Sync; `t2` the device
  time of reception in fine ticks; `interval` the logSyncInterval. -/
  | ptpSync (h : PtpHeader) (interval : Int) (t1 : Option Int) (t2 : Int)
  | ptpFollowUp (h : PtpHeader) (t1 : Int)
  /-- `requester` is the port identity that the response answers (R100). -/
  | ptpDelayResp (h : PtpHeader) (requester : BitVec 80) (interval : Int) (t4 : Int)
  | ptpAnnounce (h : PtpHeader) (interval : Int) (ptpTimescale : Bool) (ds : PtpDataset)
  /-- `wrongDomain`: the message was of another domain or sdoId; else of a type that is discarded (R99). -/
  | ptpDiscardedMessage (wrongDomain : Bool)
  | delayReqSend (t3 : Int)
  | masterLoss
  | holdoverExpiry
  | tpLinkDown
  | tpLinkUp
  | replicaMeasureAsleep (st : StookId) (period : BitVec 32)
  /-- The per-deckle measurements: the replica period of each stook, the code errors of each downlane. -/
  | deckleBoundary (replica : List (StookId × BitVec 32)) (dlErrors : List (DlId × Nat))
  -- modes and start-up
  | modeTransition
  | recoveryEntry
  /-- Whether the step passed, and for step 1 whether a Barn held a complete checkpoint. -/
  | recoveryStepComplete (ok resync : Bool)
  | recoveryReturn
  | recoveryWindowExpiry
  /-- Whether the current step passed its own tests; for a failed step 1 or 3 the failing block number; with boot source
  0b00, the bytes of the boot package that step 1 reads (header to MC_CHECK) or that step 5 reads (the mould); for step 7
  the residuals of the measured check. -/
  | startupStepComplete (ok : Bool) (block : BitVec 16) (boot : List Byte) (found : List Residual)
  | startupComplete
  | autoStart
  | bootStagingTimeout
  | heldEntry
  -- supplies and reset
  | powerOn
  | supplyGood (sup : Supply)
  | supplyFail (sup : Supply)
  | powerGoodAssert (straps : Byte)
  | powerGoodWithdraw
  | vddioLoss
  | vddMemLoss
  | resetNLow
  | resetNRise (straps : Byte)
  -- faults
  | faultRaise (src : BitVec 6) (inst : Byte) (ctx : BitVec 16)
  | trapResume
  | fenceTakesEffect
  | blockResetStart
  /-- The self-check's result (none: not completed) and whether the target's error line is active. -/
  | blockResetDecision (t : Target) (selfCheck : Option Bool) (lineActive : Bool)
  | reactionWindowEnd
  | errpinMinElapsed
  -- Barns
  | lockstepMismatch (kind : BitVec 4)
  | barnAlarm (b : Barn)
  | barnSelftestStart
  /-- The signature bits that differed for each Barn, and whether its saved state was sound. -/
  | barnSelftestVerdict (bitsA bitsB : BitVec 16) (stateA stateB : Bool)
  | crosslinkLoss
  | crosslinkRestored
  | resyncSnapshot
  | resyncJournal (signatureOk : Bool)
  | resyncJoin (signatureOk : Bool)
  | resyncAbandon
  | barnRetest (bits : BitVec 16)
  | revert
  | upgradeDetach (ok : Bool)
  | upgradeRejoin (ok : Bool)
  -- calibration and monitor path
  | gleanSweepStart
  | gleanRunStart
  /-- A measurement of the current step: the units with a saturated raw code, the hit edges that the step's own injector firings
  formed on each channel (R281), the values measured, and the redundant elements found (R273). -/
  | calibrationMeasurement (saturated : List Nat) (fired : List (Nat × Nat)) (values : List (CalKey × Int))
      (elements : List ElemMeas)
  /-- The quality figures that the run's stimuli showed (R288). -/
  | calibrationRelease (found : List Residual)
  | foregroundRunEnd (found : List Residual)
  | calClaimTakesEffect (k : Conv)
  /-- The window's mean at the converter's own input in nanovolts, before any correction. -/
  | monitorWindowEnd (k : Conv) (raw : Int)
  | monitorResultDelivered (k : Conv)
  | injectAbortEdge (k : Conv)
  | baselineSlewStep
  | tapHoldRelease (c : Chan)
  -- clocks
  | corePllFastStart
  | corePllStop
  | corePllLockLoss
  | lcPllLockLoss (p : Fin 2)
  | stookClockStart (st : StookId)
  | stookSleep (st : StookId)
  | granaryInterfaceSleep
  -- NL64 compatibility
  | nl64ScanSlot (slot : Fin 25)
  | nl64ResultUpdate
  | registerPersonalitySwitch
  | resultLoRead
  | resultHiRead
  | nlPointerWrite (v : BitVec 16)
  | nlRegisterWrite (addr : BitVec 7) (v : BitVec 16)
  -- test access
  | tapExtest
  | tapSamplePreload
  | tapIdcode
  | tapClamp
  | tapHighz
  | tapBypass (code : BitVec 6)
  -- rows at the table's end
  /-- `read`: the bytes of the boot package that the step reads (Table 15.5). -/
  | startupStepTimeout (read : BitVec 32)
  | lanerefReturn
  | tgSignalReturn
  | tapTestLogicReset
deriving DecidableEq, Repr

end Sys2Proof
end

