-- ==== Sys2Proof/Decode.lean ====
section
/-!
DEFINITION. No row of spec/opcode_table.json gives bits: the commands are packets, frames and events, and the packets
are decoded by the commands that carry them (Machine/Frames.lean). The words of the trigger port are decoded here.
-/
namespace Sys2Proof

/-- The field of m bits from word bit w: its most significant bit is sent first (R157). -/
def sentField (v w m : Nat) : Nat := (List.range m).foldl (fun a j => a * 2 + v / 2 ^ (w + j) % 2) 0
/-- The command row of a TG_IN word, bit 0 sent first (Tables 5.1 and 5.3, R91). -/
def tgInCommand (word : BitVec 16) : Instr :=
  let v := word.toNat
  let cls := BitVec.ofNat 1 (sentField v 3 1)
  let operand := sentField v 4 12
  match sentField v 0 3 with
  | 0 => .tgIdle cls (BitVec.ofNat 12 operand)
  | 1 => .tgAccept cls (BitVec.ofNat 6 (operand / 64)) (BitVec.ofNat 6 (operand % 64))
  | 2 => .tgDiscard cls (BitVec.ofNat 12 operand)
  | 3 =>
    if operand < 2048 then .tgSyncByteWord cls (BitVec.ofNat 3 (operand / 256)) (BitVec.ofNat 8 (operand % 256))
    else .tgSyncLoadWord cls (BitVec.ofNat 11 (operand % 2048))
  | 4 => .tgPing cls (BitVec.ofNat 12 operand)
  | 5 => .tgReservedOpcode 0 cls (BitVec.ofNat 12 operand)
  | 6 => .tgReservedOpcode 1 cls (BitVec.ofNat 12 operand)
  | _ => .tgReservedOpcode 2 cls (BitVec.ofNat 12 operand)

/-- The command that a table word spells: none, because the table gives no row bits. -/
def decodeTableWord (_nbits _w : Nat) : Option Instr := none

end Sys2Proof
end

