-- ==== Sys2Proof/Machine/AttrTable.lean ====
section
/-!
DEFINITION. The attribute tables of the spec (Tables 1.7 to 17.19) as data: identifier, access code, WIDTH in bytes
(R305, reserved bits of the field map included), mask of the bits that are not reserved, reset value, and the
instances. Reset values that differ by instance stand in `attrReset`.
-/
namespace Sys2Proof.Machine

/-- The access codes of Table 0.5. -/
inductive Access where | ro | rw | w1c | rc | wo | rs
deriving DecidableEq, Repr

/-- One attribute of the tables. -/
structure Attr where
  id : Nat
  access : Access
  width : Nat
  mask : Nat
  reset : Nat
  insts : List (Nat × Nat)
deriving DecidableEq, Repr

/-- Block 0x0. -/
def attrs0 : List Attr := [
  ⟨0x0000, .ro, 2, 0xFFFF, 0x192, [(0, 0)]⟩,  -- ID_DEVICE
  ⟨0x0001, .ro, 2, 0xFFFF, 0x0, [(0, 0)]⟩,  -- ID_REVISION
  ⟨0x0002, .ro, 8, 0xFFFFFFFFFFFFFFFF, 0x0, [(0, 0)]⟩,  -- ID_IDENTITY
  ⟨0x0003, .ro, 6, 0xFFFFFFFFFFFF, 0x0, [(0, 0)]⟩,  -- ID_ADDRESS
  ⟨0x0004, .ro, 1, 0xFF, 0x0, [(0, 0)]⟩,  -- ID_STRAPS
  ⟨0x0100, .ro, 1, 0x87, 0x0, [(0, 0)]⟩,  -- MODE_CURRENT
  ⟨0x0101, .ro, 1, 0x7, 0x0, [(0, 0)]⟩,  -- MODE_RETURN
  ⟨0x0102, .ro, 1, 0xFF, 0x0, [(0, 0)]⟩,  -- MODE_CAUSE
  ⟨0x0103, .ro, 6, 0x3FFFFFFFFFFF, 0x0, [(0, 0)]⟩,  -- MODE_ENTRY_DECKLE
  ⟨0x0104, .rc, 4, 0xFFFFFFFF, 0x0, [(0, 0)]⟩,  -- MODE_TRANSITIONS
  ⟨0x0105, .ro, 1, 0xFF, 0x0, [(0, 0)]⟩,  -- RECOVERY_COUNT
  ⟨0x0106, .rw, 1, 0xFF, 0x4, [(0, 0)]⟩,  -- RECOVERY_LIMIT
  ⟨0x0107, .rs, 2, 0x877F, 0x0, [(0, 0)]⟩,  -- STARTUP_STATUS
  ⟨0x0200, .rc, 8, 0xFFFFFFFFFFFFFFFF, 0x0, [(0, 2)]⟩,  -- CMD_PORT_COUNT
  ⟨0x0201, .rc, 8, 0xFFFFFFFFFFFFFFFF, 0x0, [(0, 2)]⟩,  -- CMD_PORT_ERRORS
  ⟨0x0202, .rs, 2, 0x1F1F, 0x0, [(0, 0)]⟩,  -- CMD_OUTSTANDING
  ⟨0x0203, .rw, 1, 0x3, 0x1, [(0, 0)]⟩,  -- CMD_UNSOL_ROUTE
  ⟨0x0204, .rc, 2, 0xFFFF, 0x0, [(0, 0)]⟩,  -- CMD_UNSOL_LOST
  ⟨0x0205, .rs, 4, 0xFFFFFFFF, 0x0, [(0, 2)]⟩]  -- CMD_LAST_BAD

/-- Block 0x1. -/
def attrs1 : List Attr := [
  ⟨0x1000, .rw, 2, 0x1FFF, 0x2, [(0, 191)]⟩,  -- CH_CONFIG
  ⟨0x1001, .rw, 2, 0x3FFF, 0x3FF, [(0, 191)]⟩,  -- CH_THRESHOLD
  ⟨0x1002, .rw, 2, 0xFFFF, 0x52, [(0, 191)]⟩,  -- CH_STUCK_LIMIT
  ⟨0x1003, .rw, 2, 0xFFFF, 0x7D, [(0, 191)]⟩,  -- CH_RATE_CEIL
  ⟨0x1004, .rs, 2, 0x3FFF, 0x0, [(0, 191)]⟩,  -- CH_STATE
  ⟨0x1005, .rc, 4, 0xFFFFFFFF, 0x0, [(0, 191)]⟩,  -- CH_HITS
  ⟨0x1006, .rc, 4, 0xFFFFFFFF, 0x0, [(0, 191)]⟩,  -- CH_PILEUP
  ⟨0x1007, .rc, 4, 0xFFFFFFFF, 0x0, [(0, 191)]⟩,  -- CH_PRESCALED
  ⟨0x1008, .rc, 2, 0xFFFF, 0x0, [(0, 191)]⟩,  -- CH_STUCK_EPISODES
  ⟨0x1009, .ro, 2, 0xFFFF, 0x0, [(0, 191)]⟩,  -- CH_BACKOFF
  ⟨0x100A, .rc, 4, 0xFFFFFFFF, 0x0, [(0, 191)]⟩,  -- CH_ENTRY_ERRORS
  ⟨0x1010, .rc, 4, 0xFFFFFFFF, 0x0, [(0, 11)]⟩,  -- STOOK_WAKES
  ⟨0x1011, .rc, 2, 0xFFFF, 0x0, [(0, 11)]⟩,  -- STOOK_WAKE_MAX
  ⟨0x1012, .rw, 2, 0xFFFF, 0x4321, [(0, 0)]⟩,  -- PRESCALE_TABLE
  ⟨0x1013, .rw, 1, 0xFF, 0x8, [(0, 0)]⟩,  -- STUCK_FENCE_COUNT
  ⟨0x1014, .rw, 4, 0xFFFFFFFF, 0x9C40, [(0, 0)]⟩]  -- RATE_FENCE_DECKLES

/-- Block 0x2. -/
def attrs2 : List Attr := [
  ⟨0x2000, .rw, 1, 0x3, 0x0, [(0, 0)]⟩,  -- TB_SOURCE
  ⟨0x2001, .rw, 6, 0xFFFFFFFFFFFF, 0x659200A5, [(0, 0)]⟩,  -- TB_EPOCH
  ⟨0x2002, .rs, 8, 0xFFFFFFFFFFFFFF, 0x0, [(0, 0)]⟩,  -- TB_NOW
  ⟨0x2003, .rs, 2, 0x3FF, 0x0, [(0, 0)]⟩,  -- TB_STATUS
  ⟨0x2004, .rs, 8, 0xFFFFFFFFFFFFFFFF, 0x0, [(0, 0)]⟩,  -- TB_OFFSET
  ⟨0x2005, .ro, 4, 0xFFFFFFFF, 0x0, [(0, 0)]⟩,  -- TB_FREQ_RATIO
  ⟨0x2006, .rw, 1, 0x1, 0x0, [(0, 0)]⟩,  -- TB_STEP_POLICY
  ⟨0x2007, .rw, 2, 0xFFFF, 0x29, [(0, 0)]⟩,  -- TB_STEP_THRESHOLD
  ⟨0x2008, .rw, 1, 0x7F, 0x10, [(0, 0)]⟩,  -- TB_SLEW_MAX
  ⟨0x2009, .rw, 2, 0xFF01, 0x1000, [(0, 0)]⟩,  -- TB_SYNC_CTRL
  ⟨0x200A, .rw, 8, 0xFFFFFFFFFFFFFF, 0x0, [(0, 0)]⟩,  -- TB_SYNC_PRESET
  ⟨0x200B, .rc, 4, 0xFFFFFFFF, 0x0, [(0, 0)]⟩,  -- TB_SYNC_TALLY
  ⟨0x200C, .rw, 2, 0x1FFF, 0x0, [(0, 0)]⟩,  -- TB_PHASE_TRIM
  ⟨0x200D, .rc, 2, 0xFFFF, 0x0, [(0, 0)]⟩,  -- TB_STEPS
  ⟨0x2010, .rw, 1, 0x7F, 0x0, [(0, 0)]⟩,  -- PTP_DOMAIN
  ⟨0x2011, .rw, 4, 0xFFFF0001, 0x30001, [(0, 0)]⟩,  -- PTP_CTRL
  ⟨0x2012, .rs, 10, 0xFFFFFFFFFFFFFFFFFFFF, 0x0, [(0, 0)]⟩,  -- PTP_MASTER
  ⟨0x2013, .ro, 1, 0xF, 0x3, [(0, 0)]⟩,  -- PTP_STATUS
  ⟨0x2014, .rc, 4, 0xFFFFFFFF, 0x0, [(0, 7)]⟩,  -- PTP_MSG_TALLY
  ⟨0x2015, .ro, 4, 0xFFFFFFFF, 0x0, [(0, 0)]⟩,  -- PTP_PATH_DELAY
  ⟨0x2016, .rw, 4, 0xFFFFFFFF, 0x0, [(0, 0)]⟩,  -- PTP_ASYMMETRY
  ⟨0x2017, .ro, 4, 0xFFFFFFFF, 0x0, [(0, 0)]⟩,  -- PTP_LATENCY
  ⟨0x2018, .rw, 2, 0xFFFF, 0x258, [(0, 0)]⟩,  -- TB_HOLDOVER_TIME
  ⟨0x2019, .rw, 1, 0xFF, 0x10, [(0, 0)]⟩,  -- TB_LOSS_SYNCS
  ⟨0x201A, .rw, 2, 0xFFFF, 0x1B, [(0, 0)]⟩,  -- TB_LOCK_WINDOW
  ⟨0x201B, .rw, 2, 0xFFFF, 0xA8, [(0, 0)]⟩,  -- TB_UNLOCK_WINDOW
  ⟨0x201C, .rw, 2, 0xFFFF, 0x32, [(0, 0)]⟩,  -- TB_SERVO_BW
  ⟨0x2020, .rw, 2, 0xFFFF, 0x190, [(0, 0)]⟩,  -- TDC_REPLICA_PERIOD
  ⟨0x2021, .ro, 4, 0xFFFFFFFF, 0x0, [(0, 11)]⟩,  -- TDC_REPLICA
  ⟨0x2022, .ro, 4, 0xFFFFFFFF, 0x0, [(0, 191)]⟩,  -- TDC_CH_OFFSET
  ⟨0x2023, .ro, 5, 0xFFFFFFFFF, 0xFFFFFFFF, [(0, 191)]⟩,  -- TDC_VERNIER_MAP
  ⟨0x2024, .rc, 2, 0xFFFF, 0x0, [(0, 191)]⟩]  -- TDC_INVALID

/-- Block 0x3. -/
def attrs3 : List Attr := [
  ⟨0x3000, .rw, 4, 0xFFF7F, 0xF0500, [(0, 191)]⟩,  -- WN_CONFIG
  ⟨0x3001, .rw, 8, 0x3FFFFFFFFFFFFF, 0x3FFFF00002, [(0, 7)]⟩,  -- WN_KEEP_TABLE
  ⟨0x3002, .ro, 6, 0xFFFFFFFF001F, 0x1, [(0, 15)]⟩,  -- WN_FIR_SET
  ⟨0x3003, .ro, 2, 0xFFFF, 0x0, [(0, 255)]⟩,  -- WN_FIR_COEF
  ⟨0x3004, .rw, 4, 0xFFFFFFFF, 0x10000408, [(0, 0)]⟩,  -- WN_CFD
  ⟨0x3005, .rw, 2, 0x3FFF, 0x800, [(0, 0)]⟩,  -- WN_SPIKE
  ⟨0x3006, .rs, 8, 0xFFFFFFFFFFFFFFFF, 0x0, [(0, 191)]⟩,  -- WN_CORR
  ⟨0x3007, .ro, 4, 0x3FFFF, 0x0, [(0, 191)]⟩,  -- WN_BASELINE
  ⟨0x3008, .rc, 4, 0xFFFFFFFF, 0x0, [(0, 191)]⟩,  -- WN_KEPT
  ⟨0x3009, .rc, 4, 0xFFFFFFFF, 0x0, [(0, 191)]⟩,  -- WN_CHAFF
  ⟨0x300A, .rc, 2, 0xFFFF, 0x0, [(0, 191)]⟩,  -- WN_SUSPECT
  ⟨0x300B, .rc, 2, 0xFFFF, 0x0, [(0, 191)]⟩,  -- WN_CFD_FAIL
  ⟨0x300C, .ro, 2, 0xFFFF, 0x0, [(0, 15)]⟩,  -- WN_SEQ
  ⟨0x300D, .rc, 4, 0xFFFFFFFF, 0x0, [(0, 15)]⟩,  -- WN_GUARD
  ⟨0x300E, .rw, 2, 0xFFFF, 0x9C40, [(0, 0)]⟩,  -- WN_TALLY_PERIOD
  ⟨0x300F, .rc, 4, 0xFFFFFFFF, 0x0, [(0, 11)]⟩]  -- WN_STALLS

/-- Block 0x4. -/
def attrs4 : List Attr := [
  ⟨0x4000, .ro, 1, 0xFF, 0x0, [(0, 511)]⟩,  -- TH_ANSWER_TABLE
  ⟨0x4001, .ro, 8, 0xFFFFFFFFFFFFFFFF, 0x1FFE000000000000, [(0, 63)]⟩,  -- TH_TRIGGER_TABLE
  ⟨0x4002, .ro, 1, 0xFF, 0x1F, [(0, 0)]⟩,  -- TH_OPCODES_KNOWN
  ⟨0x4003, .rw, 4, 0x1FFFF, 0xA000, [(0, 0)]⟩,  -- TH_MAX_LATENCY
  ⟨0x4004, .rw, 2, 0xFFFF, 0xFFFF, [(0, 11)]⟩,  -- TH_PRIM_EN
  ⟨0x4005, .rs, 4, 0x3FF03FF, 0x0, [(0, 0)]⟩,  -- TH_WINDOWS
  ⟨0x4006, .rc, 4, 0xFFFFFFFF, 0x0, [(0, 7)]⟩,  -- TH_ANSWERS
  ⟨0x4007, .rc, 4, 0xFFFFFFFF, 0x0, [(0, 0)]⟩,  -- TH_ACCEPTS
  ⟨0x4008, .rc, 4, 0xFFFFFFFF, 0x0, [(0, 0)]⟩,  -- TH_REFUSED
  ⟨0x4009, .rc, 4, 0xFFFFFFFF, 0x0, [(0, 0)]⟩,  -- TH_UNKNOWN
  ⟨0x400A, .rc, 4, 0xFFFFFFFF, 0x0, [(0, 11)]⟩,  -- TH_MATCHED
  ⟨0x400B, .rc, 4, 0xFFFFFFFF, 0x0, [(0, 11)]⟩,  -- TH_EXPIRED
  ⟨0x400C, .ro, 4, 0x1FFFFF, 0x0, [(0, 11)]⟩,  -- TH_PENDING
  ⟨0x400D, .rc, 2, 0xFFFF, 0x0, [(0, 2)]⟩,  -- TH_EXCEPTIONS
  ⟨0x4010, .rs, 1, 0x7, 0x0, [(0, 0)]⟩,  -- TG_STATUS
  ⟨0x4011, .ro, 1, 0x3F, 0x0, [(0, 0)]⟩,  -- TG_IN_PHASE
  ⟨0x4012, .rc, 2, 0xFFFF, 0x0, [(0, 0)]⟩]  -- TG_PARITY_CHECK

/-- Block 0x5. -/
def attrs5 : List Attr := [
  ⟨0x5000, .rw, 8, 0x3FFFFF3FFFFF, 0x0, [(0, 1)]⟩,  -- GR_WM_PAIR
  ⟨0x5001, .rw, 1, 0xF, 0x9, [(0, 0)]⟩,  -- GR_FLOW_MAP
  ⟨0x5002, .rs, 4, 0x3FFFFF7, 0x0, [(0, 1)]⟩,  -- GR_WM_STATE
  ⟨0x5003, .rc, 6, 0xFFFFFFFF0003, 0x0, [(0, 1)]⟩,  -- GR_WM_EVENTS
  ⟨0x5004, .rs, 6, 0xFFFFFFFFFFF, 0x0, [(0, 3)]⟩,  -- GR_CLASS_OCC
  ⟨0x5005, .rc, 4, 0xFFFFFFFF, 0x0, [(0, 63)]⟩,  -- GR_LOST
  ⟨0x5006, .rs, 4, 0x1FFFFFF, 0x0, [(0, 0)]⟩,  -- GR_POOL
  ⟨0x5007, .rs, 16, 0xFFFFFFFFFFFFFFFFFFFFFFFFFFFFFFFF, 0xFFFFFFFFFFFFFFFFFFFFFFFFFFFFFFFF, [(0, 0)]⟩,  -- GR_GAP_OPEN
  ⟨0x5008, .rc, 4, 0xFFFFFFFF, 0x0, [(0, 0)]⟩,  -- GR_EVICT
  ⟨0x5009, .rs, 8, 0xFFFFFFFFFFFFFFFF, 0x1, [(0, 0)]⟩,  -- GR_BANKS
  ⟨0x500A, .rw, 3, 0x1FFFF, 0x2000, [(0, 0)]⟩,  -- GR_BANK_MARGIN
  ⟨0x500B, .rw, 2, 0xFFFF, 0x40, [(0, 0)]⟩,  -- GR_BANK_IDLE
  ⟨0x500C, .rw, 2, 0xFF, 0x2, [(0, 0)]⟩,  -- GR_SCRUB_CTRL
  ⟨0x500D, .rs, 6, 0xFFFFFF1FFFFF, 0x0, [(0, 0)]⟩,  -- GR_SCRUB_STATUS
  ⟨0x500E, .rc, 4, 0xFFFFFFFF, 0x0, [(0, 0)]⟩,  -- GR_SCRUB_ERRORS
  ⟨0x500F, .rs, 4, 0x1FFFF, 0x0, [(0, 11)]⟩,  -- GR_STAGING
  ⟨0x5010, .rc, 4, 0xFFFFFFFF, 0x0, [(0, 11)]⟩,  -- GR_SWAPS
  ⟨0x5011, .rw, 2, 0xFFFF, 0x9C40, [(0, 0)]⟩,  -- GR_REPORT_PERIOD
  ⟨0x5A10, .rs, 6, 0xFFFFFFFFFFF, 0x0, [(0, 0)]⟩]  -- GRANARY_OCC

/-- Block 0x6. -/
def attrs6 : List Attr := [
  ⟨0x6000, .rw, 4, 0xF3D, 0x0, [(0, 3)]⟩,  -- LK_UL_CONFIG
  ⟨0x6001, .rw, 1, 0xD, 0x0, [(0, 1)]⟩,  -- LK_DL_CONFIG
  ⟨0x6002, .rs, 4, 0xFF07FFFF, 0x0, [(0, 3)]⟩,  -- LK_UL_STATUS
  ⟨0x6003, .rs, 8, 0xFFFFFFFFFFFFFFFF, 0x0, [(0, 3)]⟩,  -- LK_QUIRE_STATE
  ⟨0x6004, .ro, 1, 0xFF, 0x0, [(0, 0)]⟩,  -- LK_AGG_PROTO_MIN
  ⟨0x6005, .ro, 1, 0xFF, 0x3, [(0, 0)]⟩,  -- LK_DEV_PROTO
  ⟨0x6006, .rs, 8, 0x3FFFFFFFFFFFF, 0x0, [(0, 0)]⟩,  -- MG_VARIANT
  ⟨0x6007, .ro, 8, 0xFFFFFFFFFFFFF, 0x0, [(1, 15)]⟩,  -- MG_VARIANT_LOAD
  ⟨0x6008, .ro, 2, 0xFFFF, 0xFFFF, [(0, 31)]⟩,  -- MG_SCOPE
  ⟨0x6009, .rc, 8, 0xFFFFFFFFFFFFFFFF, 0x0, [(0, 3)]⟩,  -- MG_SKIPS
  ⟨0x600A, .rc, 8, 0xFFFFFFFFFFFFFFFF, 0x0, [(0, 3)]⟩,  -- LK_TRAFFIC
  ⟨0x600B, .rc, 8, 0xFFFFFFFFFFFFFFFF, 0x0, [(0, 3)]⟩,  -- LK_REWINDS
  ⟨0x600C, .rc, 6, 0xFFFFFFFFFFFF, 0x0, [(0, 3)]⟩,  -- LK_UL_ERRORS
  ⟨0x600D, .rc, 6, 0xFFFFFFFFFFFF, 0x0, [(0, 1)]⟩,  -- LK_DL_ERRORS
  ⟨0x600E, .rc, 8, 0xFFFFFFFFFFFFFFFF, 0x0, [(0, 1)]⟩,  -- LK_CTRL_COUNT
  ⟨0x600F, .rw, 2, 0xFFFF, 0x28, [(0, 0)]⟩,  -- LK_CREDIT_TIMEOUT
  ⟨0x6010, .rw, 2, 0xFFFF, 0x40, [(0, 0)]⟩,  -- LK_SLEEP_DECKLES
  ⟨0x6011, .rw, 1, 0xF, 0x2, [(0, 0)]⟩,  -- LK_TRAIN_DECKLES
  ⟨0x6012, .rw, 2, 0xFFFF, 0x9C40, [(0, 0)]⟩]  -- LK_REPORT_PERIOD

/-- Block 0x7. -/
def attrs7 : List Attr := [
  ⟨0x7000, .rw, 4, 0xFFFF01, 0x801000, [(0, 0)]⟩,  -- MON_CONFIG
  ⟨0x7001, .rw, 1, 0xDF, 0x0, [(0, 255)]⟩,  -- MON_SCAN_LIST
  ⟨0x7002, .rs, 8, 0xFFFFFFFFFFFFFFFF, 0x80000000, [(0, 215)]⟩,  -- MON_RESULT
  ⟨0x7003, .rw, 1, 0x1, 0x1, [(0, 191)]⟩,  -- MON_CH_CTRL
  ⟨0x7004, .rw, 1, 0xFF, 0x64, [(0, 0)]⟩,  -- MON_BASE_SLEW
  ⟨0x7005, .rw, 8, 0x1FFFFFFFFFFFF, 0x0, [(0, 23)]⟩,  -- MON_LIMITS
  ⟨0x7006, .rs, 4, 0xF1FFF, 0x80, [(0, 7)]⟩,  -- MON_STATE
  ⟨0x7007, .rc, 4, 0xFFFFFFFF, 0x0, [(0, 7)]⟩,  -- MON_ABORTS
  ⟨0x7008, .rw, 1, 0xF, 0xF, [(0, 0)]⟩,  -- MON_REPORT_CTRL
  ⟨0x7009, .rc, 2, 0xFFFF, 0x0, [(0, 23)]⟩,  -- MON_LIMIT_EVENTS
  ⟨0x700A, .rs, 4, 0xFFFFF, 0x0, [(0, 11)]⟩,  -- TD_STATE
  ⟨0x700B, .rw, 4, 0xFF3FFF, 0x320000, [(0, 191)]⟩,  -- IPC_REF
  ⟨0x700C, .rs, 8, 0xFFFFFFFFFFFFFF0F, 0xF, [(0, 191)]⟩,  -- IPC_RESULT
  ⟨0x700D, .rc, 4, 0xFFFFFFFF, 0x0, [(0, 191)]⟩,  -- IPC_COUNT
  ⟨0x700E, .rw, 4, 0xFFFFFFFF, 0x22081388, [(0, 0)]⟩]  -- IPC_TOL

/-- Block 0x8. -/
def attrs8 : List Attr := [
  ⟨0x8000, .rs, 4, 0xFFFFFF07, 0x0, [(0, 0)]⟩,  -- CAL_RUN_STATUS
  ⟨0x8001, .rs, 8, 0xFFFFFFFFFFFF07, 0x0, [(0, 191)]⟩,  -- CAL_CH_RESULT
  ⟨0x8002, .rs, 8, 0xFFFFFFFFFFFF, 0xFFFFFFFFFFFF, [(0, 203), (208, 215), (255, 255)]⟩,  -- CAL_QUALITY
  ⟨0x8003, .rw, 2, 0xFFFF, 0x0, [(0, 12)]⟩,  -- CAL_TOL
  ⟨0x8004, .rw, 2, 0xFFFF, 0x0, [(0, 12)]⟩,  -- CAL_SLEW
  ⟨0x8005, .rw, 1, 0xFF, 0x8, [(0, 0)]⟩,  -- CAL_RETRIES
  ⟨0x8006, .rw, 4, 0xFFFFFF01, 0x28025801, [(0, 0)]⟩,  -- CAL_GLEAN_CTRL
  ⟨0x8007, .rw, 2, 0xFFFF, 0x0, [(0, 11)]⟩,  -- CAL_GLEAN_MASK
  ⟨0x8008, .rw, 4, 0xFFFFFFFF, 0x15180, [(0, 0)]⟩,  -- CAL_AUTOCOMMIT
  ⟨0x8009, .rw, 2, 0xFFFF, 0x28, [(0, 0)]⟩,  -- CAL_DRIFT_MAX
  ⟨0x800A, .ro, 4, 0xFFFFFFFF, 0x0, [(0, 0)]⟩,  -- CAL_TEMP
  ⟨0x800B, .rw, 1, 0xFF, 0x14, [(0, 0)]⟩,  -- CAL_TEMP_DELTA
  ⟨0x800C, .rw, 5, 0xFFFFFFFFFF, 0x800320010, [(0, 0)]⟩,  -- CAL_CHECK
  ⟨0x800D, .rs, 8, 0xFFFFFFFFFF1F, 0x0, [(0, 0)]⟩,  -- SEED_STATUS
  ⟨0x800E, .ro, 4, 0xFFFFFFFF, 0x0, [(0, 1)]⟩,  -- SEED_COMMITS
  ⟨0x800F, .rs, 1, 0x3, 0x0, [(0, 191)]⟩,  -- CAL_SLEWING
  ⟨0x8010, .rc, 8, 0xFFFFFFFFFFFFFFFF, 0x0, [(0, 0)]⟩]  -- CAL_COUNTS

/-- Block 0x9. -/
def attrs9 : List Attr := [
  ⟨0x9000, .rs, 8, 0x1FFFFFFFFFFF, 0x0, [(0, 0)]⟩,  -- MD_ACTIVE
  ⟨0x9001, .ro, 8, 0xFFFFFFFFFFFFFFFF, 0x0, [(0, 7)]⟩,  -- MD_DIGEST
  ⟨0x9002, .rs, 4, 0xFFFF001F, 0x0, [(0, 0)]⟩,  -- MD_STAGE
  ⟨0x9003, .rs, 6, 0xFFFFFFFFFFFF, 0x0, [(0, 0)]⟩,  -- MD_CHECK_RESULT
  ⟨0x9004, .rs, 8, 0x3FFFFFFFFFFF0FFF, 0x3, [(0, 0)]⟩,  -- MD_COUCH_STATE
  ⟨0x9005, .ro, 10, 0xFFFFFFFFFFFFFFFFFFFF, 0x0, [(0, 0)]⟩,  -- MD_COUCH_TIME
  ⟨0x9006, .rc, 4, 0xFFFFFFFF, 0x0, [(0, 0)]⟩,  -- MD_COUCH_COUNT
  ⟨0x9007, .ro, 8, 0xFFFFFFFFFFFF, 0x0, [(0, 1)]⟩,  -- MD_MICROCODE
  ⟨0x9008, .ro, 8, 0xFFFFFFFFFFFFFFFF, 0x0, [(0, 0)]⟩,  -- MD_MICROCODE_RANGE
  ⟨0x9010, .wo, 8, 0xFFFFFFFFFFFFFFFF, 0x0, [(0, 3)]⟩,  -- MD_KEY
  ⟨0x9011, .rw, 1, 0xF, 0x0, [(0, 0)]⟩]  -- MD_KEY_STATE

/-- Block 0xA. -/
def attrsA : List Attr := [
  ⟨0xA000, .w1c, 8, 0xFFFFFFFFFFFFFFFF, 0x0, [(0, 0)]⟩,  -- FLT_WORD
  ⟨0xA001, .rs, 16, 0xFFFFFFFFFFFFFFFFFFFFFFFFFFFFFFFF, 0x0, [(0, 0)]⟩,  -- FLT_FIRST
  ⟨0xA002, .rs, 16, 0xFFFFFFFFFFFFFFFFFFFFFFFFFFFFFFFF, 0x0, [(0, 15)]⟩,  -- FLT_HISTORY
  ⟨0xA003, .rw, 2, 0xFFFF, 0x0, [(0, 63)]⟩,  -- FLT_REACTION
  ⟨0xA004, .rw, 8, 0xFFFFFFFFFFFFFFFF, 0x0, [(0, 63)]⟩,  -- FLT_SHADOW
  ⟨0xA005, .rw, 4, 0x1FFFF, 0xA110, [(0, 0)]⟩,  -- FLT_FENCE_POLICY
  ⟨0xA006, .rs, 6, 0x1FFFFFFFF, 0x0, [(0, 0)]⟩,  -- FLT_FENCED
  ⟨0xA007, .rs, 2, 0xFFFF, 0x0, [(0, 11)]⟩,  -- FLT_CH_FENCED
  ⟨0xA008, .rc, 2, 0xFFFF, 0x0, [(0, 63)]⟩,  -- FLT_COUNT
  ⟨0xA009, .rs, 8, 0xFFFFFFFFFFFFFF07, 0x0, [(0, 0)]⟩,  -- FLT_ERRPIN
  ⟨0xA00A, .rs, 4, 0xFFF, 0x0, [(0, 0)]⟩,  -- FLT_STATUS
  ⟨0xA00B, .rc, 4, 0xFFFFFFFF, 0x0, [(0, 0)]⟩,  -- FLT_ESCALATIONS
  ⟨0xA00C, .rc, 4, 0xFFFFFFFF, 0x0, [(0, 0)]⟩]  -- FLT_LOST

/-- Block 0xB. -/
def attrsB : List Attr := [
  ⟨0xB000, .rs, 4, 0x3FFFF, 0x8, [(0, 0)]⟩,  -- BN_STATUS
  ⟨0xB001, .rw, 1, 0x3, 0x0, [(0, 0)]⟩,  -- BN_HOME
  ⟨0xB002, .rw, 4, 0xFFFFFF0F, 0x61A8007, [(0, 0)]⟩,  -- BN_REVERT
  ⟨0xB003, .rw, 4, 0xFFFFFF, 0x3003C, [(0, 0)]⟩,  -- BN_RETEST
  ⟨0xB004, .rs, 4, 0xFFFFFF03, 0x0, [(0, 1)]⟩,  -- BN_SELFTEST
  ⟨0xB005, .rc, 4, 0xFFFFFFFF, 0x0, [(0, 0)]⟩,  -- BN_TAKEOVERS
  ⟨0xB006, .rs, 8, 0xFF3FFFFFFFFFFF, 0x0, [(0, 0)]⟩,  -- BN_LAST_TAKEOVER
  ⟨0xB007, .rs, 4, 0xFFFF0003, 0x0, [(0, 0)]⟩,  -- BN_RESYNC
  ⟨0xB008, .rc, 4, 0xFFFFFFFF, 0x0, [(0, 0)]⟩,  -- BN_RESYNC_COUNT
  ⟨0xB009, .rc, 4, 0xFFFFFFFF, 0x0, [(0, 0)]⟩,  -- BN_XLINK
  ⟨0xB00A, .rc, 4, 0xFFFFFFFF, 0x0, [(0, 0)]⟩]  -- BN_REVERTS

/-- Block 0xC. -/
def attrsC : List Attr := [
  ⟨0xC000, .rw, 2, 0xFFFF, 0x40, [(0, 0)]⟩,  -- CK_SLEEP_DECKLES
  ⟨0xC001, .rw, 1, 0x7, 0x0, [(0, 0)]⟩,  -- CK_CONFIG
  ⟨0xC002, .rw, 2, 0xFF07, 0x0, [(0, 3)]⟩,  -- CK_FECLK
  ⟨0xC003, .rs, 8, 0xFFFFFFFFFFF, 0x0, [(0, 0)]⟩,  -- CK_DOMAINS
  ⟨0xC004, .rs, 2, 0x7F, 0x0, [(0, 0)]⟩,  -- CK_PLL_STATUS
  ⟨0xC005, .rc, 4, 0xFFFFFFFF, 0x0, [(0, 0)]⟩,  -- CK_WAKES
  ⟨0xC006, .rc, 2, 0xFFFF, 0x0, [(0, 0)]⟩,  -- CK_WAKE_MAX
  ⟨0xC007, .rc, 4, 0xFFFFFFFF, 0x0, [(0, 43)]⟩,  -- CK_AWAKE
  ⟨0xC008, .ro, 2, 0xFFFF, 0x0, [(0, 0)]⟩,  -- CK_KEEPER
  ⟨0xC009, .rs, 4, 0xFFFFFFFF, 0x0, [(0, 0)]⟩]  -- CK_POWER_EST

/-- Block 0xD. -/
def attrsD : List Attr := [
  ⟨0xD000, .rw, 2, 0x1FF, 0x1C0, [(0, 0)]⟩,  -- NL_CONFIG
  ⟨0xD001, .rw, 1, 0x3F, 0x0, [(0, 63)]⟩,  -- NL_SEQ
  ⟨0xD002, .rs, 4, 0xFFFFFFFF, 0x0, [(0, 0)]⟩,  -- NL_STATE
  ⟨0xD003, .rs, 4, 0xFFFFFFFF, 0x0, [(0, 63)]⟩,  -- NL_RESULT
  ⟨0xD004, .rc, 8, 0xFFFFFFFFFFFFFFFF, 0x0, [(0, 0)]⟩,  -- NL_FRAMES
  ⟨0xD005, .rc, 4, 0xFFFFFFFF, 0x0, [(0, 0)]⟩]  -- NL_SPI_ERRORS

/-- Block 0xE. -/
def attrsE : List Attr := [
  ⟨0xE000, .ro, 4, 0xFFFFFFFF, 0x0, [(0, 0)]⟩,  -- TA_IDCODE
  ⟨0xE001, .rw, 2, 0xFF1F, 0x0, [(0, 0)]⟩,  -- TA_TEST_OUT
  ⟨0xE002, .rs, 1, 0xFF, 0x0, [(0, 0)]⟩,  -- TA_SUPPLY
  ⟨0xE003, .rw, 2, 0xFFF, 0x46, [(0, 3)]⟩,  -- TA_UL_EQ
  ⟨0xE004, .rs, 1, 0x3F, 0x2, [(0, 0)]⟩]  -- TA_JTAG

/-! Names of the attributes, as the tables give them. -/
abbrev A_ID_DEVICE : Nat := 0x0000
abbrev A_ID_REVISION : Nat := 0x0001
abbrev A_ID_IDENTITY : Nat := 0x0002
abbrev A_ID_ADDRESS : Nat := 0x0003
abbrev A_ID_STRAPS : Nat := 0x0004
abbrev A_MODE_CURRENT : Nat := 0x0100
abbrev A_MODE_RETURN : Nat := 0x0101
abbrev A_MODE_CAUSE : Nat := 0x0102
abbrev A_MODE_ENTRY_DECKLE : Nat := 0x0103
abbrev A_MODE_TRANSITIONS : Nat := 0x0104
abbrev A_RECOVERY_COUNT : Nat := 0x0105
abbrev A_RECOVERY_LIMIT : Nat := 0x0106
abbrev A_STARTUP_STATUS : Nat := 0x0107
abbrev A_CMD_PORT_COUNT : Nat := 0x0200
abbrev A_CMD_PORT_ERRORS : Nat := 0x0201
abbrev A_CMD_OUTSTANDING : Nat := 0x0202
abbrev A_CMD_UNSOL_ROUTE : Nat := 0x0203
abbrev A_CMD_UNSOL_LOST : Nat := 0x0204
abbrev A_CMD_LAST_BAD : Nat := 0x0205
abbrev A_CH_CONFIG : Nat := 0x1000
abbrev A_CH_THRESHOLD : Nat := 0x1001
abbrev A_CH_STUCK_LIMIT : Nat := 0x1002
abbrev A_CH_RATE_CEIL : Nat := 0x1003
abbrev A_CH_STATE : Nat := 0x1004
abbrev A_CH_HITS : Nat := 0x1005
abbrev A_CH_PILEUP : Nat := 0x1006
abbrev A_CH_PRESCALED : Nat := 0x1007
abbrev A_CH_STUCK_EPISODES : Nat := 0x1008
abbrev A_CH_BACKOFF : Nat := 0x1009
abbrev A_CH_ENTRY_ERRORS : Nat := 0x100A
abbrev A_STOOK_WAKES : Nat := 0x1010
abbrev A_STOOK_WAKE_MAX : Nat := 0x1011
abbrev A_PRESCALE_TABLE : Nat := 0x1012
abbrev A_STUCK_FENCE_COUNT : Nat := 0x1013
abbrev A_RATE_FENCE_DECKLES : Nat := 0x1014
abbrev A_TB_SOURCE : Nat := 0x2000
abbrev A_TB_EPOCH : Nat := 0x2001
abbrev A_TB_NOW : Nat := 0x2002
abbrev A_TB_STATUS : Nat := 0x2003
abbrev A_TB_OFFSET : Nat := 0x2004
abbrev A_TB_FREQ_RATIO : Nat := 0x2005
abbrev A_TB_STEP_POLICY : Nat := 0x2006
abbrev A_TB_STEP_THRESHOLD : Nat := 0x2007
abbrev A_TB_SLEW_MAX : Nat := 0x2008
abbrev A_TB_SYNC_CTRL : Nat := 0x2009
abbrev A_TB_SYNC_PRESET : Nat := 0x200A
abbrev A_TB_SYNC_TALLY : Nat := 0x200B
abbrev A_TB_PHASE_TRIM : Nat := 0x200C
abbrev A_TB_STEPS : Nat := 0x200D
abbrev A_PTP_DOMAIN : Nat := 0x2010
abbrev A_PTP_CTRL : Nat := 0x2011
abbrev A_PTP_MASTER : Nat := 0x2012
abbrev A_PTP_STATUS : Nat := 0x2013
abbrev A_PTP_MSG_TALLY : Nat := 0x2014
abbrev A_PTP_PATH_DELAY : Nat := 0x2015
abbrev A_PTP_ASYMMETRY : Nat := 0x2016
abbrev A_PTP_LATENCY : Nat := 0x2017
abbrev A_TB_HOLDOVER_TIME : Nat := 0x2018
abbrev A_TB_LOSS_SYNCS : Nat := 0x2019
abbrev A_TB_LOCK_WINDOW : Nat := 0x201A
abbrev A_TB_UNLOCK_WINDOW : Nat := 0x201B
abbrev A_TB_SERVO_BW : Nat := 0x201C
abbrev A_TDC_REPLICA_PERIOD : Nat := 0x2020
abbrev A_TDC_REPLICA : Nat := 0x2021
abbrev A_TDC_CH_OFFSET : Nat := 0x2022
abbrev A_TDC_VERNIER_MAP : Nat := 0x2023
abbrev A_TDC_INVALID : Nat := 0x2024
abbrev A_WN_CONFIG : Nat := 0x3000
abbrev A_WN_KEEP_TABLE : Nat := 0x3001
abbrev A_WN_FIR_SET : Nat := 0x3002
abbrev A_WN_FIR_COEF : Nat := 0x3003
abbrev A_WN_CFD : Nat := 0x3004
abbrev A_WN_SPIKE : Nat := 0x3005
abbrev A_WN_CORR : Nat := 0x3006
abbrev A_WN_BASELINE : Nat := 0x3007
abbrev A_WN_KEPT : Nat := 0x3008
abbrev A_WN_CHAFF : Nat := 0x3009
abbrev A_WN_SUSPECT : Nat := 0x300A
abbrev A_WN_CFD_FAIL : Nat := 0x300B
abbrev A_WN_SEQ : Nat := 0x300C
abbrev A_WN_GUARD : Nat := 0x300D
abbrev A_WN_TALLY_PERIOD : Nat := 0x300E
abbrev A_WN_STALLS : Nat := 0x300F
abbrev A_TH_ANSWER_TABLE : Nat := 0x4000
abbrev A_TH_TRIGGER_TABLE : Nat := 0x4001
abbrev A_TH_OPCODES_KNOWN : Nat := 0x4002
abbrev A_TH_MAX_LATENCY : Nat := 0x4003
abbrev A_TH_PRIM_EN : Nat := 0x4004
abbrev A_TH_WINDOWS : Nat := 0x4005
abbrev A_TH_ANSWERS : Nat := 0x4006
abbrev A_TH_ACCEPTS : Nat := 0x4007
abbrev A_TH_REFUSED : Nat := 0x4008
abbrev A_TH_UNKNOWN : Nat := 0x4009
abbrev A_TH_MATCHED : Nat := 0x400A
abbrev A_TH_EXPIRED : Nat := 0x400B
abbrev A_TH_PENDING : Nat := 0x400C
abbrev A_TH_EXCEPTIONS : Nat := 0x400D
abbrev A_TG_STATUS : Nat := 0x4010
abbrev A_TG_IN_PHASE : Nat := 0x4011
abbrev A_TG_PARITY_CHECK : Nat := 0x4012
abbrev A_GR_WM_PAIR : Nat := 0x5000
abbrev A_GR_FLOW_MAP : Nat := 0x5001
abbrev A_GR_WM_STATE : Nat := 0x5002
abbrev A_GR_WM_EVENTS : Nat := 0x5003
abbrev A_GR_CLASS_OCC : Nat := 0x5004
abbrev A_GR_LOST : Nat := 0x5005
abbrev A_GR_POOL : Nat := 0x5006
abbrev A_GR_GAP_OPEN : Nat := 0x5007
abbrev A_GR_EVICT : Nat := 0x5008
abbrev A_GR_BANKS : Nat := 0x5009
abbrev A_GR_BANK_MARGIN : Nat := 0x500A
abbrev A_GR_BANK_IDLE : Nat := 0x500B
abbrev A_GR_SCRUB_CTRL : Nat := 0x500C
abbrev A_GR_SCRUB_STATUS : Nat := 0x500D
abbrev A_GR_SCRUB_ERRORS : Nat := 0x500E
abbrev A_GR_STAGING : Nat := 0x500F
abbrev A_GR_SWAPS : Nat := 0x5010
abbrev A_GR_REPORT_PERIOD : Nat := 0x5011
abbrev A_GRANARY_OCC : Nat := 0x5A10
abbrev A_LK_UL_CONFIG : Nat := 0x6000
abbrev A_LK_DL_CONFIG : Nat := 0x6001
abbrev A_LK_UL_STATUS : Nat := 0x6002
abbrev A_LK_QUIRE_STATE : Nat := 0x6003
abbrev A_LK_AGG_PROTO_MIN : Nat := 0x6004
abbrev A_LK_DEV_PROTO : Nat := 0x6005
abbrev A_MG_VARIANT : Nat := 0x6006
abbrev A_MG_VARIANT_LOAD : Nat := 0x6007
abbrev A_MG_SCOPE : Nat := 0x6008
abbrev A_MG_SKIPS : Nat := 0x6009
abbrev A_LK_TRAFFIC : Nat := 0x600A
abbrev A_LK_REWINDS : Nat := 0x600B
abbrev A_LK_UL_ERRORS : Nat := 0x600C
abbrev A_LK_DL_ERRORS : Nat := 0x600D
abbrev A_LK_CTRL_COUNT : Nat := 0x600E
abbrev A_LK_CREDIT_TIMEOUT : Nat := 0x600F
abbrev A_LK_SLEEP_DECKLES : Nat := 0x6010
abbrev A_LK_TRAIN_DECKLES : Nat := 0x6011
abbrev A_LK_REPORT_PERIOD : Nat := 0x6012
abbrev A_MON_CONFIG : Nat := 0x7000
abbrev A_MON_SCAN_LIST : Nat := 0x7001
abbrev A_MON_RESULT : Nat := 0x7002
abbrev A_MON_CH_CTRL : Nat := 0x7003
abbrev A_MON_BASE_SLEW : Nat := 0x7004
abbrev A_MON_LIMITS : Nat := 0x7005
abbrev A_MON_STATE : Nat := 0x7006
abbrev A_MON_ABORTS : Nat := 0x7007
abbrev A_MON_REPORT_CTRL : Nat := 0x7008
abbrev A_MON_LIMIT_EVENTS : Nat := 0x7009
abbrev A_TD_STATE : Nat := 0x700A
abbrev A_IPC_REF : Nat := 0x700B
abbrev A_IPC_RESULT : Nat := 0x700C
abbrev A_IPC_COUNT : Nat := 0x700D
abbrev A_IPC_TOL : Nat := 0x700E
abbrev A_CAL_RUN_STATUS : Nat := 0x8000
abbrev A_CAL_CH_RESULT : Nat := 0x8001
abbrev A_CAL_QUALITY : Nat := 0x8002
abbrev A_CAL_TOL : Nat := 0x8003
abbrev A_CAL_SLEW : Nat := 0x8004
abbrev A_CAL_RETRIES : Nat := 0x8005
abbrev A_CAL_GLEAN_CTRL : Nat := 0x8006
abbrev A_CAL_GLEAN_MASK : Nat := 0x8007
abbrev A_CAL_AUTOCOMMIT : Nat := 0x8008
abbrev A_CAL_DRIFT_MAX : Nat := 0x8009
abbrev A_CAL_TEMP : Nat := 0x800A
abbrev A_CAL_TEMP_DELTA : Nat := 0x800B
abbrev A_CAL_CHECK : Nat := 0x800C
abbrev A_SEED_STATUS : Nat := 0x800D
abbrev A_SEED_COMMITS : Nat := 0x800E
abbrev A_CAL_SLEWING : Nat := 0x800F
abbrev A_CAL_COUNTS : Nat := 0x8010
abbrev A_MD_ACTIVE : Nat := 0x9000
abbrev A_MD_DIGEST : Nat := 0x9001
abbrev A_MD_STAGE : Nat := 0x9002
abbrev A_MD_CHECK_RESULT : Nat := 0x9003
abbrev A_MD_COUCH_STATE : Nat := 0x9004
abbrev A_MD_COUCH_TIME : Nat := 0x9005
abbrev A_MD_COUCH_COUNT : Nat := 0x9006
abbrev A_MD_MICROCODE : Nat := 0x9007
abbrev A_MD_MICROCODE_RANGE : Nat := 0x9008
abbrev A_MD_KEY : Nat := 0x9010
abbrev A_MD_KEY_STATE : Nat := 0x9011
abbrev A_FLT_WORD : Nat := 0xA000
abbrev A_FLT_FIRST : Nat := 0xA001
abbrev A_FLT_HISTORY : Nat := 0xA002
abbrev A_FLT_REACTION : Nat := 0xA003
abbrev A_FLT_SHADOW : Nat := 0xA004
abbrev A_FLT_FENCE_POLICY : Nat := 0xA005
abbrev A_FLT_FENCED : Nat := 0xA006
abbrev A_FLT_CH_FENCED : Nat := 0xA007
abbrev A_FLT_COUNT : Nat := 0xA008
abbrev A_FLT_ERRPIN : Nat := 0xA009
abbrev A_FLT_STATUS : Nat := 0xA00A
abbrev A_FLT_ESCALATIONS : Nat := 0xA00B
abbrev A_FLT_LOST : Nat := 0xA00C
abbrev A_BN_STATUS : Nat := 0xB000
abbrev A_BN_HOME : Nat := 0xB001
abbrev A_BN_REVERT : Nat := 0xB002
abbrev A_BN_RETEST : Nat := 0xB003
abbrev A_BN_SELFTEST : Nat := 0xB004
abbrev A_BN_TAKEOVERS : Nat := 0xB005
abbrev A_BN_LAST_TAKEOVER : Nat := 0xB006
abbrev A_BN_RESYNC : Nat := 0xB007
abbrev A_BN_RESYNC_COUNT : Nat := 0xB008
abbrev A_BN_XLINK : Nat := 0xB009
abbrev A_BN_REVERTS : Nat := 0xB00A
abbrev A_CK_SLEEP_DECKLES : Nat := 0xC000
abbrev A_CK_CONFIG : Nat := 0xC001
abbrev A_CK_FECLK : Nat := 0xC002
abbrev A_CK_DOMAINS : Nat := 0xC003
abbrev A_CK_PLL_STATUS : Nat := 0xC004
abbrev A_CK_WAKES : Nat := 0xC005
abbrev A_CK_WAKE_MAX : Nat := 0xC006
abbrev A_CK_AWAKE : Nat := 0xC007
abbrev A_CK_KEEPER : Nat := 0xC008
abbrev A_CK_POWER_EST : Nat := 0xC009
abbrev A_NL_CONFIG : Nat := 0xD000
abbrev A_NL_SEQ : Nat := 0xD001
abbrev A_NL_STATE : Nat := 0xD002
abbrev A_NL_RESULT : Nat := 0xD003
abbrev A_NL_FRAMES : Nat := 0xD004
abbrev A_NL_SPI_ERRORS : Nat := 0xD005
abbrev A_TA_IDCODE : Nat := 0xE000
abbrev A_TA_TEST_OUT : Nat := 0xE001
abbrev A_TA_SUPPLY : Nat := 0xE002
abbrev A_TA_UL_EQ : Nat := 0xE003
abbrev A_TA_JTAG : Nat := 0xE004

/-- The tables by block, ID bits [15:12] (R341). -/
def attrBlock : Nat → List Attr
  | 0 => attrs0
  | 1 => attrs1
  | 2 => attrs2
  | 3 => attrs3
  | 4 => attrs4
  | 5 => attrs5
  | 6 => attrs6
  | 7 => attrs7
  | 8 => attrs8
  | 9 => attrs9
  | 10 => attrsA
  | 11 => attrsB
  | 12 => attrsC
  | 13 => attrsD
  | 14 => attrsE
  | _ => []

/-- The attribute an ID and an instance name; none for an ID that no table defines or an instance that its table does
not give (R341). -/
def attrFind (id inst : Nat) : Option Attr :=
  (attrBlock (id / 4096)).find? fun a => a.id = id && a.insts.any fun r => r.1 ≤ inst && inst ≤ r.2

end Sys2Proof.Machine
end

