-- ==== Sys2Proof/Machine/Codes.lean ====
section
/-!
DEFINITION. Bit fields, byte order, and the checks the spec names: CRC-16 (R328), CRC-32 (R222), CRC-32C (R294),
SHA-256 and HMAC-SHA-256 (R303, R308). Most significant byte first throughout (R7).
-/
namespace Sys2Proof.Machine

/-- Field [hi:lo] of a number (R6). -/
def bits (v hi lo : Nat) : Nat := v / 2 ^ lo % 2 ^ (hi + 1 - lo)
/-- Bit k of a number. -/
def bitAt (v k : Nat) : Bool := v / 2 ^ k % 2 == 1
def bnat (b : Bool) : Nat := if b then 1 else 0
/-- The signed value of the low w bits (R6). -/
def sx (w v : Nat) : Int := if v % 2 ^ w < 2 ^ (w - 1) then (v % 2 ^ w : Nat) else (v % 2 ^ w : Nat) - (2 ^ w : Nat)
/-- The low w bits of a signed value. -/
def toField (w : Nat) (i : Int) : Nat := (i % (2 ^ w : Nat)).toNat
def clampInt (lo hi x : Int) : Int := if x < lo then lo else if hi < x then hi else x
/-- Nearest integer to a / b, halves up; b > 0. -/
def roundDiv (a b : Int) : Int := (2 * a + b) / (2 * b)
/-- `field` of width hi+1-lo put at [hi:lo] of v. -/
def putBits (v hi lo field : Nat) : Nat := v - bits v hi lo * 2 ^ lo + field % 2 ^ (hi + 1 - lo) * 2 ^ lo
/-- Sum of n and d, no more than max: a tally that saturates (R9). -/
def satAdd (max n d : Nat) : Nat := if n + d ≤ max then n + d else max

/-- The n bytes of a number, most significant first (R7). -/
def toBytes : Nat → Nat → List Byte
  | 0, _ => []
  | n + 1, v => BitVec.ofNat 8 (v / 2 ^ (8 * n)) :: toBytes n v
/-- The number that bytes spell, most significant first. -/
def ofBytes (bs : List Byte) : Nat := bs.foldl (fun a b => a * 256 + b.toNat) 0
/-- The words of 32 bits that bytes spell, the last one padded with zeros. -/
def toWords : Nat → List Byte → List PWord
  | 0, _ => []
  | _, [] => []
  | n + 1, bs => BitVec.ofNat 32 (ofBytes ((bs ++ [0, 0, 0, 0]).take 4)) :: toWords n (bs.drop 4)
def wordsBytes (ws : List PWord) : List Byte := ws.flatMap fun w => toBytes 4 w.toNat
/-- A value in n words, most significant first (R342). -/
def valueWords (n v : Nat) : List PWord := toWords n (toBytes (4 * n) v)
def wordsValue (ws : List PWord) : Nat := ofBytes (wordsBytes ws)
/-- Words of 32 bits that a value of `width` bytes takes (R342). -/
def wordCount (width : Nat) : Nat := (width + 3) / 4

/-- n steps of a shift register with feedback, most significant bit first. -/
def crcStep (poly : Nat) (width : Nat) : Nat → Nat → Nat
  | 0, r => r
  | n + 1, r =>
    let r' := r * 2 % 2 ^ width
    crcStep poly width n (if r / 2 ^ (width - 1) % 2 = 1 then r' ^^^ poly else r')
/-- CRC-16 of R328: polynomial 0x1021, initial value 0xFFFF, nothing reflected, no final XOR. -/
def crc16 (bs : List Byte) : Nat :=
  bs.foldl (fun r b => crcStep 0x1021 16 8 (r ^^^ (b.toNat * 256))) 0xFFFF
/-- n steps of the reflected register. -/
def crcStepR (poly : Nat) : Nat → Nat → Nat
  | 0, r => r
  | n + 1, r => crcStepR poly n (if r % 2 = 1 then (r / 2) ^^^ poly else r / 2)
/-- A reflected 32-bit CRC with initial value and final XOR 0xFFFF_FFFF. -/
def crcReflected (poly : Nat) (bs : List Byte) : Nat :=
  bs.foldl (fun r b => crcStepR poly 8 (r ^^^ b.toNat)) 0xFFFFFFFF ^^^ 0xFFFFFFFF
/-- CRC-32 of the Efyel frames (R222). -/
def crc32 (bs : List Byte) : Nat := crcReflected 0xEDB88320 bs
/-- CRC-32C of the Seed Store and the boot package (R294, R414). -/
def crc32c (bs : List Byte) : Nat := crcReflected 0x82F63B78 bs

/-! ## SHA-256, as FIPS 180-4 describes it: its constants are fractional parts of roots of the first primes -/

/-- The largest r below 2^n above `r` whose power `e` is at most `v`, found bit by bit. -/
def rootBelow (e v : Nat) : Nat → Nat → Nat
  | 0, r => r
  | n + 1, r => rootBelow e v n (if (r + 2 ^ n) ^ e ≤ v then r + 2 ^ n else r)
/-- The first 32 bits of the fractional part of the root of degree e of p. -/
def rootFraction (e p : Nat) : PWord := BitVec.ofNat 32 (rootBelow e (p * 2 ^ (32 * e)) 36 0)
/-- The primes below n. -/
def primesBelow (n : Nat) : List Nat :=
  (List.range n).filter fun p => 2 ≤ p && (List.range p).all fun d => d < 2 || p % d ≠ 0
/-- The working variables of the hash; `new` and `mid` are those that a round computes, the others move along. -/
structure HashRegs where
  new : PWord
  old : List PWord
  mid : PWord
  low : List PWord
deriving DecidableEq, Repr
/-- Three rotations of a word, XORed. -/
def turned (x : PWord) (i j k : Nat) : PWord := x.rotateRight i ^^^ x.rotateRight j ^^^ x.rotateRight k
/-- Two rotations and a shift of a word, XORed. -/
def spread (x : PWord) (i j k : Nat) : PWord := x.rotateRight i ^^^ x.rotateRight j ^^^ (x >>> k)
/-- The message words behind the first 16: `win` holds the last 16, oldest first; n words are still to come. -/
def expandWords : Nat → List PWord → List PWord
  | 0, win => win
  | n + 1, win =>
    let next := win.getD 0 0 + spread (win.getD 1 0) 7 18 3 + win.getD 9 0 + spread (win.getD 14 0) 17 19 10
    win.headD 0 :: expandWords n (win.drop 1 ++ [next])
/-- One round with its constant and message word added. -/
def hashRound (r : HashRegs) (kw : PWord) : HashRegs :=
  let pick := (r.mid &&& r.low.getD 0 0) ||| (~~~r.mid &&& r.low.getD 1 0)
  let most := (r.new &&& (r.old.getD 0 0 ||| r.old.getD 1 0)) ||| (r.old.getD 0 0 &&& r.old.getD 1 0)
  let add := r.low.getD 2 0 + turned r.mid 6 11 25 + pick + kw
  { new := add + turned r.new 2 13 22 + most, old := r.new :: r.old.take 2
    mid := r.old.getD 2 0 + add, low := r.mid :: r.low.take 2 }
def hashWords (r : HashRegs) : List PWord := r.new :: r.old ++ r.mid :: r.low
def hashRegs (ws : List PWord) : HashRegs :=
  { new := ws.getD 0 0, old := (ws.drop 1).take 3, mid := ws.getD 4 0, low := (ws.drop 5).take 3 }
/-- The chaining value after a block of 64 bytes. -/
def hashBlock (consts h : List PWord) (block : List Byte) : List PWord :=
  let last := ((expandWords 48 (toWords 16 block)).zipWith (· + ·) consts).foldl hashRound (hashRegs h)
  h.zipWith (· + ·) (hashWords last)
def hashBlocks (consts : List PWord) : Nat → List Byte → List PWord → List PWord
  | 0, _, h => h
  | n + 1, bs, h => hashBlocks consts n (bs.drop 64) (hashBlock consts h (bs.take 64))
/-- SHA-256 of a byte string: a 1 bit, zeros and the length in bits fill the last block. -/
def sha256 (bs : List Byte) : List Byte :=
  let fill := (119 - bs.length % 64) % 64
  let padded := bs ++ BitVec.ofNat 8 128 :: List.replicate fill 0 ++ toBytes 8 (8 * bs.length)
  let primes := primesBelow 312
  wordsBytes (hashBlocks (primes.map (rootFraction 3)) (padded.length / 64) padded
    ((primes.take 8).map (rootFraction 2)))
/-- HMAC-SHA-256 (FIPS 198-1) under a key of at most 64 bytes. -/
def hmac256 (key bs : List Byte) : List Byte :=
  let k := key ++ List.replicate (64 - key.length) 0
  sha256 (k.map (· ^^^ 0x5C) ++ sha256 (k.map (· ^^^ 0x36) ++ bs))

end Sys2Proof.Machine
end

