-- ==== Sys2Proof/Machine/State.lean ====
section
/-!
DEFINITION. The state of the block: every register, FIFO, buffer, counter, mode and pin the spec gives it, as plain
data, the queue of waiting commands, and the state after reset. Register attributes that only hold what was written
stand in `cfg` (the working registers), tallies in `tal`; both are tables by attribute id * 512 + instance.
-/
namespace Sys2Proof.Machine

/-- Why the block stops. -/
inductive Fault where
  /-- R459: EXTEST, CLAMP or HIGHZ is in force with RESET_N high, and the spec calls the behaviour at the other
  interfaces 'not specified'. Raised by every command that arrives at one of them. Safe. -/
  | scanHoldsPads
deriving DecidableEq, Repr

/-- Why a command has no meaning in the model. -/
inductive Refusal where
  /-- A row of the opcode table the model does not reach. No row is in this case. Safe. -/
  | notModelled (mnemonic : String)
deriving DecidableEq, Repr

/-- A reply or an unsolicited status message (R327, R330, R331). `origin` is the port that carried its command; none
for an event message. -/
structure Msg where
  opcode : Byte
  tag : Byte
  unsolicited : Bool
  reply : Bool
  words : List PWord
  origin : Option Port
deriving DecidableEq, Repr

/-- An outstanding at-completion command (R336, R337): its packet and the number of the unit it acts on. -/
structure Outst where
  req : Req
  opcode : Byte
  key : Nat
deriving DecidableEq, Repr

/-- A packet that has been accepted: the command it spells, or the failure that the Granger replies (R329). -/
inductive Packet where
  | command (i : Instr)
  | failed (req : Req) (opcode status detail : Nat)
deriving DecidableEq, Repr

/-- The command ports (chapter 11). -/
structure Cmd where
  /-- Packets accepted and not yet taken by the Granger, in the order of R336, with the beat from power-on of acceptance
  and the port (R332). -/
  inq : List (Nat × Port × Packet)
  /-- SPI packets accepted whose replies are not read in full (R334). -/
  spiOpen : Nat
  /-- REFUSED of Table 11.5. -/
  refused : Bool
  /-- Replies and outcome messages for SPI, and event messages for SPI, oldest first (R335). -/
  spiQ : List Msg
  spiEv : List Msg
  /-- Messages that wait for an uplane (R241). -/
  laneQ : List Msg
  outst : List Outst
  outMax : Nat
  /-- `CMD_LAST_BAD` of each port. -/
  lastBad : PMap PWord
  /-- The bytes the last SPI transaction clocked out on SPI_SDO (R333). -/
  sdo : List Byte
deriving DecidableEq, Repr

/-- The requested mode transition that is pending (R33). `acc` is the beat, counted from power-on, of acceptance. -/
structure ModePend where
  req : Req
  target : Mode
  at? : Option Deckle
  acc : Nat
deriving DecidableEq, Repr

/-- Modes, START-UP and RECOVERY (chapters 1 and 15). -/
structure Modes where
  cur : Mode
  /-- `MODE_RETURN`; none when none is recorded. -/
  ret : Option Mode
  cause : Byte
  /-- Beat from power-on of the entry into HELD (R410). -/
  heldUp : Nat
  entryDeckle : Deckle
  pend : Option ModePend
  /-- A cause of RECOVERY that has arisen, with its cause code (R30, R35). -/
  toRecovery : Option Byte
  /-- An entry into HELD that RECOVERY has caused, with cause and failed step (R28). -/
  toHeld : Option (Byte × Nat)
  /-- Beat from power-on at which what waits for the next boundary arose: a cause, or the end of all steps. -/
  causeAt : Nat
  /-- A chip-reset reaction that has arisen (R357, Table 1.5). -/
  chipReset : Bool
  /-- Beats, counted from power-on, of the entries into RECOVERY of the last 3 600 s (R28). -/
  recLog : List Nat
  recStep : Nat
  recRetried : Bool
  /-- RECOVERY step 1 was by cold start (R26, R391); the boundary from power-on of its entry. -/
  cold : Bool
  recDk : Nat
  /-- Steps of R23 passed, the step in progress (0 outside START-UP), the failed step, HALTED. -/
  suPassed : BitVec 7
  suStep : Nat
  suFailed : Nat
  suHalted : Bool
  /-- Beat from power-on at which the step in progress began, and of the last accepted staging command. -/
  suSince : Nat
  stagedAt : Nat
  /-- Deckle boundaries from power-on at the later of strap sampling and the end of a chip reset, when an automatic
  start may follow (R412). -/
  autoFrom : Option Nat
  /-- The port of the MODE_REQUEST that began START-UP (Table 15.3, 0b11). -/
  bootPort : Option Port
  /-- No mould has been couched since START-UP began. -/
  firstCouch : Bool
  /-- START-UP has begun since power-on (R418). -/
  booted : Bool
deriving DecidableEq, Repr

/-- Supplies, resets and straps (chapter 15). -/
structure Pwr where
  good : List Supply
  /-- Beat from power-on since which all seven are good together; it means something only while they are. -/
  goodSince : Nat
  powerGood : Bool
  /-- The level of RESET_N: high. -/
  resetHigh : Bool
  straps : Byte
  lanerefGood : Bool
  /-- A power-on, a RESET_N edge or a return of power-good waits for the strap sampling (R411, R412). -/
  awaitStraps : Bool
  /-- VDD_AON has failed since the last power-on, so the next is due (R406). -/
  aonLost : Bool
  /-- Units of bank 0 that a loss of VDD_MEM emptied, counted when it returns (R407). -/
  bank0Lost : List (Nat × Nat)
deriving DecidableEq, Repr

/-- A fault record (Table 12.2); `key` numbers the raises so that a reaction finds its record. -/
structure FaultRec where
  key : Nat
  src : Nat
  inst : Nat
  mask : Nat
  esc : Nat
  consequent : Bool
  mode : Mode
  beat : Beat
  up : Nat
  consequents : Nat
  ctx : Nat
deriving DecidableEq, Repr

/-- A level condition now present (R352). -/
structure Level where
  src : Nat
  inst : Nat
  ctx : Nat
  /-- The reaction that suppressed its raise (R357). -/
  suppressed : Option Nat
deriving DecidableEq, Repr

/-- A running reaction (R357): from `start` to `stop` (none while its actions are not all in effect). -/
structure Reaction where
  key : Nat
  src : Nat
  target : Option Target
  shadow : Nat
  window : Nat
  start : Nat
  stop : Option Nat
deriving DecidableEq, Repr

/-- What a waiting or running isolation does. -/
inductive ActKind where | fence | unfence | reset
deriving DecidableEq, Repr

/-- A fence, a release or a block reset (R359, R361, R362): commanded by `req`, or by the reaction `key`. -/
structure Act where
  kind : ActKind
  target : Target
  src : Nat
  key : Nat
  req : Option Req
  /-- Beat from power-on at which it was asked for, and at which it began. -/
  asked : Nat
  begun : Option Nat
  /-- A reset has isolated its target. -/
  acted : Bool
deriving DecidableEq, Repr

/-- The fault collector (chapter 12). -/
structure Flt where
  word : BitVec 64
  /-- Bits of the error word that a raise of this beat has set, and the raise of this beat that a cleared first-error record
  captures (R12, R354). -/
  rose : BitVec 64
  roseFirst : Option FaultRec
  first : Option FaultRec
  hist : List FaultRec
  nextKey : Nat
  levels : List Level
  reactions : List Reaction
  /-- Fences and resets of reactions that wait, and the one in progress. -/
  queue : List Act
  cur : Option Act
  /-- Commanded fences, releases and resets outstanding. -/
  cmds : List Act
  fencedCh : BitVec 192
  fencedStook : BitVec 12
  fencedUl : BitVec 4
  fencedConv : BitVec 8
  /-- Raises of the beat in force whose event messages leave at the next, in the order of R354 (R359). -/
  interrupts : List FaultRec
  /-- ERR_N is driven low from its assertion beat on; the beat count of the assertion, and the same from power-on. -/
  errLow : Bool
  errBeat : Beat
  errUp : Nat
  /-- The releases waiting with their beats from power-on, and the earliest beat at which ERR_N may fall again (R366). -/
  errRel : List (Req × Nat)
  errHighUntil : Nat
  errAgain : Bool
  /-- The Grangers are taken to their trap handler, from this beat from power-on (R359, R360). -/
  trap : Bool
  trapUp : Nat
deriving DecidableEq, Repr

/-- The states of the standby (Table 13.1). -/
inductive Standby where | lockstep | resyncing | detached | failed
deriving DecidableEq, Repr

/-- A take-over in progress (R377 to R380). -/
structure Takeover where
  kind : Nat
  deckle : Deckle
  dk : Nat
  checkpoint : Deckle
  alarmA : Bool
  alarmB : Bool
  /-- It follows a double fault: the Barns start cold (R390 to R392). -/
  cold : Bool
  /-- Deckle boundary, from power-on, at which the self-test began. -/
  test : Option Nat
deriving DecidableEq, Repr

/-- A resync in progress (R383): its phase (1 snapshot, 2 journal, 3 join), its start and the signatures failed in
a row. -/
structure Resync where
  phase : Nat
  since : Nat
  bad : Nat
deriving DecidableEq, Repr

/-- One copy of the owner in the Hasp: its bit, set for Barn B, and the complement (R372). -/
structure HaspCopy where
  bit : Bool
  compl : Bool
deriving DecidableEq, Repr
/-- The three copies of an owner. -/
def HaspCopy.three (w : Barn) : List HaspCopy := List.replicate 3 { bit := w = .b, compl := w ≠ .b }

/-- One Barn's self-test results and microcode (R378, R385, R413). -/
structure BarnRec where
  passed : Bool
  stopped : Bool
  fails : Nat
  bits : Nat
  failedAt : Nat
  mc : Nat
  stateVersion : Nat
deriving DecidableEq, Repr

/-- Barns and Hasp (chapter 13). -/
structure Barns where
  /-- The Hasp's output selector, and the copies that vote on it (R372). -/
  owner : Barn
  hasp : List HaspCopy
  standby : Standby
  /-- The cross-link is up; the deckle boundary from power-on of its last loss (R389). -/
  xlink : Bool
  xlost : Nat
  /-- Deckle boundary from power-on since which lockstep holds. -/
  lockSince : Nat
  agreed : Bool
  suspended : Bool
  takeover : Option Takeover
  resync : Option Resync
  switch : Option (Req × Nat)
  reverts : List Nat
  withheld : Bool
  a : BarnRec
  b : BarnRec
  lastDeckle : Deckle
  lastDur : Nat
  lastKind : Nat
  /-- Deckle number of the last agreed checkpoint (R371). -/
  checkpoint : Deckle
  /-- Boundary from power-on of the last double fault outside service whose Barns both failed (R392). -/
  bothFailed : Option Nat
deriving DecidableEq, Repr

/-- The analogue settings in force on a channel (R77). -/
structure Analog where
  gain : Nat
  aaf : Nat
  free : Bool
  fuse : Bool
  pretrig : Nat
deriving DecidableEq, Repr

/-- A capture-latch entry (Table 2.4). `edge` and `deckle` are the beat and deckle boundary, from power-on, of its
hit edge, `stop` the beat of its stop edge, `skip` the conversions in flight that precede its window, `neg` the polarity
at the hit edge; `limit`, `first` and `episodes` are what a stuck sheaf reports (Table 4.7). -/
structure Entry where
  /-- The hit edge in fine ticks from power-on: which edge of its channel this entry holds. -/
  tick : Nat
  samples : List (BitVec 14)
  skip : Nat
  stamp : BitVec 16
  raw : Option (BitVec 24)
  neg : Bool
  limit : Nat
  first : Nat
  episodes : Nat
  lag : Nat
  pile : Nat
  gain : Nat
  aaf : Nat
  secondary : Bool
  free : Bool
  fused : Bool
  saturated : Bool
  stuck : Bool
  prescaled : Bool
  changeover : Bool
  overflow : Bool
  missing : Nat
  pretrig : Nat
  stepgen : Nat
  complete : Bool
  edge : Nat
  deckle : Nat
  stop : Nat
deriving DecidableEq, Repr

/-- One channel's front end and its part of the Winnower. -/
structure Channel where
  /-- The discriminator is active; it formed an edge in this beat; beat from power-on of the activation. -/
  active : Bool
  edgeNow : Bool
  since : Nat
  /-- Fine ticks from power-on of the last accepted edge (R57). -/
  lastAccepted : Option Nat
  latch : List Entry
  /-- Beat from power-on of the last read of the latch (R62). -/
  lastRead : Option Nat
  /-- The window of the edge that began the present activation (R70). -/
  origin : Option Entry
  pile : Nat
  overflow : Bool
  /-- A STUCK entry that waits for a slot (R70). -/
  stuckWait : Option Entry
  /-- The present activation has been handled by the stuck test. -/
  stuckDone : Bool
  masked : Bool
  backoff : Nat
  /-- The deckle at whose first beat the back-off ends (R71, R96). -/
  backoffEnd : Deckle
  nextBackoff : Nat
  episodes : Nat
  /-- The channel fault of these stuck episodes, and of this prescale, has been raised (R75). -/
  stuckRaised : Bool
  rateRaised : Bool
  episodesEver : Nat
  armedSince : Nat
  /-- Hit edges of this deckle, and those numbered by R74. -/
  edges : Nat
  numbered : Nat
  /-- Prescale codes of the last 32 deckles, that of this deckle first (R137). -/
  codes : List Nat
  prescaledRun : Nat
  held : Bool
  /-- The contribution made to the last beat before the hold (R162). -/
  heldPrim : Bool
  /-- The contribution to the beat before (R162). -/
  prevPrim : Bool
  ana : Analog
  /-- The settings that wait, and the beat from power-on since which they do (R77). -/
  anaNext : Option Analog
  anaFrom : Nat
  /-- Fine ticks from power-on until which the analogue chain settles (R78). -/
  settle : Nat
  /-- The newest samples of the free-running ring, newest first (R55). -/
  ring : List (BitVec 14)
  /-- Baseline in force and target, 1/16 LSB (R260, R261). -/
  base : Int
  baseTarget : Int
  baseTaken : Bool
  /-- The tap's hold: held, and the beat from power-on at which it resumes (R249). -/
  tapHeld : Bool
  tapResume : Option Nat
  /-- Beats from power-on at which the tap's hold began (R249) and at which the discriminator last released (R267, R281). -/
  tapSince : Nat
  released : Nat
  /-- The discriminator was inactive for the 41 beats before the calibration measurement in progress, and the hit edges since
  that measurement began (R281). -/
  quietBefore : Bool
  heldEdges : Nat
  /-- Pile-up and OVERFLOW carried over chaffed entries, and entries chaffed since the last kept (R136, R148). -/
  carryPile : Nat
  carryOverflow : Bool
  chaffSince : Nat
  /-- Counts since the last tally report (R155). -/
  repKept : Nat
  repChaff : Nat
  repPile : Nat
  repSkip : Nat
  /-- First beat of the hold, for the BLIND marker (R279). -/
  holdBeat : Beat
deriving DecidableEq, Repr

/-- A sheaf (R139): source, class, words with SEQ still 0, and for hit sheaves channel and full hit beat. -/
structure Sheaf where
  src : Nat
  cls : Nat
  words : List SWord
  hit : Option (Nat × Beat)
deriving DecidableEq, Repr

/-- A numbered sheaf. -/
structure Numbered where
  sheaf : Sheaf
  seq : BitVec 16
deriving DecidableEq, Repr

/-- A stook: Winnower output queue, staging banks, clock and replica. -/
structure Stook where
  outq : List Sheaf
  /-- Reports and BLIND markers that wait for the output queue, with the beat from power-on from which each may be written
  (R123, R152), and the first beat at which a further BLIND marker may. -/
  waitq : List (Nat × Sheaf)
  blindFrom : Nat
  /-- Staging entries written through the port in the beat `movedUp` (R123). -/
  moved : Nat
  movedUp : Nat
  fill : List Numbered
  drain : List Numbered
  /-- Entries of the first draining sheaf already written (R186). -/
  drained : Nat
  fillY : Bool
  /-- A swap is due: at a deckle boundary (true) or because the bank is full. -/
  swapDue : Option Bool
  /-- The digital clock runs; a wake request and its beat from power-on; first read of a wake still to come. -/
  clock : Bool
  wake : Option Nat
  idle : Nat
  busy : Bool
  /-- Replica period in force, the value accepted for the next boundary, a value to be repeated (R111, R112). -/
  prep : Nat
  prepNext : Option Nat
  prepRetry : Option Nat
  prepSince : Nat
deriving DecidableEq, Repr

/-- The states of Table 6.2. -/
inductive UState where | pending | eligible | inFlight
deriving DecidableEq, Repr

/-- A stored unit and its descriptor (R188, R189). `owed` and `flying` are sets of uplanes; `sent` says that it was
sent before, on any lane; `maxLat` is the `TH_MAX_LATENCY` of its entry; `ready` the beat from power-on from which it
can be selected. -/
structure GUnit where
  arr : Nat
  cls : Nat
  src : Nat
  seq : BitVec 16
  slots : List Nat
  st : UState
  words : List SWord
  hit : Option (Nat × Beat)
  owed : List Nat
  flying : List Nat
  sentOn : List Nat
  maxLat : Nat
  ready : Nat
  /-- The scrubber found it uncorrectable while in flight; whether its identity is unknown then (R215). -/
  poisoned : Option Bool
  /-- An open GAP marker (R199). -/
  gapOpen : Bool
deriving DecidableEq, Repr

/-- A watermark pair (R206). -/
structure WmPair where
  st : Nat
  asserted : Bool
  level : Nat
  /-- Level and pair at the edge before, and the crossings of the present edge (R208, R209). -/
  prevLevel : Nat
  prevAsserted : Bool
  hiNow : Bool
  loNow : Bool
  /-- Deckles in a row in which the pair was released at every edge; it was asserted in the present one (R235). -/
  releasedDeckles : Nat
  assertedInDeckle : Bool
deriving DecidableEq, Repr

/-- A flow pin (R207): driven low since a beat from power-on. -/
structure FlowPin where
  low : Bool
  since : Nat
deriving DecidableEq, Repr

/-- A bank's state (R210). -/
inductive BankState where | off | retention | active
deriving DecidableEq, Repr

/-- A pointer record: deckle number, arrival number of the next unit, head of each class queue, and beside it the source-14
counter (R216, R371). -/
structure PtrRec where
  deckle : Deckle
  arrival : Nat
  heads : List (Option Nat)
  seq14 : Nat
deriving DecidableEq, Repr

/-- The Granary (chapter 6). -/
structure Gran where
  units : List GUnit
  arrivals : Nat
  powered : BitVec 64
  bankIdle : PMap Nat
  /-- Banks that held a unit in this deckle; banks accessed in this beat (R210, R211). -/
  bankHeld : BitVec 64
  bankActive : BitVec 64
  /-- Sheaves of the direct writers that wait, oldest first, and the direct transfers of this deckle (R190). -/
  dwq : List Sheaf
  direct : Nat
  /-- The P0 hold (R201). -/
  hold : List GUnit
  /-- Sequence counters by source (R141). -/
  seq : PMap Nat
  poolMax : Nat
  occMax : Nat
  wm0 : WmPair
  wm1 : WmPair
  flow0 : FlowPin
  flow1 : FlowPin
  /-- `GR_FLOW_MAP` as the last edge took it (R207). -/
  flowMap : Nat
  /-- Units to return at the start of the next beat, by lane that failed or was fenced (R203). -/
  back : List (Nat × List Nat)
  /-- The beat from power-on whose requests of DRAINING lanes have been made (R192, R235). -/
  reqUp : Nat
  scrubNext : Nat
  scrubPasses : Nat
  passCorrected : Nat
  passDiscarded : Nat
  /-- Slots the scrubber owes, deckles since the last burst, transfers taken from its share in this deckle, and a burst in
  progress (R190, R198, R213, R214). -/
  scrubOwed : Nat
  scrubSince : Nat
  scrubUsed : Nat
  bursting : Bool
  clock : Bool
  idle : Nat
  busy : Bool
  /-- The two places of the pointer record, and whether B holds the later one (R216); the deckle of the record that a cold
  start used (R391). -/
  ptrA : PtrRec
  ptrB : PtrRec
  ptrLast : Bool
  ptrUsed : Deckle
  /-- Losses by source since the last report: P1 and P2, P3 (R217). -/
  repLost : PMap (Nat × Nat)
  /-- Beat from power-on of the last write-burst event that the interface saw. -/
  lastBeat : Nat
deriving DecidableEq, Repr

/-- A trigger window (R170, R173). `force` is the beat from power-on at which it comes into force, `keep` the beat
until which it stays. -/
structure Window where
  lo : Beat
  hi : Beat
  stooks : BitVec 12
  readClass : Nat
  force : Nat
  keep : Nat
deriving DecidableEq, Repr

/-- An EXPIRE action waiting for its beat (R176). -/
structure Expire where
  before : Beat
  due : Nat
deriving DecidableEq, Repr

/-- One beat of hit primitive: MULT, GROUP and STALE (R161, R162). -/
structure Prim where
  mult : Nat
  groups : BitVec 4
  stale : Bool
deriving DecidableEq, Repr

/-- Thresher and trigger port (chapter 5). -/
structure Thr where
  waiting : List Window
  store : List Window
  storeMax : Nat
  expires : List Expire
  /-- Contributions of the last four beats, newest first (R161). -/
  pipe : List Prim
  /-- Throttle states latched at the last edge and the one before (R165). -/
  latched : Nat
  latchedPrev : Nat
  /-- The last TG_OUT word, bit 0 first sent (R158), and the beat from power-on of the word. -/
  out : BitVec 16
  los : Bool
  phase : Int
  /-- `TG_STATUS.LOCKED`; the TG_IN word of this beat has come (R183). -/
  locked : Bool
  worded : Bool
  /-- The receiver has been reset and reads as undriven (R362). -/
  undriven : Bool
deriving DecidableEq, Repr

/-- Servo states of Table 3.3. -/
inductive Servo where | idle | listen | acquire | track | faulty
deriving DecidableEq, Repr

/-- The reference of the beat synthesiser (R85). -/
inductive BeatRef where | refclk | recovered | keeper
deriving DecidableEq, Repr

/-- A foreign master (R99). -/
structure Foreign where
  id : BitVec 80
  ds : PtpDataset
  interval : Int
  /-- Beats from power-on of its last Announce messages, newest first. -/
  seen : List Nat
  lastSync : Nat
  syncInterval : Int
  /-- Its last Announce and its last Sync keep the limits of Table 3.2. -/
  announceOk : Bool
  syncOk : Bool
deriving DecidableEq, Repr

/-- What waits for a step edge (R95, R98): the count displacement in beats and the rest in fine ticks. -/
inductive StepWork where
  | load (count : Beat)
  | servo (beats : Int) (fine : Int)
deriving DecidableEq, Repr

/-- A SYNC_IN edge or load word that waits for its edge k + DELAY (R90 to R92): the beat from power-on, and for a load
word the assembled count. -/
structure SyncDue where
  due : Nat
  word : Option Beat
deriving DecidableEq, Repr

/-- The time base (chapter 3). -/
structure TB where
  beat : Beat
  /-- Beats and deckle boundaries since power-on; no step moves them. The model's own clocks for intervals. -/
  up : Nat
  dk : Nat
  epoch : Nat
  epochNext : Option Nat
  stepgen : Nat
  /-- Displacements of the last three steps, newest first, with their beats from power-on (R98). -/
  steps : List (Beat × Nat)
  work : Option StepWork
  /-- The count was set from outside since power-on; confirmed since the generation changed; a check has failed
  since; a lock was reached; a confirmation is wanted after a change of generation (R109). -/
  set : Bool
  confirmed : Bool
  gen : Nat
  quality : Nat
  lastQuality : Nat
  refclk : Bool
  refclkEdges : Nat
  ref : BeatRef
  sync : List SyncDue
  asm : BitVec 56
  asmSeen : BitVec 7
  servo : Servo
  linkUp : Bool
  linkDownAt : Nat
  foreign : List Foreign
  master : Option (BitVec 80)
  everLocked : Bool
  /-- Beat from power-on of the loss of the master; the code held before it. -/
  lostAt : Option Nat
  expired : Bool
  offset : Int
  offsets : List Int
  acquired : Nat
  outside : Nat
  /-- Fine ticks the servo still owes the phase, and the phase applied. -/
  slew : Int
  phase : Int
  trim : Int
  /-- Ticks to make in this deckle (R105); the synthesiser's frequency correction against REFCLK, parts in 10^12 (R102, R106). -/
  plan : Int
  freqAdj : Int
  delays : List Int
  delayReq : Option (BitVec 16 × Int)
  delaySeq : BitVec 16
  delayInterval : Int
  /-- The next Delay_Req goes out at this beat from power-on (R99). -/
  delayDue : Nat
  /-- t2 - t1 of the last Sync, corrected (R101). -/
  syncDiff : Option Int
  /-- The pending two-step Sync: header, t2. -/
  twoStep : Option (PtpHeader × Int)
  freqRatio : Int
  /-- Bits of R118 for the epoch sheaf of this beat edge: PERIODIC, STEP, QCHANGE, MODE, WRAP. -/
  flags : BitVec 5
deriving DecidableEq, Repr

/-- Uplane states of Table 7.9. -/
inductive LState where | off | negotiating | training | active | draining | sleep | failed | fenced
deriving DecidableEq, Repr

/-- A quire: the arrival numbers of its units in order, and what it took at its close (R223, R230). -/
structure Quire where
  units : List Nat
  slots : Nat
  qnum : BitVec 32
  deckle : Deckle
  quality : Nat
  owner : Barn
  sent : Bool
deriving DecidableEq, Repr

/-- Why a lane drains. -/
inductive Drain where | sleep | gen (g : Nat) | plan
deriving DecidableEq, Repr

/-- One uplane (chapter 7). -/
structure Uplane where
  st : LState
  gen : Nat
  negGen : Nat
  effHi : Nat
  effLo : Nat
  fmt : Nat
  ringLog2 : Nat
  cred : BitVec 32
  qnum : BitVec 32
  rwg : BitVec 2
  prevRwg : Option (BitVec 2)
  opn : List Nat
  opnSlots : Nat
  closeDue : Bool
  closed : List Quire
  aggProto : Nat
  negotiated : Bool
  drain : Option Drain
  /-- Deckle boundary from power-on of the entry into the state, and of the last CREDIT frame; training ended at;
  the beat from power-on at which the confirming credit arrived. -/
  since : Nat
  credAt : Nat
  trainEnd : Option Nat
  confirmed : Option Nat
  /-- Slots and quires sent, units returned, rewinds and failures since the last reports (R243). -/
  repSlots : Nat
  repQuires : Nat
  repUnits : Nat
  repRewinds : Nat
  /-- What the lane last sent: a frame's bytes from FTYPE to CRC-32, or an ordered-set code (Table 7.4). -/
  line : List Byte
  /-- The line between frames: 0 electrical idle, 1 idles, 2 /H/; and the ordered set sent 16 times at the last change: 3 /Z/,
  4 /R/, 0 none; or what ended a frame in progress: 5 an error block, 6 an /I/ before K29.7 (Tables 7.4 and 7.9, R377). -/
  idleSet : Nat
  lastSet : Nat
deriving DecidableEq, Repr

/-- One downlane (R242). -/
structure Downlane where
  locked : Bool
  lost : Bool
deriving DecidableEq, Repr

/-- The merge engine (R229 to R231). -/
structure Merge where
  variant : BitVec 4
  variantDeckle : Deckle
  /-- The schedule table of the mould in force: variant v, entry k at index (v - 1) * 4096 + k; unlisted: not valid. -/
  sched : PMap Byte
deriving DecidableEq, Repr

/-- A conversion running on a monitor converter (R245, R256): its input, its scan-list entry, its window. -/
structure Conversion where
  input : Nat
  entry : Nat
  five : Bool
  start : Nat
  stop : Nat
  injected : Option Req
  /-- Beats of the window in which the tap was held, of the holds that have ended (R249). -/
  gatedBeats : Nat
  /-- Its channel was held in the window (R259). -/
  stale : Bool
deriving DecidableEq, Repr

/-- A result waiting for its delivery 16 beats after its window, with the beat of the window's end (R245); `stale` when
its channel was held in the window or its converter claimed (R259); `gated` the beats in which the tap was held. -/
structure ConvResult where
  conv : Conversion
  beat : Beat
  stale : Bool
  result : Int
  gated : Nat
  overrange : Bool
  due : Nat
deriving DecidableEq, Repr

/-- A queued injected request (R256). -/
structure Inject where
  req : Req
  input : Nat
  five : Bool
  acc : Nat
deriving DecidableEq, Repr

/-- One monitor converter. While it is claimed, `run` is the scan conversion that would run. `pos` is the scan-list entry
last run. -/
structure Mc where
  run : Option Conversion
  result : Option ConvResult
  pos : Nat
  inj : List Inject
  /-- An aborted scan conversion that waits to restart. -/
  aborted : Option Conversion
  claimed : Bool
  claimWaits : Bool
deriving DecidableEq, Repr

/-- The last scan result of an input (Table 8.4). -/
structure MonRec where
  beat : BitVec 32
  result : Int
  stale : Bool
  gated : Bool
  overrange : Bool
  fenced : Bool
  fraction : Nat
  five : Bool
  /-- The last two results accepted, the newest first, each with its GATED flag (R281). -/
  accepted : List (Int × Bool)
deriving DecidableEq, Repr

/-- Who holds a test DAC (R265). -/
inductive DacHolder where | none | calibration | check | host
deriving DecidableEq, Repr

/-- A claim that waits for a test DAC (R265): the input-path check, or a TEST_DAC with its channel, LOW and code. -/
inductive DacClaim where
  | check
  | host (req : Req) (ch : Nat) (low : Bool) (code : BitVec 12)
deriving DecidableEq, Repr

/-- A stook's test DAC (`TD_STATE`). -/
structure Tdac where
  holder : DacHolder
  connected : Bool
  ch : Nat
  low : Bool
  code : BitVec 12
  /-- The code that drives the output: `code` with the DAC's correction applied (Table 9.1, row 12). -/
  drive : BitVec 12
  settled : Bool
  /-- TEST_DAC commands that wait for the output to settle, and the claims that wait for the DAC, in their order. -/
  reqs : List Req
  waits : List DacClaim
deriving DecidableEq, Repr

/-- The input-path check that runs or waits (R266, R267). -/
structure Ipc where
  req : Req
  ch : Nat
  started : Bool
  startDeckle : Deckle
  /-- The step in progress: 0 the preconditions, 1 and 2 the test DAC at +v and at -v, 3 the injector's ratio, 4 its time; and
  the retries of its measurement (R267). -/
  step : Nat
  retries : Nat
  /-- What steps 1 to 3 measured. -/
  plus : Int
  minus : Int
  peak : Option Nat
deriving DecidableEq, Repr

/-- The monitor path (chapter 8). -/
structure Mon where
  mcs : PMap Mc
  results : PMap MonRec
  /-- Points outside their limits. -/
  out : BitVec 24
  dacs : PMap Tdac
  ipc : Option Ipc
  ipcRes : PMap (BitVec 64)
  /-- Deckle boundaries since the last slew step of the baselines (R261). -/
  slewCount : Nat
deriving DecidableEq, Repr

/-- A value that differs from its target (R284), both in the finest unit of its field or of its quantity; `once`: it comes into
force at the next boundary (R285). -/
structure Slew where
  v : Int
  target : Int
  allow : Nat
  once : Bool
deriving DecidableEq, Repr

/-- Kinds of run (R274). -/
inductive RunKind where | foreground | gleanCh | gleanConv
deriving DecidableEq, Repr

/-- A calibration run (R274 to R283). Units: channel 0-191, test DAC of stook k 192 + k, converter k 208 + k. -/
structure Run where
  kind : RunKind
  req : Option Req
  sweep : Bool
  mask : Nat
  /-- The channel or converter of a gleaning run. -/
  unit : Nat
  /-- Step in progress, and 1, 2 or 3: the measurement of it that is next. -/
  step : Nat
  pass : Nat
  /-- Tolerances at the start of the run (R282). -/
  tol : List Nat
  /-- Values of the measurement in progress, and of those before, oldest first, by key. -/
  part : List (CalKey × Int)
  got : List (CalKey × List Int)
  /-- Retries of this measurement, retries by unit, units whose retries ran out with their step. -/
  retries : Nat
  retried : PMap Nat
  failed : PMap Nat
  /-- Results accepted and rejected, units that took a third measurement, units that a fence or a couch took out of the run. -/
  acc : List (CalKey × Int)
  rejected : List CalKey
  third : List Nat
  dropped : List Nat
  /-- Choices of redundant elements, each with whether the spares sufficed not (R273). -/
  chosen : List (CalKey × Int × Bool)
  /-- Channels and converters that the run holds, from its start (R276, R279). -/
  held : List Nat
  /-- Beats from power-on: the end of the lead-in, and the start of the measurement in progress (R278). -/
  lead : Nat
  start : Option Nat
  /-- The deckle boundary from power-on at which the run may end, once all is measured; the boundary after which an
  abort ends it. -/
  ready : Option Nat
  aborting : Option Nat
deriving DecidableEq, Repr

/-- A gleaning sweep (R277): its next unit (0-191 channels, 192-199 converters), step mask, host request, and the status
of its worst run so far with that run's detail. `paused` after CAL_ABORT until the next period (R280). -/
structure Sweep where
  next : Nat
  mask : Nat
  req : Option Req
  status : Nat
  detail : Nat
  paused : Bool
deriving DecidableEq, Repr

/-- A commit in progress (R295 to R298): the bank to write, and its bytes 0x0000 to 0xFFF7 once the snapshot is taken. -/
structure Commit where
  req : Option Req
  bank : Nat
  image : Option (List Byte)
  seqNo : Nat
deriving DecidableEq, Repr

/-- Calibration and Seed Store (chapter 9). -/
structure Cal where
  run : Option Run
  queued : Option Run
  /-- The sweep; the beats from power-on of the next one and of the last release. -/
  sweep : Option Sweep
  sweepDue : Nat
  lastRelease : Nat
  /-- Status code of the last ended run, and channel results. -/
  lastStatus : Nat
  chRes : PMap (BitVec 64)
  /-- Quality figures: channel 0-191, converter 208-215: SAR, TDC, monitor residuals. -/
  quality : PMap (BitVec 64)
  /-- The accepted image in Seed Store layout (R287, R291): bytes that differ from 0. -/
  image : List Host.Cell
  slews : PMap Slew
  /-- Records that START-UP has loaded, which come into force at the next deckle boundary (R285). -/
  loaded : Option (List Host.Cell)
  /-- The two banks: bytes that differ from the erased 0xFF. -/
  bank0 : List Host.Cell
  bank1 : List Host.Cell
  inForce : Option Nat
  commit : Option Commit
  /-- A value was accepted since the last commit; beat from power-on of the last commit or load. -/
  dirty : Bool
  lastCommit : Nat
  seedWord : BitVec 64
  /-- Identity loaded at START-UP step 4 (R467): identity, address, latencies. -/
  identity : BitVec 64
  address : BitVec 48
  latency : BitVec 32
  /-- The gain and offset of each temperature point, and the injector delays; none before an identity is loaded (R467). -/
  tcoef : List (BitVec 64)
  injDelay : List (BitVec 16)
  tempRaised : Bool
  temp : BitVec 32
deriving DecidableEq, Repr

/-- A mould copy (R303, R311): its bytes that differ from 0, the staged byte ranges, header LENGTH once known. -/
structure Copy where
  mem : List Host.Cell
  /-- Byte ranges written, rising and apart (R312). -/
  ranges : List (Nat × Nat)
deriving DecidableEq, Repr

/-- Staging states of Table 10.5. -/
inductive Staging where | empty | loading | staged | checked | failed | pending
deriving DecidableEq, Repr

/-- A pending couch (R317). `form` 0, 1, 2; `due` the deckle boundary from power-on before which it cannot fall. -/
structure Couch where
  req : Option Req
  form : Nat
  d : Deckle
  secs : Nat
  ns : Nat
  due : Nat
  upgrade : Bool
  /-- How many of steps 1 to 3 of an upgrade have passed (Table 10.8). -/
  phase : Nat
  /-- The deckle boundary from power-on at which it was first found due (R321). -/
  reached : Option Nat
deriving DecidableEq, Repr

/-- Moulds and couching (chapter 10). -/
structure Md where
  active : Option Copy
  modified : Bool
  shadow : Copy
  stage : Staging
  prevMould : Bool
  /-- Last check: rule, section, attribute, instance; a check in progress and its originator. -/
  check : BitVec 48
  checking : Option (Option Req)
  couch : Option Couch
  lastLate : Bool
  lastStatus : Byte
  lastDeckle : Deckle
  /-- Key slot (R309): state 0 EMPTY, 1 SET, 2 LOCKED; key bytes; words of a new key received. -/
  keyState : Nat
  require : Bool
  key : List Byte
  keyNew : List (BitVec 64)
deriving DecidableEq, Repr

/-- Clocks (chapter 14). -/
structure Clk where
  /-- Core PLL: 0 stopped, 1 fast-starting, 2 running; beat from power-on of the request; idle deckles; requested in
  this deckle. -/
  pll : Nat
  pllReq : Nat
  pllIdle : Nat
  pllUsed : Bool
  /-- Barn cores run from the core PLL. -/
  cores : Bool
  lcRun : BitVec 2
  lcLock : BitVec 2
  lcIdle : BitVec 2
  /-- Domains that ran at any beat of this deckle. -/
  ran : BitVec 44
  keeper : Int
  power : Nat
  powerMax : Nat
deriving DecidableEq, Repr

/-- A result pair of the emulation (Table 16.3). -/
structure NlPair where
  code : Nat
  sat : Bool
  stale : Bool
  scan : Nat
  overrun : Bool
deriving DecidableEq, Repr

/-- NL64 compatibility (chapter 16). -/
structure Nl where
  active : Bool
  enter : Option Req
  leave : Option Req
  personality : Bool
  run : Bool
  autoInc : Bool
  pos : Nat
  pointer : Nat
  scan : Nat
  /-- Sequence entry that last sampled each channel. -/
  lastEntry : PMap Nat
  pairs : PMap NlPair
  /-- Samples taken whose result is due: slot * 64 + channel, beat from power-on, result. -/
  due : List (Nat × Nat × NlPair)
  pairing : Option Nat
  shadow : BitVec 16
  /-- Slot words of the deckle in progress. -/
  words : List (Nat × BitVec 32)
  fseq : BitVec 16
  /-- The last frame on UL3, and the last register data on SPI_SDO. -/
  sdo : BitVec 16
deriving DecidableEq, Repr

/-- TAP instructions of Table 17.14. -/
inductive TapInst where | extest | sample | idcode | clamp | highz | bypass
deriving DecidableEq, Repr

/-- Test access (chapter 17). -/
structure Tap where
  inst : TapInst
  code : BitVec 6
  /-- Data register selected: 0 boundary, 1 IDCODE, 2 bypass. -/
  dr : Nat
  /-- The boundary register was sampled or preloaded from the pads at this beat from power-on. -/
  sampled : Option Nat
  /-- `TA_UL_EQ` as each uplane's driver has it: a change takes effect at a deckle boundary (R452). -/
  ulEq : PMap Nat
deriving DecidableEq, Repr

/-- The block. -/
structure State where
  /-- The commands that wait, first in, first out. -/
  pending : List Instr
  cmd : Cmd
  modes : Modes
  pwr : Pwr
  flt : Flt
  barns : Barns
  chs : PMap Channel
  stooks : PMap Stook
  gran : Gran
  thr : Thr
  tb : TB
  lanes : PMap Uplane
  dls : PMap Downlane
  mg : Merge
  mon : Mon
  cal : Cal
  md : Md
  clk : Clk
  nl : Nl
  tap : Tap
  /-- Working register values that differ from their reset value, by attribute id * 512 + instance. -/
  cfg : PMap Nat
  /-- The Winnower tables of the previous mould and the beat from power-on of the last couch (R138). -/
  cfgPrev : PMap Nat
  couchUp : Nat
  /-- Tallies that are not 0, by attribute id * 512 + instance. -/
  tal : PMap Nat
  /-- The tallies as the beat in force began, and what this beat has added to them (R12). -/
  talOld : PMap Nat
  talNew : PMap Nat
  /-- The beat from power-on, plus 1, at which work that is due once at a boundary was last done, by kind * 512 + unit:
  the model's own. -/
  once : PMap Nat
  /-- How many free values have been taken: the model's own counter, not the spec's. -/
  free : Nat
deriving DecidableEq, Repr

/-- A channel as it stands before anything has happened to it. -/
def Channel.dflt : Channel where
  active := false
  edgeNow := false
  since := 0
  lastAccepted := none
  latch := []
  lastRead := none
  origin := none
  pile := 0
  overflow := false
  stuckWait := none
  stuckDone := false
  masked := false
  backoff := 0
  backoffEnd := 0
  nextBackoff := 40
  episodes := 0
  stuckRaised := false
  rateRaised := false
  episodesEver := 0
  armedSince := 0
  edges := 0
  numbered := 0
  codes := []
  prescaledRun := 0
  held := false
  heldPrim := false
  prevPrim := false
  ana := { gain := 1, aaf := 0, free := false, fuse := false, pretrig := 0 }
  anaNext := none
  anaFrom := 0
  settle := 0
  ring := []
  base := 0
  baseTarget := 0
  baseTaken := false
  tapHeld := false
  tapResume := none
  tapSince := 0
  released := 0
  quietBefore := false
  heldEdges := 0
  carryPile := 0
  carryOverflow := false
  chaffSince := 0
  repKept := 0
  repChaff := 0
  repPile := 0
  repSkip := 0
  holdBeat := 0

/-- A stook before anything has happened to it; its clock is gated in HELD (Table 14.1). -/
def Stook.dflt : Stook where
  outq := []
  waitq := []
  blindFrom := 0
  moved := 0
  movedUp := 0
  fill := []
  drain := []
  drained := 0
  fillY := false
  swapDue := none
  clock := false
  wake := none
  idle := 0
  busy := false
  prep := 0
  prepNext := none
  prepRetry := none
  prepSince := 0

/-- An uplane at power-on: OFF (`LK_UL_STATUS` reset). -/
def Uplane.dflt : Uplane where
  st := .off
  gen := 0
  negGen := 0
  effHi := 0
  effLo := 0
  fmt := 0
  ringLog2 := 0
  cred := 0
  qnum := 0
  rwg := 0
  prevRwg := none
  opn := []
  opnSlots := 0
  closeDue := false
  closed := []
  aggProto := 0
  negotiated := false
  drain := none
  since := 0
  credAt := 0
  trainEnd := none
  confirmed := none
  repSlots := 0
  repQuires := 0
  repUnits := 0
  repRewinds := 0
  line := []
  idleSet := 0
  lastSet := 0

def Downlane.dflt : Downlane where
  locked := false
  lost := false

def Mc.dflt : Mc where
  run := none
  result := none
  pos := 31
  inj := []
  aborted := none
  claimed := false
  claimWaits := false

/-- `MON_RESULT` at reset: 0x0000_0000_8000_0000. -/
def MonRec.dflt : MonRec where
  beat := 0
  result := 0
  stale := true
  gated := false
  overrange := false
  fenced := false
  fraction := 0
  five := false
  accepted := []

def Tdac.dflt : Tdac where
  holder := .none
  connected := false
  ch := 0
  low := false
  code := 0
  drive := 0
  settled := false
  reqs := []
  waits := []

/-- `NL_RESULT` at reset: CODE 0x800 with STALE set. -/
def NlPair.dflt : NlPair where
  code := 0x800
  sat := false
  stale := true
  scan := 0
  overrun := false

def PtrRec.dflt : PtrRec where
  deckle := 0
  arrival := 0
  heads := [none, none, none, none]
  seq14 := 0

def WmPair.dflt : WmPair where
  st := 0
  asserted := false
  level := 0
  prevLevel := 0
  prevAsserted := false
  hiNow := false
  loNow := false
  releasedDeckles := 0
  assertedInDeckle := false

def BarnRec.dflt : BarnRec where
  passed := false
  stopped := false
  fails := 0
  bits := 0
  failedAt := 0
  mc := Config.mcVersion
  stateVersion := Config.mcStateVersion

/-- The state right after a power-on (R406): powered, in HELD with `MODE_CAUSE` 0x00, beat count 0, fault state clear,
ERR_N released. VDD_AON and VDDIO are good and the other supplies are still to come (DESIGN CHOICE, log entry 2). -/
def State.reset : State where
  pending := []
  cmd :=
    { inq := [], spiOpen := 0, refused := false, spiQ := [], spiEv := [], laneQ := [], outst := [], outMax := 0,
      lastBad := [], sdo := [] }
  modes :=
    { cur := .held, ret := none, cause := 0, heldUp := 0, entryDeckle := 0, pend := none, toRecovery := none, toHeld := none, causeAt := 0,
      chipReset := false, recLog := [], recStep := 0, recRetried := false, cold := false, recDk := 0, suPassed := 0, suStep := 0,
      suFailed := 0, suHalted := false, suSince := 0, stagedAt := 0, autoFrom := none, bootPort := none,
      firstCouch := true, booted := false }
  pwr :=
    { good := [.vddAon, .vddio], goodSince := 0, powerGood := false, resetHigh := true, straps := 0, lanerefGood := false,
      awaitStraps := true, aonLost := false, bank0Lost := [] }
  flt :=
    { word := 0, rose := 0, roseFirst := none, first := none, hist := [], nextKey := 0, levels := [], reactions := [], queue := [], cur := none,
      cmds := [], fencedCh := 0, fencedStook := 0, fencedUl := 0, fencedConv := 0,
      errLow := false, errBeat := 0, errUp := 0, errRel := [], errHighUntil := 0, errAgain := false, interrupts := [], trap := false,
      trapUp := 0 }
  barns :=
    { owner := .a, hasp := HaspCopy.three .a, standby := .detached, xlink := false, xlost := 0, lockSince := 0, agreed := false,
      suspended := false, takeover := none, resync := none, switch := none, reverts := [], withheld := false,
      a := BarnRec.dflt, b := BarnRec.dflt, lastDeckle := 0, lastDur := 0, lastKind := 0, checkpoint := 0,
      bothFailed := none }
  chs := []
  stooks := []
  gran :=
    { units := [], arrivals := 0, powered := 1, bankIdle := [], bankHeld := 0, bankActive := 0, dwq := [], direct := 0, hold := [], seq := [],
      poolMax := 0, occMax := 0, wm0 := WmPair.dflt, wm1 := WmPair.dflt, flow0 := { low := false, since := 0 },
      flow1 := { low := false, since := 0 }, flowMap := 9, back := [], reqUp := 0, scrubNext := 0, scrubPasses := 0,
      passCorrected := 0,
      passDiscarded := 0, scrubOwed := 0, scrubSince := 0, scrubUsed := 0, bursting := false, clock := false, idle := 0,
      busy := false, ptrA := PtrRec.dflt, ptrB := PtrRec.dflt, ptrLast := false, ptrUsed := 0, repLost := [], lastBeat := 0 }
  thr :=
    { waiting := [], store := [], storeMax := 0, expires := [], pipe := [], latched := 0, latchedPrev := 0, out := 0,
      los := false, phase := 0, locked := false, worded := false, undriven := false }
  tb :=
    { beat := 0, up := 0, dk := 0, epoch := 0x659200A5, epochNext := none, stepgen := 0, steps := [], work := none,
      set := false, confirmed := false, gen := 0, quality := 0, lastQuality := 0, refclk := false, refclkEdges := 0,
      ref := .refclk, sync := [], asm := 0, asmSeen := 0, servo := .idle, linkUp := false,
      linkDownAt := 0, foreign := [], master := none, everLocked := false, lostAt := none, expired := false,
      offset := 0, offsets := [], acquired := 0, outside := 0, slew := 0, phase := 0, trim := 0, plan := 0, freqAdj := 0, delays := [],
      delayReq := none, delaySeq := 0, delayInterval := 0, delayDue := 0, syncDiff := none, twoStep := none, freqRatio := 0, flags := 0 }
  lanes := []
  dls := []
  mg := { variant := 0, variantDeckle := 0, sched := [] }
  mon := { mcs := [], results := [], out := 0, dacs := [], ipc := none, ipcRes := [], slewCount := 0 }
  cal :=
    { run := none, queued := none, sweep := none, sweepDue := 0, lastRelease := 0, lastStatus := 0, chRes := [],
      quality := [], image := [], slews := [], loaded := none, bank0 := [], bank1 := [], inForce := none, commit := none,
      dirty := false, lastCommit := 0, seedWord := 0, identity := 0, address := 0, latency := 0, tcoef := [], injDelay := [], tempRaised := false,
      temp := 0 }
  md :=
    { active := none, modified := false, shadow := { mem := [], ranges := [] }, stage := .empty, prevMould := false,
      check := 0, checking := none, couch := none, lastLate := false, lastStatus := 0, lastDeckle := 0, keyState := 0,
      require := false, key := [], keyNew := [] }
  clk :=
    { pll := 0, pllReq := 0, pllIdle := 0, pllUsed := false, cores := false, lcRun := 0, lcLock := 0, lcIdle := 0,
      ran := 0, keeper := 0, power := 0, powerMax := 0 }
  nl :=
    { active := false, enter := none, leave := none, personality := false, run := false, autoInc := false, pos := 0,
      pointer := 0, scan := 0, lastEntry := [], pairs := [], due := [], pairing := none, shadow := 0, words := [],
      fseq := 0, sdo := 0 }
  tap := { inst := .idcode, code := 2, dr := 1, sampled := none, ulEq := [] }
  cfg := []
  cfgPrev := []
  couchUp := 0
  tal := []
  talOld := []
  talNew := []
  once := []
  free := 0

end Sys2Proof.Machine
end

