-- ==== Sys2Proof/Machine/Ops.lean ====
section
/-!
DEFINITION. The named operations that every meaning is built from: sparse tables, byte memories, working registers and
tallies, replies and messages, sheaves of the direct writers, epoch sheaves, and the raise of a fault.
-/
namespace Sys2Proof.Machine

abbrev Res := Host.Outcome State Fault Refusal

/-! ## Sparse tables -/

/-- The entry at k; an unlisted key reads as d. -/
def pget {α : Type} (d : α) (m : PMap α) (k : Nat) : α :=
  match m with
  | [] => d
  | (k', v) :: rest => if k' = k then v else pget d rest k
/-- The table without key k. -/
def pdel {α : Type} (m : PMap α) (k : Nat) : PMap α := m.filter fun e => e.1 ≠ k
/-- The table with v at k, in rising order of keys. -/
def pins {α : Type} (m : PMap α) (k : Nat) (v : α) : PMap α :=
  m.filter (fun e => e.1 < k) ++ (k, v) :: m.filter (fun e => k < e.1)
/-- The table with v at k; writing the default removes the entry. -/
def pset {α : Type} [DecidableEq α] (d : α) (m : PMap α) (k : Nat) (v : α) : PMap α :=
  if v = d then pdel m k else pins m k v
/-- The canonical form: keys strictly rising, no default listed. -/
abbrev PWf {α : Type} [DecidableEq α] (d : α) (m : PMap α) : Prop :=
  m.Pairwise (fun x y => x.1 < y.1) ∧ ∀ e ∈ m, e.2 ≠ d

/-! ## Byte memories: the Seed Store banks (unlisted: erased, 0xFF) and the mould copies (unlisted: 0) -/

abbrev Memory := List Host.Cell
def memRead (fill : Byte) (m : Memory) (a : Nat) : Byte := pget fill m a
def memWrite (fill : Byte) (m : Memory) (a : Nat) (b : Byte) : Memory := pset fill m a b
/-- The canonical form of a byte memory. -/
abbrev memWf (fill : Byte) (m : Memory) : Prop := PWf fill m
/-- The n bytes from a on, of a memory that lists nothing below a. -/
def memSpan (fill : Byte) : Nat → Nat → Memory → List Byte
  | 0, _, _ => []
  | n + 1, a, (k, v) :: rest => if k = a then v :: memSpan fill n (a + 1) rest
                                else fill :: memSpan fill n (a + 1) ((k, v) :: rest)
  | n + 1, a, [] => fill :: memSpan fill n (a + 1) []
/-- The n bytes from a on. -/
def memReads (fill : Byte) (m : Memory) (a n : Nat) : List Byte := memSpan fill n a (m.filter fun e => a ≤ e.1)
/-- A memory that holds these bytes from a on and nothing else. -/
def memOf (fill : Byte) : Nat → List Byte → Memory
  | _, [] => []
  | a, b :: bs => if b = fill then memOf fill (a + 1) bs else (a, b) :: memOf fill (a + 1) bs
def memWrites (fill : Byte) (m : Memory) (a : Nat) : List Byte → Memory
  | [] => m
  | b :: bs => memWrites fill (memWrite fill m a b) (a + 1) bs
/-- The number that n bytes at a spell. -/
def memNat (fill : Byte) (m : Memory) (a n : Nat) : Nat := ofBytes (memReads fill m a n)

/-! ## Codes -/

def modeCode : Mode → Nat
  | .held => 0 | .startUp => 1 | .cal => 2 | .streaming => 3 | .triggered => 4 | .recovery => 5
def modeOf : Nat → Option Mode
  | 0 => some .held | 1 => some .startUp | 2 => some .cal | 3 => some .streaming | 4 => some .triggered
  | 5 => some .recovery | _ => none
/-- STREAMING and TRIGGERED (Table 0.2). -/
def serviceMode (m : Mode) : Bool := m = .streaming || m = .triggered
def barnCode : Barn → Nat | .a => 0 | .b => 1
def otherBarn : Barn → Barn | .a => .b | .b => .a
def portCode : Port → Nat | .dl0 => 0 | .dl1 => 1 | .spi => 2
def supplyCode : Supply → Nat
  | .vddAon => 0 | .vddCore => 1 | .vddMem => 2 | .avdd => 3 | .vddSd => 4 | .vddaSd => 5 | .vddio => 6

/-! ## Working registers and tallies -/

/-- Reset values that differ by instance (R168, Tables 5.11, 6.7, 7.11, 8.3, 8.9, 9.1, 12.6, 16.5, 4.13). -/
def attrReset (id inst : Nat) : Nat :=
  if id = A_TH_ANSWER_TABLE then
    let m := inst / 64
    let op := inst % 8
    if m = 0 then 0xA0 else if m ≥ 6 then 0 else if op = 0 then 0 else if op ≥ 5 then 0xE5
    else if m = 5 then 0xC0 else if op = 3 ∨ op = 4 then 0x20 else 0x80
  else if id = A_WN_FIR_COEF then (if inst % 16 = 0 then 0x4000 else 0)
  else if id = A_GR_WM_PAIR then (if inst = 0 then 0x00001C0000100000 else 0x0000004000000800)
  else if id = A_LK_UL_CONFIG then (if inst = 0 then 0x315 else 0x314)
  else if id = A_LK_DL_CONFIG then (if inst = 0 then 5 else 4)
  else if id = A_MON_SCAN_LIST then (if inst % 32 < 27 then 0x80 + inst % 32 else 0)
  else if id = A_MON_LIMITS then
    let (en, lo, hi) : Nat × Int × Int :=
      if inst < 8 then (0, -2500000, 2500000)
      else if inst < 13 then (1, -46080, 92160)
      else if inst < 16 ∨ inst = 17 then (1, 1710000, 1890000)
      else if inst = 16 ∨ inst = 18 then (1, 2280000, 2520000)
      else if inst = 19 then (1, 3420000, 3780000)
      else if inst = 20 then (1, 2495000, 2505000)
      else if inst = 21 then (1, 2376000, 2424000)
      else if inst = 22 then (1, -200, 200)
      else (1, 2488000, 2512000)
    en * 2 ^ 48 + toField 24 hi * 2 ^ 24 + toField 24 lo
  else if id = A_CAL_TOL then [4, 52, 8, 52, 2, 1, 21, 6, 5, 8, 2, 5, 4].getD inst 0
  else if id = A_CAL_SLEW then
    [0x400, 0xA7C, 0x400, 0xA7C, 0, 0, 0, 0, 0x2AF, 0x2AF, 0, 0, 0].getD inst 0
  else if id = A_FLT_REACTION then
    (if inst < 7 ∨ (8 ≤ inst ∧ inst < 20) then 0x21 else if 24 ≤ inst ∧ inst < 36 then 1 else 0)
  else if id = A_NL_SEQ then inst
  else match attrFind id inst with
    | some a => a.reset
    | none => 0

def cfgGet (m : PMap Nat) (id inst : Nat) : Nat := pget (attrReset id inst) m (id * 512 + inst)
/-- The value in force in a working register (R10). -/
def reg (s : State) (id inst : Nat) : Nat := cfgGet s.cfg id inst
def setReg (s : State) (id inst v : Nat) : State :=
  { s with cfg := pset (attrReset id inst) s.cfg (id * 512 + inst) v }
/-- The tally attribute's packed value. -/
def tally (s : State) (id inst : Nat) : Nat := pget 0 s.tal (id * 512 + inst)
/-- A table of tallies with field [hi:lo] of entry k mapped by f. -/
def tallyMap (m : PMap Nat) (k hi lo : Nat) (f : Nat → Nat) : PMap Nat :=
  let v := pget 0 m k
  let x := bits v hi lo
  pset 0 m k (v - x * 2 ^ lo + f x * 2 ^ lo)
/-- n events counted in field [hi:lo] of a tally, which saturates (R9). -/
def count (s : State) (id inst hi lo n : Nat) : State :=
  let f := fun (x : Nat) => satAdd (2 ^ (hi + 1 - lo) - 1) x n
  { s with tal := tallyMap s.tal (id * 512 + inst) hi lo f, talNew := tallyMap s.talNew (id * 512 + inst) hi lo f }
/-- A field that holds the largest value since the last read. -/
def countMax (s : State) (id inst hi lo n : Nat) : State :=
  let f := fun (x : Nat) => min (2 ^ (hi + 1 - lo) - 1) (max x n)
  { s with tal := tallyMap s.tal (id * 512 + inst) hi lo f, talNew := tallyMap s.talNew (id * 512 + inst) hi lo f }
/-- What a read of a read-clear attribute returns: the value before the events of this beat (R12). -/
def tallyRead (s : State) (id inst : Nat) : Nat := pget 0 s.talOld (id * 512 + inst)
/-- A read-clear attribute after its read: it holds the events of this beat (R10, R12). -/
def clearTally (s : State) (id inst : Nat) : State :=
  let k := id * 512 + inst
  { s with tal := pset 0 s.tal k (pget 0 s.talNew k), talOld := pdel s.talOld k }

/-! ## Parts by number -/

def chan (s : State) (c : Nat) : Channel := pget Channel.dflt s.chs c
def setChan (s : State) (c : Nat) (x : Channel) : State := { s with chs := pset Channel.dflt s.chs c x }
def stook (s : State) (k : Nat) : Stook := pget Stook.dflt s.stooks k
def setStook (s : State) (k : Nat) (x : Stook) : State := { s with stooks := pset Stook.dflt s.stooks k x }
def lane (s : State) (u : Nat) : Uplane := pget Uplane.dflt s.lanes u
def setLane (s : State) (u : Nat) (x : Uplane) : State := { s with lanes := pset Uplane.dflt s.lanes u x }
def dlane (s : State) (d : Nat) : Downlane := pget Downlane.dflt s.dls d
def setDlane (s : State) (d : Nat) (x : Downlane) : State := { s with dls := pset Downlane.dflt s.dls d x }
def mc (s : State) (k : Nat) : Mc := pget Mc.dflt s.mon.mcs k
def setMc (s : State) (k : Nat) (x : Mc) : State := { s with mon := { s.mon with mcs := pset Mc.dflt s.mon.mcs k x } }
def monRec (s : State) (i : Nat) : MonRec := pget MonRec.dflt s.mon.results i
def setMonRec (s : State) (i : Nat) (x : MonRec) : State :=
  { s with mon := { s.mon with results := pset MonRec.dflt s.mon.results i x } }
def tdac (s : State) (k : Nat) : Tdac := pget Tdac.dflt s.mon.dacs k
def setTdac (s : State) (k : Nat) (x : Tdac) : State :=
  { s with mon := { s.mon with dacs := pset Tdac.dflt s.mon.dacs k x } }

/-- f applied for 0, 1, …, n - 1 in turn. -/
def forNat : Nat → (Nat → State → State) → State → State
  | 0, _, s => s
  | n + 1, f, s => f n (forNat n f s)

/-! ## Time (R82, R96) -/

def beatN (s : State) : Nat := s.tb.beat.toNat
def deckleOf (b : Beat) : Deckle := (b >>> 10).setWidth 46
def deckle (s : State) : Deckle := deckleOf s.tb.beat
/-- The beat in force is the first of a deckle. -/
def atBoundary (s : State) : Bool := s.tb.beat.toNat % 1024 = 0
/-- Deckle number n is D or greater (R96). -/
def deckleReached (n d : Deckle) : Bool := (n - d).toNat < 2 ^ 45
/-- D lies ahead of n (R96), and by how many deckles. -/
def deckleAhead (n d : Deckle) : Bool := 1 ≤ (d - n).toNat && (d - n).toNat < 2 ^ 45
/-- An action scheduled for deckle D fires, or a step has left it more than 2^20 deckles ahead (R96). -/
def deckleDue (n d : Deckle) : Bool := deckleReached n d || decide (2 ^ 20 < (d - n).toNat)
/-- Beat x lies at or before beat y (R179). -/
def beatLe (x y : Beat) : Bool := (y - x).toNat < 2 ^ 55
def beatLt (x y : Beat) : Bool := beatLe x y && x ≠ y
/-- The full beat count of a 40-bit stamp nearest to r (R120, R179). -/
def nearBeat (r : Beat) (s40 : Nat) : Beat :=
  let d := (s40 + 2 ^ 40 - r.toNat % 2 ^ 40) % 2 ^ 40
  r + BitVec.ofNat 56 d - (if d ≥ 2 ^ 39 then BitVec.ofNat 56 (2 ^ 40) else 0)

/-- The device is powered: VDD_AON and VDDIO both good, and a power-on that was due performed (R406). -/
def powered (s : State) : Bool := s.pwr.good.contains .vddAon && s.pwr.good.contains .vddio && !s.pwr.aonLost
/-- Every interface is answered by someone: EXTEST, CLAMP or HIGHZ does not hold the pads in service (R459). -/
def padsFree (s : State) : Bool :=
  !(s.pwr.resetHigh && (s.tap.inst = .extest || s.tap.inst = .clamp || s.tap.inst = .highz))
/-- A command that arrives at one of the device's interfaces (R459). -/
def atPads (s : State) (k : State) : Res := if padsFree s then .next k else .fault .scanHoldsPads
/-- The Grangers stand still: a take-over or a trap is in progress (R377, R360). -/
def grangersStopped (s : State) : Bool := s.barns.takeover.isSome || (s.flt.trap && decide (s.flt.trapUp ≤ s.tb.up))
/-- The targets that a block reset holds isolated (R362). -/
def resets (s : State) : List Target :=
  ((s.flt.cur.toList ++ s.flt.cmds).filter fun a => decide (a.kind = ActKind.reset) && a.acted).map Act.target
def resetsStook (s : State) (k : Nat) : Bool :=
  (resets s).any fun t => match t with | .stook x => decide (x.val = k) | _ => false
def resetsChannel (s : State) (c : Nat) : Bool :=
  (resets s).any fun t => match t with | .channel x => decide (x.val = c) | _ => false
def resetsConverter (s : State) (k : Nat) : Bool :=
  (resets s).any fun t => match t with | .converter x => decide (x.val = k) | _ => false
/-- A stook is isolated: fenced, or under a reset (R361, R362). -/
def fencedStook (s : State) (k : Nat) : Bool := s.flt.fencedStook.getLsbD k || resetsStook s k
/-- A channel is isolated by itself or with its stook. -/
def fencedChannel (s : State) (c : Nat) : Bool :=
  s.flt.fencedCh.getLsbD c || resetsChannel s c || fencedStook s (c / 16)

/-- Work of this kind for this unit has not been done at this beat; and the note that it has. -/
def fresh (s : State) (kind u : Nat) : Bool := pget 0 s.once (kind * 512 + u) ≠ s.tb.up + 1
def noteDone (s : State) (kind u : Nat) : State := { s with once := pset 0 s.once (kind * 512 + u) (s.tb.up + 1) }

/-! ## Clocks on request (R395, R399) -/

/-- A domain requests the core PLL: a stopped one fast-starts (R395). -/
def pllRequest (s : State) : State :=
  let s := { s with clk := { s.clk with pllUsed := true } }
  if s.clk.pll = 0 then { s with clk := { s.clk with pll := 1, pllReq := s.tb.up } } else s
/-- A gated Granary interface wakes with the core PLL (R399). -/
def wakeGranary (s : State) : State :=
  if s.gran.clock || s.modes.cur = .held then s
  else pllRequest { s with gran := { s.gran with clock := true, idle := 0 } }
/-- The Granary interface works in this deckle (R398). -/
def useGranary (s : State) : State := wakeGranary { s with gran := { s.gran with busy := true } }

/-! ## Messages (R327, R330, R331) -/

def msgBytes (m : Msg) : List Byte :=
  let len := m.words.length
  let h := m.opcode.toNat * 2 ^ 24 + m.tag.toNat * 2 ^ 16 + len * 2 ^ 7 + bnat m.unsolicited * 2 + bnat m.reply
  let body := toBytes 4 h ++ wordsBytes m.words
  body ++ toBytes 4 (crc16 body)

def statusWord (status detail : Nat) : PWord := BitVec.ofNat 32 (status * 2 ^ 24 + detail)

/-- A reply or outcome message on its way to its port; an event message on the ways `CMD_UNSOL_ROUTE` names, where a
full SPI event queue gives up its oldest (R331, R335). -/
def send (s : State) (m : Msg) : State :=
  match m.origin with
  | some .spi => { s with cmd := { s.cmd with spiQ := s.cmd.spiQ ++ [m] } }
  | some _ => { s with cmd := { s.cmd with laneQ := s.cmd.laneQ ++ [m] } }
  | none =>
    let route := reg s A_CMD_UNSOL_ROUTE 0
    let s := if bitAt route 0 then { s with cmd := { s.cmd with laneQ := s.cmd.laneQ ++ [m] } } else s
    if bitAt route 1 then
      if s.cmd.spiEv.length < 16 then { s with cmd := { s.cmd with spiEv := s.cmd.spiEv ++ [m] } }
      else
        let s := { s with cmd := { s.cmd with spiEv := s.cmd.spiEv.drop 1 ++ [m] } }
        count s A_CMD_UNSOL_LOST 0 15 0 1
    else s

/-- The one reply to a packet (R330). -/
def reply (s : State) (r : Req) (op status detail : Nat) (data : List PWord) : State :=
  send s { opcode := BitVec.ofNat 8 op, tag := r.tag, unsolicited := false, reply := true,
           words := statusWord status detail :: data, origin := some r.port }
/-- The outcome message of a command that was replied before (R331). -/
def outcome (s : State) (r : Req) (op status detail : Nat) (data : List PWord) : State :=
  send s { opcode := BitVec.ofNat 8 op, tag := r.tag, unsolicited := true, reply := false,
           words := statusWord status detail :: data, origin := some r.port }
/-- An event message (Table 11.3). -/
def event (s : State) (kind status : Nat) (data : List PWord) : State :=
  send s { opcode := 0, tag := 0, unsolicited := true, reply := false,
           words := statusWord status 0 :: BitVec.ofNat 32 kind :: data, origin := none }

/-- An at-completion command begins (R336, R337). -/
def openCmd (s : State) (r : Req) (op key : Nat) : State :=
  let o := s.cmd.outst ++ [{ req := r, opcode := BitVec.ofNat 8 op, key := key }]
  { s with cmd := { s.cmd with outst := o, outMax := max s.cmd.outMax o.length } }
/-- The first outstanding command with this packet and opcode leaves the list. -/
def dropOutst (l : List Outst) (r : Req) (op : Nat) : List Outst :=
  match l with
  | [] => []
  | o :: rest => if o.req = r ∧ o.opcode = BitVec.ofNat 8 op then rest else o :: dropOutst rest r op
/-- An at-completion command ends: it leaves the list and is replied. -/
def closeCmd (s : State) (r : Req) (op status detail : Nat) (data : List PWord) : State :=
  reply { s with cmd := { s.cmd with outst := dropOutst s.cmd.outst r op } } r op status detail data
/-- An outstanding command with this opcode (and key). -/
def outstanding (s : State) (op : Nat) : Bool := s.cmd.outst.any fun o => o.opcode.toNat = op

/-! ## Sheaves of the direct writers (R140, R149 to R154) -/

/-- Word 0 of markers, epoch sheaves and reports, its SEQ still 0 (Table 4.8). -/
def sheafW0 (type : Nat) (b : Beat) (src : Nat) : SWord :=
  BitVec.ofNat 64 (type * 2 ^ 60 + b.toNat % 2 ^ 40 * 2 ^ 20 + src * 2 ^ 16)
def oneSlot (type cls src : Nat) (b : Beat) (w1 : Nat) : Sheaf :=
  { src := src, cls := cls, words := [sheafW0 type b src, BitVec.ofNat 64 w1], hit := none }
/-- A sheaf given to the direct writer of its source; in HELD and unpowered none is written (R118, R419). -/
def pushSheaf (s : State) (x : Sheaf) : State :=
  if s.modes.cur = .held then s else { s with gran := { s.gran with dwq := s.gran.dwq ++ [x] } }
/-- A FENCE marker of source 15 (Table 4.10). -/
def fenceMarker (s : State) (kind index : Nat) (release : Bool) (src : Nat) : State :=
  pushSheaf s (oneSlot 6 0 15 s.tb.beat (kind * 2 ^ 62 + index * 2 ^ 54 + bnat release * 2 ^ 53 + src * 2 ^ 47))
/-- A RESUME marker of source 14 (Table 4.10). -/
def resumeMarker (s : State) (cause : Nat) (checkpoint : Deckle) : State :=
  pushSheaf s (oneSlot 8 0 14 s.tb.beat (cause * 2 ^ 61 + barnCode s.barns.owner * 2 ^ 60 + checkpoint.toNat))
/-- A CONTROL sheaf of kind MODE (Table 4.11). -/
def controlMode (s : State) (new old : Mode) (cause : Nat) : State :=
  pushSheaf s (oneSlot 9 0 14 s.tb.beat (2 ^ 56 + modeCode new * 2 ^ 53 + modeCode old * 2 ^ 50 + cause * 2 ^ 42))
/-- A CONTROL sheaf of kind GUARD_LOSS, written by the stage that found the loss (R146). -/
def controlLoss (s : State) (finder src seq : Nat) (unknown : Bool) : State :=
  pushSheaf s (oneSlot 9 0 finder s.tb.beat
    (4 * 2 ^ 56 + src * 2 ^ 52 + seq * 2 ^ 36 + bnat unknown * 2 ^ 35))
/-- A REPORT sheaf of class P3 (Table 4.12). -/
def report (src : Nat) (b : Beat) (kind inst a v : Nat) : Sheaf :=
  oneSlot 0xA 3 src b (kind * 2 ^ 56 + inst * 2 ^ 48 + min a (2 ^ 24 - 1) * 2 ^ 24 + min v (2 ^ 24 - 1))

/-- Word 1 of an epoch sheaf (Table 4.9). -/
def epochW1 (s : State) : Nat :=
  bits s.tb.beat.toNat 55 40 * 2 ^ 48 + s.tb.quality * 2 ^ 45 + s.tb.flags.toNat * 2 ^ 40 +
    s.tb.stepgen * 2 ^ 38 + s.tb.epoch % 2 ^ 38
/-- An epoch sheaf of this beat edge, one for all its causes: the one that waits is rewritten (R118). -/
def replaceEpoch (x : Sheaf) (q : List Sheaf) : List Sheaf :=
  if q.any fun y => y.words.head? = x.words.head? then
    q.map fun y => if y.words.head? = x.words.head? then x else y
  else q ++ [x]
/-- A cause of an epoch sheaf arises at this beat edge: bit 4 PERIODIC, 3 STEP, 2 QCHANGE, 1 MODE, 0 WRAP. -/
def epochCause (s : State) (bit : Nat) : State :=
  if s.modes.cur = .held then s else
    let s := { s with tb := { s.tb with flags := s.tb.flags ||| BitVec.ofNat 5 (2 ^ bit) } }
    let s := { s with tb := { s.tb with lastQuality := s.tb.quality } }
    { s with gran := { s.gran with dwq := replaceEpoch (oneSlot 4 0 12 s.tb.beat (epochW1 s)) s.gran.dwq } }

/-! ## Faults (R351 to R366) -/

/-- 0 notice to 3 critical (R351). -/
def severity (src : Nat) : Nat := if src ≤ 7 then 3 else if src ≤ 23 then 2 else if src ≤ 43 then 1 else 0
/-- The bits of Table 12.1 that are reserved. -/
def reservedSource (src : Nat) : Bool :=
  src = 7 || (20 ≤ src && src ≤ 23) || (36 ≤ src && src ≤ 43) || 47 ≤ src
/-- The level sources of Table 12.1. -/
def levelSource (src : Nat) : Bool := [2, 6, 10, 14, 16, 17, 18, 27, 29, 33, 44].contains src
def mkFin (n : Nat) (i : Nat) : Option (Fin n) := if h : i < n then some ⟨i, h⟩ else none
/-- The fence or reset target of a raise (Table 12.1). -/
def srcTarget (src inst : Nat) : Option Target :=
  match src with
  | 12 => (mkFin 12 inst).map Target.stook
  | 15 => (mkFin 12 inst).map Target.stook
  | 19 => (mkFin 8 inst).map Target.converter
  | 24 => (mkFin 192 inst).map Target.channel
  | 25 => (mkFin 192 inst).map Target.channel
  | 26 => (mkFin 12 inst).map Target.stook
  | 29 => some .timingPort
  | 31 => some .triggerPort
  | 32 => (mkFin 4 inst).map Target.uplane
  | 33 => (mkFin 2 inst).map Target.downlane
  | _ => none
/-- The unit a raise's instance names, for the shadow lists (R357). -/
def faultUnit (src inst : Nat) : Option Target :=
  match src with
  | 18 => (mkFin 8 (if inst < 8 then inst else (inst - 8) / 2)).map Target.converter
  | 34 => if inst < 192 then (mkFin 192 inst).map Target.channel
          else if 208 ≤ inst ∧ inst < 216 then (mkFin 8 (inst - 208)).map Target.converter else none
  | 44 => (mkFin 4 inst).map Target.uplane
  | _ => srcTarget src inst
/-- The instance of a raise belongs to a running reaction's target (R357). -/
def covers (t : Option Target) (src inst : Nat) : Bool :=
  match t, faultUnit src inst with
  | none, _ => true
  | some .timingPort, _ => true
  | some .triggerPort, _ => true
  | some (.channel c), some (.channel x) => c = x
  | some (.stook k), some (.stook x) => k = x
  | some (.stook k), some (.channel x) => x.val / 16 = k.val
  | some (.uplane u), some (.uplane x) => u = x
  | some (.converter k), some (.converter x) => k = x
  | some (.converter k), some (.channel x) => x.val / 24 = k.val
  | some (.downlane d), some (.downlane x) => d = x
  | _, _ => false
def fenceable : Target → Bool
  | .channel _ => true | .stook _ => true | .uplane _ => true | .converter _ => true | _ => false
/-- FENCE.KIND and FENCE.INDEX (Table 4.10). -/
def fenceCode : Target → Nat × Nat
  | .channel c => (0, c.val) | .stook k => (1, k.val) | .uplane u => (2, u.val) | .converter k => (3, k.val)
  | .downlane d => (0, d.val) | .timingPort => (0, 0) | .triggerPort => (0, 0)
/-- The target stands fenced, or lies inside a fenced stook (R359). -/
def isFenced (s : State) : Target → Bool
  | .channel c => s.flt.fencedCh.getLsbD c.val || s.flt.fencedStook.getLsbD (c.val / 16)
  | .stook k => s.flt.fencedStook.getLsbD k.val
  | .uplane u => s.flt.fencedUl.getLsbD u.val
  | .converter k => s.flt.fencedConv.getLsbD k.val
  | _ => false

/-- The 128 bits of a fault record as four words (R356). -/
def faultWords (f : FaultRec) : List PWord :=
  let hi := 2 ^ 31 + f.src % 64 * 2 ^ 25 + severity f.src * 2 ^ 23 + f.inst % 256 * 2 ^ 15 + f.mask % 256 * 2 ^ 7 +
    f.esc % 4 * 2 ^ 5 + bnat f.consequent * 2 ^ 4 + modeCode f.mode
  let b := f.beat.toNat
  [BitVec.ofNat 32 hi, BitVec.ofNat 32 (b / 2 ^ 32), BitVec.ofNat 32 (b % 2 ^ 32),
   BitVec.ofNat 32 (min f.consequents 65535 * 2 ^ 16 + f.ctx % 2 ^ 16)]

/-- The order of raises of one beat: higher severity, lower bit, lower instance first (R354). Severity falls with the
bit number, so bit and instance give it. -/
def raisedBefore (a b : FaultRec) : Bool := a.src < b.src || (a.src = b.src && a.inst < b.inst)
/-- A record put into the history behind earlier beats, in order among those of its beat (R355). -/
def histInsert (r : FaultRec) : List FaultRec → List FaultRec
  | [] => [r]
  | x :: rest => if x.up = r.up && raisedBefore r x then r :: x :: rest else x :: histInsert r rest
/-- A record changed wherever it stands: history and first error (R356). -/
def editRec (s : State) (key : Nat) (f : FaultRec → FaultRec) : State :=
  { s with flt := { s.flt with
      hist := s.flt.hist.map fun r => if r.key = key then f r else r
      roseFirst := s.flt.roseFirst.map fun r => if r.key = key then f r else r
      first := s.flt.first.map fun r => if r.key = key then f r else r } }
def addConsequent (s : State) (key : Nat) : State :=
  editRec s key fun r => { r with consequents := satAdd 65535 r.consequents 1 }

/-- ERR_N is asserted, a pending release is cancelled, or a fresh assertion waits for two beats of high (R366). -/
def assertErr (s : State) : State :=
  if s.flt.errLow then
    s.flt.errRel.foldl (fun s e => closeCmd s e.1 0x54 0x0C 0 []) { s with flt := { s.flt with errRel := [] } }
  else if s.tb.up + 1 < s.flt.errHighUntil then { s with flt := { s.flt with errAgain := true } }
  else { s with flt := { s.flt with errLow := true, errBeat := s.tb.beat + 1, errUp := s.tb.up + 1 } }

/-- ERR_N is low at this beat. -/
def errNow (s : State) : Bool := s.flt.errLow && decide (s.flt.errUp ≤ s.tb.up)
/-- A trap from beat b on; one that already holds the Grangers lasts on (R360). -/
def trapFrom (s : State) (b : Nat) : State :=
  { s with flt := { s.flt with trap := true, trapUp := if s.flt.trap then s.flt.trapUp else b } }
/-- The event messages of the beat before leave (R359). -/
def sendInterrupts (s : State) : State :=
  s.flt.interrupts.foldl (fun s f => event s 0x01 0 (faultWords f)) { s with flt := { s.flt with interrupts := [] } }
/-- The Grangers resume within 1 deckle of the trap (R360). -/
def endTrap (s : State) : State :=
  if s.flt.trap && decide (s.flt.trapUp + 1024 ≤ s.tb.up) then { s with flt := { s.flt with trap := false } } else s

/-- The mask bits a mode carries out (Table 12.4). -/
def maskInMode (m : Mode) (mask : Nat) : Nat :=
  match m with
  | .held => mask &&& 0x20
  | .startUp => mask &&& 0x3F
  | .cal => mask &&& 0x3F
  | _ => mask &&& 0x2F

/-- A measured check (kind 2) or an integrity check (kind 3) ends as a run does: report 0x23, `CAL_COUNTS`, `CAL_RUN_STATUS`
(R274, R290, R301). -/
def checkRunEnds (s : State) (kind status : Nat) : State :=
  let s := count (pushSheaf s (report 15 s.tb.beat 0x23 kind status 0)) A_CAL_COUNTS 0 15 0 1
  { s with cal := { s.cal with lastStatus := status } }
/-- A check fails; its status code is a free value. -/
def checkRunFails (s : State) (kind : Nat) : State :=
  checkRunEnds { s with free := s.free + 1 } kind (Config.checkStatus s.free).val
/-- A failure of the RECOVERY step in progress: retried once, then HELD (R28). -/
def recoveryFail (s : State) : State :=
  if s.modes.recRetried then
    { s with modes := { s.modes with toHeld := some (0x08, s.modes.recStep), causeAt := s.tb.up } }
  else { s with modes := { s.modes with recRetried := true } }
/-- A cause of RECOVERY arises in service (R30, R35). A double Barn fault takes the place of an escalation. -/
def causeRecovery (s : State) (code : Byte) : State :=
  match s.modes.toRecovery with
  | none => { s with modes := { s.modes with toRecovery := some code, causeAt := s.tb.up } }
  | some c => { s with modes := { s.modes with toRecovery := some (if c.toNat < code.toNat then code else c) } }

/-- Escalation beyond fence for the raise `key` (R365). -/
def escalateBeyond (s : State) (key : Nat) : State :=
  let s := count s A_FLT_ESCALATIONS 0 31 16 1
  let s := assertErr s
  match s.modes.cur with
  | .streaming | .triggered =>
    let s := editRec s key fun r => { r with esc := 2 }
    causeRecovery s 0x06
  | .recovery => recoveryFail (editRec s key fun r => { r with esc := 2 })
  | _ => editRec s key fun r => { r with esc := 3 }

/-- The reaction of `key` has taken its last action: its window ends WINDOW deckles later (R357). -/
def endActions (s : State) (key : Nat) : State :=
  { s with flt := { s.flt with reactions := s.flt.reactions.map fun x =>
      if x.key = key then { x with stop := some (s.tb.up + 1024 * x.window) } else x } }

/-- The reactions that run at this beat, earliest raised first. -/
def running (s : State) : List Reaction :=
  s.flt.reactions.filter fun x => x.start ≤ s.tb.up && (match x.stop with | none => true | some e => s.tb.up < e)
/-- The reaction that suppresses a raise, if one does (R357). -/
def suppressor (s : State) (src inst : Nat) : Option Reaction :=
  (running s).find? fun x => bitAt x.shadow src && covers x.target src inst

/-- A fence or reset of a reaction joins the queue in the order of R354, or escalates from a full one (R359). -/
def queueAct (s : State) (a : Act) : State :=
  if isFenced s a.target then endActions s a.key
  else if s.flt.queue.length < 16 then
    let inst (x : Act) : Nat := (fenceCode x.target).2
    let first (x : Act) : Bool := x.asked < a.asked || x.src < a.src || (x.src = a.src && inst x ≤ inst a)
    { s with flt := { s.flt with queue := s.flt.queue.filter first ++ a :: s.flt.queue.filter fun x => !first x } }
  else if serviceMode s.modes.cur then endActions (escalateBeyond s a.key) a.key
  else endActions (count s A_FLT_LOST 0 31 16 1) a.key

/-- The reactions of a raise that is not suppressed (R357 to R359, R366). -/
def react (s : State) (f : FaultRec) : State :=
  let m := maskInMode s.modes.cur f.mask
  let window := bits (reg s A_FLT_REACTION f.src) 15 8
  let target := srcTarget f.src f.inst
  let s := if bitAt m 5 || severity f.src = 3 then assertErr s else s
  let s := if bitAt m 0 then { s with flt := { s.flt with interrupts := histInsert f s.flt.interrupts } } else s
  let s := if bitAt m 4 then { s with modes := { s.modes with chipReset := true } } else s
  let isolates : Option (ActKind × Target) :=
    match target with
    | none => none
    | some t => if bitAt m 2 && fenceable t then some (.fence, t) else if bitAt m 3 then some (.reset, t) else none
  let long := isolates.isSome || bitAt m 1
  let s := if m ≠ 0 && s.modes.cur ≠ .held && (long || window ≠ 0) then
      let stop := if long then none else some (s.tb.up + 1024 * window)
      { s with flt := { s.flt with reactions := s.flt.reactions ++
          [{ key := f.key, src := f.src, target := target, shadow := reg s A_FLT_SHADOW f.src, window := window,
             start := s.tb.up + 1, stop := stop }] } }
    else s
  let s := if bitAt m 1 then trapFrom s (s.tb.up + 1) else s
  match isolates with
  | some (k, t) =>
    queueAct s { kind := k, target := t, src := f.src, key := f.key, req := none, asked := s.tb.up, begun := none,
                 acted := false }
  | none => if bitAt m 1 then
      { s with flt := { s.flt with reactions := s.flt.reactions.map fun x =>
          if x.key = f.key then { x with stop := some (s.tb.up + 1 + 1024 * x.window) } else x } }
    else s

/-- A raise enters the error word, the first-error record and the history (R352, R354, R355). -/
def logRaise (s : State) (f : FaultRec) : State :=
  let capture := !f.consequent && (match s.flt.first with
    | none => true
    | some x => x.up = f.up && raisedBefore f x)
  let earliest := !f.consequent && (match s.flt.roseFirst with
    | none => true
    | some x => raisedBefore f x)
  let h := histInsert f s.flt.hist
  let s := if h.length ≤ 16 then s else count s A_FLT_LOST 0 15 0 1
  { s with flt := { s.flt with
      word := s.flt.word ||| BitVec.ofNat 64 (2 ^ f.src)
      rose := s.flt.rose ||| BitVec.ofNat 64 (2 ^ f.src)
      roseFirst := if earliest then some f else s.flt.roseFirst
      first := if capture then some f else s.flt.first
      hist := if h.length ≤ 16 then h else h.drop 1 } }

/-- One assertion of an error line (R352): counted, then suppressed or logged and reacted to. -/
def raise (s : State) (src inst ctx : Nat) : State :=
  if reservedSource src then s else
  let s := count s A_FLT_COUNT src 15 0 1
  match suppressor s src inst with
  | some x =>
    let s := addConsequent s x.key
    { s with flt := { s.flt with levels := s.flt.levels.map fun l =>
        if l.src = src && l.inst = inst then { l with suppressed := some x.key } else l } }
  | none =>
    let parent := (running s).head?
    let f : FaultRec :=
      { key := s.flt.nextKey, src := src, inst := inst % 256, mask := bits (reg s A_FLT_REACTION src) 7 0, esc := 0,
        consequent := parent.isSome, mode := s.modes.cur, beat := s.tb.beat, up := s.tb.up, consequents := 0,
        ctx := ctx % 2 ^ 16 }
    let s := { s with flt := { s.flt with nextKey := s.flt.nextKey + 1 } }
    let s := match parent with
      | some p => addConsequent s p.key
      | none => s
    react (logRaise s f) f

/-- A level condition begins: its source raises once until the condition has ended (R352). -/
def levelBegin (s : State) (src inst ctx : Nat) : State :=
  if s.flt.levels.any fun l => l.src = src && l.inst = inst then s else
    raise { s with flt := { s.flt with levels := s.flt.levels ++
      [{ src := src, inst := inst, ctx := ctx, suppressed := none }] } } src inst ctx
def levelEnd (s : State) (src inst : Nat) : State :=
  { s with flt := { s.flt with levels := s.flt.levels.filter fun l => !(l.src = src && l.inst = inst) } }

end Sys2Proof.Machine
end

