-- ==== Sys2Proof/Machine/Couches.lean ====
section
/-!
DEFINITION. The pending couch (R317, R321): when it is due, what `MD_COUCH_STATE` shows of it, and its end without effect.
-/
namespace Sys2Proof.Machine

/-- The boundary at beat count b lies at or after T seconds and nanoseconds (R83, R317). -/
def timeReached (s : State) (b secs ns : Nat) : Bool :=
  decide (((secs : Int) - s.tb.epoch) * 40960000 * 3125 + ns * 128 ≤ (b : Int) * 3125)
/-- The first deckle at or after T; 0 for a T before the epoch. -/
def timeDeckleOf (s : State) (secs ns : Nat) : Nat :=
  ((((secs : Int) - s.tb.epoch) * 128000000000 + ns * 128 + 3199999) / 3200000).toNat
/-- The deckle at whose first beat a pending couch falls. -/
def couchDeckle (s : State) (c : Couch) : Deckle :=
  match c.form with
  | 0 => deckle s + BitVec.ofNat 46 (c.due - s.tb.dk)
  | 1 => c.d
  | _ => BitVec.ofNat 46 (timeDeckleOf s c.secs c.ns)
/-- `MD_COUCH_STATE` (Table 10.9). -/
def mdCouchState (s : State) : Nat :=
  let tail := bnat s.md.lastLate * 8 + s.md.lastStatus.toNat * 16
  match s.md.couch with
  | none => 3 + tail + s.md.lastDeckle.toNat * 2 ^ 16
  | some c => c.form + bnat c.upgrade * 4 + tail + (couchDeckle s c).toNat * 2 ^ 16
/-- The couch's boundary has been reached and it waits for its beat. -/
def couchDue (s : State) : Bool :=
  match s.md.couch with
  | some c => c.reached.isSome
  | none => false
/-- At a deckle boundary the pending couch is found due or not (R317). -/
def couchReached (s : State) (c : Couch) : Bool :=
  match c.form with
  | 0 => decide (c.due ≤ s.tb.dk)
  | 1 => deckleReached (deckle s) c.d
  | _ => timeReached s s.tb.beat.toNat c.secs c.ns
/-- The reply of form 0, or the outcome message of forms 1 and 2, with `MD_COUCH_STATE`. -/
def couchMessage (s : State) (c : Couch) (status detail : Nat) : State :=
  match c.req with
  | none => s
  | some r =>
    let data := valueWords 2 (mdCouchState s)
    if c.form = 0 then closeCmd s r 0x23 status detail data else outcome s r 0x23 status detail data
/-- The couch leaves its place with this status. -/
def endCouch (s : State) (c : Couch) (status : Nat) (late : Bool) : State :=
  { s with md := { s.md with couch := none, lastStatus := BitVec.ofNat 8 status, lastDeckle := couchDeckle s c,
                             lastLate := late } }
/-- The couch is cancelled or fails, at its beat or, late, at the return from RECOVERY: the staging state becomes `st` (R319, R321,
R324). -/
def failCouch (s : State) (c : Couch) (status detail : Nat) (st : Staging) (late : Bool) : State :=
  let s := endCouch s c status late
  let s := count { s with md := { s.md with stage := st } } A_MD_COUCH_COUNT 0 31 16 1
  raise (couchMessage s c status detail) 45 0 status
/-- A pending couch that satisfies p is cancelled with ABORTED; the shadow is CHECKED again. -/
def cancelCouch (s : State) (p : Couch → Bool) : State :=
  match s.md.couch with
  | some c => if p c then failCouch s c 0x0C 0 .checked false else s
  | none => s
/-- The couch's boundary is noted. -/
def couchBoundary (s : State) : State :=
  match s.md.couch with
  | some c =>
    if c.reached.isNone && couchReached s c then
      { s with md := { s.md with couch := some { c with reached := some s.tb.dk } } }
    else s
  | none => s

/-- A requested transition falls due at the deckle boundary in force (R31, R33); and one that a fault caused (R35). -/
def requestDue (s : State) (p : ModePend) : Bool :=
  atBoundary s && decide (p.acc < s.tb.up) &&
    (match p.at? with | none => true | some d => deckleReached (deckle s) d)
def causeDue (s : State) : Bool :=
  atBoundary s && decide (s.modes.causeAt < s.tb.up) && (s.modes.toHeld.isSome || s.modes.toRecovery.isSome)
def transitionDue (s : State) : Bool :=
  causeDue s || (match s.modes.pend with | some p => requestDue s p | none => false)

end Sys2Proof.Machine
end

