-- ==== Sys2Proof/Machine/Operands.lean ====
section
/-!
DEFINITION. The operands of command packets: which modes accept an opcode (Table 11.7), and how a packet reaches the
Granger or the held responder (R22, R329, R336, R337, R343, R360).
-/
namespace Sys2Proof.Machine

/-- The opcodes of Table 11.7. -/
def knownOpcode (op : Nat) : Bool :=
  [0x00, 0x01, 0x02, 0x03, 0x10, 0x11, 0x12, 0x20, 0x21, 0x22, 0x23, 0x24, 0x25, 0x30, 0x31, 0x32, 0x33, 0x40, 0x41,
   0x42, 0x43, 0x44, 0x50, 0x51, 0x52, 0x53, 0x54, 0x55, 0x60, 0x61, 0x62, 0x70, 0x71, 0x72, 0x73, 0x74, 0x7E,
   0x7F].contains op
/-- The commands that the held responder executes. -/
def heldOpcode (op : Nat) : Bool := [0x00, 0x02, 0x03, 0x52].contains op
/-- The modes column of Table 11.7. -/
def opcodeAllowed (op : Nat) (m : Mode) : Bool :=
  match m with
  | .held => heldOpcode op
  | .startUp => !([0x32, 0x33, 0x40, 0x43, 0x50, 0x51, 0x55, 0x61, 0x62, 0x7E, 0x7F].contains op)
  | .cal => !([0x7E, 0x7F].contains op)
  | .streaming => op ≠ 0x32
  | .triggered => !([0x32, 0x7E, 0x7F].contains op)
  | .recovery => !([0x23, 0x32, 0x33, 0x40, 0x43, 0x50, 0x51, 0x55, 0x61, 0x62, 0x7E, 0x7F].contains op)

/-- `MODE_CURRENT` (Table 1.7). -/
def modeByte (s : State) : Nat := modeCode s.modes.cur + bnat s.modes.pend.isSome * 128

def replyOk (s : State) (r : Req) (op : Nat) (data : List PWord) : State := reply s r op 0 0 data
def replyBad (s : State) (r : Req) (op word : Nat) : State := reply s r op 6 word []
def replyBusy (s : State) (r : Req) (op holder : Nat) : State := reply s r op 1 holder []
def replyDenied (s : State) (r : Req) (op : Nat) : State := reply s r op 8 0 []
def replyNotInMode (s : State) (r : Req) (op : Nat) : State := reply s r op 7 (modeByte s) []
/-- A packet whose LENGTH (its parameter words) is wrong for its command: counted, and its header kept (R329, Table 11.9). -/
def replyLength (s : State) (r : Req) (op len : Nat) : State :=
  let h := BitVec.ofNat 32 (op * 2 ^ 24 + r.tag.toNat * 2 ^ 16 + len * 2 ^ 7)
  let s := count s A_CMD_PORT_ERRORS (portCode r.port) 15 0 1
  reply { s with cmd := { s.cmd with lastBad := pset 0 s.cmd.lastBad (portCode r.port) h } } r op 4 (8 + 4 * len) []

/-- An accepted packet waits for the Granger: packets of one beat in the order DL0, DL1, SPI (R336). -/
def enqueuePacket (s : State) (p : Port) (i : Packet) : State :=
  let first (e : Nat × Port × Packet) : Bool := e.1 < s.tb.up || portCode e.2.1 ≤ portCode p
  { s with cmd := { s.cmd with inq := s.cmd.inq.takeWhile first ++ (s.tb.up, p, i) :: s.cmd.inq.dropWhile first } }

/-- A couch comes first in the beat in force (R338). -/
def couchFirst (s : State) : Bool := couchDue s && atBoundary s && decide (s.modes.cur ≠ .recovery)
/-- A packet whose form was checked comes to be executed: queued while the Grangers stand still or a couch comes first, refused
where Table 11.7 does not allow it, else its command's own definition. In HELD the held responder hears DL0 and SPI (R22). -/
def granger (s : State) (r : Req) (i : Instr) (op : Nat) (body : State → State) : Res :=
  atPads s (if !powered s || (s.modes.cur = .held && r.port = .dl1) then s
    else if grangersStopped s || couchFirst s then enqueuePacket s r.port (.command i)
    else if opcodeAllowed op s.modes.cur then body s
    else replyNotInMode s r op)
/-- An at-completion command begins, within the limit of 16 (R337); `key` names the unit it acts on. -/
def opening (s : State) (r : Req) (op key : Nat) (k : State → State) : State :=
  if s.cmd.outst.length < 16 then k (openCmd s r op key) else replyBusy s r op 0xFF

end Sys2Proof.Machine
end

