-- ==== Sys2Proof/Machine/Commands.lean ====
section
/-!
DEFINITION. NOP, ECHO and IDENTIFY (R343, Table 11.8).
-/
namespace Sys2Proof.Machine

/-- NOP. -/
def execNop (r : Req) (s : State) : Res := granger s r (.nop r) 0x00 fun s => replyOk s r 0x00 []
/-- ECHO. -/
def execEcho (r : Req) (words : List PWord) (s : State) : Res :=
  granger s r (.echo r words) 0x01 fun s => replyOk s r 0x01 words
/-- The reply data of IDENTIFY. -/
def identity (s : State) : List PWord :=
  let held := decide (s.modes.cur = Mode.held)
  let own := match s.barns.owner with | .a => s.barns.a | .b => s.barns.b
  BitVec.ofNat 32 (Config.deviceCode * 2 ^ 16 + Config.revision) :: valueWords 2 s.cal.identity.toNat ++
    [BitVec.ofNat 32 (Config.devProto * 2 ^ 24 + modeByte s * 2 ^ 16 + s.pwr.straps.toNat * 2 ^ 8 + bnat held * 2 +
       barnCode s.barns.owner),
     BitVec.ofNat 32 (if held then 0 else own.mc)]
/-- IDENTIFY. -/
def execIdentify (r : Req) (s : State) : Res :=
  granger s r (.identify r) 0x02 fun s => replyOk s r 0x02 (identity s)

end Sys2Proof.Machine
end

