-- ==== Sys2Proof/Machine/Granary.lean ====
section
/-!
DEFINITION. The Granary (chapter 6): writes under the overflow policies, the P0 hold, drain selection, release and
return, marking and expiry of pending units (chapter 5), watermark pairs and flow pins, banks, scrubbing, staging.
-/
namespace Sys2Proof.Machine

/-! ## Slots -/

/-- Every stored unit changed by f; and only the stored units that p keeps. -/
def mapUnits (s : State) (f : GUnit → GUnit) : State :=
  { s with gran := { s.gran with units := s.gran.units.map f } }
def keepUnits (s : State) (p : GUnit → Bool) : State :=
  { s with gran := { s.gran with units := s.gran.units.filter p } }
def usedSlots (s : State) : List Nat := s.gran.units.flatMap GUnit.slots
/-- Occupied slots of the whole Granary (R205). -/
def occupied (s : State) : Nat := (s.gran.units.map fun u => u.slots.length).sum
def classSlots (s : State) (cls : Nat) : Nat :=
  ((s.gran.units.filter fun u => u.cls = cls).map fun u => u.slots.length).sum
def isFlying (u : GUnit) : Bool := u.st = .inFlight || !u.flying.isEmpty
def flyingSlots (l : List GUnit) : Nat := ((l.filter isFlying).map fun u => u.slots.length).sum
/-- Slots of the reserved pool in use (R197). -/
def poolUsed (s : State) : Nat := ((usedSlots s).filter (· < 256)).length
def popcount64 (b : BitVec 64) : Nat := ((List.range 64).filter fun k => b.getLsbD k).length
/-- Free slots of the general area in powered banks. -/
def freeGeneral (s : State) : Nat :=
  popcount64 s.gran.powered * 32768 - 256 - ((usedSlots s).filter (256 ≤ ·)).length
/-- The n lowest numbers from k below hi that are not used; fuel bounds the numbers looked at. -/
def freeFrom (used : List Nat) (hi : Nat) : Nat → Nat → Nat → List Nat
  | 0, _, _ => []
  | fuel + 1, k, n =>
    if n = 0 ∨ hi ≤ k then []
    else if used.contains k then freeFrom used hi fuel (k + 1) n
    else k :: freeFrom used hi fuel (k + 1) (n - 1)
/-- The n lowest free general slots, of the lowest-numbered powered banks that have them (R210). -/
def takeGeneral (s : State) (n : Nat) : List Nat :=
  let used := usedSlots s
  (List.range 64).foldl (fun got b =>
    if s.gran.powered.getLsbD b && got.length < n then
      let lo := if b = 0 then 256 else b * 32768
      got ++ freeFrom used ((b + 1) * 32768) (n + used.length) lo (n - got.length)
    else got) []
/-- The banks of these slots. -/
def bankMask (slots : List Nat) : BitVec 64 := slots.foldl (fun m k => m ||| BitVec.ofNat 64 (2 ^ (k / 32768))) 0
/-- An access to these slots: their banks are ACTIVE (R210). -/
def touchBanks (s : State) (slots : List Nat) : State :=
  { s with gran := { s.gran with bankActive := s.gran.bankActive ||| bankMask slots } }
/-- The state of a bank (R210, R211). -/
def bankState (s : State) (b : Nat) : BankState :=
  if !s.gran.powered.getLsbD b then .off
  else if (!serviceMode s.modes.cur && s.modes.cur ≠ .held) || s.gran.bankActive.getLsbD b then .active else .retention
/-- Banks powered on until the free general slots reach the margin, in the service modes (R211). -/
def powerBanks : Nat → State → State
  | 0, s => s
  | fuel + 1, s =>
    if serviceMode s.modes.cur && freeGeneral s < reg s A_GR_BANK_MARGIN 0 then
      match (List.range 64).find? fun b => !s.gran.powered.getLsbD b with
      | some b => powerBanks fuel
          { s with gran := { s.gran with powered := s.gran.powered ||| BitVec.ofNat 64 (2 ^ b),
                                          bankIdle := pdel s.gran.bankIdle b } }
      | none => s
    else s

/-! ## Losses -/

/-- A sheaf lost by overwrite, reclaim, drop, eviction or power-off (`GR_LOST`, R217). -/
def lost (s : State) (src cls : Nat) : State :=
  let s := count s A_GR_LOST (src * 4 + cls) 31 0 1
  if cls = 0 then s else
    let (a, b) := pget (0, 0) s.gran.repLost src
    { s with gran := { s.gran with repLost := pset (0, 0) s.gran.repLost src (if cls = 3 then (a, b + 1) else (a + 1, b)) } }
/-- A stage discards a sheaf with an uncorrectable word (R146). `finder` is the stage's source. -/
def guardLost (s : State) (finder src seq : Nat) (unknown : Bool) : State :=
  let k := Config.lostId s.free
  let s := if unknown then { s with free := s.free + 1 } else s
  let src' := if unknown then k % 16 else src
  let seq' := if unknown then k / 16 % 2 ^ 16 else seq
  let s := count s A_WN_GUARD src 15 0 1
  let s := raise s 12 src' seq'
  controlLoss s finder src' seq' unknown

/-! ## Sequence numbers (R141) -/

def nextSeq (s : State) (src : Nat) : Nat := pget 0 s.gran.seq src
def bumpSeq (s : State) (src : Nat) : State :=
  { s with gran := { s.gran with seq := pset 0 s.gran.seq src ((nextSeq s src + 1) % 2 ^ 16) } }
def sheafType (x : Sheaf) : Nat := bits ((x.words.headD 0).toNat) 63 60
/-- SEQ put into its place: word 1 [55:40] of hit sheaves, word 0 [15:0] of the others (Tables 4.5, 4.8). -/
def withSeq (x : Sheaf) (q : Nat) : List SWord :=
  match x.words with
  | w0 :: w1 :: rest =>
    if sheafType x ≤ 3 then w0 :: BitVec.ofNat 64 (putBits w1.toNat 55 40 q) :: rest
    else BitVec.ofNat 64 (putBits w0.toNat 15 0 q) :: w1 :: rest
  | ws => ws
/-- The sheaf takes its source's next sequence number. -/
def number (s : State) (x : Sheaf) : Numbered × State :=
  let q := nextSeq s x.src
  ({ sheaf := { x with words := withSeq x q }, seq := BitVec.ofNat 16 q }, bumpSeq s x.src)

/-! ## Windows and pending units (R170 to R181) -/

/-- The channel and the hit beat as the Thresher places its 40 bits: nearest to the current count (R179). -/
def placedHit (now : Beat) (u : GUnit) : Option (Nat × Beat) :=
  u.hit.map fun x => (x.1, nearBeat now (x.2.toNat % 2 ^ 40))
/-- A window would mark a pending sheaf: it covers the hit beat, includes the stook and selects by READCLASS. -/
def windowMarks (now : Beat) (w : Window) (u : GUnit) : Bool :=
  match placedHit now u with
  | none => false
  | some (c, h) =>
    beatLe w.lo h && beatLe h w.hi && w.stooks.getLsbD (c / 16) &&
      (w.readClass = 0 || (w.readClass = 1 && bits ((u.words.headD 0).toNat) 63 60 = 2) ||
        (w.readClass = 2 && u.cls = 1))
/-- A window in force would mark it. -/
def marked (s : State) (u : GUnit) : Bool := s.thr.store.any fun w => windowMarks s.tb.beat w u
/-- The expiry boundary of a hit beat: the first deckle boundary at or after h + latency + 8 (R176). -/
def expiryBoundary (h : Beat) (maxLat : Nat) : Beat := BitVec.ofNat 56 ((h.toNat + maxLat + 8 + 1023) / 1024 * 1024)
/-- The expiry boundary of a pending sheaf has come. -/
def expired (s : State) (u : GUnit) : Bool :=
  match placedHit s.tb.beat u with
  | none => false
  | some (_, h) => beatLe (expiryBoundary h u.maxLat) s.tb.beat
/-- Every pending unit that a window in force marks becomes ELIGIBLE; `TH_MATCHED` counts each (R175). -/
def markUnits (s : State) : State :=
  let hits := s.gran.units.filter fun u => u.st = .pending && marked s u
  let s := hits.foldl (fun s u => count s A_TH_MATCHED u.src 31 0 1) s
  (mapUnits s fun u =>
      if u.st = .pending && marked s u then { u with st := .eligible } else u)
/-- The pending units that p picks become chaff (R176). -/
def chaffUnits (s : State) (p : GUnit → Bool) : State :=
  let gone := s.gran.units.filter fun u => u.st = .pending && p u
  let s := gone.foldl (fun s u => count s A_TH_EXPIRED u.src 31 0 1) s
  (keepUnits s fun u => !(u.st = .pending && p u))
/-- The expiry of a deckle boundary (R176, R178): what a window in force marks is marked, the rest is chaff. -/
def expireUnits (s : State) : State :=
  let s := markUnits s
  chaffUnits s fun u => expired s u

/-! ## Writes (R197 to R201) -/

def activeLanes (s : State) : List Nat := (List.range 4).filter fun u => (lane s u).st = .active
/-- EPOCH and RESUME units are broadcast (R195). -/
def isBroadcast (u : GUnit) : Bool :=
  let t := bits ((u.words.headD 0).toNat) 63 60
  t = 4 || t = 8
def isEpoch (u : GUnit) : Bool := bits ((u.words.headD 0).toNat) 63 60 = 4
/-- Broadcast units that are owed to no lane are released, but never the most recent EPOCH unit (R195). -/
def sweepBroadcast (s : State) : State :=
  let newest := (s.gran.units.filter isEpoch).getLast?.map GUnit.arr
  (keepUnits s fun u =>
      !(isBroadcast u && u.owed.isEmpty && u.flying.isEmpty && !(isEpoch u && newest = some u.arr)))
/-- The descriptor of a sheaf at its write: the next arrival number, state and owed set (R189, R191, R195). -/
def unitOf (s : State) (x : Numbered) (ready : Nat) : GUnit :=
  let t := sheafType x.sheaf
  let trig := s.modes.cur = .triggered || (s.modes.cur = .recovery && s.modes.ret = some .triggered)
  let u : GUnit :=
    { arr := s.gran.arrivals % 2 ^ 40, cls := x.sheaf.cls, src := x.sheaf.src, seq := x.seq, slots := [],
      st := if (t = 1 || t = 2) && trig then .pending else .eligible, words := x.sheaf.words, hit := x.sheaf.hit,
      owed := [], flying := [], sentOn := [], maxLat := reg s A_TH_MAX_LATENCY 0, ready := ready, poisoned := none,
      gapOpen := t = 7 }
  if t = 4 || t = 8 then { u with owed := activeLanes s } else u
def unitSize (u : GUnit) : Nat := (u.words.length + 1) / 2
/-- The order of arrival numbers, which wrap at 2^40 (R189). -/
def arrBefore (a b : Nat) : Bool := a ≠ b && (b + 2 ^ 40 - a) % 2 ^ 40 < 2 ^ 39
/-- The unit in its place by arrival number. -/
def insertUnit (u : GUnit) : List GUnit → List GUnit
  | [] => [u]
  | x :: rest => if arrBefore u.arr x.arr then u :: x :: rest else x :: insertUnit u rest
/-- The unit lands in these slots. -/
def placeUnit (s : State) (u : GUnit) (slots : List Nat) : State :=
  let s := useGranary { s with gran := { s.gran with
    units := insertUnit { u with slots := slots } s.gran.units, bankHeld := s.gran.bankHeld ||| bankMask slots } }
  let s := touchBanks s slots
  let s := { s with gran := { s.gran with poolMax := max s.gran.poolMax (poolUsed s),
                                          occMax := max s.gran.occMax (occupied s) } }
  let s := sweepBroadcast s
  powerBanks 64 s
/-- The first beat of a unit whose last entry is still to be written (R186): never. -/
def notWhole : Nat := 2 ^ 64
/-- A unit that the rules of Table 6.3 may free: not in flight; and a unit of four slots not before the beat after its last
entry (R186). -/
def freeable (s : State) (u : GUnit) : Bool := !isFlying u && (u.ready ≤ s.tb.up || u.slots.length = 1)
/-- The oldest units of a class that must go until `need` general slots are free; none when the class cannot give
them (with what it can give). -/
def oldestUntil (need : Nat) : Nat → List GUnit → List GUnit
  | _, [] => []
  | free, u :: rest => if need ≤ free then [] else u :: oldestUntil need (free + u.slots.length) rest
/-- Units freed as lost. -/
def loseUnits (s : State) (gone : List GUnit) : State :=
  let s := gone.foldl (fun s u => lost s u.src u.cls) s
  (keepUnits s fun u => !(gone.any fun g => g.arr = u.arr))
/-- The units to free, class by class in the order of Table 6.3, for `need` general slots. -/
def victims (s : State) (need : Nat) (classes : List Nat) : List GUnit :=
  let all := classes.flatMap fun c => s.gran.units.filter fun u => u.cls = c && freeable s u
  oldestUntil need (freeGeneral s) all
def provides (s : State) (need : Nat) (gone : List GUnit) : Bool :=
  need ≤ freeGeneral s + (gone.map fun u => u.slots.length).sum

/-- The channel's open GAP marker, in a slot or in the hold. -/
def openGap (l : List GUnit) (c : Nat) : Option GUnit :=
  l.find? fun u => u.gapOpen && (u.hit.map Prod.fst) = some c
/-- A GAP marker's word 1 (Table 4.10). -/
def gapW1 (c last40 n : Nat) : SWord := BitVec.ofNat 64 (c * 2 ^ 56 + last40 * 2 ^ 16 + n)
/-- A drop at hit beat h extends the marker (R198); it closes at 65 535 (R199). -/
def extendGap (h : Beat) (u : GUnit) : GUnit :=
  match u.hit, u.words with
  | some (c, b), [w0, w1] =>
    let n := bits w1.toNat 15 0 + 1
    let last := nearBeat h (bits w1.toNat 55 16)
    let b' := if beatLt h b then h else b
    let last' := if beatLt last h then h else last
    { u with
      hit := some (c, b'), gapOpen := n < 65535,
      words := [BitVec.ofNat 64 (putBits w0.toNat 59 20 (b'.toNat % 2 ^ 40)), gapW1 c (last'.toNat % 2 ^ 40) n] }
  | _, _ => u
def gapSheaf (c : Nat) (h : Beat) : Sheaf :=
  { src := 13, cls := 0, words := [sheafW0 7 h 13, gapW1 c (h.toNat % 2 ^ 40) 1], hit := some (c, h) }
def bumpArrival (s : State) : State := { s with gran := { s.gran with arrivals := (s.gran.arrivals + 1) % 2 ^ 40 } }
/-- The P1 unit that an eviction takes: the newest that can go (R200). -/
def newestP1 (s : State) : Option GUnit := (s.gran.units.filter fun u => u.cls = 1 && freeable s u).getLast?

/-- A drop at hit beat h extends the channel's open marker, in a slot or in the hold; none when it has none (R199). -/
def extendOpen (s : State) (c : Nat) (h : Beat) : Option State :=
  let f (g u : GUnit) : GUnit := if u.arr = g.arr then extendGap h u else u
  match openGap s.gran.units c, openGap s.gran.hold c with
  | some g, _ => some (mapUnits s (f g))
  | none, some g => some { s with gran := { s.gran with hold := s.gran.hold.map (f g) } }
  | none, none => none
/-- The memory transfer of a marker or of an extension comes from the scrubber's share (R198). -/
def markerTransfer (s : State) : State := { s with gran := { s.gran with scrubUsed := s.gran.scrubUsed + 1 } }
/-- One eviction for the P0 unit u (R200): the unit v is lost, and its channel's GAP marker, which u may be, is extended or
opened in a freed slot. An opening marker takes its arrival number after u: DESIGN CHOICE, log entry 29. -/
def evict (s : State) (v u : GUnit) : State × GUnit :=
  let s := count (loseUnits s [v]) A_GR_EVICT 0 31 0 1
  let r := match v.hit with
    | none => (s, u)
    | some (c, h) =>
      let s := markerTransfer s
      if (openGap [u] c).isSome then (s, extendGap h u)
      else match extendOpen s c h with
        | some s => (s, u)
        | none =>
          let (x, s) := number s (gapSheaf c h)
          (placeUnit (bumpArrival s) (unitOf s x (s.tb.up + 1)) (takeGeneral s 1), u)
  (raise r.1 13 0 (poolUsed r.1), r.2)

/-- The P0 row of Table 6.3 for a unit that has its arrival number; evictions at most `fuel`. The unit comes back where
nothing is left to evict. -/
def placeP0 : Nat → State → GUnit → State × Option GUnit
  | 0, s, u => (s, some u)
  | fuel + 1, s, u =>
    let gone := victims s 1 [3, 2]
    if provides s 1 gone then
      let s := loseUnits s gone
      (placeUnit s u (takeGeneral s 1), none)
    else if poolUsed s < 256 then (placeUnit s u (freeFrom (usedSlots s) 256 257 0 1), none)
    else match newestP1 s with
      | some v => placeP0 fuel (evict s v u).1 (evict s v u).2
      | none => (s, some u)
/-- A P0 write would have to enter the hold (R201). -/
def p0NeedsHold (s : State) : Bool :=
  !provides s 1 (victims s 1 [3, 2]) && 256 ≤ poolUsed s && (newestP1 s).isNone
/-- The hold is full and nothing can leave it: every writer of P0 sheaves waits (R201). -/
def holdFull (s : State) : Bool := 64 ≤ s.gran.hold.length && p0NeedsHold s
/-- Evictions end after at most this many rounds (R200). -/
def evictFuel (s : State) : Nat := s.gran.units.length + 1
/-- Held entries are written first, in arrival order, as slots come free (R201). -/
def flushHold : Nat → State → State
  | 0, s => s
  | n + 1, s =>
    match s.gran.hold with
    | [] => s
    | u :: rest =>
      if p0NeedsHold s then s
      else match placeP0 (evictFuel s) { s with gran := { s.gran with hold := rest } } { u with ready := s.tb.up + 1 } with
        | (s, none) => flushHold n (if s.gran.hold.isEmpty then levelEnd s 14 0 else s)
        | (s, some u) => { s with gran := { s.gran with hold := u :: s.gran.hold } }
def writeP0 (s : State) (x : Numbered) : State :=
  match placeP0 (evictFuel s) (bumpArrival s) (unitOf s x (s.tb.up + 1)) with
  | (s, none) => s
  | (s, some u) =>
    let s := { s with gran := { s.gran with hold := s.gran.hold ++ [u] } }
    levelBegin s 14 0 s.gran.hold.length

/-- A dropped P1 write is recorded in its channel's GAP marker (R198). -/
def recordDrop (s : State) (x : Numbered) : State :=
  let s := lost s x.sheaf.src 1
  match x.sheaf.hit with
  | none => s
  | some (c, h) =>
    let s := markerTransfer s
    match extendOpen s c h with
    | some s => s
    | none =>
      let (y, s) := number s (gapSheaf c h)
      writeP0 s y

/-- The classes that a write may take room from, in order (Table 6.3). -/
def reclaimOrder (cls : Nat) : List Nat :=
  match cls with
  | 1 => [3, 2] | 2 => [2, 3] | 3 => [3] | _ => [3, 2]

/-- A write is resolved (R197): none when its writer must keep it, because its GAP marker or itself would enter a full
hold (R198, R201). -/
def resolveWrite (s : State) (x : Numbered) (ready : Nat) : Option State :=
  let s := flushHold 64 (powerBanks 64 s)
  if x.sheaf.cls = 0 then
    if holdFull s then none else some (writeP0 s x)
  else
    let u := unitOf s x ready
    let n := unitSize u
    let gone := victims s n (reclaimOrder x.sheaf.cls)
    if provides s n gone then
      let s := loseUnits s gone
      let late := u.st = .pending && expired s u && s.modes.cur ≠ .recovery
      let s := bumpArrival s
      let t := sheafType x.sheaf
      if u.st = .pending && marked s u then
        some (placeUnit (count s A_TH_MATCHED u.src 31 0 1) { u with st := .eligible } (takeGeneral s n))
      else if late then some (count s A_TH_EXPIRED u.src 31 0 1)
      else
        let s' := placeUnit s u (takeGeneral s n)
        some (if t = 3 && s.modes.cur = .triggered then count s' A_TH_MATCHED u.src 31 0 1 else s')
    else if x.sheaf.cls = 1 then
      match x.sheaf.hit with
      | some (c, _) =>
        if (openGap s.gran.units c).isNone && (openGap s.gran.hold c).isNone && holdFull s then none
        else some (recordDrop s x)
      | none => some (lost s x.sheaf.src 1)
    else some (lost s x.sheaf.src x.sheaf.cls)

/-! ## Drain selection, release and return (R193 to R196, R203) -/

def isResume (u : GUnit) : Bool := bits ((u.words.headD 0).toNat) 63 60 = 8
/-- A broadcast unit is owed to lane u and not in flight on it. -/
def owedTo (u : Nat) (x : GUnit) : Bool := isBroadcast x && x.owed.contains u && !x.flying.contains u
/-- The unit that a search for lane u with this scope finds (R193). The list stands in arrival order. A broadcast unit that
was sent on the lane before is one of the other P0 units; a RESUME marker that was not goes first, so that the first quire
begins with it (R238): DEDUCED, log entry 29. -/
def searchUnit (l : List GUnit) (u scope : Nat) : Option GUnit :=
  let new (x : GUnit) : Bool := owedTo u x && !x.sentOn.contains u
  let p0 := l.find? fun x => if isBroadcast x then owedTo u x else x.st = .eligible && x.cls = 0
  let inScope (c : Nat) := l.find? fun x => x.st = .eligible && x.cls = c && bitAt scope x.src
  (l.find? fun x => new x && isResume x).or ((l.find? new).or (p0.or ((inScope 1).or ((inScope 2).or (inScope 3)))))
/-- The slots that a unit adds to those in flight; a broadcast unit counts once: DESIGN CHOICE, log entry 29. -/
def newlyFlying (x : GUnit) : Nat := if isFlying x then 0 else x.slots.length
/-- What a request on lane u with this scope returns (R193, R196). -/
def selectUnit (s : State) (u scope : Nat) : Option GUnit :=
  let n := flyingSlots s.gran.units
  if 1048576 ≤ n then none
  else (searchUnit (s.gran.units.filter fun x => x.ready ≤ s.tb.up && x.poisoned.isNone) u scope).filter fun x =>
    n + newlyFlying x ≤ 1048576
def unitAt (s : State) (arr : Nat) : Option GUnit := s.gran.units.find? fun x => x.arr = arr
/-- The unit becomes IN_FLIGHT; a GAP marker closes (R193, R199). -/
def takeUnit (s : State) (u arr : Nat) : State :=
  let s := touchBanks s (match unitAt s arr with | some x => x.slots | none => [])
  mapUnits (useGranary s) fun x =>
    if x.arr = arr then
      if isBroadcast x then { x with flying := x.flying ++ [u] } else { x with st := .inFlight, gapOpen := false }
    else x
/-- A unit found uncorrectable while it was in flight is discarded (R215). -/
def discardPoisoned (s : State) (x : GUnit) : State :=
  guardLost (keepUnits s fun y => y.arr ≠ x.arr) 13 x.src x.seq.toNat (x.poisoned.getD false)
/-- Every such unit that is in flight no more is discarded. -/
def dropPoisoned (s : State) : State :=
  (s.gran.units.filter fun x => x.poisoned.isSome && !isFlying x).foldl discardPoisoned s
/-- Lane u has the unit's credit: it is released, or leaves the lane's owed set (R195, R203). A unit found
uncorrectable while in flight is discarded now (R215). -/
def releaseUnit (s : State) (u arr : Nat) : State :=
  match unitAt s arr with
  | none => s
  | some x =>
    if isBroadcast x then
      sweepBroadcast (dropPoisoned (mapUnits s fun y =>
        if y.arr = arr then { y with owed := y.owed.erase u, flying := y.flying.erase u } else y))
    else if x.poisoned.isSome then discardPoisoned (useGranary s) x
    else keepUnits (useGranary s) fun y => y.arr ≠ arr
/-- The unit returns to ELIGIBLE with its arrival number (R194); after a lane failure a broadcast unit leaves the owed
set instead (R203). -/
def returnUnit (s : State) (u : Nat) (failed : Bool) (arr : Nat) : State :=
  sweepBroadcast (dropPoisoned (mapUnits s fun y =>
    if y.arr = arr then
      if isBroadcast y then
        { y with flying := y.flying.erase u, owed := if failed then y.owed.erase u else y.owed }
      else { y with st := .eligible }
    else y))
/-- Every unit changed by f, in the P0 hold too. -/
def mapHeld (s : State) (f : GUnit → GUnit) : State :=
  mapUnits { s with gran := { s.gran with hold := s.gran.hold.map f } } f
/-- Every broadcast unit held is owed to a lane that becomes active (R195). -/
def oweLane (s : State) (u : Nat) : State :=
  mapHeld s fun y => if isBroadcast y && !y.owed.contains u then { y with owed := y.owed ++ [u] } else y
def disownLane (s : State) (u : Nat) : State :=
  sweepBroadcast (dropPoisoned (mapHeld s fun y =>
    if isBroadcast y then { y with owed := y.owed.erase u, flying := y.flying.erase u } else y))
/-- The returns of lanes that failed or were fenced in the beat before (R203). -/
def applyReturns (s : State) : State :=
  s.gran.back.foldl (fun s e => disownLane (e.2.foldl (fun s a => returnUnit s e.1 true a) s) e.1)
    { s with gran := { s.gran with back := [] } }
/-- A couch or release that clears PRIV closes the channel's GAP marker (R199). -/
def closeGap (s : State) (c : Nat) : State :=
  let f := fun (u : GUnit) => if u.gapOpen && (u.hit.map Prod.fst) = some c then { u with gapOpen := false } else u
  { s with gran := { s.gran with units := s.gran.units.map f, hold := s.gran.hold.map f } }

/-! ## Watermarks and flow pins (R205 to R209) -/

/-- The backlog (R205). -/
def backlog (s : State) : Nat :=
  ((s.gran.units.filter fun x =>
    if isBroadcast x then x.owed.any fun u => !x.flying.contains u else x.st = .eligible).map
      fun x => x.slots.length).sum
/-- One pair from what it was at the edge before (R206), and the marks that its level crossed: level for level, so that a
change of marks alone is no crossing (R208, R209). -/
def wmFrom (p : WmPair) (prevLevel : Nat) (prevAsserted : Bool) (low high level : Nat) : WmPair :=
  let state :=
    if high ≤ level then (3, true) else if level ≤ low then (0, false)
    else if prevAsserted then (2, true) else (1, false)
  { p with st := state.1, asserted := state.2, level := level, prevLevel := prevLevel, prevAsserted := prevAsserted
           hiNow := prevLevel < high && high ≤ level, loNow := low < prevLevel && level ≤ low }
/-- One pair at a beat edge. -/
def wmEdge (p : WmPair) (low high level : Nat) : WmPair := wmFrom p p.level p.asserted low high level
/-- The present edge evaluated anew against the marks of a couch (R209). -/
def wmAgain (p : WmPair) (low high : Nat) : WmPair := wmFrom p p.prevLevel p.prevAsserted low high p.level
/-- The crossings of the edge are counted as its beat ends. -/
def wmEnd (p : WmPair) : WmPair :=
  { p with hiNow := false, loNow := false, assertedInDeckle := p.assertedInDeckle || p.asserted }
def countCross (s : State) (pair : Nat) (hi lo : Bool) : State :=
  let s := if hi then count (count s A_GR_WM_EVENTS pair 0 0 1) A_GR_WM_EVENTS pair 31 16 1 else s
  if lo then count (count s A_GR_WM_EVENTS pair 1 1 1) A_GR_WM_EVENTS pair 47 32 1 else s
/-- A pin at a beat edge: low while its pair is asserted, and for at least two beats (R207). -/
def pinEdge (up : Nat) (want : Bool) (p : FlowPin) : FlowPin :=
  if want then (if p.low then p else { low := true, since := up })
  else if p.low && up < p.since + 2 then p else { p with low := false }
def pinWanted (s : State) (code : Nat) : Bool :=
  if s.modes.cur = .held || s.modes.firstCouch then false
  else if code = 1 then s.gran.wm0.asserted else if code = 2 then s.gran.wm1.asserted else false
/-- A pin at a beat edge under map field `code`: one whose field a SET has just changed moves an edge later (R207). -/
def pinNext (s : State) (code old : Nat) (p : FlowPin) : FlowPin :=
  pinEdge s.tb.up (if code = old then pinWanted s code else p.low) p
/-- The marks of a pair. -/
def lowMark (s : State) (k : Nat) : Nat := bits (reg s A_GR_WM_PAIR k) 21 0
def highMark (s : State) (k : Nat) : Nat := bits (reg s A_GR_WM_PAIR k) 45 24
/-- What the Granary does at a beat edge: the pins follow the pairs of the edge before, the pairs take their levels. -/
def granEdge (s : State) : State :=
  let map := reg s A_GR_FLOW_MAP 0
  { s with gran := { s.gran with
      flow0 := pinNext s (bits map 1 0) (bits s.gran.flowMap 1 0) s.gran.flow0
      flow1 := pinNext s (bits map 3 2) (bits s.gran.flowMap 3 2) s.gran.flow1
      flowMap := map
      wm0 := wmEdge s.gran.wm0 (lowMark s 0) (highMark s 0) (occupied s)
      wm1 := wmEdge s.gran.wm1 (lowMark s 1) (highMark s 1) (backlog s)
      occMax := max s.gran.occMax (occupied s), bankActive := 0 } }
/-- What the Granary does as a beat ends: the crossings of its edge are counted (R208). -/
def granEnd (s : State) : State :=
  let s := countCross (countCross s 0 s.gran.wm0.hiNow s.gran.wm0.loNow) 1 s.gran.wm1.hiNow s.gran.wm1.loNow
  { s with gran := { s.gran with wm0 := wmEnd s.gran.wm0, wm1 := wmEnd s.gran.wm1 } }

/-! ## Staging (R185 to R187) -/

def entriesOf (x : Numbered) : Nat := (x.sheaf.words.length + 1) / 2
def fillEntries (k : Stook) : Nat := (k.fill.map entriesOf).sum
def drainEntries (k : Stook) : Nat := (k.drain.map entriesOf).sum - k.drained
def outqEntries (k : Stook) : Nat := (k.outq.map fun x => (x.words.length + 1) / 2).sum
/-- A full swap is due: the next sheaf of the output queue does not fit, or the bank is full (R185). -/
def fullSwapDue (k : Stook) : Bool :=
  128 ≤ fillEntries k || (match k.outq with
    | [] => false
    | x :: _ => 128 < fillEntries k + (x.words.length + 1) / 2)
/-- The banks of a stook swap when a swap is due and the draining bank is empty (R185). -/
def swapStaging (s : State) (st : Nat) : State :=
  let k := stook s st
  let deckleSwap := k.swapDue = some true || (atBoundary s && !k.fill.isEmpty)
  if !(deckleSwap || fullSwapDue k) || !k.drain.isEmpty || k.fill.isEmpty then s
  else
    let s := useGranary s
    let s := setStook s st { k with fill := [], drain := k.fill, drained := 0, fillY := !k.fillY, swapDue := none }
    if deckleSwap then count s A_GR_SWAPS st 15 0 1 else count s A_GR_SWAPS st 31 16 1

/-- The unit of this sheaf whose last entry is still to be written. -/
def isPart (x : Numbered) (u : GUnit) : Bool := u.ready = notWhole && u.src = x.sheaf.src && u.seq = x.seq
/-- Its last entry is written: it can be selected from the next beat (R186). -/
def wholeUnit (s : State) (x : Numbered) : State :=
  mapUnits s fun u => if isPart x u then { u with ready := s.tb.up + 1 } else u
/-- The draining bank writes up to `room` entries (R186); a write that must wait stops it. -/
def drainLoop : Nat → Nat → State → Nat → State
  | 0, _, s, _ => s
  | fuel + 1, st, s, room =>
    let k := stook s st
    match k.drain with
    | [] => s
    | x :: rest =>
      if room = 0 then s
      else
        let left := entriesOf x - k.drained
        let go (s : State) : State :=
          if left ≤ room then
            drainLoop fuel st (wholeUnit (setStook s st { stook s st with drain := rest, drained := 0 }) x) (room - left)
          else setStook s st { stook s st with drained := k.drained + room }
        if k.drained = 0 then
          match resolveWrite s x (if left ≤ room then s.tb.up + 1 else notWhole) with
          | none => s
          | some s => go s
        else go s
/-- One beat of the draining bank, with what the guard code found in its first sheaf (R145, R146). A sheaf that is lost takes
the transfers of its entries, and the unit that its first entries began is discarded with it (R188). -/
def drainStaging (s : State) (st : Nat) (g : Guard) : State :=
  let k := stook s st
  match k.drain, g with
  | [], _ => s
  | x :: rest, .lost unknown =>
    let s := keepUnits (setStook s st { k with drain := rest, drained := 0 }) fun u => !isPart x u
    drainLoop 5 st (guardLost s 13 x.sheaf.src x.seq.toNat unknown) (4 - (entriesOf x - k.drained))
  | x :: _, .corrected n => drainLoop 5 st (count s A_WN_GUARD x.sheaf.src 31 16 n) 4
  | _ :: _, .clean => drainLoop 5 st s 4

/-! ## Direct writers (R189, R190, R201) -/

/-- The first sheaf of each direct writer: source 12, then 13, 14, 15 (R189). -/
def directHeads (q : List Sheaf) : List Sheaf := [12, 13, 14, 15].filterMap fun k => q.find? fun x => x.src = k
/-- The next sheaf of the direct writers; while the hold is full, a writer whose next sheaf is P0 waits (R201). -/
def nextDirect (full : Bool) (q : List Sheaf) : Option Sheaf := (directHeads q).find? fun x => !(full && x.cls = 0)
def dropSheaf (x : Sheaf) : List Sheaf → List Sheaf
  | [] => []
  | y :: rest => if y = x then rest else y :: dropSheaf x rest
/-- One direct write, if the share of the deckle and the hold allow it. -/
def directWrite (s : State) (pick : List Sheaf → Option Sheaf) : State :=
  match pick s.gran.dwq with
  | none => s
  | some x =>
    let n := (x.words.length + 1) / 2
    if 2048 < s.gran.direct + n then s
    else
      let q := nextSeq s x.src
      let y : Numbered := { sheaf := { x with words := withSeq x q }, seq := BitVec.ofNat 16 q }
      match resolveWrite (bumpSeq s x.src) y (s.tb.up + 1) with
      | none => s
      | some s => { s with gran := { s.gran with dwq := dropSheaf x s.gran.dwq, direct := s.gran.direct + n } }

/-- STAGING_SWAP (R185). -/
def execStagingSwap (st : StookId) (s : State) : Res :=
  .next (if s.modes.cur = .held then s else swapStaging s st.val)

/-! ## Banks (R211) -/

def bankUsed (s : State) (b : Nat) : Bool := (usedSlots s).any fun x => x / 32768 = b
/-- The condition of a bank's power-off (R211). -/
def bankMayGo (s : State) (b : Nat) : Bool :=
  serviceMode s.modes.cur && b ≠ 0 && s.gran.powered.getLsbD b && !bankUsed s b && !s.gran.bankHeld.getLsbD b &&
    reg s A_GR_BANK_IDLE 0 ≤ pget 0 s.gran.bankIdle b && reg s A_GR_BANK_MARGIN 0 + 32768 ≤ freeGeneral s
/-- BANK_POWER_OFF (R211). -/
def execBankPowerOff (b : Fin 64) (s : State) : Res :=
  .next (if bankMayGo s b.val then
    { s with gran := { s.gran with powered := s.gran.powered &&& ~~~(BitVec.ofNat 64 (2 ^ b.val)),
                                    bankIdle := pdel s.gran.bankIdle b.val } }
  else s)
/-- Idle deckles of each bank, counted at a deckle boundary: those in which it held no unit. -/
def bankDeckle (s : State) : State :=
  let s := forNat 64 (fun b s =>
    if s.gran.powered.getLsbD b && !s.gran.bankHeld.getLsbD b then
      { s with gran := { s.gran with bankIdle := pset 0 s.gran.bankIdle b (satAdd 65535 (pget 0 s.gran.bankIdle b) 1) } }
    else { s with gran := { s.gran with bankIdle := pdel s.gran.bankIdle b } }) s
  { s with gran := { s.gran with bankHeld := bankMask (usedSlots s) } }

/-! ## Scrubbing (R213 to R215) -/

def slotCount : Nat := 2097152
/-- The first slot of a powered bank at or after slot k, and whether the search passed the last slot. -/
def scrubTarget (s : State) : Nat × Bool :=
  let b := s.gran.scrubNext / 32768
  if s.gran.powered.getLsbD b then (s.gran.scrubNext, false)
  else match (List.range 64).find? fun x => b < x && s.gran.powered.getLsbD x with
    | some x => (x * 32768, false)
    | none => (0, true)
/-- The end of a scrub pass: counted, and reported as kind 0x32 (R217). -/
def passEnd (s : State) : State :=
  let s := pushSheaf s (report 13 s.tb.beat 0x32 0 s.gran.passCorrected s.gran.passDiscarded)
  { s with gran := { s.gran with scrubPasses := satAdd (2 ^ 24 - 1) s.gran.scrubPasses 1, passCorrected := 0,
                                  passDiscarded := 0 } }
/-- A scrubbed slot takes one transfer, its rewrite a second; the scrubber has what the direct writers leave of 10 368 (R190). -/
def scrubCost (g : Guard) : Nat := if g = .clean then 1 else 2
def scrubRoom (s : State) : Nat := 10368 - s.gran.direct - s.gran.scrubUsed
/-- The scrubber owes a slot and has the transfers for it (R190, R213). -/
def scrubMay (s : State) (g : Guard) : Bool := s.gran.scrubOwed ≠ 0 && scrubCost g ≤ scrubRoom s
/-- One slot is read, corrected and rewritten; an uncorrectable word discards its unit (R213, R215). -/
def scrubOne (s : State) (g : Guard) : State :=
  let (k, wrapped) := scrubTarget s
  let s := if wrapped then passEnd s else s
  let unit := s.gran.units.find? fun u => u.slots.contains k
  let s := match g with
    | .clean => s
    | .corrected n =>
      let s := count s A_GR_SCRUB_ERRORS 0 31 16 n
      let s := { s with gran := { s.gran with passCorrected := s.gran.passCorrected + n } }
      match unit with
      | some u => count s A_WN_GUARD u.src 31 16 n
      | none => s
    | .lost unknown =>
      let s := count s A_GR_SCRUB_ERRORS 0 15 0 1
      match unit with
      | none => s
      | some u =>
        let s := { s with gran := { s.gran with passDiscarded := s.gran.passDiscarded + 1 } }
        if isFlying u then
          (mapUnits s fun x =>
              if x.arr = u.arr then { x with poisoned := some unknown } else x)
        else
          let s := (keepUnits s fun x => x.arr ≠ u.arr)
          guardLost s 13 u.src u.seq.toNat unknown
  let s := touchBanks (useGranary { s with gran := { s.gran with
    scrubOwed := s.gran.scrubOwed - 1, scrubUsed := s.gran.scrubUsed + scrubCost g } }) [k]
  if k + 1 = slotCount then passEnd { s with gran := { s.gran with scrubNext := 0 } }
  else { s with gran := { s.gran with scrubNext := k + 1 } }
/-- SCRUB_SLOT (R213): the scrubber works while the Granary interface runs, at `GR_SCRUB_CTRL.RATE` slots a deckle. -/
def execScrubSlot (g : Guard) (s : State) : Res :=
  .next (if s.modes.cur = .held || !s.gran.clock || !scrubMay s g then s else scrubOne s g)
/-- Up to n owed slots scrubbed in one deckle, with what the guard code finds in the first of them. -/
def scrubMany : Nat → List Guard → State → State
  | 0, _, s => s
  | n + 1, gs, s =>
    if scrubMay s (gs.headD .clean) then scrubMany n gs.tail (scrubOne s (gs.headD .clean)) else s
/-- A burst begins: the sleeping interface is woken (R214). -/
def burstDue (s : State) : Bool := serviceMode s.modes.cur && !s.gran.clock && 4096 ≤ s.gran.scrubSince
def beginBurst (s : State) : State :=
  if burstDue s then useGranary { s with gran := { s.gran with scrubSince := 0, bursting := true } } else s
/-- SCRUB_BURST (R214): the interface is woken at least every 4 096 deckles, and a deckle's share of the owed slots is
scrubbed; the burst goes on until none is owed. -/
def execScrubBurst (found : List Guard) (s : State) : Res :=
  let s := beginBurst s
  .next (if s.gran.bursting then
    let s := scrubMany (min s.gran.scrubOwed 10368) found s
    { s with gran := { s.gran with bursting := s.gran.scrubOwed ≠ 0 } }
  else s)

/-! ## Reports and pointer record (R216, R217) -/

/-- A period of deckles ends at this boundary; 0 disables (the phase is the deckle number's, log entry 20). -/
def periodDue (s : State) (p : Nat) : Bool := atBoundary s && p ≠ 0 && (deckle s).toNat % p = 0
/-- GRANARY_REPORT (R217): kinds 0x30 and 0x31. -/
def execGranaryReport (s : State) : Res :=
  .next (if s.modes.cur ≠ .held && periodDue s (reg s A_GR_REPORT_PERIOD 0) && fresh s 2 0 then
    let s := noteDone s 2 0
    let s := pushSheaf s (report 13 s.tb.beat 0x30 0 (occupied s) (backlog s))
    let s := s.gran.repLost.foldl (fun s e => pushSheaf s (report 13 s.tb.beat 0x31 e.1 e.2.1 e.2.2)) s
    { s with gran := { s.gran with repLost := [] } }
  else s)
/-- The pointer record of a deckle boundary (R216, R371). -/
def pointerRecord (s : State) : PtrRec where
  deckle := deckle s
  arrival := s.gran.arrivals
  heads := (List.range 4).map fun c => (s.gran.units.find? fun u => u.cls = c).map GUnit.arr
  seq14 := nextSeq s 14
/-- It is written alternately into the two places. -/
def commitPointer (s : State) : State :=
  let r := pointerRecord s
  { s with gran := { s.gran with ptrLast := !s.gran.ptrLast, ptrA := if s.gran.ptrLast then r else s.gran.ptrA,
                                 ptrB := if s.gran.ptrLast then s.gran.ptrB else r } }
/-- The later record governs. -/
def pointer (s : State) : PtrRec := if s.gran.ptrLast then s.gran.ptrB else s.gran.ptrA

/-- What the Granary does at a deckle boundary, beside its commands' rows. -/
def granDeckle (s : State) : State :=
  let s := commitPointer s
  let s := bankDeckle s
  let s := forNat 12 (fun k s => let x := stook s k
    if x.fill.isEmpty then s else setStook s k { x with swapDue := some true }) s
  let rel (p : WmPair) : WmPair :=
    { p with releasedDeckles := if p.assertedInDeckle then 0 else satAdd 65535 p.releasedDeckles 1,
             assertedInDeckle := false }
  { s with gran := { s.gran with
      direct := 0
      scrubUsed := 0
      wm0 := rel s.gran.wm0
      wm1 := rel s.gran.wm1
      idle := if s.gran.busy then 0 else satAdd 65535 s.gran.idle 1
      busy := false
      scrubOwed := s.gran.scrubOwed + bits (reg s A_GR_SCRUB_CTRL 0) 7 0
      scrubSince := s.gran.scrubSince + 1 } }

end Sys2Proof.Machine
end

