-- ==== Sys2Proof/Machine/Links.lean ====
section
/-!
DEFINITION. Merge schedule and Efyel links (chapter 7): lane states, negotiation and training, schedule entries, quires,
credits and rewinds, downlanes, the embedded control channel, link reports.
-/
namespace Sys2Proof.Machine

/-! ## Lanes (R226 to R228) -/

def laneCode : LState → Nat
  | .off => 0 | .negotiating => 1 | .training => 2 | .active => 3 | .draining => 4 | .sleep => 5 | .failed => 6
  | .fenced => 7
/-- The lane plan; UL3 is outside it while it carries the NL64 configuration (R242). -/
def planned (s : State) (u : Nat) : Bool := bitAt (reg s A_LK_UL_CONFIG u) 0 && !(u = 3 && s.nl.active)
def ulGenLo (s : State) (u : Nat) : Nat := bits (reg s A_LK_UL_CONFIG u) 3 2
def ulGenHi (s : State) (u : Nat) : Nat := bits (reg s A_LK_UL_CONFIG u) 5 4
def formatMax (s : State) (u : Nat) : Nat := bits (reg s A_LK_UL_CONFIG u) 11 8
/-- A lane enters a state; every change is reported (kind 0x42, R243). -/
def enterLane (s : State) (u : Nat) (st : LState) (x : Uplane) : State :=
  let s := setLane s u { x with st := st, since := s.tb.dk }
  pushSheaf s (report 14 s.tb.beat 0x42 u (laneCode st) x.gen)
/-- Units of the lane's quires and of its open quire. -/
def laneUnits (x : Uplane) : List Nat := x.closed.flatMap Quire.units ++ x.opn
def inFlight (x : Uplane) : Bool := !(laneUnits x).isEmpty
/-- The lane's quires are emptied; their units return to ELIGIBLE (R194). -/
def emptyQuires (s : State) (u : Nat) : State :=
  let x := lane s u
  let n := (laneUnits x).length
  count (setLane s u { x with opn := [], opnSlots := 0, closeDue := false, closed := [], repUnits := x.repUnits + n })
    A_LK_REWINDS u 63 32 n
/-- Every unit of the lane returns to ELIGIBLE at once: a rewind. -/
def returnUnits (s : State) (u : Nat) : State :=
  (laneUnits (lane s u)).foldl (fun s a => returnUnit s u false a) (emptyQuires s u)
/-- Every unit of the lane returns at the start of the next beat: a failure or fence (R203, R228). -/
def returnLater (s : State) (u : Nat) : State :=
  let l := laneUnits (lane s u)
  let s := emptyQuires s u
  { s with gran := { s.gran with back := s.gran.back ++ [(u, l)] } }
/-- A lane fails (R228): ctx is the context code of LANE_FAIL. -/
def failLane (s : State) (u ctx : Nat) : State :=
  let s := count (returnLater s u) A_LK_UL_ERRORS u 31 16 1
  let x := lane s u
  let s := enterLane s u .failed { x with drain := none, trainEnd := none, confirmed := none, idleSet := 0, line := [],
                                          repRewinds := x.repRewinds + 1 }
  raise s 32 u ctx
/-- NEGOTIATING, at Gen1 (R224); OFF when the lane is not planned. -/
def negotiate (s : State) (u : Nat) : State :=
  let x := lane s u
  let y := { x with gen := if planned s u then 1 else 0, drain := none, trainEnd := none, confirmed := none,
                    negotiated := false, idleSet := if planned s u then 1 else 0, line := [] }
  levelEnd (enterLane s u (if planned s u then .negotiating else .off) y) 44 u
/-- TRAINING at a generation, from the next whole deckle; /R/ 16 times before it when `mark` (R225, R235). -/
def startTraining (s : State) (u gen : Nat) (mark : Bool) : State :=
  let s := enterLane s u .training { lane s u with gen := gen, drain := none, trainEnd := none, confirmed := none,
                                                   idleSet := 1, lastSet := if mark then 4 else 0 }
  if atBoundary s then s else setLane s u { lane s u with since := s.tb.dk + 1 }
def startDraining (s : State) (u : Nat) (d : Drain) : State :=
  enterLane s u .draining { lane s u with drain := some d }
/-- An uplane enters ACTIVE: every broadcast unit held is owed to it (R195). -/
def activate (s : State) (u : Nat) : State :=
  oweLane (enterLane s u .active { lane s u with drain := none, trainEnd := none, confirmed := none, idleSet := 1 }) u
/-- A fence of an uplane (R228, R361), and its release. -/
def fenceLane (s : State) (u : Nat) : State :=
  let s := returnLater s u
  enterLane s u .fenced { lane s u with drain := none, trainEnd := none, confirmed := none, idleSet := 0, line := [] }

/-- The subset of ACTIVE uplanes becomes the variant in force; a change writes a CONTROL sheaf (R231). -/
def chooseVariant (s : State) : State :=
  let v := ((activeLanes s).map fun u => 2 ^ u).sum
  if v = s.mg.variant.toNat then s else
    let x := oneSlot 9 0 14 s.tb.beat (3 * 2 ^ 56 + v * 2 ^ 52)
    let q := s.gran.dwq.filter fun y => !(y.words.head? = x.words.head? &&
      bits ((y.words.getD 1 0).toNat) 63 56 = 3 && sheafType y = 9)
    let s := { s with mg := { s.mg with variant := BitVec.ofNat 4 v, variantDeckle := deckle s }
                      gran := { s.gran with dwq := q } }
    pushSheaf s x
/-- The variant is chosen at the first beat of a deckle, after the changes of that boundary. -/
def variantAtBoundary (s : State) : State :=
  if atBoundary s && s.modes.cur ≠ .held then chooseVariant s else s

/-! ## Downlanes and frames (R222, R240, R242) -/

def dlEnabled (s : State) (d : Nat) : Bool := bitAt (reg s A_LK_DL_CONFIG d) 0
/-- A frame on this downlane is received: the receiver is locked; in HELD only DL0 (R242, Table 14.1). -/
def dlReceives (s : State) (d : Nat) : Bool :=
  powered s && (dlane s d).locked && (if s.modes.cur = .held then d = 0 else dlEnabled s d)
/-- A frame's bytes with their CRC-32 (R222). -/
def frame (body : List Byte) : List Byte := body ++ toBytes 4 (crc32 body)
/-- The bytes from FTYPE to the last body byte, if the CRC-32 holds. -/
def frameBody (bs : List Byte) : Option (List Byte) :=
  let n := bs.length - 4
  if 5 ≤ bs.length && ofBytes (bs.drop n) = crc32 (bs.take n) then some (bs.take n) else none
def dlDiscard (s : State) (d : Nat) : State := count s A_LK_DL_ERRORS d 15 0 1
/-- A CREDIT or AGG_ANNOUNCE frame: its 64 bits, if it is whole (R222). -/
def frame64 (ftype : Nat) (bs : List Byte) : Option Nat :=
  match frameBody bs with
  | some b => if b.length = 8 && (b.headD 0).toNat = ftype then some (ofBytes b) else none
  | none => none

/-- DOWNLANE_LOCK (R242). -/
def execDownlaneLock (d : DlId) (s : State) : Res :=
  atPads s (if powered s then
    levelEnd (setDlane s d.val { locked := true, lost := false }) 33 d.val else s)
/-- The downlane is without lock for a deckle (R242). -/
def loseDownlane (s : State) (d : Nat) : State :=
  if (dlane s d).lost then s else
    let s := count (setDlane s d { locked := false, lost := true }) A_LK_DL_ERRORS d 47 32 1
    if dlEnabled s d || (s.modes.cur = .held && d = 0) then levelBegin s 33 d 0 else s
/-- DOWNLANE_LOCK_LOSS (R242). -/
def execDownlaneLockLoss (d : DlId) (s : State) : Res :=
  atPads s (if powered s then loseDownlane s d.val else s)

/-! ## Negotiation and training (R224 to R226) -/

/-- The lowest AGG_PROTO over negotiated planned uplanes; 0 if none (R226). -/
def aggProtoMin (s : State) : Nat :=
  let l := (List.range 4).filter fun u => planned s u && (lane s u).negotiated
  match l.map fun u => (lane s u).aggProto with
  | [] => 0
  | x :: rest => rest.foldl min x
/-- The DEVICE_ANNOUNCE frame (Table 7.8). -/
def announceFrame (s : State) (u : Nat) : List Byte :=
  frame (toBytes 8 (0x40 * 2 ^ 56 + u * 2 ^ 54 + ulGenHi s u * 2 ^ 52 + formatMax s u * 2 ^ 48 + Config.devProto * 2 ^ 40 +
    bits s.pwr.straps.toNat 6 3 * 2 ^ 36) ++ toBytes 8 s.cal.identity.toNat)
/-- A valid answer takes the lane to TRAINING (R224 to R226). -/
def takeAnnounce (s : State) (u v : Nat) : State :=
  let gen := bits v 53 52
  let fmt := bits v 51 48
  let ring := bits v 39 35
  if gen = 0 || ulGenHi s u < gen || formatMax s u < fmt || fmt < 2 || ring < 4 || 16 < ring then
    count s A_LK_UL_ERRORS u 47 32 1
  else
    let hi := min (ulGenHi s u) gen
    let lo := min (ulGenLo s u) hi
    let x := lane s u
    let cred := BitVec.ofNat 32 (bits v 31 0)
    let rwg := BitVec.ofNat 2 (bits v 34 33)
    let s := setLane s u { x with
      negGen := gen, effHi := hi, effLo := lo, fmt := fmt, ringLog2 := ring, cred := cred, qnum := cred,
      rwg := rwg + 1, prevRwg := some rwg, aggProto := bits v 47 40, negotiated := true }
    let s := if hi < ulGenHi s u || lo < ulGenLo s u then levelBegin s 44 u hi else levelEnd s 44 u
    startTraining s u (if serviceMode s.modes.cur then lo else hi) true
/-- AGG_ANNOUNCE_FRAME (R224). -/
def execAggAnnounceFrame (d : DlId) (bytes : List Byte) (s : State) : Res :=
  atPads s (if !dlReceives s d.val then s
    else match frame64 0x45 bytes with
      | none => dlDiscard s d.val
      | some v =>
        let u := bits v 55 54
        if (lane s u).st = .negotiating && !s.barns.takeover.isSome then takeAnnounce s u v else s)
/-- A limit of R225 or R228 has run out; both are paused during a take-over (R377). -/
def ranOut (s : State) (start n : Nat) : Bool := start + n ≤ s.tb.dk && !s.barns.takeover.isSome
/-- NEGOTIATION_TIMEOUT (R224). -/
def execNegotiationTimeout (u : Lane) (s : State) : Res :=
  let x := lane s u.val
  .next (if x.st = .negotiating && x.since + 4000 ≤ s.tb.dk then failLane s u.val 4 else s)
/-- TRAINING_END (R225). -/
def execTrainingEnd (u : Lane) (s : State) : Res :=
  let x := lane s u.val
  .next (if x.st = .training && x.trainEnd.isNone && ranOut s x.since (bits (reg s A_LK_TRAIN_DECKLES 0) 3 0) then
    setLane s u.val { x with trainEnd := some s.tb.dk, idleSet := 1 } else s)
/-- LANE_ACTIVATE (R225): at the first deckle boundary after the confirming frame. -/
def execLaneActivate (u : Lane) (s : State) : Res :=
  let x := lane s u.val
  .next (match x.confirmed with
    | some b =>
      if x.st = .training && atBoundary s && b < s.tb.up then variantAtBoundary (activate s u.val) else s
    | none => s)
/-- TRAINING_CONFIRM_TIMEOUT (R225). -/
def execTrainingConfirmTimeout (u : Lane) (s : State) : Res :=
  let x := lane s u.val
  .next (match x.trainEnd with
    | some e => if x.st = .training && x.confirmed.isNone && ranOut s e 40 then failLane s u.val 4 else s
    | none => s)
/-- CREDIT_TIMEOUT (R228); it does not run in RECOVERY (R239). -/
def execCreditTimeout (u : Lane) (s : State) : Res :=
  let x := lane s u.val
  .next (if (x.st = .active || x.st = .draining) && inFlight x && s.modes.cur ≠ .recovery &&
      ((dlane s 0).locked || (dlane s 1).locked) && ranOut s x.credAt (bits (reg s A_LK_CREDIT_TIMEOUT 0) 15 0) then
    variantAtBoundary (failLane s u.val 3) else s)
/-- LANE_TRANSMITTER_FAULT (R228), of a lane that is planned and not yet failed or fenced. -/
def execLaneTransmitterFault (u : Lane) (s : State) : Res :=
  let st := (lane s u.val).st
  .next (if st = .off || st = .failed || st = .fenced then s else failLane s u.val 2)
/-- LANE_FAILED_RETRY (R227). -/
def execLaneFailedRetry (u : Lane) (s : State) : Res :=
  let x := lane s u.val
  .next (if x.st = .failed && x.since + 40000 ≤ s.tb.dk then negotiate s u.val else s)

/-! ## Merge schedule and quires (R229, R230) -/

def quireCap (x : Uplane) : Nat := if x.fmt = 3 then 64 else 32
/-- The open quire closes and takes QNUM, DECKLE and QUALITY. -/
def closeQuire (s : State) (u : Nat) : State :=
  let x := lane s u
  if x.opn.isEmpty then setLane s u { x with closeDue := false } else
    let q : Quire := { units := x.opn, slots := x.opnSlots, qnum := x.qnum, deckle := deckle s, quality := s.tb.quality,
                       owner := s.barns.owner, sent := false }
    setLane s u { x with opn := [], opnSlots := 0, closeDue := false, closed := x.closed ++ [q], qnum := x.qnum + 1 }
/-- The source that a stage writes GUARD_LOSS as: the Barns' buffers and the quire builder, or the Granary (Table 4.11). -/
def finderOf (builder : Bool) : Nat := if builder then 14 else 13
/-- A unit that lane u has just taken has an uncorrectable word: it is discarded (R146). A broadcast unit that is in flight on
another lane too goes when it is released there (R215). -/
def discardRead (s : State) (u : Nat) (x : GUnit) (builder unknown : Bool) : State :=
  if x.flying.any fun v => v ≠ u then
    mapUnits s fun y => if y.arr = x.arr then { y with poisoned := some unknown, flying := y.flying.erase u } else y
  else guardLost (keepUnits s fun y => y.arr ≠ x.arr) (finderOf builder) x.src x.seq.toNat unknown
/-- Units move into the lane's open quire while the room lasts; what was moved, in slots. `g` is what was found in the first
of them. -/
def mergeLoop : Nat → Nat → Nat → Nat → Nat → Guard → Bool → State → Nat × State
  | 0, _, _, _, moved, _, _, s => (moved, s)
  | fuel + 1, u, scope, room, moved, g, builder, s =>
    match selectUnit s u scope with
    | none => (moved, s)
    | some x =>
      let n := x.slots.length
      if room < n || n = 0 then (moved, s)
      else
        let l := lane s u
        let full := quireCap l < l.opnSlots + n
        if full && 4 ≤ l.closed.length then (moved, s)
        else
          let s := if full then closeQuire s u else s
          let s := takeUnit s u x.arr
          let s := match g with
            | .corrected words => count s A_WN_GUARD x.src 31 16 words
            | _ => s
          match g with
          | .lost unknown =>
            mergeLoop fuel u scope (room - n) (moved + n) .clean builder (discardRead s u x builder unknown)
          | _ =>
            let l := lane s u
            mergeLoop fuel u scope (room - n) (moved + n) .clean builder
              (setLane s u { l with opn := l.opn ++ [x.arr], opnSlots := l.opnSlots + n })
/-- The merge engine works: not in HELD, RECOVERY or a take-over (R239, R377). -/
def merging (s : State) : Bool :=
  s.modes.cur ≠ .held && s.modes.cur ≠ .recovery && !s.barns.takeover.isSome
/-- A RESUME marker is still to be written (R27, R238). Behind a hold that nothing can leave it does not stop the drain that
frees the hold: DESIGN CHOICE, log entry 29. -/
def resumeWaits (s : State) : Bool := (s.gran.dwq.any fun x => sheafType x = 8) && !holdFull s
/-- Drain selections are made: after an owner change or a return not before the RESUME marker (R27, R238). -/
def selecting (s : State) : Bool := merging s && !resumeWaits s
/-- One valid entry for an ACTIVE lane. -/
def mergeEntry (s : State) (u scope : Nat) (g : Guard) (builder : Bool) : State :=
  if 4 ≤ (lane s u).closed.length then count s A_MG_SKIPS u 63 32 1
  else
    let (moved, s) := mergeLoop 6 u scope 5 0 g builder s
    if moved = 0 then count s A_MG_SKIPS u 31 0 1 else s
/-- MERGE_SCHEDULE_ENTRY (R229): entry k of the variant in force, in its beat k div 4 of the deckle. -/
def execMergeScheduleEntry (k : BitVec 12) (found : Guard) (builder : Bool) (s : State) : Res :=
  let v := s.mg.variant.toNat
  let e := (pget 0 s.mg.sched ((v - 1) * 4096 + k.toNat)).toNat
  let kind := 8 + k.toNat / 512
  .next (if selecting s && v ≠ 0 && s.tb.beat.toNat % 1024 = k.toNat / 4 && fresh s kind (k.toNat % 512) && bitAt e 7 &&
      (lane s (bits e 6 5)).st = .active then
    mergeEntry (noteDone s kind (k.toNat % 512)) (bits e 6 5) (reg s A_MG_SCOPE (bits e 4 0)) found builder
  else s)
/-- The one request of each beat for a DRAINING lane, with an empty scope (R235). -/
def drainRequests (s : State) : State :=
  forNat 4 (fun u s =>
    if selecting s && (lane s u).st = .draining then (mergeLoop 1 u 0 5 0 .clean false s).2 else s) s
/-- They are made before the first write of the beat, at its end at the latest (R192). -/
def settleRequests (s : State) : State :=
  if s.gran.reqUp = s.tb.up then s else drainRequests { s with gran := { s.gran with reqUp := s.tb.up } }

/-- A closing is due (R230). -/
def closingDue (s : State) (x : Uplane) : Bool :=
  !x.opn.isEmpty && (x.closeDue || quireCap x ≤ x.opnSlots || s.tb.beat.toNat % 1024 = 1023)
/-- QUIRE_CLOSE (R230): waits while four quires are closed. -/
def execQuireClose (u : Lane) (s : State) : Res :=
  let s := settleRequests s
  let x := lane s u.val
  .next (if merging s && closingDue s x then
    if 4 ≤ x.closed.length then setLane s u.val { x with closeDue := true } else closeQuire s u.val
  else s)

/-- The uplane on which a message leaves (R241); in HELD the held responder's UL0. -/
def lowestLane (s : State) (l : List LState) : Option Nat := (List.range 4).find? fun u => l.contains (lane s u).st
def messageLane (s : State) (m : Msg) : Option Nat :=
  if s.modes.cur = .held then some 0
  else if m.unsolicited then lowestLane s [.active]
  else
    let own := match m.origin with
      | some .dl0 => some 0
      | some .dl1 => some 1
      | _ => none
    match own with
    | some u => if (lane s u).st = .active then some u else lowestLane s [.active, .draining]
    | none => lowestLane s [.active, .draining]
def pendingReply (s : State) (u : Nat) : Option Msg := s.cmd.laneQ.find? fun m => messageLane s m = some u
def dropMsg (m : Msg) : List Msg → List Msg
  | [] => []
  | x :: rest => if x = m then rest else x :: dropMsg m rest
/-- A COMMAND or REPLY frame of a packet (R240). -/
def packetFrame (ftype : Nat) (packet : List Byte) : List Byte :=
  frame (BitVec.ofNat 8 ftype :: 0 :: toBytes 2 packet.length ++ packet)
/-- REPLY_FRAME_SEND (R241). -/
def execReplyFrameSend (u : Lane) (s : State) : Res :=
  .next (match pendingReply s u.val with
    | none => s
    | some m =>
      if s.barns.takeover.isSome || !powered s then s else
        let s := { s with cmd := { s.cmd with laneQ := dropMsg m s.cmd.laneQ } }
        let s := setLane s u.val { lane s u.val with line := packetFrame 0x41 (msgBytes m) }
        match m.origin with
        | some p =>
          let s := count s A_CMD_PORT_COUNT (portCode p) 63 32 1
          if portCode p < 2 then count s A_LK_CTRL_COUNT (portCode p) 63 32 1 else s
        | none => s)

/-- The quire's bytes (Table 7.6). -/
def quireBytes (s : State) (u : Nat) (q : Quire) : List Byte :=
  let x := lane s u
  let units := s.gran.units.filter fun y => q.units.contains y.arr
  let ordered := q.units.filterMap fun a => units.find? fun y => y.arr = a
  let f3 := x.fmt = 3
  let h0 := x.fmt * 2 ^ 56 + u * 2 ^ 54 + x.gen * 2 ^ 52 + q.quality * 2 ^ 49 + barnCode q.owner * 2 ^ 48 +
    q.slots * 2 ^ 41 + (if f3 then s.mg.variant.toNat * 2 ^ 37 else 0) +
    bnat (ordered.any fun y => !y.sentOn.isEmpty) * 2 ^ 36 + x.rwg.toNat * 2 ^ 34 + q.qnum.toNat
  let h1 := q.qnum.toNat % 2 ^ x.ringLog2 * 2 ^ 48 + (if f3 then q.deckle.toNat else 0)
  frame (toBytes 8 h0 ++ toBytes 8 h1 ++ (ordered.flatMap fun y => y.words.flatMap fun w => toBytes 8 w.toNat))
/-- The quire is inside the ring window (R230). -/
def windowAllows (x : Uplane) (q : Quire) : Bool := (q.qnum - x.cred).toNat < 2 ^ x.ringLog2
def markSent (q : BitVec 32) : List Quire → List Quire
  | [] => []
  | x :: rest => if x.qnum = q then { x with sent := true } :: rest else x :: markSent q rest
/-- QUIRE_SEND (R230): the oldest closed quire not yet sent; a REPLY frame goes first (R241). -/
def execQuireSend (u : Lane) (s : State) : Res :=
  let x := lane s u.val
  .next (match x.closed.find? fun q => !q.sent with
    | none => s
    | some q =>
      if merging s && (x.st = .active || x.st = .draining) && windowAllows x q && (pendingReply s u.val).isNone then
        let line := quireBytes s u.val q
        let s := setLane s u.val { x with closed := markSent q.qnum x.closed, line := line,
                                          repSlots := x.repSlots + q.slots, repQuires := x.repQuires + 1 }
        let s := mapUnits s fun y =>
          if q.units.contains y.arr && !y.sentOn.contains u.val then { y with sentOn := y.sentOn ++ [u.val] } else y
        count (count s A_LK_TRAFFIC u.val 31 0 q.slots) A_LK_TRAFFIC u.val 63 32 1
      else s)

/-! ## Credits (R234) -/

/-- A rewind of the lane to `c` (R234 item 4, R238). -/
def rewindLane (s : State) (u : Nat) (c : BitVec 32) (rwg : BitVec 2) (prev : Option (BitVec 2)) : State :=
  let s := returnUnits s u
  let x := lane s u
  setLane s u { x with qnum := c, rwg := rwg, prevRwg := prev, repRewinds := x.repRewinds + 1 }
/-- The quires below `c` are credited (R234 item 3). -/
def creditTo (s : State) (u : Nat) (c : BitVec 32) : State :=
  let x := lane s u
  let n := (c - x.cred).toNat
  let done := x.closed.filter fun q => (q.qnum - x.cred).toNat < n
  let s := setLane s u { x with cred := c, closed := x.closed.filter fun q => !((q.qnum - x.cred).toNat < n) }
  (done.flatMap Quire.units).foldl (fun s a => releaseUnit s u a) s
def ignoreCredit (s : State) (u : Nat) : State := count s A_LK_UL_ERRORS u 15 0 1
/-- A CREDIT frame for an ACTIVE or DRAINING lane (R234). -/
def creditLane (s : State) (u v : Nat) : State :=
  let x := lane s u
  let rw := bitAt v 53
  let r := BitVec.ofNat 2 (bits v 51 50)
  let c := BitVec.ofNat 32 (bits v 31 0)
  let s := setLane s u { x with credAt := s.tb.dk }
  let accepted := r = x.rwg || (rw && r = x.rwg + 1) || x.prevRwg = some r
  if !accepted then ignoreCredit s u
  else
    let s := if r = x.rwg && !rw then setLane s u { lane s u with prevRwg := none } else s
    if (x.qnum - x.cred).toNat < (c - x.cred).toNat then ignoreCredit s u
    else
      let s := creditTo s u c
      if rw && r = x.rwg + 1 then
        count (rewindLane s u c r (some x.rwg)) A_LK_REWINDS u 15 0 1
      else if rw && x.prevRwg.isSome && r = x.rwg then
        count (rewindLane s u c r x.prevRwg) A_LK_REWINDS u 15 0 1
      else s
/-- A whole CREDIT frame (R225, R228, R234). Credits of a take-over are not applied (R381). -/
def takeCredit (s : State) (v : Nat) : State :=
  let u := bits v 55 54
  let x := lane s u
  let down := bitAt v 52
  if s.barns.takeover.isSome then s
  else match x.st with
    | .training =>
      if x.trainEnd.isSome && !down && x.confirmed.isNone then
        setLane s u { x with confirmed := some s.tb.up, credAt := s.tb.dk }
      else s
    | .active | .draining =>
      let s := creditLane (wakeGranary s) u v
      if down then failLane s u 1 else s
    | _ => s
/-- CREDIT_FRAME. -/
def execCreditFrame (d : DlId) (bytes : List Byte) (s : State) : Res :=
  atPads s (if !dlReceives s d.val then s
    else match frame64 0x42 bytes with
      | none => dlDiscard s d.val
      | some v => if s.modes.cur = .held then s else takeCredit s v)

/-! ## Sleep, wake and change of generation (R235 to R237) -/

/-- UL0's drain to its low generation, and the sleep of the others, at a boundary of the service modes (R235). -/
def sleepLanes (s : State) : State :=
  if bits (reg s A_LK_SLEEP_DECKLES 0) 15 0 ≤ s.gran.wm1.releasedDeckles && !s.gran.wm1.asserted then
    let x := lane s 0
    let s := if x.st = .active && x.effLo < x.gen then startDraining s 0 (.gen x.effLo) else s
    let x := lane s 0
    if x.st = .active && x.gen = x.effLo then
      forNat 3 (fun k s => if (lane s (k + 1)).st = .active then startDraining s (k + 1) .sleep else s) s
    else s
  else s
/-- LANE_SLEEP_ENTRY (R235). -/
def execLaneSleepEntry (s : State) : Res :=
  .next (if atBoundary s && serviceMode s.modes.cur then variantAtBoundary (sleepLanes s) else s)
/-- The wake of R235, at a boundary of the service modes. -/
def wakeLanes (s : State) : State :=
  if !s.gran.wm1.asserted then s else
    let s := forNat 4 (fun u s =>
      if planned s u && (lane s u).st = .sleep then startTraining s u (lane s u).effHi false else s) s
    let x := lane s 0
    let others := (List.range 4).filter fun u => u ≠ 0 && planned s u
    if x.st = .active && x.gen < x.effHi &&
        (others.isEmpty || others.any fun u => (lane s u).st = .active) then startDraining s 0 (.gen x.effHi)
    else s
/-- DRAIN_COMPLETE (R235): nothing in flight and no broadcast unit owed. -/
def execDrainComplete (u : Lane) (s : State) : Res :=
  let x := lane s u.val
  let owes := s.gran.units.any fun y => isBroadcast y && y.owed.contains u.val
  .next (if x.st = .draining && !inFlight x && !owes && !s.barns.takeover.isSome then
    match x.drain with
    | some .sleep => enterLane s u.val .sleep { x with drain := none, idleSet := 0, lastSet := 3, line := [] }
    | some (.gen g) => startTraining s u.val g true
    | _ => negotiate s u.val
  else s)
/-- Entry into START-UP, CALIBRATION & TEST or RECOVERY (R237); the variant is that of the lanes ACTIVE then (R231). -/
def lanesAllOn (s : State) (recovery : Bool) : State :=
  variantAtBoundary <| forNat 4 (fun u s =>
    let x := lane s u
    match x.st with
    | .sleep => startTraining s u x.effHi false
    | .draining =>
      match x.drain with
      | some .sleep => activate s u
      | some (.gen g) => if g < x.gen || recovery then activate s u else s
      | _ => s
    | _ => s) s
/-- An ACTIVE lane below its effective high generation changes to it in START-UP and CALIBRATION & TEST (R237). -/
def raiseLanes (s : State) : State :=
  forNat 4 (fun u s =>
    let x := lane s u
    if x.st = .active && x.gen < x.effHi then startDraining s u (.gen x.effHi) else s) s
/-- A new lane plan at a couch or SET (Table 10.7). -/
def replanLane (s : State) (u : Nat) : State :=
  let x := lane s u
  match x.st with
  | .active => startDraining s u .plan
  | .draining => setLane s u { x with drain := some .plan }
  | .negotiating => negotiate s u
  | .training => negotiate s u
  | .sleep => negotiate s u
  | .off => if planned s u then negotiate s u else s
  | .failed => if planned s u then s else negotiate s u
  | .fenced => s
/-- The lane part of a deckle boundary: announces, closings, wakes and changes of generation, the variant. -/
def lanesDeckle (s : State) : State :=
  if s.modes.cur = .held then s else
    let s := forNat 4 (fun u s =>
      let x := lane s u
      let s := if x.st = .negotiating then setLane s u { x with line := announceFrame s u } else s
      let x := lane s u
      if x.opn.isEmpty || s.modes.cur = .recovery then s else setLane s u { x with closeDue := true }) s
    let s := if serviceMode s.modes.cur then wakeLanes s
      else if s.modes.cur = .recovery then s else raiseLanes s
    variantAtBoundary s

/-! ## Owner changes and reports (R238, R243) -/

/-- The new owner rewinds every ACTIVE and DRAINING uplane by itself (R238). -/
def ownerRewind (s : State) : State :=
  forNat 4 (fun u s =>
    let x := lane s u
    if x.st = .active || x.st = .draining then
      count (rewindLane s u x.cred (x.rwg + 1) (some x.rwg)) A_LK_REWINDS u 31 16 1
    else s) s
/-- Every planned uplane renegotiates after a cold start (R239). -/
def renegotiateAll (s : State) : State :=
  forNat 4 (fun u s =>
    if planned s u && (lane s u).st ≠ .fenced then negotiate (returnUnits s u) u else s) s
/-- A limit that began at boundary b and was paused in the last n deckles moves on. -/
def movedOn (s : State) (n b : Nat) : Nat := b + min n (s.tb.dk - b)
/-- The credit timeout was paused in the last n deckles: a take-over or RECOVERY (R239, R377). -/
def pauseCredit (s : State) (n : Nat) : State :=
  forNat 4 (fun u s => setLane s u { lane s u with credAt := movedOn s n (lane s u).credAt }) s
/-- So were the limits of R225: a take-over (R377). -/
def pauseTraining (s : State) (n : Nat) : State :=
  forNat 4 (fun u s =>
    let x := lane s u
    setLane s u { x with trainEnd := x.trainEnd.map (movedOn s n)
                         since := if x.st = .training then movedOn s n x.since else x.since }) s

/-- LINK_REPORT (R243): kinds 0x40 and 0x41 of each planned uplane. -/
def execLinkReport (s : State) : Res :=
  .next (if s.modes.cur ≠ .held && periodDue s (reg s A_LK_REPORT_PERIOD 0) && fresh s 3 0 then
    forNat 4 (fun u s =>
      if planned s u then
        let x := lane s u
        let s := pushSheaf s (report 14 s.tb.beat 0x40 u x.repSlots x.repQuires)
        let s := pushSheaf s (report 14 s.tb.beat 0x41 u x.repUnits x.repRewinds)
        setLane s u { x with repSlots := 0, repQuires := 0, repUnits := 0, repRewinds := 0 }
      else s) (noteDone s 3 0)
  else s)

end Sys2Proof.Machine
end

