-- ==== Sys2Proof/Machine/CalValues.lean ====
section
/-!
DEFINITION. The calibrated values (Table 9.1): where each lies in the Seed Store layout (Tables 9.4 to 9.6), the
accepted value, and the value in force, which is the slewing one while it slews (R284).
-/
namespace Sys2Proof.Machine

/-- Number of a calibrated value in the table of slews: quantity, unit, element. -/
def calNo (q u e : Nat) : Nat := q * 2 ^ 20 + u * 2 ^ 10 + e

/-- Offset in the bank, bytes and signedness of element e of quantity q of unit u (Tables 9.4 and 9.6). Elements: SAR
offset 0, 1 the cells and 2, 3 their COMPSEL; INL cell * 64 + segment and 128, 129 CAPSEL; skew 0, 1 unfused and 2, 3
fused trims; TDC edges 0 to 15, widths 16 to 51 and 52 the cell map; delays 1 to 3 beside the offset 0; monitor
reference 0 and 1 CAPSEL. -/
def calField (q u e : Nat) : Option (Nat × Nat × Bool) :=
  let sar := fun (j : Nat) => 0x440 + 80 * (2 * u + j)
  let tdc := 0x7C40 + 96 * u
  match q with
  | 0 => if e < 2 then some (sar e, 2, true) else if e < 4 then some (sar (e - 2) + 69, 1, false) else none
  | 1 => if e < 2 then some (sar e + 2, 2, true) else none
  | 2 => if e < 128 then some (sar (e / 64) + 4 + e % 64, 1, true)
         else if e < 130 then some (sar (e - 128) + 68, 1, false) else none
  | 3 => if e < 6 then some (0xC440 + 16 * u + 2 * e, 2, true) else none
  | 4 => if e < 2 then some (sar e + 70, 2, true) else if e < 4 then some (sar (e - 2) + 75, 2, true) else none
  | 5 => if e = 0 then some (0xC440 + 16 * u + 12, 1, true) else none
  | 6 => if e = 0 then some (tdc, 2, true) else none
  | 7 => if e < 16 then some (tdc + 12 + 2 * e, 2, false)
         else if e < 52 then some (tdc + 44 + (e - 16), 1, false)
         else if e = 52 then some (tdc + 80, 5, false) else none
  | 8 => if e = 0 then some (tdc + 2, 2, true) else if e < 4 then some (tdc + 4 + 2 * e, 2, false) else none
  | 9 => if e = 0 then some (tdc + 4, 2, true) else none
  | 10 => if e = 0 then some (0xD040 + 32 * u, 4, true) else none
  | 11 => if e = 0 then some (0xD040 + 32 * u + 4, 4, true)
          else if e = 1 then some (0xD040 + 32 * u + 8, 1, false) else none
  | 12 => if e < 4 then some (0xD140 + 16 * u + 2 * e, 2, true) else none
  | _ => none
/-- Where the residuals and flags of a channel and a converter lie: SAR, TDC, monitor. -/
def sarResidualAt (c j : Nat) : Nat := 0x440 + 80 * (2 * c + j) + 72
def sarFlagsAt (c j : Nat) : Nat := 0x440 + 80 * (2 * c + j) + 74
def tdcResidualAt (c : Nat) : Nat := 0x7C40 + 96 * c + 85
def tdcFlagsAt (c : Nat) : Nat := 0x7C40 + 96 * c + 87
def pgaFlagsAt (c : Nat) : Nat := 0xC440 + 16 * c + 13
def monResidualAt (k : Nat) : Nat := 0xD040 + 32 * k + 9

/-- A field of n bytes as the number it stands for. The threshold trim is the low six bits of its byte. -/
def fieldValue (q : Nat) (n : Nat) (signed : Bool) (v : Nat) : Int :=
  if q = 5 then sx 6 v else if signed then sx (8 * n) v else v

/-- The value in an image of the Seed Store layout. -/
def imageValue (m : Memory) (q u e : Nat) : Int :=
  match calField q u e with
  | some (a, n, sg) => fieldValue q n sg (memNat 0 m a n)
  | none => 0
def imageSet (m : Memory) (q u e : Nat) (v : Int) : Memory :=
  match calField q u e with
  | some (a, n, _) => memWrites 0 m a (toBytes n (if q = 5 then toField 6 v else toField (8 * n) v))
  | none => m

/-- How many slewing units one unit of a value's field holds: the phase edges are stored in 1/16 and slewed in 1/128 fine tick
(Tables 9.1 and 9.6). -/
def slewScale (q e : Nat) : Int := if q = 7 && e < 16 then 8 else 1
/-- One unit of the quantity in slewing units: a reference gain is stored in 2^-30 and slewed by 1 ppm (Tables 9.1 and 9.6). -/
def slewUnit (q e : Nat) : Nat := if q = 11 && e = 0 then 1074 else 1
/-- The value in force (R284, R285) in slewing units, and in the unit of its field. -/
def calFine (s : State) (q u e : Nat) : Int :=
  match s.cal.slews.find? fun x => x.1 = calNo q u e with
  | some (_, w) => w.v
  | none => imageValue s.cal.image q u e * slewScale q e
def calValue (s : State) (q u e : Nat) : Int := roundDiv (calFine s q u e) (slewScale q e)

/-- `TDC_VERNIER_MAP` in force; its reset value before anything is loaded (Table 3.8). -/
def vernierMap (s : State) (c : Nat) : Nat :=
  let v := (calValue s 7 c 52).toNat % 2 ^ 36
  if v = 0 then 0x0FFFFFFFF else v
/-- Cumulative position of Vernier cell i in 1/128 fine tick: the widths of the cells in use below it (R114). -/
def vernierPos (s : State) (c i : Nat) : Int :=
  ((List.range i).map fun j => if bitAt (vernierMap s c) j then calValue s 7 c (16 + j) else 0).sum

end Sys2Proof.Machine
end

