-- ==== Sys2Proof/Machine/FrontEnd.lean ====
section
/-!
DEFINITION. The channel front end (chapter 2): hit edges, windows, the capture latch, stuck inputs, the rate ceiling and
prescale, settings and their changeover.
-/
namespace Sys2Proof.Machine

/-! ## Settings (R43 to R52, R76 to R78) -/

/-- The analogue settings that a CH_CONFIG value asks for (Table 2.8). -/
def anaOf (v : Nat) : Analog :=
  { gain := bits v 3 1, aaf := bits v 5 4, free := bitAt v 6, fuse := bitAt v 7, pretrig := bits v 12 9 }
def chConfig (s : State) (c : Nat) : Nat := reg s A_CH_CONFIG c
/-- The analogue settings that the registers ask for: a pair fuses when FUSE is set and its odd channel disabled (R51). -/
def anaWanted (s : State) (c : Nat) : Analog :=
  let n := anaOf (chConfig s c)
  { n with fuse := n.fuse && c % 2 = 0 && !bitAt (chConfig s (c + 1)) 0 }
/-- An even channel whose pair is fused now (R51, R78). -/
def fused (s : State) (c : Nat) : Bool := c % 2 = 0 && (chan s c).ana.fuse
/-- The odd channel of a fused pair (R52). -/
def fusedOdd (s : State) (c : Nat) : Bool := c % 2 = 1 && fused s (c - 1)
/-- The channel is enabled and is no odd channel of a fused pair (R49, R52). -/
def enabled (s : State) (c : Nat) : Bool := bitAt (chConfig s c) 0 && !fusedOdd s c
def negative (s : State) (c : Nat) : Bool := bitAt (chConfig s c) 8
/-- The levels of R47 in 1/16 LSB: the discriminator becomes active at the first and inactive at the second. The threshold trim
moves both, in whole LSB (Table 9.1, R272). -/
def thresholdLevel (s : State) (c : Nat) (release : Bool) : Int :=
  let v := reg s A_CH_THRESHOLD c
  let t := bits v 9 0
  let d : Nat := if release then 4 * t - 4 * bits v 13 10 else 4 * t
  let l := 16 * (d + calValue s 5 c 0)
  (chan s c).base + (if negative s c then -l else l)
/-- The input, in 1/16 LSB at the gain in force, lies at the threshold or beyond it, away from the baseline. -/
def beyondThreshold (s : State) (c : Nat) (v : Int) : Bool :=
  let l := thresholdLevel s c false
  if negative s c then v ≤ l else l ≤ v
/-- The input has returned to the release level or past it. -/
def belowRelease (s : State) (c : Nat) (v : Int) : Bool :=
  let l := thresholdLevel s c true
  if negative s c then l ≤ v else v ≤ l
/-- Latch entries and ring samples (R52, R55, R60). -/
def latchDepth (s : State) (c : Nat) : Nat := if fused s c then 16 else 8
def ringDepth (s : State) (c : Nat) : Nat := if fused s c then 128 else 64
/-- Aperture spacing in fine ticks, times 10 000: 20 ns, or 10 ns fused (R50). -/
def spacing (s : State) (c : Nat) : Nat := if fused s c then 33554432 else 67108864

/-- A window is still being filled. -/
def windowOpen (x : Channel) : Bool := x.latch.any fun e => e.samples.length < 16
/-- A window that opened before the beat b from power-on is still being filled (R77). -/
def windowBefore (x : Channel) (b : Nat) : Bool := x.latch.any fun e => e.samples.length < 16 && e.edge < b
/-- The channel can allocate entries (R64). -/
def canAllocate (s : State) (c : Nat) : Bool :=
  s.modes.cur ≠ .held && !(chan s c).masked && !fencedChannel s c && !(chan s c).held

/-- b times 2^(new - old), rounded (R262): the gain of Table 2.1 doubles from code to code. -/
def rescale (old new : Nat) (b : Int) : Int :=
  if old ≤ new then b * 2 ^ (new - old) else roundDiv b (2 ^ (old - new))
/-- New analogue settings take effect: a new gain or filter settles for 100 ns and a new gain rescales the baseline; a
ring that free running or fusing starts anew is empty (R56, R78, R262). -/
def applyAna (up : Nat) (n : Analog) (x : Channel) : Channel :=
  let settle := if n.gain ≠ x.ana.gain || n.aaf ≠ x.ana.aaf then up * 8192 + Config.settleTicks else x.settle
  let ring := if (n.free && !x.ana.free) || n.fuse ≠ x.ana.fuse then [] else x.ring
  { x with ana := n, settle := settle, ring := ring,
           base := rescale x.ana.gain n.gain x.base, baseTarget := rescale x.ana.gain n.gain x.baseTarget }
/-- The partner of a channel in its pair. -/
def partner (c : Nat) : Nat := if c % 2 = 0 then c + 1 else c - 1
/-- Settings that wait take effect when every window opened before they were asked for has closed, and a change of fusing when
both latches of the pair are empty (R77, R78). What can take effect does not wait for the other. -/
def tryAna (s : State) (c : Nat) : State :=
  let x := chan s c
  match x.anaNext with
  | none => s
  | some n =>
    let empty := x.latch.isEmpty && (chan s (partner c)).latch.isEmpty
    let now : Analog :=
      if windowBefore x x.anaFrom then x.ana else { n with fuse := if empty then n.fuse else x.ana.fuse }
    setChan s c { applyAna s.tb.up now x with anaNext := if now = n then none else some n }
/-- The settings registers of a channel are read anew, at a couch beat or after a SET (R77). A disabled channel converts
nothing: its ring is empty when it is enabled again (R56). -/
def refreshChannel (s : State) (c : Nat) : State :=
  let x := chan s c
  let n := anaWanted s c
  let on := bitAt (chConfig s c) 0
  let x := { x with anaNext := if n = x.ana then none else some n, anaFrom := s.tb.up,
                    active := x.active && on, edgeNow := x.edgeNow && on, ring := if on then x.ring else [] }
  tryAna (setChan s c x) c

/-! ## Wake requests (R66, R399) -/

/-- The stook has work in this deckle; a stook whose clock is stopped raises a wake request, except in the all-on modes
(R66, R69, R398). -/
def wakeStook (s : State) (st : Nat) : State :=
  let k := { stook s st with busy := true }
  let s := setStook s st k
  if serviceMode s.modes.cur && !k.clock && k.wake.isNone then
    pllRequest (setStook s st { k with wake := some s.tb.up })
  else s

/-! ## Hit edges (R48 to R64) -/

/-- A raw code that marks its sample as saturated (R45). -/
def saturatedCode (code : BitVec 14) : Bool := code = BitVec.ofInt 14 (-8192) || code = BitVec.ofInt 14 8191
/-- Samples of a window that lie before the edge: the newest ring samples, oldest first, with missing ones first. -/
def preSamples (ring : List (BitVec 14)) (n : Nat) : List (BitVec 14) :=
  List.replicate (n - ring.length) (BitVec.ofInt 14 (-8192)) ++ (ring.take n).reverse
/-- The prescale code of this deckle; 0 is no prescale (R137). -/
def prescaleCode (x : Channel) : Nat := x.codes.headD 0

/-- The entry that a hit edge allocates (R53 to R56, R60, R77, R78). `fine` is its time in the beat, `inFlight` the
conversions in flight before its window. -/
def newEntry (s : State) (c fine lag inFlight : Nat) (forced : Bool) : Entry :=
  let x := chan s c
  let p := if x.ana.free then x.ana.pretrig else 0
  let running := x.ana.free || windowOpen x
  let flight := if running then inFlight else 0
  let back := p - flight
  let m := back - x.ring.length
  let first := (s.tb.up * 8192 + fine + lag) * 10000 - p * spacing s c
  { tick := s.tb.up * 8192 + fine, samples := preSamples x.ring back, skip := flight - p,
    stamp := BitVec.ofNat 16 (s.tb.beat.toNat + 1), raw := none, neg := negative s c, limit := 0, first := 0,
    episodes := 0, lag := lag, pile := x.pile, gain := x.ana.gain, aaf := x.ana.aaf, secondary := windowOpen x,
    free := x.ana.free, fused := fused s c, saturated := (x.ring.take back).any saturatedCode, stuck := false,
    prescaled := prescaleCode x ≠ 0, changeover := forced || m ≠ 0 || x.anaNext.isSome || first < x.settle * 10000,
    overflow := x.overflow, missing := m, pretrig := p, stepgen := s.tb.stepgen, complete := false,
    edge := s.tb.up, deckle := s.tb.dk, stop := s.tb.up + 1 }

def addPile (x : Channel) (n : Nat) : Channel := { x with pile := satAdd 15 x.pile n, repPile := x.repPile + n }
/-- Occupied slots of a latch: one read in this beat is free only from the next (R62). -/
def latchUsed (s : State) (x : Channel) : Nat := x.latch.length + bnat (x.lastRead = some s.tb.up)

/-- An accepted edge of a channel that can allocate entries (R57, R63, R74). -/
def acceptedEdge (s : State) (c fine lag inFlight : Nat) (forced : Bool) : State :=
  let x := { chan s c with lastAccepted := some (s.tb.up * 8192 + fine) }
  if latchDepth s c ≤ latchUsed s x then
    count (setChan s c { addPile x 1 with overflow := true }) A_CH_PILEUP c 31 0 1
  else
    let n := 2 ^ prescaleCode x
    let k := x.numbered
    let x := { x with numbered := k + 1 }
    if k % n ≠ 0 then
      count (setChan s c { x with repSkip := x.repSkip + 1 }) A_CH_PRESCALED c 31 0 1
    else
      let e := newEntry s c fine lag inFlight forced
      let s := setChan s c { x with latch := x.latch ++ [e], origin := some e, pile := 0, overflow := false }
      wakeStook s (c / 16)
/-- An edge at fine time `fine` of the beat `up` follows the last accepted one by less than 12.0 ns (R57). -/
def earlyEdge (up : Nat) (x : Channel) (fine : Nat) : Bool :=
  match x.lastAccepted with
  | none => false
  | some t => up * 8192 + fine < t + Config.deadTicks
/-- A discriminator goes active (R48, R57, R64). An activation that begins, or is under way, while the channel cannot allocate
entries is not tested for stuck (R70 gives it no window to report): DESIGN CHOICE, log entry 16. -/
def hitEdge (s : State) (c fine lag inFlight : Nat) (forced : Bool) : State :=
  let x := chan s c
  let s := setChan s c { x with
    active := true, edgeNow := true, since := s.tb.up, origin := none, stuckDone := !canAllocate s c,
    edges := if x.masked then x.edges else x.edges + 1, tapHeld := true, tapResume := none,
    tapSince := if x.tapHeld then x.tapSince else s.tb.up, heldEdges := x.heldEdges + 1 }
  let s := count s A_CH_HITS c 31 0 1
  if !canAllocate s c then s
  else if earlyEdge s.tb.up x fine then count (setChan s c (addPile (chan s c) 1)) A_CH_PILEUP c 31 0 1
  else acceptedEdge s c fine lag inFlight forced

/-- HIT_EDGE (R47, R48). A discriminator that is off or already active, or an input short of the threshold, forms no edge. -/
def execHitEdge (c : Chan) (level : Int) (fine lag : BitVec 13) (inFlight : Fin 4) (s : State) : Res :=
  atPads s (if powered s && enabled s c.val && !(chan s c.val).active && beyondThreshold s c.val level then
    hitEdge s c.val fine.toNat lag.toNat inFlight.val false else s)
/-- DISCRIMINATOR_RELEASE (R47). The tap's hold ends GATE_HOLD beats later (R249). -/
def execDiscriminatorRelease (c : Chan) (level : Int) (s : State) : Res :=
  let x := chan s c.val
  atPads s (if powered s && x.active && belowRelease s c.val level then
    setChan s c.val { x with
      active := false, edgeNow := true, released := s.tb.up,
      tapResume := some (s.tb.up + bits (reg s A_MON_CONFIG 0) 15 8) }
  else s)

/-! ## Windows and entries (R45, R55, R56, R61) -/

def takeSample (code : BitVec 14) (e : Entry) : Entry :=
  if 16 ≤ e.samples.length then e
  else if e.skip ≠ 0 then { e with skip := e.skip - 1 }
  else { e with samples := e.samples ++ [code],
                saturated := e.saturated || saturatedCode code }
/-- SAMPLE_CONVERTED (R53 to R56): into every open window, of a channel that a couch has disabled too (R77), and into the ring of
an enabled free-running channel that is neither calibrated nor fenced. In HELD the cells stand still (R465). -/
def execSampleConverted (c : Chan) (code : BitVec 14) (s : State) : Res :=
  let x := chan s c.val
  let on := enabled s c.val
  let ring := if on && x.ana.free && !x.held && !fencedChannel s c.val then (code :: x.ring).take (ringDepth s c.val)
    else x.ring
  let x' := { x with latch := x.latch.map (takeSample code), origin := x.origin.map (takeSample code),
                     stuckWait := x.stuckWait.map (takeSample code), ring := ring }
  atPads s (if powered s && s.modes.cur ≠ .held && (on || windowOpen x) then tryAna (setChan s c.val x') c.val else s)

/-- The TDC record of the start at this fine tick enters the entry of that edge, and its STUCK entry too. -/
def stopOne (raw : BitVec 24) (tick : Nat) (e : Entry) : Entry :=
  if e.tick = tick && e.raw.isNone then { e with raw := some raw } else e
/-- TDC_STOP (R110): the record of the oldest start whose entry waits for one. -/
def execTdcStop (c : Chan) (raw : BitVec 24) (s : State) : Res :=
  let x := chan s c.val
  atPads s (if powered s && s.modes.cur ≠ .held then
    match x.latch.find? fun e => e.raw.isNone with
    | some e =>
      let f := stopOne raw e.tick
      setChan s c.val { x with latch := x.latch.map f, origin := x.origin.map f, stuckWait := x.stuckWait.map f }
    | none => s
  else s)

def completeFirst : List Entry → List Entry
  | [] => []
  | e :: rest =>
    if e.complete then e :: completeFirst rest
    else if e.samples.length = 16 && e.raw.isSome then { e with complete := true } :: rest
    else e :: rest
/-- ENTRY_COMPLETE (R61): the oldest entry with its record and all its samples is marked complete. -/
def execEntryComplete (c : Chan) (s : State) : Res :=
  let x := chan s c.val
  atPads s (setChan s c.val { x with latch := completeFirst x.latch })

/-! ## The stored form of an entry (R60) -/

/-- The flags of Table 2.4, SECONDARY first. -/
def entryFlags (e : Entry) : Nat :=
  [e.secondary, e.free, e.fused, e.saturated, e.stuck, e.prescaled, e.changeover, e.overflow].foldl (fun n b => 2 * n + bnat b) 0
/-- The contents of Table 2.4 with their widths, in the table's order. What is still to come reads as a missing sample, -8 192, or
as a TDC record of 0. -/
def entryFields (e : Entry) : List (Nat × Nat) :=
  let coming := List.replicate (16 - e.samples.length) (BitVec.ofInt 14 (-8192))
  ((e.samples ++ coming).take 16).map (fun x => (14, x.toNat)) ++
    [(16, e.stamp.toNat), (24, (e.raw.getD 0).toNat), (13, e.lag), (4, e.pile), (3, e.gain), (8, entryFlags e), (4, e.missing),
     (2, e.stepgen), (22, 0)]
/-- The five 64-bit words of an entry before the guard code: the contents in the table's order, each after the one before it
from the most significant bit of the first word on. DESIGN CHOICE, log entry 16: Table 2.4 gives no bit positions. -/
def entryWords (e : Entry) : List (BitVec 64) :=
  let n := (entryFields e).foldl (fun n f => n * 2 ^ f.1 + f.2 % 2 ^ f.1) 0
  (List.range 5).map fun k => BitVec.ofNat 64 (n / 2 ^ (64 * (4 - k)))

/-! ## Stuck inputs (R70 to R72) -/

/-- A stuck episode is counted; enough of them in a row raise the channel's fault (R72, R75). -/
def stuckEpisode (s : State) (c : Nat) : State :=
  let x := chan s c
  let s := setChan s c { x with episodes := x.episodes + 1, episodesEver := satAdd 65535 x.episodesEver 1 }
  let s := count s A_CH_STUCK_EPISODES c 15 0 1
  let n := reg s A_STUCK_FENCE_COUNT 0
  if n ≠ 0 && n ≤ x.episodes + 1 && !x.stuckRaised then
    raise (setChan s c { chan s c with stuckRaised := true }) 24 c 1 else s
/-- The back-off after one of n deckles (R71). -/
def nextBackoff (n : Nat) : Nat := min 40000 (2 * n)
/-- A STUCK entry takes its slot: it is allocated now and carries what the latch owes the next entry (R58, R63, R70). -/
def allocateStuck (x : Channel) (e : Entry) : Channel :=
  { x with latch := x.latch ++ [{ e with pile := x.pile, overflow := x.overflow,
                                         complete := e.samples.length = 16 && e.raw.isSome }],
           pile := 0, overflow := false, stuckWait := none }
/-- Free samples for the window of an edge that allocated no entry. -/
def freeSamples (k : Nat) : List (BitVec 14) := (List.range 16).map fun i => Config.unrecordedSample (16 * k + i)
/-- The STUCK entry's content: the window of the original hit edge. Where that edge allocated no entry, the record and
the samples are free values (log entry 9). -/
def stuckEntry (s : State) (c : Nat) : Entry × State :=
  let x := chan s c
  let fill (e : Entry) : Entry :=
    { e with stuck := true, limit := reg s A_CH_STUCK_LIMIT c, first := x.nextBackoff,
             episodes := satAdd 65535 x.episodesEver 1 }
  match x.origin with
  | some e => (fill e, s)
  | none =>
    let e := newEntry s c 0 0 0 false
    let back := s.tb.up - x.since
    (fill { e with tick := x.since * 8192, samples := freeSamples s.free, raw := some (Config.unrecordedTdc s.free), skip := 0, missing := 0,
                   stamp := BitVec.ofNat 16 (s.tb.beat.toNat + 2 ^ 56 + 1 - back % 2 ^ 56), edge := x.since,
                   stop := x.since + 1 },
     { s with free := s.free + 1 })
/-- The stuck limit has expired (R70): one STUCK entry, unless an earlier episode wrote it (R72), and the mask. -/
def stuckExpiry (s : State) (c : Nat) : State :=
  let first := (chan s c).episodes = 0
  let (e, s) := if first then stuckEntry s c else (newEntry s c 0 0 0 false, s)
  let s := stuckEpisode s c
  let x := chan s c
  let x := { x with masked := true, stuckDone := true, backoff := x.nextBackoff,
                    backoffEnd := deckle s + 1 + BitVec.ofNat 46 x.nextBackoff, nextBackoff := nextBackoff x.nextBackoff }
  if !first then setChan s c x
  else if latchDepth s c ≤ latchUsed s x then setChan s c { x with stuckWait := some e }
  else wakeStook (setChan s c (allocateStuck x e)) (c / 16)
/-- STUCK_LIMIT_EXPIRY (R70): the discriminator is active for longer than the limit in force (R77). -/
def execStuckLimitExpiry (c : Chan) (s : State) : Res :=
  let x := chan s c.val
  .next (if x.active && !x.stuckDone && canAllocate s c.val && x.since + reg s A_CH_STUCK_LIMIT c.val < s.tb.up then
    stuckExpiry s c.val else s)
/-- STUCK_BACKOFF_END (R72): a discriminator still active begins a further episode; else the mask is released. -/
def execStuckBackoffEnd (c : Chan) (s : State) : Res :=
  let x := chan s c.val
  .next (if x.masked && atBoundary s && deckleDue (deckle s) x.backoffEnd then
    if x.active then
      let s := stuckEpisode s c.val
      let x := chan s c.val
      setChan s c.val { x with backoff := x.nextBackoff, backoffEnd := deckle s + BitVec.ofNat 46 x.nextBackoff,
                               nextBackoff := nextBackoff x.nextBackoff }
    else setChan s c.val { x with masked := false, backoff := 0, armedSince := s.tb.dk }
  else s)
/-- STUCK_BACKOFF_RESET (R72): 40 000 deckles armed return the back-off to 40. -/
def execStuckBackoffReset (c : Chan) (s : State) : Res :=
  let x := chan s c.val
  .next (if !x.masked && x.episodes ≠ 0 && x.armedSince + 40000 ≤ s.tb.dk then
    setChan s c.val { x with nextBackoff := 40, episodes := 0, stuckRaised := false } else s)

/-! ## The deckle boundary (R73 to R75) -/

/-- The band of R73. -/
def rateBand (n ceil : Nat) : Nat :=
  if n ≤ 2 * ceil then 0 else if n ≤ 4 * ceil then 1 else if n ≤ 8 * ceil then 2 else 3
/-- One channel at a deckle boundary: its rate ceiling, unless it is masked, its prescale history, which reaches back over the
last 32 deckles (R137), and its fault after enough prescaled deckles in a row (R75). -/
def channelDeckle (s : State) (c : Nat) : State :=
  let x := chan s c
  let held := s.modes.cur = .held
  let ceil := reg s A_CH_RATE_CEIL c
  let above := ceil < x.edges
  let code := if x.masked then prescaleCode x
    else if above && !held then
      let b := rateBand x.edges ceil
      bits (reg s A_PRESCALE_TABLE 0) (4 * b + 3) (4 * b)
    else 0
  let run := if x.masked then x.prescaledRun else if prescaleCode x ≠ 0 then x.prescaledRun + 1 else 0
  let n := reg s A_RATE_FENCE_DECKLES 0
  let due := !x.masked && n ≠ 0 && n ≤ run && run ≠ 0 && !x.rateRaised
  let s := setChan s c { x with codes := (code :: x.codes).take 33, prescaledRun := run, edges := 0, numbered := 0,
                                rateRaised := (x.rateRaised && run ≠ 0) || due }
  if due then raise s 24 c 2 else s
/-- The channels that anything has ever happened to, at a deckle boundary. -/
def channelsDeckle (s : State) : State := s.chs.foldl (fun s e => channelDeckle s e.1) s

/-! ## Discarded latches (R363, R465) -/

/-- Entry into HELD (R465): latches are discarded into CH_PILEUP, and masks, back-offs and prescale end. A STUCK entry that waits
for a slot is no entry of the latch, and its edge's own entry counts (R64): DEDUCED, log entry 16. Every window is abandoned, so
analogue settings that wait take effect (R77). -/
def channelHeld (s : State) (c : Nat) : State :=
  let x := chan s c
  let n := x.latch.length
  let s := if n = 0 then s else count s A_CH_PILEUP c 31 0 n
  let s := setChan s c { addPile x n with
    latch := [], lastRead := none, origin := none, stuckWait := none, stuckDone := true, masked := false, backoff := 0,
    backoffEnd := 0, nextBackoff := 40, episodes := 0, stuckRaised := false, rateRaised := false, edges := 0, numbered := 0,
    codes := [], prescaledRun := 0, held := false, heldPrim := false, prevPrim := false, ring := [], lastAccepted := none, tapHeld := false,
    tapResume := none }
  tryAna (tryAna s c) (partner c)
/-- The first beat of START-UP (R56, R465): an active discriminator forms a hit edge at that beat edge. The aperture lag of its
window is measured (R53); the spec gives no figure, and no command reports it: a free value, log entry 9. -/
def channelRestart (s : State) (c : Nat) : State :=
  let x := chan s c
  let s := setChan s c { x with ring := [] }
  if x.active && enabled s c then
    let lag := (Config.restartLag s.free).toNat
    hitEdge { setChan s c { chan s c with active := false } with free := s.free + 1 } c 0 lag 0 true
  else s
/-- A reset discards the latch; each entry is handled as an uncorrectable one (R65, R363). -/
def discardLatch (s : State) (c : Nat) : State :=
  let n := (chan s c).latch.length
  let s := setChan s c { chan s c with latch := [], origin := none, stuckWait := none, stuckDone := true }
  forNat n (fun _ s =>
    let s := count s A_CH_ENTRY_ERRORS c 15 0 1
    let s := count s A_CH_PILEUP c 31 0 1
    let s := setChan s c (addPile (chan s c) 1)
    raise s 25 c (bits (tally s A_CH_ENTRY_ERRORS c) 15 0)) s

end Sys2Proof.Machine
end

