-- ==== Sys2Proof/Machine/Winnower.lean ====
section
/-!
DEFINITION. The Winnower (chapter 4): time of a hit, corrections, filter, features, keep decision, hit sheaves, tally
reports and blind markers; and the write of finished sheaves to staging.
-/
namespace Sys2Proof.Machine

/-! ## Time of a hit (R114 to R116); all times in 2^-28 fine tick -/

def tickUnit : Int := 2 ^ 28
/-- What the steps since the entry's step generation moved the count by (R98, R114). -/
def displacedBy (s : State) (gen : Nat) : Beat :=
  (s.tb.steps.take ((s.tb.stepgen + 4 - gen % 4) % 4)).foldl (fun a e => a + e.1) 0
/-- The stop beat: the count nearest below the read whose low bits are the stamp. -/
def stopBeat (s : State) (e : Entry) : Beat :=
  let w := s.tb.beat - displacedBy s e.stepgen
  w - BitVec.ofNat 56 ((w.toNat + 65536 - e.stamp.toNat) % 65536)
/-- The interval from the hit edge to the stop edge. -/
def stopInterval (s : State) (c : Nat) (raw : Nat) : Int :=
  bits raw 23 16 * ((stook s (c / 16)).prep * (2 ^ 20 + calValue s 6 c 0)) +
    calFine s 7 c (bits raw 15 12) * 2 ^ 21 + vernierPos s c (bits raw 11 6) * 2 ^ 21
/-- The hit time at the land, before rounding. -/
def hitTime (s : State) (c : Nat) (e : Entry) (raw : Nat) : Int :=
  (stopBeat s e).toNat * 8192 * tickUnit - stopInterval s c raw -
    (calValue s 8 c (1 + e.aaf) + calValue s 8 c 0) * 2 ^ 24
def implausible (t : Int) : Bool := t < 0 || (8192 + 256) * tickUnit < t

/-! ## Corrections, filter and features (R125 to R129) -/

/-- The cell of sample k: channel and cell number (R51, R125). -/
def cellOf (c : Nat) (fusedPair : Bool) (k : Nat) : Nat × Nat :=
  if fusedPair then (c + k % 2, k / 2 % 2) else (c, k % 2)
/-- `off`, `gn` and `inl` of a cell in force (R125, R272). -/
def cellGain (s : State) (c u j : Nat) : Int :=
  calValue s 1 u j + (if (chan s c).ana.gain = 1 then 0 else calValue s 3 c (chan s c).ana.gain)
/-- The corrected value of code x from cell j of channel u, read for channel c, in 1/16 LSB (R125). -/
def correctCode (s : State) (c u j : Nat) (x : Int) : Int :=
  (x * 16 - calValue s 0 u j) * (2 ^ 20 + cellGain s c u j) / 2 ^ 20 +
    calValue s 2 u (64 * j + ((x + 8192) / 256).toNat)
/-- A corrected sample in 1/16 LSB. -/
def corrected (s : State) (c : Nat) (e : Entry) (k : Nat) : Int :=
  let (u, j) := cellOf c e.fused k
  correctCode s c u j (e.samples.getD k 0).toInt
def roundLsb (v : Int) : Int := clampInt (-8192) 8191 ((v + 8) / 16)
/-- One filtered, polarity-folded sample. -/
def filtered (taps : Nat) (h : List Int) (neg : Bool) (z : List Int) (k : Nat) : Int :=
  let f := ((List.range (min taps (k + 1))).map fun j => h.getD j 0 * z.getD (k - j) 0).sum
  let f := (f + 2 ^ 13) / 2 ^ 14
  if neg then -f else f
def listMax (l : List Int) : Int := l.foldl max (l.headD 0)
/-- Scale and mantissa of a charge (R129). -/
def chargeCode (q : Nat) : Nat × Nat :=
  if q < 16384 then (0, q) else if q < 65536 then (1, q / 4) else (2, min (q / 16) 16383)
/-- The spike check of R132 at sample k. -/
def spikeAt (lim : Int) (missing : Nat) (z : List Int) (k : Nat) : Bool :=
  let a := z.getD (k - 1) 0
  let b := z.getD k 0
  let d := z.getD (k + 1) 0
  missing ≤ k - 1 && 16 * lim < (b - a).natAbs && 16 * lim < (b - d).natAbs && (a - d).natAbs ≤ 4 * lim

/-- The Winnower table under which an entry is processed: the previous mould's up to its couch beat (R138). -/
def wnReg (s : State) (e : Entry) (id inst : Nat) : Nat :=
  if e.stop ≤ s.couchUp then cfgGet s.cfgPrev id inst else reg s id inst

/-- What the Winnower finds out about an entry. -/
structure Features where
  y : List Int
  z : List Int
  v : List Int
  p : Nat
  q : Nat
  t : Int
  rep : Int
  cfd : Bool
  cfdFailed : Bool
  invalid : Bool
  suspect : Bool
deriving DecidableEq, Repr

/-- The constant-fraction time of R130, if the attempt is valid. -/
def cfdTime (s : State) (c : Nat) (e : Entry) (v : List Int) (peak : Int) (p : Nat) (t : Int) : Option Int :=
  let w := wnReg s e A_WN_CFD 0
  let l := peak * bits w 3 0
  let set := bits (wnReg s e A_WN_CONFIG c) 6 3
  let delay := bits (wnReg s e A_WN_FIR_SET set) 47 16
  let kp := (List.range 16).find? fun k => v.getD k 0 = peak
  if e.saturated || p < bits w 17 4 then none else
  match (List.range 16).find? fun k =>
      1 ≤ k && k ≤ kp.getD 0 && 16 * v.getD (k - 1) 0 < l && l ≤ 16 * v.getD k 0 with
  | none => none
  | some k =>
    if k - 1 < e.missing then none
    else
      let d := 16 * (v.getD k 0 - v.getD (k - 1) 0)
      let num := ((k : Int) - 1 - e.pretrig) * d + (l - 16 * v.getD (k - 1) 0)
      some (t + e.lag * tickUnit +
        num * ((if e.fused then 33554432 else 67108864) * tickUnit) / (d * 10000) - delay * 2 ^ 20 -
        calValue s 9 c 0 * 2 ^ 24)

/-- All features of an entry (R114, R125 to R132). -/
def features (s : State) (c : Nat) (e : Entry) : Features :=
  let raw := (e.raw.getD 0).toNat
  let cfg := wnReg s e A_WN_CONFIG c
  let set := bits cfg 6 3
  let taps := bits (wnReg s e A_WN_FIR_SET set) 4 0
  let h := (List.range 16).map fun j => sx 16 (wnReg s e A_WN_FIR_COEF (set * 16 + j))
  let b := (chan s c).base
  let y := (List.range 16).map fun k => if k < e.missing then 0 else corrected s c e k
  let z := (List.range 16).map fun k => if k < e.missing then 0 else y.getD k 0 - b
  let v := (List.range 16).map fun k => filtered taps h e.neg z k
  let peak := listMax v
  let qs := bits cfg 15 12
  let ql := bits cfg 19 16 + 1
  let p := (clampInt 0 16383 ((peak + 8) / 16)).toNat
  let q := (clampInt 0 262143 ((((v.drop qs).take ql).sum + 8) / 16)).toNat
  let t := hitTime s c e raw
  let invalid := implausible (stopInterval s c raw)
  let enabled := bitAt cfg 8
  let att := if enabled then cfdTime s c e v peak p t else none
  let agree := bits (wnReg s e A_WN_CFD 0) 31 18 * tickUnit
  let (rep, cfd, apart) := match att with
    | none => (t, false, false)
    | some x => if (x - t).natAbs ≤ agree then (x, true, false) else (t, false, true)
  let lim := bits (wnReg s e A_WN_SPIKE 0) 13 0
  let spike := lim ≠ 0 && (List.range 14).any fun k => spikeAt lim e.missing z (k + 1)
  { y := y, z := z, v := v, p := p, q := q, t := roundDiv t tickUnit, rep := roundDiv rep tickUnit, cfd := cfd,
    cfdFailed := enabled && att.isNone, invalid := invalid, suspect := invalid || apart || spike }

/-! ## Keep, chaff and format (R133 to R136) -/

/-- The flag set of Table 4.3. -/
def keepFlags (e : Entry) (f : Features) (overflow : Bool) (pile : Nat) (cfdEn : Bool) : Nat :=
  bnat e.secondary + 2 * bnat e.saturated + 4 * bnat e.changeover + 8 * bnat f.suspect + 16 * bnat overflow +
    32 * bnat (pile ≠ 0) + 64 * bnat e.prescaled + 128 * bnat (cfdEn && !f.cfd)
/-- Keep and long (R134). -/
def keepLong (table flags p q : Nat) : Bool × Bool :=
  let feature := bits table 1 0
  let x := if feature = 0 then p else q
  let keep := if feature = 2 then true else if feature = 3 then false else bits table 19 2 ≤ x
  let long := keep && feature ≤ 1 && bits table 37 20 ≤ x
  let keep := keep || (flags &&& bits table 45 38) ≠ 0
  (keep, long || (keep && (flags &&& bits table 53 46) ≠ 0))

/-- A hit's time as beat count and fine part (R115). -/
def timeBeat (t : Int) : Beat := BitVec.ofInt 56 (t / 8192)
def timeFine (t : Int) : Nat := (t % 8192).toNat
/-- Words 0 and 1 of a hit sheaf, SEQ still 0 (Table 4.5). -/
def hitWords (type c prescale : Nat) (e : Entry) (f : Features) (pile : Nat) : List SWord :=
  let b := timeBeat f.rep
  let (qs, qm) := chargeCode f.q
  [BitVec.ofNat 64 (type * 2 ^ 60 + b.toNat % 2 ^ 40 * 2 ^ 20 + timeFine f.rep * 2 ^ 7 + e.stepgen % 4 * 2 ^ 5 +
      pile * 2 + bnat f.cfd),
   BitVec.ofNat 64 (c * 2 ^ 56 + e.gain * 2 ^ 37 + prescale % 8 * 2 ^ 34 + bnat e.secondary * 2 ^ 33 +
      bnat e.saturated * 2 ^ 32 + bnat e.changeover * 2 ^ 31 + bnat f.suspect * 2 ^ 30 + f.p * 2 ^ 16 + qs * 2 ^ 14 + qm)]
/-- The sample that a LONG or STUCK sheaf carries (R148). -/
def sampleField (kind : Nat) (e : Entry) (f : Features) (k : Nat) : Nat :=
  if k < e.missing then toField 14 (-8192)
  else toField 14 (roundLsb (if kind = 0 then f.y.getD k 0 else if kind = 1 then f.z.getD k 0 else f.v.getD k 0))
/-- Words 2 to 7 (Tables 4.6 and 4.7). -/
def longWords (s : State) (c kind chaff : Nat) (e : Entry) (f : Features) (overflow : Bool) : List SWord :=
  let delta := if f.cfd then toField 13 (clampInt (-4095) 4095 (f.t - f.rep)) else 0
  let eflags := 128 * bnat e.secondary + 64 * bnat e.free + 32 * bnat e.fused + 16 * bnat e.saturated +
    8 * bnat e.stuck + 4 * bnat e.prescaled + 2 * bnat e.changeover + bnat overflow
  let sample (w : Nat) : SWord := BitVec.ofNat 64
    (sampleField kind e f (4 * w) * 2 ^ 50 + sampleField kind e f (4 * w + 1) * 2 ^ 36 +
      sampleField kind e f (4 * w + 2) * 2 ^ 22 + sampleField kind e f (4 * w + 3) * 2 ^ 8)
  let tail := if e.stuck then e.limit * 2 ^ 32 + e.first * 2 ^ 16 + e.episodes else 0
  [BitVec.ofNat 64 (toField 14 (roundLsb (chan s c).base) * 2 ^ 50 + e.lag * 2 ^ 37 + delta * 2 ^ 24 + eflags * 2 ^ 16 +
      e.pretrig * 2 ^ 12 + kind * 2 ^ 10 + e.missing * 2 ^ 6),
   sample 0, sample 1, sample 2, sample 3, BitVec.ofNat 64 (chaff * 2 ^ 48 + tail)]

/-- The sheaf of a kept entry; none for chaff. -/
def winnow (s : State) (c : Nat) (e : Entry) (f : Features) : Option Sheaf :=
  let x := chan s c
  let cfg := wnReg s e A_WN_CONFIG c
  let pile := satAdd 15 e.pile x.carryPile
  let overflow := e.overflow || x.carryOverflow
  let flags := keepFlags e f overflow pile (bitAt cfg 8)
  let (keep, long) := if e.stuck then (true, true)
    else keepLong (wnReg s e A_WN_KEEP_TABLE (bits cfg 2 0)) flags f.p f.q
  let type := if e.stuck then 3 else if long then 2 else 1
  let prescale := x.codes.getD (s.tb.dk - e.deckle) 0
  if !keep then none else
    some { src := c / 16, cls := if bitAt cfg 9 then 1 else 2, hit := some (c, timeBeat f.rep),
           words := hitWords type c prescale e f pile ++
             (if type = 1 then [] else longWords s c (bits cfg 11 10) x.chaffSince e f overflow) }

/-! ## The pipeline's rows (R122, R123) -/

/-- The stook's digital clock runs: gated per stook in service, else with the core PLL (R69, Table 14.1). -/
def stookRuns (s : State) (st : Nat) : Bool :=
  s.modes.cur ≠ .held && (if serviceMode s.modes.cur then (stook s st).clock else decide (s.clk.pll = 2))
/-- Steps since a step generation was in force. -/
def genAge (s : State) (gen : Nat) : Nat := (s.tb.stepgen + 4 - gen % 4) % 4
/-- The step generation of a hit sheaf, as steps since. -/
def sheafAge (s : State) (x : Sheaf) : Option Nat :=
  if sheafType x ≤ 3 then some (genAge s (bits ((x.words.headD 0).toNat) 6 5)) else none
/-- A sheaf joins the queue: ahead of every hit sheaf of a newer step generation (R144), which only a STUCK entry can follow. -/
def enqueue (s : State) (x : Sheaf) (q : List Sheaf) : List Sheaf :=
  let newer (y : Sheaf) : Bool := match sheafAge s x, sheafAge s y with
    | some a, some b => b < a
    | _, _ => false
  q.takeWhile (fun y => !newer y) ++ x :: q.dropWhile (fun y => !newer y)
/-- Staging entries of a sheaf, and the queue has room for it (R123). -/
def sheafEntries (x : Sheaf) : Nat := (x.words.length + 1) / 2
def queueTakes (k : Stook) (n : Nat) : Bool := k.waitq.isEmpty && outqEntries k + n ≤ 32
/-- Reports and markers that wait join the queue in their order, n of them at most, while it has room (R123, R152). -/
def takeWaiting : Nat → Nat → Stook → Stook
  | 0, _, k => k
  | n + 1, up, k =>
    match k.waitq with
    | [] => k
    | (b, x) :: rest =>
      if b ≤ up && outqEntries k + sheafEntries x ≤ 32 then
        takeWaiting n up { k with outq := k.outq ++ [x], waitq := rest, busy := true }
      else k
/-- What waits in a stook that runs is written as the output queue and its beat allow. -/
def refillQueue (s : State) (st : Nat) : State :=
  let k := stook s st
  if k.waitq.isEmpty || !stookRuns s st then s else setStook s st (takeWaiting k.waitq.length s.tb.up k)
/-- Every stook's waiting sheaves at a beat edge. -/
def refillQueues (s : State) : State := s.stooks.foldl (fun s e => refillQueue s e.1) s
/-- A hit sheaf joins the Winnower's output queue. -/
def outQueue (s : State) (st : Nat) (x : Sheaf) : State :=
  let k := stook s st
  setStook s st { k with outq := enqueue s x k.outq, busy := true }
/-- A report or a marker is written from the beat `due` on, when the queue has room. -/
def outLater (s : State) (st due : Nat) (x : Sheaf) : State :=
  let k := stook s st
  refillQueue (setStook s st { k with waitq := k.waitq ++ [(due, x)], busy := true }) st
/-- The first read after a wake ends it (`STOOK_WAKE_MAX`, R66). -/
def wakeEnds (s : State) (st : Nat) : State :=
  let k := stook s st
  match k.wake with
  | none => s
  | some b => countMax (setStook s st { k with wake := none }) A_STOOK_WAKE_MAX st 15 0 (s.tb.up - b)
/-- The entry leaves the latch; a STUCK entry that waits takes its slot (R62, R70). -/
def popLatch (s : State) (c : Nat) : State :=
  let x := chan s c
  let x := { x with latch := x.latch.drop 1, lastRead := some s.tb.up }
  let x := match x.stuckWait with
    | some e => allocateStuck x e
    | none => x
  let s := wakeEnds (setChan s c x) (c / 16)
  tryAna (tryAna s c) (partner c)
/-- An entry is processed: kept as a sheaf in the output queue, or chaff (R134 to R136). -/
def processEntry (s : State) (c : Nat) (e : Entry) : State :=
  let f := features s c e
  let out := winnow s c e f
  let x := chan s c
  let s := if f.invalid then count s A_TDC_INVALID c 15 0 1 else s
  let s := if f.cfdFailed then count s A_WN_CFD_FAIL c 15 0 1 else s
  let s := if f.suspect then count s A_WN_SUSPECT c 15 0 1 else s
  match out with
  | some sh =>
    let s := popLatch (setChan s c { x with
      carryPile := 0, carryOverflow := false, chaffSince := 0, repKept := x.repKept + 1 }) c
    outQueue (count s A_WN_KEPT c 31 0 1) (c / 16) sh
  | none =>
    let s := popLatch (setChan s c { x with
      carryPile := satAdd 15 e.pile x.carryPile, carryOverflow := e.overflow || x.carryOverflow,
      chaffSince := satAdd 65535 x.chaffSince 1, repChaff := x.repChaff + 1 }) c
    count s A_WN_CHAFF c 31 0 1
/-- Another channel of the stook holds an entry of an older step generation, whose sheaf goes first (R144). -/
def olderWaits (s : State) (c : Nat) (e : Entry) : Bool :=
  (List.range 16).any fun j => (chan s (c / 16 * 16 + j)).latch.any fun x => genAge s e.stepgen < genAge s x.stepgen
/-- A channel behind this one has been served in this beat: the channels are served from lowest to highest (R141). -/
def laterServed (s : State) (c : Nat) : Bool :=
  (List.range 16).any fun j => c % 16 < j && (chan s (c / 16 * 16 + j)).lastRead = some s.tb.up
/-- The Winnower may take the entry at the head of the channel's latch in this beat (R61, R62, R141, R144, R361); a beat in
which it has stalled takes no further entry (R123). -/
def readable (s : State) (c : Nat) : Option Entry :=
  let x := chan s c
  match x.latch with
  | [] => none
  | e :: _ =>
    let rested := match x.lastRead with | none => true | some b => b + 4 ≤ s.tb.up
    if e.complete && rested && stookRuns s (c / 16) && !fencedStook s (c / 16) && !olderWaits s c e && !laterServed s c &&
        fresh s 4 (c / 16) then some e else none
/-- WINNOWER_READ_ENTRY (R122): with what the guard code found in the entry (R65). -/
def execWinnowerReadEntry (c : Chan) (g : Guard) (s : State) : Res :=
  .next (match readable s c.val with
    | none => s
    | some e =>
      match g with
      | .lost _ =>
        let s := popLatch (setChan s c.val (addPile (chan s c.val) 1)) c.val
        let s := count s A_CH_ENTRY_ERRORS c.val 15 0 1
        let s := count s A_CH_PILEUP c.val 31 0 1
        raise s 25 c.val (bits (tally s A_CH_ENTRY_ERRORS c.val) 15 0)
      | g =>
        let size := match winnow s c.val e (features s c.val e) with
          | some sh => sheafEntries sh
          | none => 0
        if size ≠ 0 && !queueTakes (stook s (c.val / 16)) size then
          count (noteDone s 4 (c.val / 16)) A_WN_STALLS (c.val / 16) 31 0 1
        else
          let s := match g with
            | .corrected _ => count s A_CH_ENTRY_ERRORS c.val 31 16 1
            | _ => s
          processEntry s c.val e)

/-- Staging entries that have passed the stook's write port in this beat. -/
def movedNow (s : State) (k : Stook) : Nat := if k.movedUp = s.tb.up then k.moved else 0
/-- SHEAF_TO_STAGING (R122, R141): the oldest finished sheaf, if the filling bank takes it whole (R124) and the port, four
entries a beat, has room for it (R123). -/
def execSheafToStaging (st : StookId) (s : State) : Res :=
  let k := stook s st.val
  .next (match k.outq with
    | [] => s
    | x :: rest =>
      let n := sheafEntries x
      if stookRuns s st.val && fillEntries k + n ≤ 128 && movedNow s k + n ≤ 4 then
        let moved := movedNow s k + n
        let (y, s) := number s x
        refillQueue (setStook s st.val { k with
          outq := rest, fill := k.fill ++ [y], busy := true, moved := moved, movedUp := s.tb.up }) st.val
      else s)

/-- TALLY_REPORT (R155): a channel's keep and loss reports at its boundary. A stook that sleeps is woken. -/
def execTallyReport (c : Chan) (s : State) : Res :=
  let p := reg s A_WN_TALLY_PERIOD 0
  let st := c.val / 16
  .next (if s.modes.cur ≠ .held && atBoundary s && p ≠ 0 && (deckle s).toNat % p = c.val * p / 192 &&
      !fencedStook s st && fresh s 1 c.val then
    let s := noteDone s 1 c.val
    let x := chan s c.val
    let s := setChan s c.val { x with repKept := 0, repChaff := 0, repPile := 0, repSkip := 0 }
    let s := wakeStook s st
    let s := outLater s st s.tb.up (report st s.tb.beat 0x10 c.val x.repKept x.repChaff)
    outLater s st s.tb.up (report st s.tb.beat 0x11 c.val x.repPile x.repSkip)
  else s)

/-- A BLIND marker (R151, R152): the window ends at the last beat before this one. Reason 1 gleaning, 2 an input-path
check, 3 a foreground run. A stook writes one a beat: behind another the marker waits for the next beat. -/
def blindMarker (s : State) (c : Nat) (first : Beat) (reason : Nat) : State :=
  let last := (s.tb.beat - 1).toNat % 2 ^ 40
  let x : Sheaf := { src := c / 16, cls := 0, hit := none,
                     words := [sheafW0 5 first (c / 16), BitVec.ofNat 64 (c * 2 ^ 56 + last * 2 ^ 16 + reason * 2 ^ 12)] }
  if s.modes.cur = .held then s
  else
    let s := wakeStook s (c / 16)
    let k := stook s (c / 16)
    let due := max s.tb.up k.blindFrom
    outLater (setStook s (c / 16) { k with blindFrom := due + 1 }) (c / 16) due x

end Sys2Proof.Machine
end

