-- ==== Sys2Proof/Machine/Clocks.lean ====
section
/-!
DEFINITION. Clocks, power and sleep (chapter 14): the core PLL and the lane LC PLLs, the clock domains, and the sleep of
the stooks and of the Granary interface.
-/
namespace Sys2Proof.Machine

/-! ## Domains (R394, R398) -/

/-- START-UP, CALIBRATION & TEST and RECOVERY: nothing sleeps (R19). -/
def allOn (m : Mode) : Bool := m = .startUp || m = .cal || m = .recovery
/-- The timing-port domains run. -/
def timingClock (s : State) : Bool :=
  allOn s.modes.cur || (serviceMode s.modes.cur && (timingGenOf s = 2 || bitAt (reg s A_CK_CONFIG 0) 0))
where timingGenOf (s : State) : Nat := bits (reg s A_TB_SOURCE 0) 1 0
/-- Domain 39: a holder of a test DAC exists, or a charge injector works for a run or a check (R265). -/
def dacClock (s : State) : Bool :=
  allOn s.modes.cur || (serviceMode s.modes.cur && s.mon.dacs.any fun e => decide (e.2.holder ≠ .none))
/-- Domain 40: during a run or a check. -/
def engineClock (s : State) : Bool :=
  allOn s.modes.cur || (serviceMode s.modes.cur && (s.cal.run.isSome || s.mon.ipc.isSome))
/-- Domain 37: during a load or a commit. SEED_READ wakes it for its own beat. -/
def seedClock (s : State) : Bool := allOn s.modes.cur || (serviceMode s.modes.cur && s.cal.commit.isSome)
/-- The stook or interface clock of service, or the all-on one, which follows the core PLL. -/
def granaryClock (s : State) : Bool :=
  if serviceMode s.modes.cur then s.gran.clock && decide (s.clk.pll = 2) else allOn s.modes.cur && decide (s.clk.pll = 2)
/-- A lane state with its PMA off (Table 14.1). -/
def pmaOff (st : LState) : Bool := st = .off || st = .sleep || st = .failed || st = .fenced
/-- The PMA of an uplane runs: in HELD, UL0 at Gen1 while LANEREF is good (R420). -/
def ulClock (s : State) (u : Nat) : Bool :=
  if s.modes.cur = .held then u = 0 && s.pwr.lanerefGood
  else !pmaOff (lane s u).st || (u = 3 && s.nl.active)
def dlClock (s : State) (d : Nat) : Bool := if s.modes.cur = .held then d = 0 else dlEnabled s d
/-- Domain d of Table 14.1 runs. -/
def domainRuns (s : State) (d : Nat) : Bool :=
  let up' := decide (s.modes.cur ≠ .held)
  if d ≤ 1 || d = 4 || d = 5 || d = 34 || d = 35 then true
  else if d ≤ 3 then timingClock s
  else if d ≤ 7 || d = 36 || d = 38 then up'
  else if d ≤ 19 then stookRuns s (d - 8)
  else if d ≤ 21 then granaryClock s
  else if d ≤ 25 then ulClock s (d - 22)
  else if d ≤ 29 then ulClock s (d - 26)
  else if d ≤ 31 then dlClock s (d - 30)
  else if d ≤ 33 then dlClock s (d - 32)
  else if d = 37 then seedClock s
  else if d = 39 then dacClock s
  else if d = 40 then engineClock s
  else if d ≤ 42 then s.clk.lcRun.getLsbD (d - 41)
  else decide (s.clk.pll ≠ 0)
/-- `CK_DOMAINS`. An unpowered device runs none but the always-on ones that VDD_AON keeps (R408). -/
def ckDomains (s : State) : Nat := ((List.range 44).map fun d => if domainRuns s d then 2 ^ d else 0).sum

/-! ## The core PLL (R395, R396) -/

/-- A domain requests the core PLL now, or `CORE_ON` holds it. -/
def pllWanted (s : State) : Bool :=
  allOn s.modes.cur ||
    (serviceMode s.modes.cur && (bitAt (reg s A_CK_CONFIG 0) 1 || s.gran.clock || dacClock s || engineClock s ||
      (List.range 12).any fun k => (stook s k).clock || (stook s k).wake.isSome))
/-- CORE_PLL_FAST_START: the fast start ends with every output locked. -/
def execCorePllFastStart (s : State) : Res :=
  .next (if s.clk.pll ≠ 1 then s
    else
      let s := countMax (count s A_CK_WAKES 0 31 0 1) A_CK_WAKE_MAX 0 15 0 (s.tb.up - s.clk.pllReq)
      levelEnd { s with clk := { s.clk with pll := 2 } } 17 0)
/-- CORE_PLL_STOP (R395, R396): the boundary that ends `CK_SLEEP_DECKLES` deckles without a request. -/
def execCorePllStop (s : State) : Res :=
  .next (if atBoundary s && serviceMode s.modes.cur && decide (s.clk.pll ≠ 0) && !pllWanted s && !s.clk.pllUsed &&
      decide (reg s A_CK_SLEEP_DECKLES 0 ≤ s.clk.pllIdle) then
    { s with clk := { s.clk with pll := 0, cores := false, pllIdle := 0 } }
  else s)
/-- The stook clocks of service stop with the PLL's outputs, and wake again with it. -/
def stopStooks (s : State) : State :=
  if serviceMode s.modes.cur then
    forNat 12 (fun k s =>
      let x := stook s k
      if x.clock then setStook s k { x with clock := false, wake := some (x.wake.getD s.tb.up) } else s) s
  else s
/-- CORE_PLL_LOCK_LOSS (R395, R396): the outputs stop, the Barns go to domain 0, and the PLL fast-starts again. -/
def execCorePllLockLoss (s : State) : Res :=
  .next (if s.clk.pll ≠ 2 then s
    else
      let s := { s with clk := { s.clk with pll := 1, pllReq := s.tb.up, pllUsed := true, cores := false } }
      levelBegin (stopStooks s) 17 0 0)

/-! ## The lane LC PLLs (R397) -/

/-- The LC PLL that serves a generation. -/
def lcOfGen (g : Nat) : Nat := if g = 2 then 1 else 0
def dlGen (s : State) (d : Nat) : Nat := if s.modes.cur = .held then 1 else bits (reg s A_LK_DL_CONFIG d) 3 2
/-- A lane of a generation it serves runs. -/
def lcWanted (s : State) (p : Nat) : Bool :=
  (List.range 4).any (fun u => ulClock s u && decide (lcOfGen (if s.modes.cur = .held then 1 else (lane s u).gen) = p)) ||
    (List.range 2).any fun d => dlClock s d && decide (lcOfGen (dlGen s d) = p)
def setBit2 (b : BitVec 2) (p : Nat) (v : Bool) : BitVec 2 :=
  if v then b ||| BitVec.ofNat 2 (2 ^ p) else b &&& ~~~(BitVec.ofNat 2 (2 ^ p))
def setLc (s : State) (p : Nat) (run lock idle : Bool) : State :=
  { s with clk := { s.clk with lcRun := setBit2 s.clk.lcRun p run, lcLock := setBit2 s.clk.lcLock p lock,
                               lcIdle := setBit2 s.clk.lcIdle p idle } }
/-- An LC PLL at a deckle boundary: one that runs has locked within the deckle while LANEREF is good, and it stops one
deckle after its last lane left. -/
def lcDeckle (s : State) (p : Nat) : State :=
  if lcWanted s p then
    if s.clk.lcRun.getLsbD p then
      let lock := s.clk.lcLock.getLsbD p || s.pwr.lanerefGood
      let s := setLc s p true lock false
      if lock then levelEnd s 17 (1 + p) else s
    else setLc s p true false false
  else if s.clk.lcRun.getLsbD p && !s.clk.lcIdle.getLsbD p then setLc s p true (s.clk.lcLock.getLsbD p) true
  else setLc s p false false false
/-- LC_PLL_LOCK_LOSS: its uplanes fail with a transmitter fault and its downlanes lose lock. -/
def execLcPllLockLoss (p : Fin 2) (s : State) : Res :=
  .next (if !s.clk.lcRun.getLsbD p.val || !s.clk.lcLock.getLsbD p.val then s
    else
      let s := levelBegin (setLc s p.val true false false) 17 (1 + p.val) 0
      let s := forNat 4 (fun u s =>
        let x := lane s u
        if s.modes.cur ≠ .held && !pmaOff x.st && decide (lcOfGen x.gen = p.val) then failLane s u 2 else s) s
      let s := forNat 2 (fun d s =>
        if dlClock s d && decide (lcOfGen (dlGen s d) = p.val) then setDlane s d { dlane s d with locked := false }
        else s) s
      variantAtBoundary s)
/-- `CK_PLL_STATUS`. -/
def ckPllStatus (s : State) : Nat :=
  bnat (decide (s.clk.pll ≠ 0)) + bnat (decide (s.clk.pll = 2)) * 2 + bnat (s.clk.lcRun.getLsbD 0) * 4 +
    bnat (s.clk.lcLock.getLsbD 0) * 8 + bnat (s.clk.lcRun.getLsbD 1) * 16 + bnat (s.clk.lcLock.getLsbD 1) * 32 +
    bnat s.clk.cores * 64

/-! ## Sleep (R66, R68, R398) -/

/-- Every latch of the stook is empty. -/
def latchesEmpty (s : State) (st : Nat) : Bool :=
  (List.range 16).all fun j => (chan s (16 * st + j)).latch.isEmpty && (chan s (16 * st + j)).stuckWait.isNone
/-- STOOK_CLOCK_START (R66): the first edge after a wake, once the core PLL runs, which `STOOK_WAKES` counts. The request of a
wake for other work than an entry is served with it; one for an entry is timed up to the first read (`STOOK_WAKE_MAX`). -/
def execStookClockStart (st : StookId) (s : State) : Res :=
  let x := stook s st.val
  .next (if x.wake.isSome && !x.clock && decide (s.clk.pll = 2) then
    let wake := if latchesEmpty s st.val then none else x.wake
    count (setStook s st.val { x with clock := true, idle := 0, busy := true, wake := wake }) A_STOOK_WAKES st.val 31 0 1
  else s)
/-- STOOK_SLEEP (R68, R398). No request is pending: one is served when the clock starts. -/
def execStookSleep (st : StookId) (s : State) : Res :=
  let x := stook s st.val
  .next (if serviceMode s.modes.cur && x.clock && !x.busy && !bitAt (reg s A_CK_CONFIG 0) 2 &&
      decide (reg s A_CK_SLEEP_DECKLES 0 ≤ x.idle) && latchesEmpty s st.val && x.waitq.isEmpty then
    setStook s st.val { x with clock := false, wake := none, prepSince := s.tb.dk } else s)
/-- GRANARY_INTERFACE_SLEEP (R398): at a deckle boundary; a trigger at the same edge cancels it (R399). -/
def execGranaryInterfaceSleep (s : State) : Res :=
  .next (if atBoundary s && serviceMode s.modes.cur && s.gran.clock && !s.gran.busy && !s.gran.bursting &&
      decide (reg s A_CK_SLEEP_DECKLES 0 ≤ s.gran.idle) then
    { s with gran := { s.gran with clock := false, scrubSince := 0 } } else s)

/-! ## Boundaries and modes -/

/-- What a beat adds to the record of the deckle: the domains that run, and a request of the core PLL. -/
def clocksBeat (s : State) : State :=
  { s with clk := { s.clk with ran := s.clk.ran ||| BitVec.ofNat 44 (ckDomains s), pllUsed := s.clk.pllUsed || pllWanted s } }
/-- Idle deckles of a stook. -/
def stookIdle (s : State) (k : Nat) : State :=
  let x := stook s k
  setStook s k { x with idle := if x.busy || !x.clock then 0 else satAdd 65535 x.idle 1, busy := false }
/-- `STOOK_ON` and `CORE_ON` wake what sleeps. -/
def heldAwake (s : State) : State :=
  if serviceMode s.modes.cur then
    let s := if bitAt (reg s A_CK_CONFIG 0) 1 then pllRequest s else s
    if bitAt (reg s A_CK_CONFIG 0) 2 then
      forNat 12 (fun k s =>
        let x := stook s k
        if !x.clock && x.wake.isNone then pllRequest (setStook s k { x with wake := some s.tb.up }) else s) s
    else s
  else s
/-- The clocks at a deckle boundary (R395 to R398, R403); `CK_POWER_EST` and `CK_KEEPER` take free values. -/
def clocksDeckle (s : State) : State :=
  let s := clocksBeat s
  let ran := s.clk.ran
  let s := forNat 44 (fun d s => if ran.getLsbD d then count s A_CK_AWAKE d 31 0 1 else s) s
  let s := forNat 12 (fun k s => stookIdle s k) s
  let p := (Config.powerEstimate s.free).toNat
  let s := { s with
    free := s.free + 1
    clk := { s.clk with
      pllIdle := if s.clk.pllUsed then 0 else satAdd 65535 s.clk.pllIdle 1
      pllUsed := false
      ran := 0
      cores := decide (s.clk.pll = 2)
      power := p
      powerMax := max s.clk.powerMax p
      keeper := (Config.keeperOffset s.free).toInt } }
  heldAwake (lcDeckle (lcDeckle s 0) 1)
/-- An all-on mode begins: every clock runs, so none is asleep when service follows (R19). -/
def clocksAllOn (s : State) : State :=
  let s := forNat 12 (fun k s => setStook s k { stook s k with clock := true, idle := 0, wake := none }) s
  pllRequest { s with gran := { s.gran with clock := true, idle := 0 } }
/-- HELD: the core PLL and what it clocks stop. -/
def clocksHeld (s : State) : State :=
  let s := forNat 12 (fun k s => setStook s k { stook s k with clock := false, idle := 0, busy := false, wake := none }) s
  levelEnd { s with
    gran := { s.gran with clock := false, idle := 0, busy := false }
    clk := { s.clk with pll := 0, pllIdle := 0, pllUsed := false, cores := false } } 17 0

end Sys2Proof.Machine
end

