-- ==== Sys2Proof/Machine/TimeBase.lean ====
section
/-!
DEFINITION. The time base (chapter 3): reference and quality, SYNC pulses and words, PTP and its servo, replica rings,
epoch sheaves. The steps themselves end a deckle and stand in Machine/Boundary.lean.
-/
namespace Sys2Proof.Machine

/-! ## Reference and quality (R85, R109) -/

/-- `TB_SOURCE.GEN`. -/
def timingGen (s : State) : Nat := bits (reg s A_TB_SOURCE 0) 1 0
/-- The timing port works: Gen3, not in HELD, with an address of its own (R103, R467). -/
def ptpOn (s : State) : Bool := timingGen s = 2 && s.modes.cur ≠ .held && s.cal.address ≠ 0
def servoCode : Servo → Nat
  | .idle => 0 | .listen => 1 | .acquire => 2 | .track => 3 | .faulty => 4
def refCode : BeatRef → Nat | .refclk => 0 | .recovered => 1 | .keeper => 2
/-- The reference of the beat synthesiser (R85). -/
def refOf (s : State) : BeatRef :=
  if ptpOn s && bitAt (reg s A_PTP_CTRL 0) 0 && (s.tb.servo = .track || (s.tb.servo = .acquire && s.tb.master.isSome)) then
    .recovered
  else if s.tb.refclk then .refclk else .keeper
/-- The time-quality code: the first row of Table 3.4 that holds (R109). -/
def qualityOf (s : State) : Nat :=
  if !s.tb.set then 0
  else if s.tb.ref = .keeper then 1
  else if timingGen s ≠ 2 then (if s.tb.confirmed then 2 else 3)
  else if s.tb.servo = .acquire || !s.tb.confirmed then 3
  else if s.tb.servo = .track then 4
  else if s.modes.cur = .held || !s.tb.expired then 5
  else 6
/-- The frequency correction that the reference `r` leaves in force: none for the recovered clock or outside Gen3; the 64 s
ratio where REFCLK takes over from the recovered clock; else what is in force is kept (R102, R106). -/
def freqAdjOf (s : State) (r : BeatRef) : Int :=
  if timingGen s ≠ 2 || r = .recovered then 0
  else if s.tb.ref = .recovered then s.tb.freqRatio else s.tb.freqAdj
/-- Reference and quality follow the state; a changed code causes an epoch sheaf (R118), and NOT_SET or KEEPER cancels a
couch of form 2 (R321). -/
def settleTime (s : State) : State :=
  let r := refOf s
  let s := { s with tb := { s.tb with freqAdj := freqAdjOf s r, ref := r } }
  let q := qualityOf s
  if q = s.tb.quality then s
  else
    let s := epochCause { s with tb := { s.tb with quality := q } } 2
    if q ≤ 1 then cancelCouch s (fun c => decide (c.form = 2) && c.reached.isNone) else s

/-- The servo forgets its measurements and what it still owes the phase: without a master it steers nothing (Table 1.4,
R106). -/
def clearServo (t : TB) : TB :=
  { t with offsets := [], acquired := 0, outside := 0, slew := 0, plan := 0, delays := [], delayReq := none,
           twoStep := none, syncDiff := none }
/-- The master is no longer followed: after a lock, holdover counts from here (R106, R109). -/
def dropMaster (t : TB) (next : Servo) : TB :=
  let held := t.everLocked && t.master.isSome
  { clearServo t with
    servo := next, master := none, lostAt := if held then some t.up else t.lostAt, expired := t.expired && !held }
/-- The link has been down for more than 1 s (Table 3.3). -/
def linkLongDown (s : State) : Bool := !s.tb.linkUp && s.tb.linkDownAt + Config.beatsPerSecond < s.tb.up
/-- The timing port is FAULTY (Table 3.3). -/
def portFaulty (s : State) : State :=
  levelBegin { s with tb := { dropMaster s.tb .faulty with foreign := [] } } 29 0 4
/-- A SET or couch of TB_SOURCE, and the entry into HELD (R94, R103, R109). With the link down for no more than 1 s the port
listens: DESIGN CHOICE, log entry 23. -/
def refreshTiming (s : State) : State :=
  let g := timingGen s
  let s := if g = 2 then setReg s A_TB_SYNC_CTRL 0 (reg s A_TB_SYNC_CTRL 0 / 2 * 2) else s
  let s := if g = s.tb.gen then s
    else { s with tb := { s.tb with gen := g, confirmed := false, slew := 0, plan := 0 } }
  let s := if !ptpOn s then
      levelEnd (levelEnd { s with tb := { dropMaster s.tb .idle with foreign := [] } } 27 0) 29 0
    else if s.tb.servo = .idle then
      if linkLongDown s then portFaulty s else { s with tb := { s.tb with servo := .listen } }
    else s
  settleTime s

/-- REFCLK_LOSS (R87). -/
def execRefclkLoss (s : State) : Res :=
  atPads s (if powered s && s.tb.refclk then
    settleTime (levelBegin { s with tb := { s.tb with refclk := false, refclkEdges := 0 } } 16 0 0) else s)
/-- REFCLK_RETURN (R87). -/
def execRefclkReturn (s : State) : Res :=
  atPads s (if powered s && !s.tb.refclk then
    settleTime (levelEnd { s with tb := { s.tb with refclk := true, refclkEdges := 4096 } } 16 0) else s)

/-! ## SYNC (R90 to R94, R97) -/

/-- The time base may step (R97). -/
def stepAllowed (s : State) : Bool :=
  !serviceMode s.modes.cur || s.tb.quality ≤ 1 || bitAt (reg s A_TB_STEP_POLICY 0) 0
def syncMismatch (s : State) : State := count s A_TB_SYNC_TALLY 0 31 16 1
/-- A pulse or load word at this beat edge takes effect DELAY beats later. -/
def queueSync (s : State) (w : Option Beat) : State :=
  { s with tb := { s.tb with sync := s.tb.sync ++ [{ due := s.tb.up + bits (reg s A_TB_SYNC_CTRL 0) 15 8, word := w }] } }
/-- SYNC_IN_PULSE (R90, R94): in Gen1, and in Gen3 for a check; not in HELD. -/
def execSyncInPulse (s : State) : Res :=
  atPads s (if powered s && s.modes.cur ≠ .held && (timingGen s = 0 || timingGen s = 2) then queueSync s none else s)
/-- A SYNC byte word (R91). -/
def syncByte (s : State) (i : Nat) (b : Byte) : State :=
  if timingGen s = 0 then s
  else if i = 7 then syncMismatch s
  else { s with tb := { s.tb with
    asm := BitVec.ofNat 56 (putBits s.tb.asm.toNat (55 - 8 * i) (48 - 8 * i) b.toNat)
    asmSeen := s.tb.asmSeen ||| BitVec.ofNat 7 (2 ^ i) } }
/-- A SYNC load word or a reserved word (R91, R92). -/
def syncLoad (s : State) (low : Nat) : State :=
  if timingGen s = 0 then s
  else if low ≠ 0x7FF then syncMismatch s
  else
    let whole := s.tb.asmSeen = BitVec.allOnes 7 && s.tb.asm.toNat % 1024 = 0
    let s' := { s with tb := { s.tb with asmSeen := 0 } }
    if whole then queueSync s' (some s.tb.asm) else raise (syncMismatch s') 28 0 0

/-! ## Epoch sheaves (R118) -/

/-- EPOCH_PERIODIC (R118): bits [31:0] of the count are 0; or the 56-bit count has wrapped by counting. -/
def execEpochPeriodic (s : State) : Res :=
  let n := s.tb.beat.toNat
  let stepped := match s.tb.steps with | e :: _ => e.2 = s.tb.up | [] => false
  let s := if n % 2 ^ 32 = 0 && powered s then epochCause s 4 else s
  .next (if n = 0 && powered s && s.tb.up ≠ 0 && !stepped then epochCause s 0 else s)

/-! ## Master selection (R99, R108) -/

/-- 2^k seconds in beats. -/
def logBeats (k : Int) : Nat :=
  if 0 ≤ k then Config.beatsPerSecond * 2 ^ k.toNat else Config.beatsPerSecond / 2 ^ (-k).toNat
/-- Qualified: two Announces within four announce intervals, and nothing outside the limits of Table 3.2. -/
def qualified (s : State) (f : Foreign) : Bool :=
  f.announceOk && f.syncOk && match f.seen with
  | a :: b :: _ => a ≤ b + 4 * logBeats f.interval && s.tb.up ≤ a + 4 * logBeats f.interval
  | _ => false
/-- The data set comparison as an order of lists: smaller is better. -/
def rank (f : Foreign) : List Nat :=
  [f.ds.priority1.toNat, f.ds.clockClass.toNat, f.ds.accuracy.toNat, f.ds.variance.toNat, f.ds.priority2.toNat,
   f.ds.grandmaster.toNat, f.ds.stepsRemoved.toNat, f.id.toNat]
def listLt : List Nat → List Nat → Bool
  | x :: xs, y :: ys => x < y || (x = y && listLt xs ys)
  | _, _ => false
def bestMaster (s : State) : Option Foreign :=
  (s.tb.foreign.filter (qualified s)).foldl (fun best f =>
    match best with
    | none => some f
    | some g => if listLt (rank f) (rank g) then some f else some g) none
/-- The best qualified master is selected; a new one puts the servo into ACQUIRE (R103, R108). -/
def selectMaster (s : State) : State :=
  match bestMaster s with
  | none => s
  | some f =>
    if s.tb.master = some f.id then s
    else settleTime { s with tb := { clearServo s.tb with
      master := some f.id, servo := .acquire
      foreign := s.tb.foreign.map fun g => if g.id = f.id then { g with lastSync := s.tb.up } else g } }
def ptpCount (s : State) (i : Nat) : State := count s A_PTP_MSG_TALLY i 31 0 1
/-- The message is of the domain and the sdoId the port is set to; another is discarded and counted (R99). -/
def ptpDomainOk (s : State) (h : PtpHeader) : Bool :=
  h.domain.toNat = bits (reg s A_PTP_DOMAIN 0) 6 0 && h.sdo.toNat = bits (reg s A_PTP_CTRL 0) 31 20
/-- An entry of the foreign masters changed. -/
def editForeign (s : State) (id : BitVec 80) (f : Foreign → Foreign) : State :=
  { s with tb := { s.tb with foreign := s.tb.foreign.map fun g => if g.id = id then f g else g } }
/-- The master is lost: holdover after a lock. It qualifies anew by two Announces (R106). -/
def loseMaster (s : State) (next : Servo) : State :=
  let s := levelEnd s 27 0
  let s := match s.tb.master with
    | some id => editForeign s id fun f => { f with seen := [] }
    | none => s
  settleTime { s with tb := dropMaster s.tb next }
/-- The selected master, where it is `id`, is not qualified any more: another is selected, or none is left (R99). -/
def settleMaster (s : State) (id : BitVec 80) : State :=
  let out := s.tb.foreign.any fun f => f.id = id && !(f.announceOk && f.syncOk)
  selectMaster (if out && s.tb.master = some id then loseMaster s .listen else s)
/-- PTP_ANNOUNCE (R99). -/
def execPtpAnnounce (h : PtpHeader) (interval : Int) (ptpTimescale : Bool) (ds : PtpDataset) (s : State) : Res :=
  atPads s (if !(powered s && ptpOn s && s.tb.linkUp) then s
    else if !ptpDomainOk s h then ptpCount s 5
    else
      let s := ptpCount s 3
      let old := s.tb.foreign.find? fun f => f.id = h.source
      let rest := s.tb.foreign.filter fun f => f.id ≠ h.source
      let ok := ptpTimescale && decide (-3 ≤ interval) && decide (interval ≤ 3)
      let f : Foreign := match old with
        | some f => { f with ds := ds, interval := interval, seen := (s.tb.up :: f.seen).take 2, announceOk := ok }
        | none => { id := h.source, ds := ds, interval := interval, seen := [s.tb.up], lastSync := s.tb.up,
                    syncInterval := 0, announceOk := ok, syncOk := true }
      settleMaster { s with tb := { s.tb with foreign := rest ++ [f] } } h.source)
/-- PTP_DISCARDED_MESSAGE (R99). -/
def execPtpDiscardedMessage (wrongDomain : Bool) (s : State) : Res :=
  atPads s (if powered s && ptpOn s && s.tb.linkUp then ptpCount s (if wrongDomain then 5 else 4) else s)

/-! ## The servo (R101 to R105) -/

/-- A correction field, 2^-16 ns, in fine ticks. -/
def corrTicks (c : Int) : Int := roundDiv (c * 16) 3125
def pathDelay (s : State) : Int :=
  if s.tb.delays.isEmpty then 0 else roundDiv s.tb.delays.sum s.tb.delays.length
/-- The lower median of a list in rising order. -/
def insertInt (x : Int) : List Int → List Int
  | [] => [x]
  | y :: rest => if x ≤ y then x :: y :: rest else y :: insertInt x rest
/-- Median of eight: the mean of the two in the middle. -/
def median8 (l : List Int) : Int :=
  let l := l.foldl (fun a x => insertInt x a) []
  roundDiv (l.getD 3 0 + l.getD 4 0) 2
def stepLimit (s : State) : Nat := bits (reg s A_TB_STEP_THRESHOLD 0) 15 0 * 8192
/-- The servo corrects the count by the offset o: whole beats and a rest of fine ticks (R95). -/
def servoStep (s : State) (o : Int) : State :=
  { s with tb := { clearServo s.tb with work := some (.servo (-o / 8192) (-o % 8192)) } }
/-- An offset beyond the threshold that may not be stepped is slewed and raises TB_OFFSET; one below it ends the level
(R97, R104). -/
def slewOffset (s : State) (o move : Int) : State :=
  let s := { s with tb := { s.tb with slew := move } }
  if stepLimit s < o.natAbs then levelBegin s 27 0 0 else levelEnd s 27 0
/-- The offset x, beyond the threshold, is stepped where a step is allowed; otherwise the phase moves by `move` (R97, R104). -/
def actOnOffset (s : State) (x move : Int) : State :=
  if stepLimit s < x.natAbs && stepAllowed s then servoStep s x else slewOffset s x move
/-- With `PTP_CTRL.SYNTONISED` clear the servo corrects the frequency too (R102). -/
def steerFrequency (s : State) : State :=
  if bitAt (reg s A_PTP_CTRL 0) 0 then s
  else { s with tb := { s.tb with freqAdj := Config.servoFrequency s.free }, free := s.free + 1 }
def lockWindow (s : State) : Nat := bits (reg s A_TB_LOCK_WINDOW 0) 15 0
/-- A new offset acts on the servo (R104, R105). -/
def servoOffset (s : State) (o : Int) : State :=
  let offs := (o :: s.tb.offsets).take 32
  let s := steerFrequency { s with tb := { s.tb with offset := o, offsets := offs, acquired := satAdd 1000 s.tb.acquired 1 } }
  match s.tb.servo with
  | .acquire =>
    let x := if s.tb.acquired = 8 then median8 offs else o
    let s := if s.tb.acquired < 8 then s else actOnOffset s x (-x)
    if s.tb.offsets.length = 32 && s.tb.offsets.sum.natAbs ≤ 32 * lockWindow s then
      settleTime { s with tb := { s.tb with servo := .track, everLocked := true, confirmed := true, set := true,
                                            lostAt := none, expired := false, outside := 0 } }
    else s
  | .track =>
    let lim := bits (reg s A_TB_SLEW_MAX 0) 6 0
    let move := clampInt (-lim) lim (Config.servoOutput s.free)
    let before := s.tb.outside
    let s := actOnOffset { s with free := s.free + 1 } o move
    let n := if bits (reg s A_TB_UNLOCK_WINDOW 0) 15 0 < o.natAbs then before + 1 else 0
    if n = 8 then settleTime { s with tb := { s.tb with servo := .acquire, outside := 0, acquired := 0, offsets := [] } }
    else { s with tb := { s.tb with outside := n } }
  | _ => s
/-- An offset from t1 and t2 (R101): device time minus master time. -/
def formOffset (s : State) (t1 t2 corr : Int) : State :=
  let d := t2 - t1 - corr - sx 32 (reg s A_PTP_ASYMMETRY 0)
  servoOffset { s with tb := { s.tb with syncDiff := some d } } (d - pathDelay s)
/-- A Sync or Follow_Up of the selected master, while the servo follows it. -/
def followed (s : State) (h : PtpHeader) : Bool :=
  s.tb.master = some h.source && (s.tb.servo = .acquire || s.tb.servo = .track)
/-- A timestamp of a received or sent event message at the ball: `PTP_LATENCY` holds the device's own ingress and egress
latencies (R100). -/
def atBallIn (s : State) (t : Int) : Int := t - bits s.cal.latency.toNat 15 0
def atBallOut (s : State) (t : Int) : Int := t + bits s.cal.latency.toNat 31 16
/-- The port's own identity: the EUI-64 of its unicast address, with portNumber 1 (R100). How the EUI-64 is formed is
PRESUMED, log entry 24. -/
def ownPort (s : State) : BitVec 80 :=
  let a := s.cal.address.toNat
  BitVec.ofNat 80 (((a / 2 ^ 24) * 2 ^ 40 + 0xFFFE * 2 ^ 24 + a % 2 ^ 24) * 2 ^ 16 + 1)
/-- PTP_SYNC (R101). A logSyncInterval outside -7 to 0 makes the message unusable and its master not qualified (R99). -/
def execPtpSync (h : PtpHeader) (interval : Int) (t1 : Option Int) (t2 : Int) (s : State) : Res :=
  atPads s (if !(powered s && ptpOn s && s.tb.linkUp) then s
    else if !ptpDomainOk s h then ptpCount s 5
    else
      let s := ptpCount s 0
      let ok := decide (-7 ≤ interval) && decide (interval ≤ 0)
      let s := editForeign s h.source fun f => { f with syncOk := ok }
      if !ok then settleMaster s h.source
      else if !followed s h then s
      else
        let s := editForeign s h.source fun f => { f with lastSync := s.tb.up, syncInterval := interval }
        let t2 := atBallIn s t2
        match t1 with
        | some t => formOffset { s with tb := { s.tb with twoStep := none } } t t2 (corrTicks h.corr)
        | none => { s with tb := { s.tb with twoStep := some (h, t2) } })
/-- PTP_FOLLOW_UP (R101). -/
def execPtpFollowUp (h : PtpHeader) (t1 : Int) (s : State) : Res :=
  atPads s (if !(powered s && ptpOn s && s.tb.linkUp) then s
    else if !ptpDomainOk s h then ptpCount s 5
    else
      let s := ptpCount s 1
      match s.tb.twoStep with
      | some (g, t2) =>
        if g.source = h.source && g.seq = h.seq && followed s h then
          formOffset { s with tb := { s.tb with twoStep := none } } t1 t2 (corrTicks g.corr + corrTicks h.corr)
        else s
      | none => s)
/-- PTP_DELAY_RESP (R101): the exchange's path delay joins the last 16. -/
def execPtpDelayResp (h : PtpHeader) (requester : BitVec 80) (interval : Int) (t4 : Int) (s : State) : Res :=
  atPads s (if !(powered s && ptpOn s && s.tb.linkUp) then s
    else if !ptpDomainOk s h then ptpCount s 5
    else
      let s := ptpCount s 2
      match s.tb.delayReq, s.tb.syncDiff with
      | some (q, t3), some d =>
        if followed s h && requester = ownPort s && q = h.seq then
          let back := t4 - t3 - corrTicks h.corr + sx 32 (reg s A_PTP_ASYMMETRY 0)
          { s with tb := { s.tb with delays := (roundDiv (d + back) 2 :: s.tb.delays).take 16, delayReq := none,
                                     delayInterval := clampInt (-7) 3 interval } }
        else s
      | _, _ => s)
/-- The random interval before the next Delay_Req: up to twice 2^logMinDelayReqInterval seconds. The range is PRESUMED from
IEEE 1588-2019, log entry 24; the draw is a free value. -/
def delayWait (s : State) : Nat := 2 * logBeats s.tb.delayInterval * (Config.delayDraw s.free).val / 65536
/-- DELAY_REQ_SEND (R99): once its interval has passed. One that finds the last without an answer counts it missing. -/
def execDelayReqSend (t3 : Int) (s : State) : Res :=
  atPads s (if powered s && ptpOn s && s.tb.linkUp && s.tb.master.isSome && s.tb.delayDue ≤ s.tb.up then
    let s := if s.tb.delayReq.isSome then ptpCount s 7 else s
    let s := ptpCount s 6
    { s with free := s.free + 1, tb := { s.tb with
        delayReq := some (s.tb.delaySeq, atBallOut s t3), delaySeq := s.tb.delaySeq + 1,
        delayDue := s.tb.up + delayWait s } }
  else s)

/-! ## Loss of the master (R106) -/

/-- Announces or Syncs of the master have failed for their timeouts. -/
def masterTimedOut (s : State) : Bool :=
  match s.tb.foreign.find? fun f => s.tb.master = some f.id with
  | none => true
  | some f =>
    f.seen.headD 0 + bits (reg s A_PTP_CTRL 0) 19 16 * logBeats f.interval ≤ s.tb.up ||
      f.lastSync + bits (reg s A_TB_LOSS_SYNCS 0) 7 0 * logBeats f.syncInterval ≤ s.tb.up
/-- MASTER_LOSS (R106): by timeout, or else because the link went down. -/
def execMasterLoss (s : State) : Res :=
  atPads s (if powered s && ptpOn s && s.tb.master.isSome then
    let s := if masterTimedOut s then s else { s with tb := { s.tb with linkUp := false, linkDownAt := s.tb.up } }
    loseMaster s .listen
  else s)
/-- HOLDOVER_EXPIRY (R106). -/
def execHoldoverExpiry (s : State) : Res :=
  .next (match s.tb.lostAt with
    | some b =>
      if b + bits (reg s A_TB_HOLDOVER_TIME 0) 15 0 * Config.beatsPerSecond ≤ s.tb.up && !s.tb.expired then
        settleTime { s with tb := { s.tb with expired := true } }
      else s
    | none => s)
/-- TP_LINK_DOWN (R103, R106): the link goes down, which loses the master; once it has been down for more than 1 s, the port
is FAULTY. -/
def execTpLinkDown (s : State) : Res :=
  atPads s (if !powered s then s
    else if s.tb.linkUp then
      let s := { s with tb := { s.tb with linkUp := false, linkDownAt := s.tb.up } }
      if ptpOn s && s.tb.master.isSome then loseMaster s .listen else s
    else if ptpOn s && s.tb.servo ≠ .faulty && linkLongDown s then settleTime (portFaulty s)
    else s)
/-- TP_LINK_UP (R103). -/
def execTpLinkUp (s : State) : Res :=
  let s' := { s with tb := { s.tb with linkUp := true } }
  atPads s (if !powered s then s
    else if ptpOn s && s.tb.servo = .faulty then
      settleTime { levelEnd s' 29 0 with tb := { (levelEnd s' 29 0).tb with servo := .listen } }
    else s')

/-! ## Replica rings (R111, R112) -/

/-- a and b differ by more than b / n. -/
def apart (a b n : Nat) : Bool := b < n * ((a : Int) - b).natAbs
/-- A measured replica period of a stook. -/
def replicaMeasured (s : State) (st p : Nat) : State :=
  let k := { stook s st with prepSince := s.tb.dk }
  match k.prepRetry with
  | none =>
    if k.prep = 0 || !apart p k.prep 200 then setStook s st { k with prepNext := some p }
    else setStook s st { k with prepRetry := some p }
  | some r =>
    if !apart p r 5000 then setStook s st { k with prepNext := some r, prepRetry := none }
    else raise (setStook s st { k with prepRetry := none }) 26 st 0
/-- REPLICA_MEASURE_ASLEEP (R111): every TDC_REPLICA_PERIOD deckles of a sleeping stook, or the repeat of R112. -/
def execReplicaMeasureAsleep (st : StookId) (period : BitVec 32) (s : State) : Res :=
  let k := stook s st.val
  .next (if serviceMode s.modes.cur && !k.clock && period ≠ 0 && k.prepSince < s.tb.dk &&
      (k.prepRetry.isSome || k.prepSince + bits (reg s A_TDC_REPLICA_PERIOD 0) 15 0 ≤ s.tb.dk) then
    replicaMeasured s st.val period.toNat else s)

/-- The one-tick steps of a deckle's slew, spread evenly: n beats into it, n |plan| div 1 024 of them are made (R105). They move
the servo's phase in Gen3, the trim in Gen1 and Gen2 (R89). -/
def slewBeat (s : State) : State :=
  let n := s.tb.beat.toNat % 1024
  let d := s.tb.plan.sign
  if n * s.tb.plan.natAbs / 1024 = (n + 1) * s.tb.plan.natAbs / 1024 then s
  else if timingGen s = 2 then { s with tb := { s.tb with slew := s.tb.slew - d, phase := s.tb.phase + d } }
  else { s with tb := { s.tb with trim := s.tb.trim + d } }
/-- What the time base does at a deckle boundary: the slew of the deckle, of the phase in Gen3 and of the trim in Gen1 and Gen2
(R89, R104); `TB_FREQ_RATIO` takes a free value while the line's clock is recovered. In Gen3 the trim in force stays where it
is: DESIGN CHOICE, log entry 23. -/
def timeDeckle (s : State) : State :=
  let lim : Int := bits (reg s A_TB_SLEW_MAX 0) 6 0
  let owed := if timingGen s = 2 then s.tb.slew else sx 13 (reg s A_TB_PHASE_TRIM 0) - s.tb.trim
  let s := { s with tb := { s.tb with plan := clampInt (-lim) lim owed } }
  if ptpOn s && s.tb.linkUp then
    { s with tb := { s.tb with freqRatio := (Config.freqRatio s.free).toInt }, free := s.free + 1 }
  else s

end Sys2Proof.Machine
end

