-- ==== Sys2Proof/Machine/Trigger.lean ====
section
/-!
DEFINITION. The trigger port and the Thresher (chapter 5): the hit primitive, the same-beat answer and its actions,
windows, matching and expiry.
-/
namespace Sys2Proof.Machine

/-! ## The hit primitive (R161 to R163) -/

/-- The channel is counted in the hit primitive. -/
def primCounted (s : State) (c : Nat) : Bool :=
  enabled s c && !(chan s c).masked && !fencedChannel s c && bitAt (reg s A_TH_PRIM_EN (c / 16)) (c % 16)
/-- Its contribution to the beat in force. -/
def contributes (s : State) (c : Nat) : Bool :=
  let x := chan s c
  primCounted s c && (if x.held then x.heldPrim else x.active || x.edgeNow)
/-- The primitive of the beat in force. -/
def primOf (s : State) : Prim :=
  let cs := (s.chs.map Prod.fst).filter (contributes s)
  { mult := min 63 cs.length
    groups := BitVec.ofNat 4 ((List.range 4).map fun g => if cs.any fun c => c / 48 = g then 2 ^ g else 0).sum
    stale := s.chs.any fun e => e.2.held && primCounted s e.1 }

/-! ## TG_OUT (R157, R158) -/

/-- A field of m bits from word bit w: its most significant bit is sent first (R157). -/
def wordField (w m v : Nat) : Nat := ((List.range m).map fun j => if bitAt v j then 2 ^ (w + m - 1 - j) else 0).sum
def onesIn (v : Nat) : Nat := ((List.range 16).filter fun k => bitAt v k).length
/-- The TG_OUT word of the beat in force with this answer. -/
def tgOutWord (s : State) (answer : Nat) : BitVec 16 :=
  let p : Prim := if s.modes.cur = .held then { mult := 0, groups := 0, stale := false }
    else s.thr.pipe.getD 3 { mult := 0, groups := 0, stale := false }
  let v := wordField 0 6 p.mult + p.groups.toNat * 2 ^ 6 + wordField 10 3 answer + bnat p.stale * 2 ^ 13 +
    bnat (atBoundary s) * 2 ^ 14
  BitVec.ofNat 16 (v + (if onesIn v % 2 = 0 then 2 ^ 15 else 0))

/-! ## The answer (R164 to R166) -/

/-- The answer-table entry of the beat in force for an opcode and class (R164, R165). -/
def answerEntry (s : State) (op cls : Nat) : Nat :=
  reg s A_TH_ANSWER_TABLE (modeCode s.modes.cur * 64 + s.thr.latchedPrev % 4 * 16 + cls * 8 + op)
/-- The Hasp replaces the owner's vector: from a mismatch to the first beat of a settled owner (R166). -/
def vectorReplaced (s : State) : Bool := s.barns.takeover.isSome
/-- ANSWER and ACTION for the word of this beat. -/
def answerOf (s : State) (op cls : Nat) : Nat × Nat :=
  if s.modes.cur = .held then (5, 0)
  else if vectorReplaced s then (if op = 0 then 0 else 6, 0)
  else (bits (answerEntry s op cls) 7 5, bits (answerEntry s op cls) 4 0)
/-- The tallies of an answered word: its answer, and what its action counts. -/
def countAnswer (s : State) (op cls : Nat) : State :=
  let (a, act) := answerOf s op cls
  let s := count s A_TH_ANSWERS a 31 0 1
  if act = 3 then count s A_TH_REFUSED 0 31 0 1 else if act = 5 then count s A_TH_UNKNOWN 0 31 0 1 else s
/-- The word of this beat is answered. -/
def answerWord (s : State) (op cls : Nat) : State :=
  countAnswer { s with thr := { s.thr with out := tgOutWord s (answerOf s op cls).1, worded := true } } op cls
/-- The opcode that the port reads in a beat without a TG_IN row: IDLE (DESIGN CHOICE, log entry 28), and from a receiver that
has been reset opcode 7 (R182, R362). -/
def restOpcode (s : State) : Nat := if s.thr.undriven then 7 else 0
/-- The TG_OUT word of the beat in force: one goes out in every beat (R158). -/
def tgOutNow (s : State) : BitVec 16 :=
  if s.thr.worded then s.thr.out else tgOutWord s (answerOf s (restOpcode s) (bnat s.thr.undriven)).1
/-- The beat's word is sent: `TH_ANSWERS` counts it (Table 5.11). -/
def settleWord (s : State) : State :=
  let s := if s.thr.worded || !powered s then s else countAnswer s (restOpcode s) (bnat s.thr.undriven)
  { s with thr := { s.thr with worded := false } }
/-- A word reaches the port: a receiver that has been reset reads opcode 7, class 1 (R182, R362). -/
def tgWord (s : State) (op cls : Nat) (k : Nat → State → State) : Res :=
  atPads s (if !powered s then s
    else if s.thr.undriven then answerWord s 7 1
    else k (answerOf s op cls).2 (answerWord s op cls))

/-- TG_IDLE. -/
def execTgIdle (cls : BitVec 1) (_operand : BitVec 12) (s : State) : Res := tgWord s 0 cls.toNat fun _ s => s
/-- TG_PING. -/
def execTgPing (cls : BitVec 1) (_operand : BitVec 12) (s : State) : Res := tgWord s 4 cls.toNat fun _ s => s
/-- TG_RESERVED_OPCODE. -/
def execTgReservedOpcode (op : Fin 3) (cls : BitVec 1) (_operand : BitVec 12) (s : State) : Res :=
  tgWord s (5 + op.val) cls.toNat fun _ s => s
/-- TG_SYNC_BYTE_WORD (R91, R160): passed to the time base in every mode but HELD. -/
def execTgSyncByteWord (cls : BitVec 1) (index : BitVec 3) (byte : Byte) (s : State) : Res :=
  tgWord s 3 cls.toNat fun _ s => if s.modes.cur = .held then s else syncByte s index.toNat byte
/-- TG_SYNC_LOAD_WORD (R91, R92, R160). -/
def execTgSyncLoadWord (cls : BitVec 1) (low : BitVec 11) (s : State) : Res :=
  tgWord s 3 cls.toNat fun _ s => if s.modes.cur = .held then s else syncLoad s low.toNat

/-! ## Windows (R170 to R174) -/

/-- The window that TYPE and OFFSET open at the beat in force; READCLASS is 2 when reduced. -/
def windowFor (s : State) (entry offset : Nat) (reduced : Bool) : Window :=
  let l := bits entry 48 32
  let before := bits entry 31 16
  let after := bits entry 15 0
  let a := s.tb.beat
  let ref := a - BitVec.ofNat 56 (l + offset)
  let force := s.tb.up + 8
  { lo := ref - BitVec.ofNat 56 before, hi := ref + BitVec.ofNat 56 after,
    stooks := BitVec.ofNat 12 (bits entry 60 49), readClass := if reduced then 2 else bits entry 62 61, force := force,
    keep := max force (s.tb.up + after + 34816 - (l + offset)) }
/-- TG_ACCEPT (R170, R172). -/
def execTgAccept (cls : BitVec 1) (type offset : BitVec 6) (s : State) : Res :=
  tgWord s 1 cls.toNat fun act s =>
    if act = 1 ∨ act = 2 then
      let entry := reg s A_TH_TRIGGER_TABLE type.toNat
      if !bitAt entry 63 then raise (count s A_TH_EXCEPTIONS 0 15 0 1) 30 0 0
      else
        let s := count s A_TH_ACCEPTS 0 31 0 1
        { s with thr := { s.thr with waiting := s.thr.waiting ++ [windowFor s entry offset.toNat (act = 2)] } }
    else s
/-- Two windows become one (R174). -/
def mergeWindows (a b : Window) : Window :=
  { lo := if beatLe a.lo b.lo then a.lo else b.lo, hi := if beatLe a.hi b.hi then b.hi else a.hi,
    stooks := a.stooks ||| b.stooks, readClass := 0, force := b.force, keep := max a.keep b.keep }
/-- A window enters the store and marks what it covers (R173 to R175). -/
def enterWindow (s : State) (w : Window) : State :=
  if s.thr.store.length < 512 then
    let s := { s with thr := { s.thr with store := s.thr.store ++ [w],
                                           storeMax := max s.thr.storeMax (s.thr.store.length + 1) } }
    markUnits s
  else
    let s := { s with thr := { s.thr with
      store := s.thr.store.dropLast ++ (s.thr.store.getLast?.map fun a => mergeWindows a w).toList } }
    let s := count s A_TH_EXCEPTIONS 1 15 0 1
    markUnits (raise s 30 0 1)
/-- Every window whose beat has come enters the store. -/
def enterDue (s : State) : State :=
  let due := s.thr.waiting.filter fun w => w.force ≤ s.tb.up
  let s := { s with thr := { s.thr with waiting := s.thr.waiting.filter fun w => !(w.force ≤ s.tb.up) } }
  due.foldl enterWindow s
/-- WINDOW_COMES_INTO_FORCE (R173). -/
def execWindowComesIntoForce (s : State) : Res := .next (enterDue s)
/-- WINDOW_LEAVES_STORE (R173). -/
def execWindowLeavesStore (s : State) : Res :=
  .next { s with thr := { s.thr with store := s.thr.store.filter fun w => s.tb.up ≤ w.keep } }

/-! ## Expiry (R176 to R178) -/

/-- TG_DISCARD (R176). -/
def execTgDiscard (cls : BitVec 1) (age : BitVec 12) (s : State) : Res :=
  tgWord s 2 cls.toNat fun act s =>
    if act = 4 then
      let e : Expire := { before := s.tb.beat - BitVec.ofNat 56 (32 * age.toNat), due := s.tb.up + 8 }
      { s with thr := { s.thr with expires := s.thr.expires ++ [e] } }
    else s
/-- A pending sheaf hit before a beat. -/
def hitBefore (now b : Beat) (u : GUnit) : Bool :=
  match placedHit now u with
  | some (_, h) => beatLt h b
  | none => false
/-- Pending sheaves expire in this mode: in neither HELD nor RECOVERY (Table 1.4). -/
def expiring (s : State) : Bool := s.modes.cur ≠ .held && s.modes.cur ≠ .recovery
/-- EARLY_EXPIRY (R176): the EXPIRE actions whose beat has come; what a window in force would mark is marked. In RECOVERY they
wait for the return. -/
def execEarlyExpiry (s : State) : Res :=
  let due := s.thr.expires.filter fun e => e.due ≤ s.tb.up
  let s' := { s with thr := { s.thr with expires := s.thr.expires.filter fun e => !(e.due ≤ s.tb.up) } }
  .next (if expiring s then
    due.foldl (fun s e => chaffUnits s fun u => hitBefore s.tb.beat e.before u) (markUnits (enterDue s'))
  else s)
/-- PENDING_EXPIRY (R176, R178): at deckle boundaries, in neither HELD nor RECOVERY. -/
def execPendingExpiry (s : State) : Res :=
  .next (if atBoundary s && expiring s then expireUnits (enterDue s) else s)

/-! ## Loss of signal (R183) -/

/-- TG_LOSS_OF_SIGNAL. -/
def execTgLossOfSignal (s : State) : Res :=
  atPads s (if powered s && !s.thr.los then
    raise { s with thr := { s.thr with los := true, locked := false } } 31 0 1 else s)
/-- TG_SIGNAL_RETURN: the receiver regains its footing. -/
def execTgSignalReturn (s : State) : Res :=
  atPads s (if powered s then { s with thr := { s.thr with los := false, undriven := false } } else s)

end Sys2Proof.Machine
end

