-- ==== Sys2Proof/Machine/Monitor.lean ====
section
/-!
DEFINITION. The monitor path (chapter 8): scan lists and conversions, results and limits, injected conversions, claims,
the baseline feed, the test DACs and the input-path check.
-/
namespace Sys2Proof.Machine

/-! ## Inputs, scan lists and windows (R245 to R248) -/

/-- The converter of a global input (Table 8.2). -/
def convOf (i : Nat) : Nat := if i < 192 then i / 24 else if i < 200 then i - 192 else (i - 200) / 2
/-- The global input of a local one (Table 8.2). -/
def globalInput (k l : Nat) : Nat := if l < 24 then 24 * k + l else if l = 24 then 192 + k else 200 + 2 * k + (l - 25)
def scanEntry (s : State) (k e : Nat) : Nat := reg s A_MON_SCAN_LIST (32 * k + e)
/-- The integration period in beats (Table 8.1). -/
def monPeriod (s : State) (five : Bool) : Nat :=
  if bitAt (reg s A_MON_CONFIG 0) 0 then (if five then 3413333 else 682667) else (if five then 4096000 else 819200)
/-- The first VALID entry after `pos`, or the lowest-indexed one (R248). -/
def nextEntry (s : State) (k pos : Nat) : Option Nat :=
  let valid := (List.range 32).filter fun e => bitAt (scanEntry s k e) 7
  match valid.find? fun e => pos < e with
  | some e => some e
  | none => valid.head?
def convAt (s : State) (input entry : Nat) (five : Bool) (inj : Option Req) : Conversion :=
  { input := input, entry := entry, five := five, start := s.tb.up, stop := s.tb.up + monPeriod s five,
    injected := inj, gatedBeats := 0, stale := input < 192 && (chan s input).held }
/-- The scan conversion after entry `pos`. -/
def scanConv (s : State) (k pos : Nat) : Option Conversion :=
  (nextEntry s k pos).map fun e =>
    convAt s (globalInput k (bits (scanEntry s k e) 4 0)) e (bitAt (scanEntry s k e) 6) none
/-- The converter is fenced. -/
def convFenced (s : State) (k : Nat) : Bool := s.flt.fencedConv.getLsbD k || resetsConverter s k

/-- A free converter begins what comes next: an injected request, else (unless a claim waits) the aborted scan conversion
or the next of its list (R255, R257). -/
def nextConversion (s : State) (k : Nat) : State :=
  let x := mc s k
  if s.modes.cur = .held || convFenced s k || x.claimed then s else
    match x.inj with
    | q :: rest =>
      setMc s k { x with run := some (convAt s q.input x.pos q.five (some q.req)), inj := rest }
    | [] =>
      if x.claimWaits then s else
        match x.aborted with
        | some a => setMc s k { x with run := some (convAt s a.input a.entry a.five none), aborted := none, pos := a.entry }
        | none =>
          match scanConv s k x.pos with
          | some c => setMc s k { x with run := some c, pos := c.entry }
          | none => s

/-! ## Stale results (R259, R270) -/

def staleInput (s : State) (i : Nat) : State := setMonRec s i { monRec s i with stale := true }
/-- A window of the channel's tap that runs as the channel comes to be held is stale (R259). -/
def spoilTap (s : State) (c : Nat) : State :=
  let x := mc s (convOf c)
  setMc s (convOf c) { x with run := x.run.map fun v => if v.input = c then { v with stale := true } else v }
/-- The beats of the hold of channel c's tap that lie in a window from `start` to now (R249). -/
def tapBeats (x : Channel) (start now : Nat) : Nat := if x.tapHeld then now - max x.tapSince start else 0
/-- The tap's hold ends: the window that runs on it keeps its share (R249). -/
def endTapHold (s : State) (c : Nat) : State :=
  let x := chan s c
  let m := mc s (convOf c)
  let add (v : Conversion) : Conversion :=
    if v.input = c then { v with gatedBeats := v.gatedBeats + tapBeats x v.start s.tb.up } else v
  setMc (setChan s c { x with tapHeld := false, tapResume := none }) (convOf c) { m with run := m.run.map add }

/-! ## Results (R251, R252) -/

/-- The divider that an input reaches its converter through (R252). The references but ZERO, whose limits lie beyond ±1.25 V,
take that of the supplies: DEDUCED, log entry 13. -/
def inputDivider (i : Nat) : Nat := if i < 192 || (205 ≤ i && i ≠ 214) then 2 else 1
/-- The coefficients of an internal temperature point: those of the identity, else nominal ones (R252, R467). -/
def tempCoef (s : State) (i : Nat) : BitVec 64 := s.cal.tcoef.getD (i - 200) (Config.nominalCoef (i - 200))
/-- RESULT and OVERRANGE of a window's mean `raw` in nV at the input of converter k (R252): corrected for the zero and the
reference in force, scaled for the kind of input, clamped to the range. -/
def monResult (s : State) (k i : Nat) (raw : Int) : Int × Bool :=
  let d := inputDivider i
  let v := roundDiv ((raw - 500 * calValue s 10 k 0) * (2 ^ 30 + calValue s 11 k 0) * d) (500 * 2 ^ 30)
  let top : Int := 2500000 * d
  let x := clampInt (-top) top v
  (if 200 ≤ i ∧ i < 205 then clampInt (-8388608) 8388607 (Config.temperature (tempCoef s i) x) else x, x ≠ v)

/-- The fields [31:24] of a result record (Table 8.4). -/
def monFlags (m : MonRec) (injected : Bool) : Nat :=
  bnat m.stale * 128 + bnat injected * 64 + bnat m.overrange * 32 + bnat m.five * 16 + bnat m.gated * 8 +
    bnat m.fenced * 4
/-- A result record (Table 8.4). -/
def monValue (m : MonRec) (injected : Bool) : Nat :=
  m.beat.toNat * 2 ^ 32 + monFlags m injected * 2 ^ 24 + toField 24 m.result
/-- The report of a result, where its category is enabled (R253). -/
def monReport (s : State) (i : Nat) (b : Beat) (m : MonRec) (injected : Bool) : State :=
  let ctrl := reg s A_MON_REPORT_CTRL 0
  let on := if injected then bitAt ctrl 3 else if i < 192 then bitAt ctrl 0 else if i < 200 then bitAt ctrl 1
    else bitAt ctrl 2
  if on then
    pushSheaf s (report 15 b (if injected then 2 else 1) i (toField 24 m.result)
      (monFlags m injected * 2 ^ 16 + min 255 m.fraction * 2 ^ 8))
  else s
/-- f for each of a converter's 27 inputs. -/
def forInputs (s : State) (k : Nat) (f : Nat → State → State) : State := forNat 27 (fun l s => f (globalInput k l) s) s

/-- A claim of calibration takes effect: the converter does no scan conversion and its results are stale. -/
def claimConverter (s : State) (k : Nat) : State :=
  let x := mc s k
  let s := setMc s k { x with claimed := true, claimWaits := false, run := scanConv s k x.pos }
  forInputs s k fun i s => staleInput s i
/-- A run asks for a converter: at once when nothing runs on it, else at the end of what runs (R255). -/
def requestClaim (s : State) (k : Nat) : State :=
  let x := mc s k
  if x.run.isNone && x.inj.isEmpty && (match x.result with | none => true | some r => r.conv.injected.isNone) then
    claimConverter s k
  else setMc s k { x with claimWaits := true }
/-- Calibration lets a converter go. -/
def releaseClaim (s : State) (k : Nat) : State :=
  let x := mc s k
  if x.claimed then nextConversion (setMc s k { x with claimed := false, run := none }) k
  else
    let s := setMc s k { x with claimWaits := false }
    if x.run.isNone then nextConversion s k else s
/-- An injected conversion is pending or running on the converter (R255). -/
def injectedPending (s : State) (k : Nat) : Bool :=
  let x := mc s k
  !x.inj.isEmpty || (match x.run with | some c => c.injected.isSome | none => false) ||
    (match x.result with | some r => r.conv.injected.isSome | none => false)

/-- The requests of a converter end ABORTED (R256). -/
def abortInjected (s : State) (k : Nat) : State :=
  let x := mc s k
  let reqs := (match x.result with | some r => r.conv.injected.toList | none => []) ++
    (match x.run with | some c => c.injected.toList | none => []) ++ x.inj.map Inject.req
  let s := setMc s k { x with inj := [] }
  reqs.foldl (fun s r => closeCmd s r 0x30 0x0C 0 []) s
/-- The converter is fenced (R270): its window is discarded, and each input reports its last result once. A scan conversion that
waits to restart goes on waiting (R257). -/
def stopConverter (s : State) (k : Nat) : State :=
  let s := abortInjected s k
  let s := setMc s k { mc s k with run := none, result := none }
  forInputs s k fun i s =>
    let s := setMonRec s i { monRec s i with stale := true, fenced := true }
    monReport s i s.tb.beat (monRec s i) false
/-- Its fence is released. -/
def resumeConverter (s : State) (k : Nat) : State :=
  let s := forInputs s k fun i s => setMonRec s i { monRec s i with fenced := false }
  nextConversion s k
/-- HELD: the converters are off, every result is stale, and each input reports its last result once (R259). -/
def monHeld (s : State) : State :=
  let s := forNat 216 (fun i s => monReport s i s.tb.beat { monRec s i with stale := true } false) s
  { s with mon := { s.mon with
      mcs := [], dacs := [], ipc := none, out := 0,
      results := (s.mon.results.map fun e => (e.1, { e.2 with stale := true, fenced := false })).filter
        fun e => e.2 ≠ MonRec.dflt } }
/-- START-UP: the converters begin their lists; the next accepted target of each channel is taken at once (R261). -/
def monStart (s : State) : State :=
  let s := { s with chs := s.chs.map fun e => (e.1, { e.2 with baseTaken := false }) }
  forNat 8 (fun k s => nextConversion s k) s
/-- A converter that stands idle begins what its list now holds. -/
def kickConverter (s : State) (k : Nat) : State := if (mc s k).run.isNone then nextConversion s k else s
/-- A channel with BASE_EN clear has the target 0 (R260). -/
def clearTarget (s : State) (c : Nat) : State :=
  if bitAt (reg s A_MON_CH_CTRL c) 0 then s else setChan s c { chan s c with baseTarget := 0 }
/-- A couch at this beat (R269): each list goes on from its lowest-indexed VALID entry, that of a claimed converter too. An
aborted conversion without an entry is dropped; `MON_ABORTS` has counted it already, at its abort. -/
def monCouch (s : State) : State :=
  forNat 8 (fun k s => kickConverter s k) <| forNat 8 (fun k s =>
    let x := mc s k
    let listed (a : Conversion) : Bool := (List.range 32).any fun e =>
      bitAt (scanEntry s k e) 7 && globalInput k (bits (scanEntry s k e) 4 0) = a.input
    setMc s k { x with pos := 31, aborted := (x.aborted.filter listed).map fun a => { a with entry := 31 },
                       run := if x.claimed then x.run.map fun c => { c with entry := 31 } else x.run }) <|
  forNat 192 (fun c s => clearTarget s c) s

/-! ## The converters' events -/

/-- MONITOR_WINDOW_END (R245): the running window has ended; what comes next begins at the same beat edge. The window of a
claimed converter is that of the conversion that would have run (R259). -/
def execMonitorWindowEnd (k : Conv) (raw : Int) (s : State) : Res :=
  let x := mc s k.val
  .next (match x.run with
    | none => s
    | some c =>
      if s.tb.up < c.stop then s
      else
        let (v, beyond) := monResult s k.val c.input raw
        let gated := c.gatedBeats + if c.input < 192 then tapBeats (chan s c.input) c.start c.stop else 0
        let res : ConvResult :=
          { conv := c, beat := s.tb.beat, stale := x.claimed || c.stale, result := v, gated := gated, overrange := beyond,
            due := s.tb.up + 16 }
        if x.claimed then
          setMc s k.val { x with result := some res, run := scanConv s k.val c.entry }
        else nextConversion (setMc s k.val { x with result := some res, run := none }) k.val)

/-- INJECT_ABORT_EDGE (R257): a converter with a queued request and a free integrator aborts its scan conversion. The
second integrator is free 16 beats after the last window's end (DEDUCED, log entry 13). -/
def execInjectAbortEdge (k : Conv) (s : State) : Res :=
  let x := mc s k.val
  .next (match x.inj with
    | [] => s
    | q :: _ =>
      let free := match x.result with | none => true | some r => r.due ≤ s.tb.up
      if x.claimed || s.tb.up < q.acc + 1 || !free then s
      else
        match x.run with
        | none => nextConversion s k.val
        | some c =>
          if c.injected.isSome then s
          else
            let s := setMc s k.val { x with run := none, aborted := some c }
            nextConversion (count s A_MON_ABORTS k.val 15 0 1) k.val)

/-- The mean junction temperature of internal points 0 to 3 in 1/64 °C (R289). -/
def meanTemp (s : State) : Int :=
  roundDiv ((monRec s 200).result + (monRec s 201).result + (monRec s 202).result + (monRec s 203).result) 64
/-- The mean temperature is compared with `CAL_TEMP` (R289): one raise for each departure. -/
def checkTemp (s : State) : State :=
  let ref := sx 16 (s.cal.temp.toNat)
  let far := (meanTemp s - ref).natAbs > 64 * reg s A_CAL_TEMP_DELTA 0
  let all := ([200, 201, 202, 203].all fun i => !(monRec s i).stale)
  if !all then s
  else if far && !s.cal.tempRaised then raise { s with cal := { s.cal with tempRaised := true } } 34 255 0x400
  else if !far then { s with cal := { s.cal with tempRaised := false } } else s
/-- A result of a limit point is compared with its limits (R250). -/
def checkLimits (s : State) (p : Nat) (v : Int) : State :=
  let l := reg s A_MON_LIMITS p
  let below := v < sx 24 (bits l 23 0)
  let above := sx 24 (bits l 47 24) < v
  let bit := BitVec.ofNat 24 (2 ^ p)
  if bitAt l 48 && (below || above) then
    if s.mon.out.getLsbD p then s
    else
      let s := count { s with mon := { s.mon with out := s.mon.out ||| bit } } A_MON_LIMIT_EVENTS p 15 0 1
      levelBegin s 18 p (if below then 1 else 2)
  else levelEnd { s with mon := { s.mon with out := s.mon.out &&& ~~~bit } } 18 p
/-- The baseline target of a result at a gain code (R260). -/
def baseTargetOf (gain : Nat) (result : Int) : Int :=
  clampInt (-131071) 131071 (roundDiv (result * 512 * 2 ^ gain) 15625)
/-- A clean tap result sets its channel's baseline target; the first in START-UP or CALIBRATION & TEST comes into force at
once (R260, R261). -/
def feedBaseline (s : State) (c : Nat) (m : MonRec) : State :=
  if m.gated || m.overrange || !bitAt (reg s A_MON_CH_CTRL c) 0 then s else
    let x := chan s c
    let t := baseTargetOf x.ana.gain m.result
    let atOnce := (s.modes.cur = .startUp || s.modes.cur = .cal) && !x.baseTaken
    setChan s c { x with baseTarget := t, base := if atOnce then t else x.base, baseTaken := x.baseTaken || atOnce }
/-- The gated share of a result's window: in 1/256, and whether it exceeds GATE_MAX (R249). -/
def gatedShare (r : ConvResult) : Nat := 256 * r.gated / (r.conv.stop - r.conv.start)
def overGate (s : State) (r : ConvResult) : Bool :=
  bits (reg s A_MON_CONFIG 0) 23 16 * (r.conv.stop - r.conv.start) < 256 * r.gated
/-- The record of a new result (Table 8.4). -/
def newRecord (s : State) (r : ConvResult) (stale : Bool) (before : List (Int × Bool)) : MonRec :=
  { beat := r.beat.setWidth 32, result := r.result, stale := stale, gated := overGate s r, overrange := r.overrange,
    fenced := false, fraction := gatedShare r, five := r.conv.five, accepted := before }
/-- A scan result is delivered (R249 to R253, R259). -/
def deliverScan (s : State) (k : Nat) (r : ConvResult) : State :=
  let i := r.conv.input
  let held := i < 192 && (chan s i).held
  if r.stale || held || (mc s k).claimed then
    let s := staleInput s i
    monReport s i r.beat (monRec s i) false
  else
    let m := newRecord s r false (((r.result, overGate s r) :: (monRec s i).accepted).take 2)
    let s := monReport (setMonRec s i m) i r.beat m false
    if i < 192 then feedBaseline s i m
    else
      let s := checkLimits s (i - 192) r.result
      if 200 ≤ i ∧ i < 204 then checkTemp s else s
/-- An injected result is delivered in its reply (R256, R258). -/
def deliverInjected (s : State) (k : Nat) (r : ConvResult) (q : Req) : State :=
  let i := r.conv.input
  let m := newRecord s r (r.stale || (i < 192 && (chan s i).held)) []
  let s := count s A_MON_ABORTS k 31 16 1
  let s := monReport s i r.beat m true
  closeCmd s q 0x30 0 0 (valueWords 2 (monValue m true))
/-- MONITOR_RESULT_DELIVERED (R251): 16 beats after the window. -/
def execMonitorResultDelivered (k : Conv) (s : State) : Res :=
  let x := mc s k.val
  .next (match x.result with
    | none => s
    | some r =>
      if s.tb.up < r.due then s
      else
        let s := setMc s k.val { x with result := none }
        match r.conv.injected with
        | some q => deliverInjected s k.val r q
        | none => deliverScan s k.val r)
/-- INJECT_CONVERSION (R256). -/
def execInjectConversion (r : Req) (input : Byte) (five : Bool) (s : State) : Res :=
  granger s r (.injectConversion r input five) 0x30 fun s =>
    let i := input.toNat
    let k := convOf i
    if 216 ≤ i then replyBad s r 0x30 0
    else if 4 ≤ (mc s k).inj.length then replyBusy s r 0x30 0xFF
    else if convFenced s k then replyDenied s r 0x30
    else opening s r 0x30 i fun s =>
      let x := mc s k
      setMc s k { x with inj := x.inj ++ [{ req := r, input := i, five := five, acc := s.tb.up }] }
/-- READ_MONITOR (Table 11.8). -/
def execReadMonitor (r : Req) (first count : Byte) (s : State) : Res :=
  granger s r (.readMonitor r first count) 0x31 fun s =>
    let n := count.toNat
    if n = 0 || 108 < n || 216 < first.toNat + n then replyBad s r 0x31 0
    else replyOk s r 0x31 ((List.range n).flatMap fun j => valueWords 2 (monValue (monRec s (first.toNat + j)) false))

/-! ## The baseline (R249, R261) -/

/-- The number moves one unit toward another. -/
def toward (t v : Int) : Int := if v < t then v + 1 else if t < v then v - 1 else v
/-- BASELINE_SLEW_STEP (R261): one unit of 1/16 LSB, once every `MON_BASE_SLEW` deckles. A fenced or claimed converter
gives its channels no step (R270, Table 8.7). -/
def execBaselineSlewStep (s : State) : Res :=
  .next (if s.modes.cur ≠ .held && atBoundary s && reg s A_MON_BASE_SLEW 0 ≤ s.mon.slewCount then
    let s := { s with mon := { s.mon with slewCount := 0 } }
    forNat 192 (fun c s =>
      let k := c / 24
      let x := chan s c
      if convFenced s k || (mc s k).claimed then s else setChan s c { x with base := toward x.baseTarget x.base }) s
  else s)
/-- TAP_HOLD_RELEASE (R249): GATE_HOLD beats after the discriminator's release. -/
def execTapHoldRelease (c : Chan) (s : State) : Res :=
  let x := chan s c.val
  .next (match x.tapResume with
    | some b => if b ≤ s.tb.up && !x.active then endTapHold s c.val else s
    | none => s)

/-! ## Held channels (R162, R279) -/

/-- A channel is held by calibration or by a check: its hit primitive holds the contribution of the last beat, and its
tap's result is stale. -/
def holdChannel (s : State) (c : Nat) : State :=
  let x := chan s c
  spoilTap (staleInput (setChan s c { x with held := true, heldPrim := x.prevPrim, holdBeat := s.tb.beat, stuckDone := true }) c) c
/-- It is released, with its BLIND marker (R152, R279): reason 1 gleaning, 2 a check, 3 a foreground run. -/
def releaseChannel (s : State) (c reason : Nat) : State :=
  let x := chan s c
  if x.held then
    blindMarker (setChan s c { x with held := false, heldPrim := false, ring := [] }) c x.holdBeat reason
  else s

/-! ## Test DACs (R263, R265) -/

def dacCode : DacHolder → Nat | .none => 0 | .host => 1 | .calibration => 2 | .check => 3
/-- `TD_STATE` (Table 8.9). -/
def tdState (s : State) (k : Nat) : Nat :=
  let d := tdac s k
  d.code.toNat + bnat d.low * 2 ^ 12 + d.ch * 2 ^ 13 + bnat d.connected * 2 ^ 17 + dacCode d.holder * 2 ^ 18
/-- The code with the DAC's offset and gain corrected (Table 9.1, row 12), as every holder of the DAC has it applied. The spec
names no formula for it: DEDUCED, log entry 14. -/
def dacDrive (s : State) (k : Nat) (low : Bool) (code : BitVec 12) : BitVec 12 :=
  let r := if low then 2 else 0
  let v := roundDiv ((16 * code.toInt - calValue s 12 k r) * 2 ^ 20) (16 * (2 ^ 20 + calValue s 12 k (r + 1)))
  BitVec.ofInt 12 (clampInt (-2048) 2047 v)
/-- The output takes a code on a channel of the stook. -/
def setDac (s : State) (k : Nat) (h : DacHolder) (ch : Nat) (low : Bool) (code : BitVec 12) : State :=
  setTdac s k { tdac s k with holder := h, connected := true, ch := ch, low := low, code := code,
                              drive := dacDrive s k low code, settled := false }
/-- The host drives the DAC: the output settles anew. -/
def driveDac (s : State) (k : Nat) (r : Req) (ch : Nat) (low : Bool) (code : BitVec 12) : State :=
  let s := setDac s k .host ch low code
  setTdac s k { tdac s k with reqs := (tdac s k).reqs ++ [r] }
/-- The waiting input-path check begins: it holds its DAC, not yet connected, and its channel (R266, R267). -/
def beginCheck (s : State) : State :=
  match s.mon.ipc with
  | none => s
  | some p =>
    let s := setTdac s (p.ch / 16) { tdac s (p.ch / 16) with holder := .check }
    let s := { s with mon := { s.mon with ipc := some { p with started := true, startDeckle := deckle s } } }
    holdChannel s p.ch
/-- A check asks for its stook's DAC: at once when nothing holds it, else behind the claims that wait (R265). -/
def startCheck (s : State) : State :=
  match s.mon.ipc with
  | none => s
  | some p =>
    let k := p.ch / 16
    if (tdac s k).holder = .none then beginCheck s
    else setTdac s k { tdac s k with waits := (tdac s k).waits ++ [DacClaim.check] }
/-- The claims that wait for a free DAC are served in their order: the TEST_DACs at the front together, since they have one
holder, or the check. -/
def serveDac (s : State) (k : Nat) : List DacClaim → State
  | [] => setTdac s k { tdac s k with waits := [] }
  | .check :: rest =>
    let s := setTdac s k { tdac s k with waits := DacClaim.check :: rest }
    if (tdac s k).holder = .none then beginCheck (setTdac s k { tdac s k with waits := rest }) else s
  | .host r ch low code :: rest => serveDac (driveDac s k r ch low code) k rest
/-- The DAC is let go, and the claims that wait are served (R265). -/
def freeDac (s : State) (k : Nat) : State :=
  serveDac (setTdac s k { tdac s k with holder := .none, connected := false }) k (tdac s k).waits
/-- A foreground calibration runs (R265, R275). -/
def foregroundRuns (s : State) : Bool :=
  match s.cal.run with
  | some x => decide (x.kind = RunKind.foreground)
  | none => false
/-- TEST_DAC with CONNECT (R265). -/
def execTestDacConnect (r : Req) (st ch : BitVec 4) (low : Bool) (code : BitVec 12) (s : State) : Res :=
  granger s r (.testDacConnect r st ch low code) 0x32 fun s =>
    let k := st.toNat
    if 12 ≤ k then replyBad s r 0x32 0
    else if foregroundRuns s then replyBusy s r 0x32 0x40
    else opening s r 0x32 k fun s =>
      let d := tdac s k
      if d.holder = .none || d.holder = .host then driveDac s k r ch.toNat low code
      else setTdac s k { d with waits := d.waits ++ [DacClaim.host r ch.toNat low code] }
/-- TEST_DAC without CONNECT: the host's hold ends; there is no output to settle (DEDUCED, log entry 14). -/
def execTestDacRelease (r : Req) (st : BitVec 4) (s : State) : Res :=
  granger s r (.testDacRelease r st) 0x32 fun s =>
    let k := st.toNat
    if 12 ≤ k then replyBad s r 0x32 0
    else if foregroundRuns s then replyBusy s r 0x32 0x40
    else if (tdac s k).holder = .host then
      let d := tdac s k
      let s := d.reqs.foldl (fun s q => closeCmd s q 0x32 0x0C 0 []) (setTdac s k { d with reqs := [], connected := false })
      let s := freeDac s k
      replyOk s r 0x32 (valueWords 1 (tdState s k))
    else replyOk s r 0x32 (valueWords 1 (tdState s k))
/-- TEST_DAC_SETTLED (R263). -/
def execTestDacSettled (st : StookId) (s : State) : Res :=
  let k := st.val
  let d := tdac s k
  .next (if d.holder = .host && !d.settled then
    let s := setTdac s k { d with settled := true, reqs := [] }
    d.reqs.foldl (fun s q => closeCmd s q 0x32 0 0 (valueWords 1 (tdState s k))) s
  else s)

/-! ## The input-path check (R266 to R268) -/

/-- INPUT_PATH_CHECK (R266). -/
def execInputPathCheck (r : Req) (ch : Byte) (s : State) : Res :=
  granger s r (.inputPathCheck r ch) 0x33 fun s =>
    let c := ch.toNat
    if 192 ≤ c || !enabled s c then replyBad s r 0x33 0
    else if s.mon.ipc.isSome then replyBusy s r 0x33 0x33
    else opening s r 0x33 c fun s =>
      startCheck { s with mon := { s.mon with
        ipc := some { req := r, ch := c, started := false, startDeckle := deckle s, step := 0, retries := 0, plus := 0,
                      minus := 0, peak := none } } }
/-- What a check has measured (R267, Table 8.6): the gain error in ppm, the offset in 1/16 LSB, the PEAK and its reference in
LSB, the timing residual in fine ticks; none for what no step has measured, and for an injector step that formed no edge. -/
structure CheckFound where
  gain : Option Int
  offset : Option Int
  peak : Option Nat
  ref : Nat
  residual : Option Int
deriving DecidableEq, Repr
/-- Table 8.6 on the means at +v and at -v, 2v being 12 288 LSB at every gain. -/
def checkFound (s : State) (p : Ipc) (residual : Option Int) : CheckFound :=
  let level (v : Int) : Option Int := if 3 ≤ p.step then some v else none
  { gain := level (roundDiv ((p.plus - p.minus) * 1000000) 196608 - 1000000),
    offset := level (roundDiv (p.plus + p.minus) 2), peak := p.peak, ref := bits (reg s A_IPC_REF p.ch) 13 0, residual := residual }
/-- The verdict of Table 8.8: the lowest code among the failures. Step 3 is skipped with a reference of 0. -/
def ipcVerdict (s : State) (f : CheckFound) : Nat :=
  let tol := reg s A_IPC_TOL 0
  let peak := f.ref ≠ 0
  let q := f.peak.getD 0
  if (peak && f.peak.isNone) || f.residual.isNone then 1
  else if peak && 4 * q < f.ref then 2
  else if peak && 3 * f.ref < 2 * q then 3
  else if bits tol 15 0 < (f.gain.getD 0).natAbs then 4
  else if 16 * bits tol 23 16 < (f.offset.getD 0).natAbs then 5
  else if peak && (5 * q < 4 * f.ref || 5 * f.ref < 4 * q) then 6
  else if bits tol 31 24 < (f.residual.getD 0).natAbs then 7
  else 0
/-- The check's channel and DAC are let go. -/
def endCheck (s : State) (p : Ipc) : State :=
  let s := { s with mon := { s.mon with ipc := none } }
  if p.started then freeDac (releaseChannel s p.ch 2) (p.ch / 16)
  else
    let k := p.ch / 16
    setTdac s k { tdac s k with waits := (tdac s k).waits.filter fun w => w ≠ DacClaim.check }
/-- `IPC_RESULT` (Table 8.9) of a verdict; the ratio is in 1/1 024. The field of what was not measured is a free value, the
k-th (log entry 9). -/
def ipcWord (k v : Nat) (f : CheckFound) : Nat :=
  let none' (i : Nat) : Int := Config.unmeasured (4 * k + i)
  let ratio : Nat := match f.peak with
    | some p => min 4095 ((2048 * p + f.ref) / (2 * f.ref))
    | none => toField 12 (none' 2)
  let field (w : Nat) (x : Int) : Nat := toField w (clampInt (-(2 ^ (w - 1))) (2 ^ (w - 1) - 1) x)
  v + field 20 (f.gain.getD (none' 0)) * 2 ^ 8 + field 12 (f.offset.getD (none' 1)) * 2 ^ 28 + ratio * 2 ^ 40 +
    field 12 (f.residual.getD (none' 3)) * 2 ^ 52
/-- The check ends with a verdict on what it has found (R268): the result, the counts, the report and the reply. -/
def closeCheck (s : State) (p : Ipc) (v : Nat) (f : CheckFound) : State :=
  let word := ipcWord s.free v f
  let s := endCheck { s with free := s.free + 1 } p
  let s := { s with mon := { s.mon with ipcRes := pset 15 s.mon.ipcRes p.ch (BitVec.ofNat 64 word) } }
  let s := count s A_IPC_COUNT p.ch 15 0 1
  let s := if v = 0 then s else count s A_IPC_COUNT p.ch 31 16 1
  let s := pushSheaf s (report 15 s.tb.beat 3 p.ch (v * 2 ^ 20 + bits word 27 8) (bits word 51 40 * 2 ^ 12 + bits word 63 52))
  closeCmd s p.req 0x33 (if v = 8 then 0x0D else 0) 0 (valueWords 2 word)
/-- The preconditions of a measurement (R267): the discriminator inactive for 41 beats, and the last tap result not GATED. -/
def checkQuiet (s : State) (c : Nat) : Bool :=
  !(chan s c).active && (chan s c).released + 41 ≤ s.tb.up && !(monRec s c).gated
/-- The delay of a channel's injector, 1/16 fine tick; 0 before an identity is loaded (R264, R467). -/
def injectorDelay (s : State) (c : Nat) : Int := (s.cal.injDelay.getD c 0).toInt
/-- Who holds a channel's injector (R265): a check in its last steps, or the calibration run that holds the channel. -/
def injectorHolder (s : State) (c : Nat) : DacHolder :=
  match s.mon.ipc, s.cal.run with
  | some p, r => if p.started && p.ch = c then .check else match r with
    | some x => if x.held.contains c then .calibration else .none
    | none => .none
  | none, some x => if x.held.contains c then .calibration else .none
  | none, none => .none
/-- The code of 0.75 of the full scale at gain code g, exact in the range that Table 8.6 names: whether LOW, and the code. -/
def checkLevel (g : Nat) : Bool × Nat := if g < 4 then (false, 1536 / 2 ^ g) else (true, 1536 / 2 ^ (g - 4))
/-- The check goes on to a step: its stimulus is applied (Table 8.6). Step 3 is skipped with `IPC_REF.PEAK` 0. -/
def checkStep (s : State) (p : Ipc) (n : Nat) : State :=
  let k := p.ch / 16
  let (low, v) := checkLevel (chan s p.ch).ana.gain
  let goOn (s : State) (n : Nat) : State := { s with mon := { s.mon with ipc := some { p with step := n, retries := 0 } } }
  let off (s : State) : State := setTdac s k { tdac s k with connected := false }
  match n with
  | 1 => goOn (setDac s k .check (p.ch % 16) low (BitVec.ofNat 12 v)) 1
  | 2 => goOn (setDac s k .check (p.ch % 16) low (BitVec.ofInt 12 (-v))) 2
  | 3 => goOn (off s) (if bits (reg s A_IPC_REF p.ch) 13 0 = 0 then 4 else 3)
  | _ => goOn (off s) n
/-- A measurement whose preconditions hold. One that does not belong to the step in progress is none of it. -/
def checkMeasured (s : State) (p : Ipc) (m : CheckMeas) : State :=
  match p.step, m with
  | 0, .quiet => checkStep s p 1
  | 1, .level v => checkStep s { p with plus := v } 2
  | 2, .level v => checkStep s { p with minus := v } 3
  | 3, .peak q => checkStep s { p with peak := q } 4
  | 4, .edge t =>
    let residual := t.map fun (t : Int) => roundDiv (t - injectorDelay s p.ch) 16
    let f := checkFound s p residual
    closeCheck s p (ipcVerdict s f) f
  | _, _ => s
/-- INPUT_PATH_CHECK_END (R267, R268): the step in progress has its measurement, made at this beat; one whose preconditions do
not hold is discarded and retried. The check ends with its last step or without retries left. -/
def execInputPathCheckEnd (m : CheckMeas) (s : State) : Res :=
  .next (match s.mon.ipc with
    | none => s
    | some p =>
      if !p.started then s
      else if checkQuiet s p.ch then checkMeasured s p m
      else if p.retries < reg s A_CAL_RETRIES 0 then
        { s with mon := { s.mon with ipc := some { p with retries := p.retries + 1 } } }
      else closeCheck s p 8 (checkFound s p none))

/-- A mode transition ends what the new mode does not allow: the check and the host's test DACs (R265, R266, R339). -/
def monLeave (s : State) (new : Mode) : State :=
  let s := match s.mon.ipc with
    | some p => if opcodeAllowed 0x33 new then s else endCheck s p
    | none => s
  if new = .cal then s
  else forNat 12 (fun k s =>
    let d := tdac s k
    let left := d.waits.filter fun w => w = DacClaim.check
    if d.holder = .host then freeDac (setTdac s k { d with reqs := [], waits := left }) k
    else setTdac s k { d with waits := left }) s

end Sys2Proof.Machine
end

