-- ==== Sys2Proof/Machine/Calibration.lean ====
section
/-!
DEFINITION. Calibration (chapter 9): runs and sweeps, measurements and agreement, the accepted image, slewing, quality
figures and reports.
-/
namespace Sys2Proof.Machine

/-! ## Quantities, steps and units (Tables 9.1 and 9.2) -/

def stepQuantities : Nat → List Nat
  | 1 => [10, 11] | 2 => [12] | 3 => [0] | 4 => [2] | 5 => [1, 3] | 6 => [4] | 7 => [5] | 8 => [6] | 9 => [7]
  | 10 => [8] | 11 => [9] | _ => []
def quantityStep (q : Nat) : Nat := [3, 5, 4, 5, 6, 7, 8, 9, 10, 11, 1, 1, 2].getD q 0
/-- Steps 0x03, 0x05, 0x06, 0x0A and 0x0B (Table 11.8). -/
def gleanSteps : Nat := 0xC68
/-- The steps that a mask selects, in code order; a mask of 0 selects the kind's default (Table 11.8). -/
def maskSteps (kind : RunKind) (mask : Nat) : List Nat :=
  match kind with
  | .foreground => (List.range 12).filter fun c => 1 ≤ c && (mask = 0 || bitAt mask c)
  | .gleanCh => (List.range 12).filter fun c => bitAt (if mask = 0 then gleanSteps else mask &&& gleanSteps) c
  | .gleanConv => [1]
/-- An element that is a choice of a redundant element, not a number (R273). -/
def isChoice (k : CalKey) : Bool :=
  match k.quantity.val, k.elem with
  | 0, e => 2 ≤ e | 2, e => 128 ≤ e | 7, e => e = 52 | 11, e => e = 1 | _, _ => false
/-- The unit that a value's outcome belongs to: the channel (the even one of a fused pair), 192 + stook, 208 + converter. -/
def keyUnit (s : State) (k : CalKey) : Nat :=
  if k.quantity.val = 12 then 192 + k.unit
  else if 10 ≤ k.quantity.val then 208 + k.unit
  else if fusedOdd s k.unit then k.unit - 1 else k.unit
/-- A value that Table 9.6 gives as 0: the PGA value of gain ×1, the trim of cell A, the fused trim of cell A of channel 2k. -/
def fixedZero (k : CalKey) : Bool :=
  match k.quantity.val, k.elem with
  | 3, e => e = 1 | 4, e => e = 0 || (e = 2 && k.unit % 2 = 0) | _, _ => false
/-- The value belongs to what the run measures (R274, Tables 9.1 and 9.2). -/
def inScope (s : State) (x : Run) (k : CalKey) : Bool :=
  let u := keyUnit s k
  let q := k.quantity.val
  (calField q k.unit k.elem).isSome && !isChoice k && !fixedZero k && !x.dropped.contains u && pget 0 x.failed u = 0 &&
  match x.kind with
  | .foreground => if q = 12 then k.unit < 12 else if 10 ≤ q then k.unit < 8 else u < 192 && x.held.contains u
  | .gleanCh => u = x.unit && (q = 0 || q = 1 || q = 4 || (q = 8 && k.elem = 0) || q = 9)
  | .gleanConv => u = 208 + x.unit && (q = 10 || q = 11)
/-- Tolerances in force (R282). -/
def tolerances (s : State) : List Nat := (List.range 13).map fun q => reg s A_CAL_TOL q
/-- Channels and converters that a run holds (R276, R279). -/
def runHolds (s : State) (kind : RunKind) (unit : Nat) : List Nat :=
  match kind with
  | .foreground => ((List.range 192).filter fun c => enabled s c) ++ (List.range 8).map fun k => 208 + k
  | .gleanCh => [unit]
  | .gleanConv => [208 + unit]

def newRun (s : State) (kind : RunKind) (req : Option Req) (sweep : Bool) (mask unit : Nat) : Run :=
  { kind := kind, req := req, sweep := sweep, mask := mask, unit := unit, step := (maskSteps kind mask).headD 0,
    pass := 1, tol := tolerances s, part := [], got := [], retries := 0, retried := [], failed := [], acc := [],
    rejected := [], third := [], dropped := [], chosen := [], held := [], lead := 0, start := none, ready := none,
    aborting := none }
def setRun (s : State) (x : Option Run) : State := { s with cal := { s.cal with run := x } }

/-! ## The start and the length of a measurement (R278, R281, Table 9.2) -/

/-- Steps with the land connected (Table 9.2). -/
def landConnected (step : Nat) : Bool := step = 6 || 9 ≤ step
/-- Beats that one measurement of a step takes: half of a foreground duration; deckles of a gleaning run of a channel; two
conversions of one cycle for a converter, eight for the test DACs of a foreground run (Table 9.2). -/
def stepBeats (s : State) (kind : RunKind) (step : Nat) : Nat :=
  if step = 1 then 2 * monPeriod s false
  else
    match kind with
    | .gleanCh => 1024 * [0, 0, 0, 4, 0, 8, 12, 0, 0, 0, 8, 4].getD step 0
    | _ => if step = 2 then 8 * monPeriod s false
      else 20480 * [0, 0, 0, 40, 1200, 960, 200, 320, 1, 600, 80, 40].getD step 0
/-- The next measurement can begin: after the lead-in of a channel, and once the converters that it uses are claimed. -/
def canMeasure (s : State) (x : Run) : Bool :=
  match x.kind with
  | .gleanCh => x.lead ≤ s.tb.up
  | .gleanConv => (mc s x.unit).claimed
  | .foreground => 2 < x.step || (List.range 8).all fun k => (mc s k).claimed || convFenced s k
/-- The quiet of a channel before the measurement that begins at this beat is noted (R281). -/
def noteQuiet (s : State) (c : Nat) : State :=
  let x := chan s c
  setChan s c { x with quietBefore := !x.active && x.released + 41 ≤ s.tb.up, heldEdges := 0 }
/-- The next measurement of the run begins at this beat, if it can. -/
def beginMeasurement (s : State) : State :=
  match s.cal.run with
  | none => s
  | some x =>
    if x.start.isSome || x.ready.isSome || x.aborting.isSome || !canMeasure s x then s
    else (x.held.filter (· < 192)).foldl noteQuiet (setRun s (some { x with start := some s.tb.up }))
/-- QUIET and STEADY for a channel in the measurement in progress, whose own injector firings formed `fired` edges (R281). With
fewer than two accepted results there is nothing that differs: DESIGN CHOICE, log entry 37. -/
def disturbed (s : State) (x : Run) (fired : PMap Nat) (u : Nat) : Bool :=
  let steady : Bool := match (monRec s u).accepted with
    | (a, ga) :: (b, gb) :: _ => (a - b).natAbs ≤ reg s A_CAL_DRIFT_MAX 0 && !ga && !gb
    | [(_, ga)] => !ga
    | [] => true
  landConnected x.step && u < 192 &&
    (!(chan s u).quietBefore || pget 0 fired u < (chan s u).heldEdges || !steady)

/-! ## Redundant elements (R273) -/

/-- How many of a list's entries below n come before entry i in the order of `d`, the lower index first among equals. -/
def rankOf (d : Nat → Nat) (n i : Nat) : Nat := ((List.range n).filter fun j => d j < d i || (d j = d i && j < i)).length
/-- CAPSEL of a SAR cell with these errors of its 15 units and 2 spares, in 1/16 LSB, and whether the spares do not suffice: the
units beyond ±0.5 LSB are replaced, the worst first, by spares nearer to nominal than they are. -/
def capSel (errors : List Int) : Nat × Bool :=
  let d (i : Nat) : Nat := (errors.getD i 0).natAbs
  let worst (i : Nat) : Nat := if i < 15 && 8 < d i then 1000000 - d i else 2000000
  let bad := (List.range 15).filter fun i => 8 < d i
  let nth (n : Nat) : Option Nat := bad.find? fun i => rankOf worst 15 i = n
  let (a, b) := if 8 < d 15 && d 16 ≤ 8 then (16, 15) else (15, 16)
  let use (spare : Nat) (u : Option Nat) : Nat := match u with | some u => if d spare < d u then u else 15 | none => 15
  let (first, second) := (use a (nth 0), use b (nth 1))
  (if a = 15 then first + second * 16 else second + first * 16,
    decide ([15, 16].countP (fun i => d i ≤ 8) < bad.length))
/-- COMPSEL: the smaller offset plus three times its noise; the main comparator among equals. -/
def compSel (main spare : Int) (mainNoise spareNoise : Nat) : Nat :=
  bnat (spare.natAbs + 3 * spareNoise < main.natAbs + 3 * mainNoise)
/-- CAPSEL of a converter: the ratio closest to nominal, the lower number among equals. -/
def ratioSel (ratios : List Int) : Nat :=
  ((List.range 3).find? fun i => rankOf (fun j => (ratios.getD j 0).natAbs) 3 i = 0).getD 0
/-- VMAP of these 36 widths in 1/128 fine tick, and whether fewer than 32 lie in 0.5 to 1.5 fine ticks: the 32 cells nearest to
1.0 remain, the lower number among equals (log entry 37). -/
def vernierSel (widths : List Int) : Nat × Bool :=
  let d (i : Nat) : Nat := (widths.getD i 0 - 128).natAbs
  (((List.range 36).map fun i => if rankOf d 36 i < 32 then 2 ^ i else 0).sum,
    decide (((List.range 36).filter fun i => d i ≤ 64).length < 32))
/-- The choice that the elements found call for, with its key. -/
def choiceOf : ElemMeas → CalKey × Int × Bool
  | .weights c j es => ({ quantity := 2, unit := c, elem := 128 + j % 2 }, (capSel es).1, (capSel es).2)
  | .comparators c j m p mn pn => ({ quantity := 0, unit := c, elem := 2 + j % 2 }, compSel m p mn pn, false)
  | .capacitors k rs => ({ quantity := 11, unit := k, elem := 1 }, ratioSel rs, false)
/-- A foreground run notes the choices of its step, the last measurement's standing for those before (R273). -/
def noteChoices (s : State) (x : Run) (elems : List ElemMeas) : Run :=
  let ok (e : CalKey × Int × Bool) : Bool :=
    x.kind = .foreground && quantityStep e.1.quantity.val = x.step && x.held.contains (keyUnit s e.1)
  let new := (elems.map choiceOf).filter ok
  { x with chosen := (x.chosen.filter fun e => !new.any fun n => n.1 = e.1) ++ new }

/-! ## Agreement (R282) -/

/-- The mean of two values that agree. -/
def agreedMean (a b : Int) : Int := (a + b + 1) / 2
/-- R282: the result of two or three measurements; none is REJECTED. -/
def agree (tol : Nat) (a b : Int) (c : Option Int) : Option Int :=
  if (a - b).natAbs ≤ tol then some (agreedMean a b)
  else
    match c with
    | none => none
    | some c =>
      let ac := (a - c).natAbs
      let bc := (b - c).natAbs
      if ac ≤ tol ∧ ac ≤ bc then some (agreedMean a c)
      else if bc ≤ tol then some (agreedMean b c) else none
/-- The first two measurements of a value disagree. -/
def wantsThird (x : Run) (e : CalKey × List Int) : Bool :=
  match e.2 with
  | a :: b :: _ => decide (x.tol.getD e.1.quantity.val 0 < (a - b).natAbs)
  | _ => false
def stepWantsThird (x : Run) (step : Nat) : Bool :=
  x.got.any fun e => quantityStep e.1.quantity.val = step && wantsThird x e
/-- A value is decided; fewer than two measurements decide nothing. -/
def decideOne (x : Run) (e : CalKey × List Int) : Run :=
  match e.2 with
  | a :: b :: rest =>
    (match agree (x.tol.getD e.1.quantity.val 0) a b rest.head? with
    | some v => { x with acc := x.acc ++ [(e.1, v)] }
    | none => { x with rejected := x.rejected ++ [e.1] })
  | _ => x
/-- The values of these steps are decided. -/
def decideSteps (x : Run) (steps : List Nat) : Run :=
  (x.got.filter fun e => steps.contains (quantityStep e.1.quantity.val)).foldl decideOne x
/-- The entry after `step` in a list of steps. -/
def stepAfter (l : List Nat) (step : Nat) : Option Nat := l.find? fun c => step < c
/-- The measurement is complete: the run goes on to the next one, or all is measured (R276, R278, R282). `bound` is the
boundary at which the run may end then: a channel's lead-out of four deckles later. -/
def advance (s : State) (x : Run) (bound : Nat) : Run :=
  let steps := maskSteps x.kind x.mask
  match x.kind with
  | .foreground =>
    if x.pass = 1 then { x with pass := 2 }
    else if x.pass = 2 && stepWantsThird x x.step then { x with pass := 3 }
    else
      let y := decideSteps x [x.step]
      match stepAfter steps x.step with
      | some c => { y with step := c, pass := 1 }
      | none => { y with ready := some s.tb.dk }
  | _ =>
    let todo := if x.pass = 3 then steps.filter fun c => stepWantsThird x c else steps
    match stepAfter todo x.step with
    | some c => { x with step := c }
    | none =>
      let thirds := steps.filter fun c => stepWantsThird x c
      if x.pass = 1 then { x with pass := 2, step := steps.headD 0 }
      else if x.pass = 2 && !thirds.isEmpty then { x with pass := 3, step := thirds.headD 0 }
      else { decideSteps x steps with ready := some bound }

/-- One value of a measurement joins those before it; a third measurement is used only where it is wanted. -/
def addValue (s : State) (x : Run) (v : CalKey × Int) : Run :=
  match x.got.find? fun e => e.1 = v.1 with
  | none => if x.pass = 1 then { x with got := x.got ++ [(v.1, [v.2])] } else x
  | some e =>
    if x.pass = 3 && !wantsThird x e then x
    else { x with got := x.got.map fun g => if g.1 = v.1 then (g.1, g.2 ++ [v.2]) else g
                  third := if x.pass = 3 then keyUnit s v.1 :: x.third else x.third }
/-- A measured monitor zero lies outside the limits of the ZERO point (R281, Table 8.3). -/
def zeroOutside (s : State) (v : CalKey × Int) : Bool :=
  let l := reg s A_MON_LIMITS 22
  v.1.quantity.val = 10 && (v.2 < sx 24 (bits l 23 0) || sx 24 (bits l 47 24) < v.2)
/-- A measurement has ended (R281): the units whose preconditions failed repeat it, or fail when the retries run out. -/
def measure (s : State) (x : Run) (saturated : List Nat) (fired : PMap Nat) (values : List (CalKey × Int))
    (elems : List ElemMeas) : Run :=
  let mine := values.filter fun (v : CalKey × Int) =>
    inScope s x v.1 && (stepQuantities x.step).contains v.1.quantity.val && !x.part.any fun p => p.1 = v.1
  let own (u : Nat) : Bool := x.held.contains u && !x.dropped.contains u && pget 0 x.failed u = 0
  let bad := saturated ++ (x.held.filter fun u => disturbed s x fired u) ++
    (mine.filter (zeroOutside s)).map fun (v : CalKey × Int) => keyUnit s v.1
  let out := (bad.filter own).eraseDups
  let x := noteChoices s { x with
    start := none, part := x.part ++ mine.filter fun (v : CalKey × Int) => !out.contains (keyUnit s v.1) } elems
  if !out.isEmpty && x.retries < reg s A_CAL_RETRIES 0 then
    { x with retries := x.retries + 1,
             retried := out.foldl (fun m u => pset 0 m u (pget 0 m u + 1)) x.retried }
  else
    let y := x.part.foldl (addValue s) x
    let y := { y with part := [], retries := 0, failed := out.foldl (fun m u => pset 0 m u x.step) x.failed }
    if !out.isEmpty && x.kind ≠ .foreground then { y with ready := some s.tb.dk }
    else advance s y (match x.kind with | .gleanCh => s.tb.dk + 4 + bnat (!atBoundary s) | _ => s.tb.dk)
/-- CALIBRATION_MEASUREMENT (R278, R281, R282): the measurement in progress has taken its time, and the next one begins. -/
def execCalibrationMeasurement (saturated : List Nat) (fired : List (Nat × Nat)) (values : List (CalKey × Int))
    (elements : List ElemMeas) (s : State) : Res :=
  .next (match s.cal.run with
    | none => s
    | some x =>
      match x.start with
      | none => s
      | some b =>
        if x.ready.isSome || x.aborting.isSome || s.tb.up < b + stepBeats s x.kind x.step then s
        else beginMeasurement (setRun s (some (measure s x saturated fired values elements))))

/-! ## The accepted image and the values in force (R273, R284, R285, R293) -/

/-- The byte of flags of the record that a value lies in. -/
def flagsAt (k : CalKey) : Option Nat :=
  match k.quantity.val with
  | 0 => some (sarFlagsAt k.unit (k.elem % 2))
  | 1 => some (sarFlagsAt k.unit (k.elem % 2))
  | 2 => some (sarFlagsAt k.unit (if k.elem < 128 then k.elem / 64 else k.elem - 128))
  | 3 => some (pgaFlagsAt k.unit)
  | 4 => some (sarFlagsAt k.unit (k.elem % 2))
  | 5 => some (pgaFlagsAt k.unit)
  | 6 => some (tdcFlagsAt k.unit)
  | 7 => some (tdcFlagsAt k.unit)
  | 8 => some (tdcFlagsAt k.unit)
  | 9 => some (tdcFlagsAt k.unit)
  | _ => none
def setImage (s : State) (m : Memory) : State := { s with cal := { s.cal with image := m } }
/-- A flag bit of a record in the accepted image. -/
def setFlag (s : State) (at? : Option Nat) (bit : Nat) (v : Bool) : State :=
  match at? with
  | none => s
  | some a =>
    let b := (memRead 0 s.cal.image a).toNat
    setImage s (memWrite 0 s.cal.image a (BitVec.ofNat 8 (putBits b bit bit (bnat v))))
/-- A measured value in the unit of its field: a reference gain is measured in ppm and stored in 2^-30, a phase edge in 1/128 and
stored in 1/16 fine tick (Tables 9.1 and 9.6). -/
def storedValue (k : CalKey) (v : Int) : Int :=
  if k.quantity.val = 11 && k.elem = 0 then roundDiv (v * 1073741824) 1000000
  else roundDiv v (slewScale k.quantity.val k.elem)
/-- A value is accepted: it enters the image and becomes the target of the value in force (R284). -/
def acceptValue (now : Bool) (s : State) (e : CalKey × Int) : State :=
  let q := e.1.quantity.val
  let no := calNo q e.1.unit e.1.elem
  let old := calFine s q e.1.unit e.1.elem
  let image := imageSet s.cal.image q e.1.unit e.1.elem (storedValue e.1 e.2)
  let target := imageValue image q e.1.unit e.1.elem * slewScale q e.1.elem
  let allow := match s.cal.slews.find? fun x => x.1 = no with | some w => w.2.allow | none => 0
  let s := { s with cal := { s.cal with
    image := image, dirty := true
    slews := if target = old then pdel s.cal.slews no
             else pins s.cal.slews no { v := old, target := target, allow := allow, once := now } } }
  setFlag s (flagsAt e.1) 1 false
/-- Gleaned cell gains at a gain other than ×1: the mean change goes to the PGA value of the gain in force, the difference
to the cells (section What is calibrated). -/
def splitGain (s : State) (unit : Nat) (acc : List (CalKey × Int)) : List (CalKey × Int) :=
  let g := (chan s unit).ana.gain
  let cells := acc.filter fun e => e.1.quantity.val = 1
  let pga := calValue s 3 unit g
  let change (e : CalKey × Int) : Int := e.2 - (calValue s 1 e.1.unit e.1.elem + pga)
  if g = 1 || cells.isEmpty then acc
  else
    let mean := roundDiv ((cells.map change).sum) cells.length
    acc.map (fun e => if e.1.quantity.val = 1 then (e.1, calValue s 1 e.1.unit e.1.elem + (change e - mean)) else e) ++
      [({ quantity := 3, unit := unit, elem := g }, pga + mean)]

/-- One value in force at a deckle boundary (R284, R285); none when it has reached its target. -/
def slewOne (s : State) (e : Nat × Slew) : Option (Nat × Slew) :=
  let w := e.2
  let limit := reg s A_CAL_SLEW (e.1 / 2 ^ 20)
  if w.once || limit = 0 then none
  else if !serviceMode s.modes.cur then some e
  else
    let allow := w.allow + limit
    let unit := slewUnit (e.1 / 2 ^ 20) (e.1 % 2 ^ 10)
    let far := ((w.target - w.v).natAbs + unit - 1) / unit
    let n := min (allow / 10240) far
    let d := min (n * unit) (w.target - w.v).natAbs
    let v := if w.v < w.target then w.v + d else w.v - d
    if v = w.target then none else some (e.1, { w with v := v, allow := allow - n * 10240 })
/-- The calibrated values at a deckle boundary: records that START-UP has loaded come into force (R285), the others slew; and a
gleaning measurement begins behind its lead-in. -/
def slewDeckle (s : State) : State :=
  beginMeasurement (match s.cal.loaded with
    | some m => { s with cal := { s.cal with image := m, slews := [], loaded := none } }
    | none => { s with cal := { s.cal with slews := s.cal.slews.filterMap (slewOne s) } })

/-! ## Status (R288, R302) -/

/-- `CAL_RUN_STATUS` (Table 9.9). -/
def calRunStatus (s : State) : Nat :=
  let tail := s.cal.lastStatus * 2 ^ 24
  match s.cal.run with
  | some x =>
    (match x.kind with | .foreground => 2 | .gleanCh => 3 | .gleanConv => 4) + x.step * 2 ^ 8 +
      (if x.kind = .foreground then 0 else x.unit * 2 ^ 16) + tail
  | none =>
    if s.cal.queued.isSome then 1 + tail
    else if s.modes.cur = .startUp && s.modes.suStep = 7 then 5 + tail
    else if s.modes.cur = .recovery && s.modes.recStep = 3 then 6 + tail else tail
def noQuality : Nat := 0xFFFFFFFFFFFF
def unitQuality (s : State) (u : Nat) : Nat := (pget (BitVec.ofNat 64 noQuality) s.cal.quality u).toNat
/-- The worst of a field over units; 0xFFFF where none was computed. -/
def worstField (s : State) (units : List Nat) (lo : Nat) : Nat :=
  let vs := (units.map fun u => bits (unitQuality s u) (lo + 15) lo).filter (· ≠ 0xFFFF)
  if vs.isEmpty then 0xFFFF else vs.foldl max 0
/-- `CAL_QUALITY` (R288, Table 9.9). -/
def calQuality (s : State) (i : Nat) : Nat :=
  if i < 192 ∨ (208 ≤ i ∧ i < 216) then unitQuality s i
  else
    let units := if i < 204 then (List.range 16).map fun c => 16 * (i - 192) + c
      else List.range 192 ++ (List.range 8).map fun k => 208 + k
    worstField s units 0 + worstField s units 16 * 2 ^ 16 + worstField s units 32 * 2 ^ 32
/-- `CAL_SLEWING` (Table 9.9). -/
def calSlewing (s : State) (c : Nat) : Nat :=
  let of' (p : Nat → Bool) : Bool := s.cal.slews.any fun e => p (e.1 / 2 ^ 20) && e.1 / 2 ^ 10 % 2 ^ 10 = c
  bnat (of' fun q => q ≤ 5) + bnat (of' fun q => 6 ≤ q && q ≤ 9) * 2
/-- Quality figures of a unit are set, in the image too (R288). -/
def setQuality (s : State) (f : Residual) : State :=
  let put (m : Memory) (a v : Nat) : Memory := memWrites 0 m a (toBytes 2 v)
  if f.unit < 192 then
    let m := put (put (put s.cal.image (sarResidualAt f.unit 0) f.sar.toNat) (sarResidualAt f.unit 1) f.sar.toNat)
      (tdcResidualAt f.unit) f.tdc.toNat
    let q := BitVec.ofNat 64 (f.sar.toNat + f.tdc.toNat * 2 ^ 16 + 0xFFFF * 2 ^ 32)
    { s with cal := { s.cal with image := m, quality := pset (BitVec.ofNat 64 noQuality) s.cal.quality f.unit q } }
  else if 208 ≤ f.unit ∧ f.unit < 216 then
    let m := put s.cal.image (monResidualAt (f.unit - 208)) f.mon.toNat
    let q := BitVec.ofNat 64 (0xFFFFFFFF + f.mon.toNat * 2 ^ 32)
    { s with cal := { s.cal with image := m, quality := pset (BitVec.ofNat 64 noQuality) s.cal.quality f.unit q } }
  else s

/-! ## The end of a run (R279 to R283, R288, R301) -/

/-- Outcome of one unit, as `CAL_CH_RESULT` codes it. -/
def unitOutcome (s : State) (x : Run) (aborted : Bool) (u : Nat) : Nat :=
  if aborted || x.dropped.contains u then 5
  else if pget 0 x.failed u ≠ 0 then 4
  else if x.rejected.any fun k => keyUnit s k = u then 3
  else if x.third.contains u then 2 else 1
/-- Step of a unit's first rejection; 0 if none. -/
def firstRejection (s : State) (x : Run) (u : Nat) : Nat :=
  match x.rejected.find? fun k => keyUnit s k = u with
  | some k => quantityStep k.quantity.val
  | none => 0
/-- Channels and converters that the run still holds. -/
def runUnits (x : Run) : List Nat := x.held.filter fun u => !x.dropped.contains u
/-- Instance of a calibration raise (Table 12.1). -/
def calInstance (u : Nat) : Nat := if 192 ≤ u ∧ u < 208 then 255 else u
/-- A channel or a converter is let go, with its reports (R301) and `CAL_CH_RESULT`. -/
def releaseUnits (x : Run) (aborted : Bool) (s : State) (u : Nat) : State :=
  let o := unitOutcome s x aborted u
  let rej := firstRejection s x u
  if u < 192 then
    let skew := match x.acc.find? fun e => e.1.quantity.val = 4 && e.1.unit = u && e.1.elem = 1 with
      | some e => e.2
      | none => 0
    let word := o + rej * 2 ^ 8 + s.tb.beat.toNat % 2 ^ 40 * 2 ^ 16
    let s := { s with cal := { s.cal with chRes := pset 0 s.cal.chRes u (BitVec.ofNat 64 word) } }
    let s := releaseChannel s u (if x.kind = .foreground then 3 else 1)
    let s := pushSheaf s (report 15 s.tb.beat 0x20 u (o * 2 ^ 21 + rej * 2 ^ 8 + min 255 (pget 0 x.retried u))
      (toField 12 (clampInt (-2048) 2047 skew) * 2 ^ 12))
    pushSheaf s (report 15 s.tb.beat 0x21 u (bits (unitQuality s u) 15 0) (bits (unitQuality s u) 31 16))
  else
    let s := releaseClaim s (u - 208)
    pushSheaf s (report 15 s.tb.beat 0x22 (u - 208) (o * 2 ^ 21) (bits (unitQuality s u) 47 32))
/-- Vernier cells of the channels whose widths the run has measured, chosen by the accepted widths (R273). -/
def vernierChoices (s : State) (x : Run) : List (CalKey × Int × Bool) :=
  let measured (c : Nat) : Bool := x.got.any fun e => e.1.quantity.val = 7 && e.1.unit = c && 16 ≤ e.1.elem
  ((List.range 192).filter measured).map fun c =>
    let v := vernierSel ((List.range 36).map fun i => imageValue s.cal.image 7 c (16 + i))
    ({ quantity := 7, unit := c, elem := 52 }, v.1, v.2)
/-- The faults that a run's outcome raises (R273, R283), with the choices of its redundant elements. -/
def runFaults (x : Run) (choices : List (CalKey × Int × Bool)) (s : State) : State :=
  let units := (x.rejected.map (keyUnit s)).eraseDups
  let s0 := s
  let short := ((choices.filter fun e => e.2.2).map fun e => (keyUnit s e.1, quantityStep e.1.quantity.val)).eraseDups
  let s := short.foldl (fun s e => raise s 34 (calInstance e.1) (e.2 + 0x100)) s
  let s := units.foldl (fun s u => raise s 34 (calInstance u) (firstRejection s0 x u + 0x200)) s
  x.failed.foldl (fun s e => raise s 34 (calInstance e.1) (e.2 + 0x300)) s
/-- The value's unit ends the run with its values. -/
def goodUnit (s : State) (x : Run) (k : CalKey) : Bool := unitOutcome s x false (keyUnit s k) < 4
/-- The run's accepted values (R282, R283): a gleaned skew is measured only. -/
def acceptValues (x : Run) (s : State) : State :=
  let acc := x.acc.filter fun e => goodUnit s x e.1 && !(e.1.quantity.val = 4 && x.kind ≠ .foreground)
  let acc := if x.kind = .gleanCh then splitGain s x.unit acc else acc
  acc.foldl (acceptValue (x.kind = .foreground)) s
/-- The choices of a foreground run, with their CELL_FAULT flags (R273). -/
def runChoices (s : State) (x : Run) : List (CalKey × Int × Bool) :=
  (x.chosen ++ vernierChoices s x).filter fun e => goodUnit s x e.1
/-- A choice comes into force with the values; its CELL_FAULT flag says whether the spares sufficed. -/
def acceptChoice (s : State) (e : CalKey × Int × Bool) : State :=
  let s := acceptValue true s (e.1, e.2.1)
  if e.1.quantity.val = 2 || e.1.quantity.val = 7 then setFlag s (flagsAt e.1) 0 e.2.2 else s
/-- What a run that is not aborted leaves (R273, R282, R283, R288): its values and choices, the REJECTED flags, and the figures of
the units whose quantities were all accepted. -/
def acceptRun (x : Run) (found : List Residual) (s : State) : State :=
  let s := acceptValues x s
  let s := (runChoices s x).foldl acceptChoice s
  let s := (x.rejected.filter (goodUnit s x)).foldl (fun s k => setFlag s (flagsAt k) 1 true) s
  (found.filter fun f => (runUnits x).contains f.unit && unitOutcome s x false f.unit < 3).foldl setQuality s
/-- Status code and detail of the run's outcome (R283, Table 11.2). -/
def runStatus (s : State) (x : Run) (aborted : Bool) : Nat × Nat :=
  if aborted then (0x0C, 0)
  else
    match x.failed with
    | e :: _ => (0x0D, e.2)
    | [] =>
      match x.rejected with
      | k :: _ => (0x0E, firstRejection s x (keyUnit s k))
      | [] => (0, 0)
/-- The outcome message of a CAL_START (R331). -/
def calOutcome (s : State) (r : Option Req) (st : Nat × Nat) : State :=
  match r with
  | some r => outcome s r 0x40 st.1 st.2 (valueWords 1 (calRunStatus s))
  | none => s
/-- The next unit that a sweep gleans (R277): channels, then converters. -/
def nextUnit (s : State) (from' : Nat) : Option Nat :=
  (List.range 200).find? fun u => from' ≤ u &&
    (if u < 192 then enabled s u && !fencedChannel s u && !bitAt (reg s A_CAL_GLEAN_MASK (u / 16)) (u % 16)
     else !convFenced s (u - 192))
/-- The order of R283: ABORTED, INPUT_NOT_QUIET, DISAGREED, OK. -/
def worseStatus (a b : Nat × Nat) : Nat × Nat := if a.1 ≠ 0 && (b.1 = 0 || a.1 ≤ b.1) then a else b
/-- The bank that a commit writes, and whether it may (R295 to R297): not with a count at 100 000. -/
def commitCounts (s : State) : Nat × Nat :=
  let field (m : Memory) (b : Nat) : Nat :=
    let v := memNat 0xFF m (0x14 + 4 * b) 4
    if v = 0xFFFFFFFF then 0 else v
  match s.cal.inForce with
  | some b =>
    let m := if b = 0 then s.cal.bank0 else s.cal.bank1
    (memNat 0xFF m 0x14 4, memNat 0xFF m 0x18 4)
  | none => (max (field s.cal.bank0 0) (field s.cal.bank1 0), max (field s.cal.bank0 1) (field s.cal.bank1 1))
/-- ID_CHECK holds (R294). -/
def identityValid (m : Memory) : Bool :=
  memNat 0xFF m 0x043C 4 = crc32c (memReads 0xFF m 0x0040 0x3FC)
/-- The identity that a bank without one in force is given (R296). -/
def identityBank (s : State) : Option Nat :=
  match s.cal.inForce with
  | some b => some b
  | none => if identityValid s.cal.bank0 then some 0 else if identityValid s.cal.bank1 then some 1 else none
def commitDenied (s : State) : Bool :=
  let (a, b) := commitCounts s
  100000 ≤ a || 100000 ≤ b || (identityBank s).isNone
/-- A commit begins; its snapshot is taken at the next deckle boundary (R295). -/
def startCommit (s : State) (r : Option Req) : State :=
  let bank := match s.cal.inForce with | some b => 1 - b | none => 1
  let seqNo := match s.cal.inForce with
    | some b => memNat 0xFF (if b = 0 then s.cal.bank0 else s.cal.bank1) 0xFFF8 4 + 1
    | none => 1
  { s with cal := { s.cal with
      commit := some { req := r, bank := bank, image := none, seqNo := seqNo }
      seedWord := s.cal.seedWord ||| 0x10 } }
/-- The end of a sweep: its outcome, and an automatic commit when due (R298). -/
def endSweep (s : State) : State :=
  match s.cal.sweep with
  | none => s
  | some w =>
    let s := calOutcome { s with cal := { s.cal with sweep := none } } w.req (w.status, w.detail)
    let secs := reg s A_CAL_AUTOCOMMIT 0
    if serviceMode s.modes.cur && secs ≠ 0 && s.cal.dirty && s.cal.commit.isNone && !commitDenied s &&
        s.cal.lastCommit + secs * Config.beatsPerSecond ≤ s.tb.up then
      startCommit s none
    else s
/-- A run of a sweep has ended: the sweep goes on behind it. -/
def sweepOn (s : State) (x : Run) (st : Nat × Nat) : State :=
  match s.cal.sweep with
  | none => s
  | some w =>
    if !x.sweep then s
    else
      let u := match x.kind with | .gleanConv => 192 + x.unit | _ => x.unit
      let worst := worseStatus (w.status, w.detail) st
      let w := { w with next := u + 1, status := worst.1, detail := worst.2 }
      if w.paused then
        calOutcome { s with cal := { s.cal with sweep := some { w with req := none } } } w.req worst
      else
        let s := { s with cal := { s.cal with sweep := some w } }
        if (nextUnit s (u + 1)).isNone then endSweep s else s
/-- The test DACs that calibration holds are let go. -/
def freeDacs (s : State) : State :=
  forNat 12 (fun k s => if (tdac s k).holder = .calibration then freeDac s k else s) s
/-- The run ends: with its values, or ABORTED without any (R279, R280, R283). -/
def endRun (s : State) (aborted : Bool) (found : List Residual) : State :=
  match s.cal.run with
  | none => s
  | some x =>
    let st := runStatus s x aborted
    let s := setRun s none
    let s := if aborted then s else acceptRun x found s
    let s := (runUnits x).foldl (releaseUnits x aborted) s
    let s := freeDacs s
    let rej := if aborted then 0
      else (((x.rejected.map (keyUnit s)).filter fun u => u < 192 || 208 ≤ u).eraseDups).length
    let s := pushSheaf s (report 15 s.tb.beat 0x23 (if x.kind = .foreground then 0 else 1) st.1 rej)
    let s := count s A_CAL_COUNTS 0 15 0 1
    let s := if aborted then s else count s A_CAL_COUNTS 0 31 16 x.rejected.length
    let s := if x.failed.isEmpty || aborted then s else count s A_CAL_COUNTS 0 47 32 1
    let s := count s A_CAL_COUNTS 0 63 48 ((x.retried.map Prod.snd).sum)
    let s := { s with cal := { s.cal with lastStatus := st.1, lastRelease := s.tb.up } }
    let s := if st.1 ≠ 0 || x.kind ≠ .foreground then s
      else { s with cal := { s.cal with
        temp := BitVec.ofNat 32 (putBits s.cal.temp.toNat 15 0 (toField 16 (meanTemp s))), tempRaised := false } }
    let s := if aborted then s else runFaults x (runChoices s x) s
    sweepOn (calOutcome s x.req st) x st
/-- A release that CAL_ABORT or the run's own end makes due (R278, R280): a channel's at a boundary, a converter's and a
foreground run's with their last measurement (Table 8.7). -/
def releaseDue (s : State) (x : Run) : Option Bool :=
  match x.aborting with
  | some d => if atBoundary s && decide (d < s.tb.dk) then some true else none
  | none =>
    match x.ready with
    | some d => if d ≤ s.tb.dk && (atBoundary s || decide (x.kind ≠ RunKind.gleanCh)) then some false else none
    | none => none
/-- CALIBRATION_RELEASE (R278 to R280): a gleaning run ends. -/
def execCalibrationRelease (found : List Residual) (s : State) : Res :=
  .next (match s.cal.run with
    | none => s
    | some x =>
      if x.kind = .foreground then s
      else match releaseDue s x with
        | some aborted => endRun s aborted found
        | none => s)
/-- FOREGROUND_RUN_END (R276). -/
def execForegroundRunEnd (found : List Residual) (s : State) : Res :=
  .next (match s.cal.run with
    | none => s
    | some x =>
      if x.kind ≠ .foreground then s
      else match releaseDue s x with
        | some aborted => endRun s aborted found
        | none => s)

/-! ## The start of runs and sweeps (R274 to R278) -/

/-- A converter is claimed for calibration as it comes free; a measurement that waits for it begins (R255). -/
def takeConverter (s : State) (k : Nat) : State := beginMeasurement (claimConverter s k)
/-- A foreground run begins: it holds every enabled channel and every converter, with the tolerances of now (R276, R279, R282). -/
def beginForeground (s : State) (x : Run) : State :=
  let x := { x with tol := tolerances s, held := runHolds s .foreground 0 }
  let s := { s with cal := { s.cal with run := some x, queued := none } }
  let s := (x.held.filter (· < 192)).foldl holdChannel s
  beginMeasurement (forNat 8 (fun k s => if convFenced s k || (mc s k).claimed then s else requestClaim s k) s)
/-- A foreground run that is accepted claims every test DAC, whether it begins at once or is queued: claims that come later
wait behind it (R265, R276). -/
def claimDacs (s : State) : State :=
  forNat 12 (fun k s => setTdac s k { tdac s k with holder := .calibration }) s
/-- No injected conversion stands between a queued foreground run and its converters (R255, R275). -/
def convertersClear (s : State) : Bool :=
  (List.range 8).all fun k => (mc s k).claimed || !injectedPending s k
/-- CAL_CLAIM_TAKES_EFFECT (R255): nothing runs on the converter, and an injected result has been delivered. -/
def execCalClaimTakesEffect (k : Conv) (s : State) : Res :=
  let x := mc s k.val
  .next (if x.claimWaits && x.run.isNone && !injectedPending s k.val && !convFenced s k.val then
    let s := takeConverter s k.val
    match s.cal.queued with
    | some q => if q.kind = .foreground && convertersClear s then beginForeground s q else s
    | none => s
  else s)
/-- A host-started run is queued or in progress (R275). -/
def hostRun (s : State) : Bool :=
  s.cal.queued.isSome || (match s.cal.run with | some x => x.req.isSome | none => false) ||
    (match s.cal.sweep with | some w => w.req.isSome | none => false)
/-- CAL_START of kind 0 (R275, R276). -/
def execCalStartForeground (r : Req) (mask : BitVec 12) (s : State) : Res :=
  granger s r (.calStartForeground r mask) 0x40 fun s =>
    if bitAt mask.toNat 0 then replyBad s r 0x40 1
    else if s.modes.cur ≠ .cal then replyNotInMode s r 0x40
    else if hostRun s then replyBusy s r 0x40 0x40
    else if s.mon.dacs.any fun d => decide (d.2.holder = DacHolder.host) then replyBusy s r 0x40 0x32
    else if s.mon.ipc.isSome then replyBusy s r 0x40 0x33
    else
      let x := newRun s .foreground (some r) false mask.toNat 0
      if (List.range 8).any fun k => injectedPending s k then
        let s := claimDacs { s with cal := { s.cal with queued := some x } }
        reply (forNat 8 (fun k s => if convFenced s k then s else requestClaim s k) s) r 0x40 2 0 []
      else replyOk (beginForeground (claimDacs s) x) r 0x40 []
/-- CAL_START of kind 1 (R275): the run begins at the next boundary that R277 allows. -/
def execCalStartGleanChannel (r : Req) (ch : Byte) (mask : BitVec 12) (s : State) : Res :=
  granger s r (.calStartGleanChannel r ch mask) 0x40 fun s =>
    let c := ch.toNat
    if 192 ≤ c || !enabled s c || fencedChannel s c then replyBad s r 0x40 0
    else if mask.toNat &&& gleanSteps ≠ mask.toNat then replyBad s r 0x40 1
    else if !serviceMode s.modes.cur then replyNotInMode s r 0x40
    else if hostRun s then replyBusy s r 0x40 0x40
    else
      let x := newRun s .gleanCh (some r) false mask.toNat c
      replyOk { s with cal := { s.cal with queued := some x } } r 0x40 []
/-- CAL_START of kind 2 (R275): a sweep from the first channel on. -/
def execCalStartGleanSweep (r : Req) (mask : BitVec 12) (s : State) : Res :=
  granger s r (.calStartGleanSweep r mask) 0x40 fun s =>
    if mask.toNat &&& (gleanSteps + 2) ≠ mask.toNat then replyBad s r 0x40 1
    else if !serviceMode s.modes.cur then replyNotInMode s r 0x40
    else if hostRun s then replyBusy s r 0x40 0x40
    else
      let w : Sweep := { next := 0, mask := mask.toNat, req := some r, status := 0, detail := 0, paused := false }
      let due := s.tb.up + bits (reg s A_CAL_GLEAN_CTRL 0) 23 8 * Config.beatsPerSecond
      let s := match s.cal.run with
        | some x => setRun s (some { x with sweep := false })
        | none => s
      replyOk { s with cal := { s.cal with sweep := some w, sweepDue := due } } r 0x40 []
/-- GLEAN_SWEEP_START (R277); a sweep that CAL_ABORT has stopped goes on (R280). -/
def execGleanSweepStart (s : State) : Res :=
  let ctrl := reg s A_CAL_GLEAN_CTRL 0
  let due := s.tb.up + bits ctrl 23 8 * Config.beatsPerSecond
  .next (if serviceMode s.modes.cur && bitAt ctrl 0 && s.cal.sweepDue ≤ s.tb.up then
    match s.cal.sweep with
    | none =>
      let w : Sweep := { next := 0, mask := 0, req := none, status := 0, detail := 0, paused := false }
      { s with cal := { s.cal with sweep := some w, sweepDue := due } }
    | some w =>
      if w.paused then
        { s with cal := { s.cal with sweep := some { w with paused := false, status := 0, detail := 0 }, sweepDue := due } }
      else s
  else s)
/-- A gleaning run of a channel begins (R278, R279). -/
def beginGlean (s : State) (x : Run) : State :=
  let s := setRun s (some { x with tol := tolerances s, held := runHolds s .gleanCh x.unit, lead := s.tb.up + 4096 })
  let k := x.unit / 16
  holdChannel (setTdac s k { tdac s k with holder := .calibration }) x.unit
def dacFree (s : State) (c : Nat) : Bool := (tdac s (c / 16)).holder = .none
/-- GLEAN_RUN_START (R277, R278): a one-channel CAL_START is served first, then the sweep's next unit. -/
def execGleanRunStart (s : State) : Res :=
  let gap := bits (reg s A_CAL_GLEAN_CTRL 0) 31 24
  .next (if atBoundary s && serviceMode s.modes.cur && s.cal.run.isNone && s.cal.lastRelease + 1024 * gap ≤ s.tb.up then
    match s.cal.queued, s.cal.sweep with
    | some q, _ =>
      if !enabled s q.unit || fencedChannel s q.unit then
        calOutcome { s with cal := { s.cal with queued := none } } q.req (0x0C, 0)
      else if dacFree s q.unit then beginGlean { s with cal := { s.cal with queued := none } } q else s
    | none, some w =>
      if w.paused then s
      else match nextUnit s w.next with
        | none => endSweep s
        | some u =>
          if u < 192 then
            if dacFree s u then beginGlean s (newRun s .gleanCh none true w.mask u) else s
          else
            let x := { newRun s .gleanConv none true 0 (u - 192) with held := [u + 16] }
            beginMeasurement (requestClaim (setRun s (some x)) (u - 192))
    | none, none => s
  else s)
/-- A queued run is cancelled (R280). -/
def dropQueued (s : State) : State :=
  match s.cal.queued with
  | none => s
  | some q =>
    let s := { s with cal := { s.cal with queued := none } }
    let s := if q.kind = .foreground then freeDacs (forNat 8 (fun k s => releaseClaim s k) s) else s
    calOutcome s q.req (0x0C, 0)
/-- CAL_ABORT (R280). -/
def execCalAbort (r : Req) (s : State) : Res :=
  granger s r (.calAbort r) 0x41 fun s =>
    let s := dropQueued s
    let s := match s.cal.sweep with
      | some w =>
        let keep := s.cal.run.isSome && (match s.cal.run with | some x => x.sweep | none => false)
        if keep then { s with cal := { s.cal with sweep := some { w with paused := true } } }
        else calOutcome { s with cal := { s.cal with sweep := some { w with paused := true, req := none } } } w.req
          (0x0C, 0)
      | none => s
    let s := match s.cal.run with
      | some x => setRun s (some { x with aborting := some (x.aborting.getD s.tb.dk) })
      | none => s
    replyOk s r 0x41 []

/-! ## Runs that other events end (R280) -/

/-- A mode transition to `new`: runs that leave their mode end, and so does a sweep that leaves service for good. -/
def calLeave (s : State) (new : Mode) : State :=
  let ends : Bool := match s.cal.run with
    | some x => if x.kind = .foreground then decide (new ≠ .cal) else !serviceMode new
    | none => false
  let s := if ends then endRun s true [] else s
  let s := match s.cal.queued with
    | some q =>
      let stays : Bool := if q.kind = .foreground then decide (new = .cal) else serviceMode new || decide (new = .recovery)
      if stays then s else dropQueued s
    | none => s
  if serviceMode new || new = .recovery then s
  else
    match s.cal.sweep with
    | some w => calOutcome { s with cal := { s.cal with sweep := none } } w.req (0x0C, 0)
    | none => s
/-- Channels and converters that a fence or a couch takes out of the run in progress, with their reports at this release (R280,
R301). -/
def calDrop (s : State) (hit : Nat → Bool) : State :=
  match s.cal.run with
  | none => s
  | some x =>
    match x.kind with
    | .foreground =>
      let gone := (runUnits x).filter hit
      let y := { x with dropped := x.dropped ++ gone }
      gone.foldl (releaseUnits y false) (setRun s (some y))
    | .gleanCh => if hit x.unit then endRun s true [] else s
    | .gleanConv => if hit (208 + x.unit) then endRun s true [] else s

/-! ## The attributes of a status command -/

/-- `SEED_STATUS` (Table 9.9). -/
def seedStatus (s : State) : Nat := s.cal.seedWord.toNat
/-- CAL_STATUS (Table 11.8). -/
def execCalStatus (r : Req) (s : State) : Res :=
  granger s r (.calStatus r) 0x42 fun s =>
    replyOk s r 0x42 (valueWords 1 (calRunStatus s) ++ valueWords 2 (seedStatus s) ++ valueWords 2 (calQuality s 255))

end Sys2Proof.Machine
end

