-- ==== Sys2Proof/Machine/SeedStore.lean ====
section
/-!
DEFINITION. The Seed Store (R291 to R300): the bank image, commits, the boot selection and SEED_READ.
-/
namespace Sys2Proof.Machine

/-! ## The mould's digest, which a bank names (Tables 9.5 and 10.1) -/

/-- The header's FLAGS and LENGTH of a mould copy. -/
def copyFlags (c : Copy) : Nat := memNat 0 c.mem 0x06 2
def copyLength (c : Copy) : Nat := memNat 0 c.mem 0x08 4
def hasHmac (c : Copy) : Bool := bitAt (copyFlags c) 0
/-- Where DIGEST lies. -/
def digestAt (c : Copy) : Nat := copyLength c - (if hasHmac c then 64 else 32)
/-- The DIGEST that a copy carries. -/
def copyDigest (c : Copy) : List Byte := memReads 0 c.mem (digestAt c) 32
/-- The first six bytes of the digest of the mould in force; 0 before the first couch. -/
def activeDigest6 (s : State) : Nat :=
  match s.md.active with
  | some c => ofBytes ((copyDigest c).take 6)
  | none => 0

/-! ## Banks -/

def seedBank (s : State) (b : Nat) : Memory := if b = 0 then s.cal.bank0 else s.cal.bank1
def setBank (s : State) (b : Nat) (m : Memory) : State :=
  if b = 0 then { s with cal := { s.cal with bank0 := m } } else { s with cal := { s.cal with bank1 := m } }
def bankSeq (m : Memory) : Nat := memNat 0xFF m 0xFFF8 4
/-- A valid bank (R294). -/
def bankValid (m : Memory) : Bool :=
  memNat 0xFF m 0 4 = 0x5EED0192 && memNat 0xFF m 4 2 = 1 && bankSeq m ≠ 0xFFFFFFFF &&
    memNat 0xFF m 0xFFFC 4 = crc32c (memReads 0xFF m 0 0xFFFC)
/-- The accepted image with the quality figures of every unit in their records, 0xFFFF for one never computed (R288). -/
def withFigures (s : State) : Memory :=
  let put (m : Memory) (a u lo : Nat) : Memory := memWrites 0 m a (toBytes 2 (bits (unitQuality s u) (lo + 15) lo))
  let m := (List.range 192).foldl (fun m c =>
    put (put (put m (sarResidualAt c 0) c 0) (sarResidualAt c 1) c 0) (tdcResidualAt c) c 16) s.cal.image
  (List.range 8).foldl (fun m k => put m (monResidualAt k) (208 + k) 32) m
/-- Bytes 0x0000 to 0xFFF7 of a commit to `bank` (Tables 9.4 and 9.5). -/
def commitImage (s : State) (bank : Nat) : List Byte :=
  let (a, b) := commitCounts s
  let header := toBytes 4 0x5EED0192 ++ toBytes 2 1 ++ toBytes 2 0 ++ toBytes 8 (deckle s).toNat ++
    toBytes 2 (toField 16 (meanTemp s)) ++ toBytes 2 (bits s.cal.temp.toNat 15 0) ++
    toBytes 4 (a + bnat (bank = 0)) ++ toBytes 4 (b + bnat (bank = 1)) ++ toBytes 6 (activeDigest6 s) ++
    List.replicate 30 0
  let identity := match identityBank s with
    | some k => memReads 0xFF (seedBank s k) 0x40 0x400
    | none => List.replicate 0x400 0xFF
  header ++ identity ++ memReads 0 (withFigures s) 0x440 0xCDC0 ++ List.replicate 11768 0
/-- `SEED_STATUS` with this bank in force. -/
def seedWordOf (s : State) (rolledBack commit : Bool) (status : Nat) : BitVec 64 :=
  let (b, q) := match s.cal.inForce with
    | some b => (b, bankSeq (seedBank s b))
    | none => (0, 0)
  BitVec.ofNat 64 (b + bnat (bankValid s.cal.bank0) * 2 + bnat (bankValid s.cal.bank1) * 4 + bnat rolledBack * 8 +
    bnat commit * 16 + status * 2 ^ 8 + q * 2 ^ 16)
def setSeedWord (s : State) (w : BitVec 64) : State := { s with cal := { s.cal with seedWord := w } }
/-- Report kind 0x24 (Table 9.8). -/
def seedReport (s : State) (status : Nat) : State :=
  let (b, q) := match s.cal.inForce with
    | some b => (b, bankSeq (seedBank s b))
    | none => (0, 0)
  pushSheaf s (report 15 s.tb.beat 0x24 b (q % 2 ^ 24) status)

/-! ## Commits (R295 to R298) -/

/-- CAL_COMMIT (R297). -/
def execCalCommit (r : Req) (s : State) : Res :=
  granger s r (.calCommit r) 0x43 fun s =>
    if s.cal.commit.isSome then replyBusy s r 0x43 0x43
    else if foregroundRuns s then replyBusy s r 0x43 0x40
    else if commitDenied s then replyDenied s r 0x43
    else opening s r 0x43 0 fun s => startCommit s (some r)
/-- The first beat of the deckle after a commit's start: the snapshot is taken and the bank erased (R295). -/
def commitDeckle (s : State) : State :=
  match s.cal.commit with
  | some c =>
    if c.image.isSome then s
    else
      let img := commitImage s c.bank
      let s := setBank { s with cal := { s.cal with commit := some { c with image := some img }, dirty := false } } c.bank []
      setSeedWord s (seedWordOf s (bitAt s.cal.seedWord.toNat 3) true (bits s.cal.seedWord.toNat 15 8))
  | none => s
/-- SEED_COMMIT_COMPLETE (R295, R297): the bank read back as the image, or not. -/
def execSeedCommitComplete (readBack : Bool) (s : State) : Res :=
  .next (match s.cal.commit with
    | none => s
    | some c =>
      match c.image with
      | none => s
      | some img =>
        let body := img ++ toBytes 4 c.seqNo
        let full := body ++ toBytes 4 (crc32c body)
        let m := memOf 0xFF 0 (if readBack then full else img)
        let good := readBack && bankValid m
        let s := setBank s c.bank m
        let st := if good then 0 else 0x0F
        let s := if good then { s with cal := { s.cal with
            inForce := some c.bank, commit := none, lastCommit := s.tb.up
            temp := BitVec.ofNat 32 (putBits s.cal.temp.toNat 31 16 (memNat 0xFF m 0x10 2)) } }
          else { s with cal := { s.cal with commit := none, dirty := true } }
        let s := setSeedWord s (seedWordOf s (bitAt s.cal.seedWord.toNat 3) false st)
        let s := if good then s else raise s 35 c.bank 0x0F
        let s := seedReport s st
        let data := valueWords 2 (seedStatus s)
        match c.req with
        | some r => closeCmd s r 0x43 st 0 data
        | none => event s 2 st data)
/-- A commit in progress ends with its mode (Table 1.4): the bank is left as it lies. -/
def dropCommit (s : State) : State :=
  match s.cal.commit with
  | none => s
  | some _ =>
    let s := { s with cal := { s.cal with commit := none, dirty := true } }
    setSeedWord s (seedWordOf s (bitAt s.cal.seedWord.toNat 3) false (bits s.cal.seedWord.toNat 15 8))
/-- SEED_READ (R300). -/
def execSeedRead (r : Req) (bank : BitVec 1) (offset : BitVec 16) (count : BitVec 11) (s : State) : Res :=
  granger s r (.seedRead r bank offset count) 0x44 fun s =>
    let n := count.toNat
    if n = 0 || 1024 < n || 65536 < offset.toNat + n then replyBad s r 0x44 1
    else
      replyOk { s with clk := { s.clk with ran := s.clk.ran ||| BitVec.ofNat 44 (2 ^ 37) } } r 0x44
        (toWords ((n + 3) / 4) (memReads 0xFF (seedBank s bank.toNat) offset.toNat n))

/-! ## The load at START-UP step 4 (R299, R467) -/

/-- The bank that Table 9.7 uses. -/
def bootBank (s : State) : Option Nat :=
  match bankValid s.cal.bank0, bankValid s.cal.bank1 with
  | true, true => some (if bankSeq s.cal.bank0 < bankSeq s.cal.bank1 then 1 else 0)
  | true, false => some 0
  | false, true => some 1
  | false, false => none
/-- The identity is loaded, from the bank used or from any bank whose identity is valid (R299, R467). -/
def loadIdentity (s : State) (used : Option Nat) : State :=
  let from' := match used with
    | some b => if identityValid (seedBank s b) then some b else none
    | none => if identityValid s.cal.bank0 then some 0 else if identityValid s.cal.bank1 then some 1 else none
  match from' with
  | some b =>
    let m := seedBank s b
    { s with cal := { s.cal with
        identity := BitVec.ofNat 64 (memNat 0xFF m 0x40 8), address := BitVec.ofNat 48 (memNat 0xFF m 0x48 6),
        latency := BitVec.ofNat 32 (memNat 0xFF m 0x50 4)
        tcoef := (List.range 5).map fun i => BitVec.ofNat 64 (memNat 0xFF m (0x54 + 8 * i) 8)
        injDelay := (List.range 192).map fun c => BitVec.ofNat 16 (memNat 0xFF m (0x7C + 2 * c) 2) } }
  | none => { s with cal := { s.cal with identity := 0, address := 0, latency := 0, tcoef := [], injDelay := [] } }
/-- The records of a bank become the targets, in force at the next deckle boundary (R285), with the figures stored in them
(R288). -/
def loadRecords (s : State) (b : Nat) : State :=
  let m := seedBank s b
  let image := memOf 0 0x440 (memReads 0xFF m 0x440 0xCDC0)
  let word := fun (a : Nat) => memNat 0 image a 2
  let chq := (List.range 192).map fun c =>
    (c, BitVec.ofNat 64 (word (sarResidualAt c 0) + word (tdcResidualAt c) * 2 ^ 16 + 0xFFFF * 2 ^ 32))
  let mcq := (List.range 8).map fun k => (208 + k, BitVec.ofNat 64 (0xFFFFFFFF + word (monResidualAt k) * 2 ^ 32))
  { s with cal := { s.cal with
      loaded := some image, inForce := some b, dirty := false, lastCommit := s.tb.up,
      quality := (chq ++ mcq).filter fun e => e.2 ≠ BitVec.ofNat 64 noQuality
      temp := BitVec.ofNat 32 (memNat 0xFF m 0x10 2 * 2 ^ 16 + memNat 0xFF m 0x12 2) } }
/-- Step 4 (R299): whether a bank was found, and the state. The report at boot carries the boot result (R301), for which Table 9.7
names OK and ROLLED_BACK and no code where no bank is valid: a free value, log entry 9. -/
def seedLoad (s : State) : Bool × State :=
  let used := bootBank s
  let s := loadIdentity s used
  match used with
  | none =>
    let s := { s with cal := { s.cal with inForce := none } }
    let s := setSeedWord s (seedWordOf s false false (bits s.cal.seedWord.toNat 15 8))
    let status := (Config.checkStatus s.free).val
    (false, raise (seedReport { s with free := s.free + 1 } status) 3 0 0)
  | some b =>
    let s := loadRecords s b
    let both := bankValid s.cal.bank0 && bankValid s.cal.bank1
    let s := setSeedWord s (seedWordOf s (!both) false (bits s.cal.seedWord.toNat 15 8))
    let s := if both && bankSeq s.cal.bank0 = bankSeq s.cal.bank1 then raise s 35 0 0 else s
    (true, seedReport s (if both then 0 else 0x0F))

end Sys2Proof.Machine
end

