-- ==== Sys2Proof/Machine/Faults.lean ====
section
/-!
DEFINITION. Fault collection and reaction (chapter 12): fences and their policy, block resets, escalation, windows,
ERR_N, and the commands and events about them.
-/
namespace Sys2Proof.Machine

/-! ## Targets (Tables 4.10, 11.8 and 12.1) -/

/-- The unit that FENCE and UNFENCE name; none when the index is out of range. -/
def fenceTarget (kind index : Nat) : Option Target :=
  match kind with
  | 0 => (mkFin 192 index).map Target.channel
  | 1 => (mkFin 12 index).map Target.stook
  | 2 => (mkFin 4 index).map Target.uplane
  | _ => (mkFin 8 index).map Target.converter
/-- The unit that RESET_BLOCK names. -/
def resetTarget (target index : Nat) : Option Target :=
  match target with
  | 0 => (mkFin 192 index).map Target.channel
  | 1 => (mkFin 12 index).map Target.stook
  | 2 => (mkFin 4 index).map Target.uplane
  | 3 => (mkFin 8 index).map Target.converter
  | 4 => (mkFin 2 index).map Target.downlane
  | 5 => if index = 0 then some .timingPort else none
  | 6 => if index = 0 then some .triggerPort else none
  | _ => none
/-- A number for the target, for the list of outstanding commands. -/
def targetKey : Target → Nat
  | .channel c => c.val | .stook k => 256 + k.val | .uplane u => 512 + u.val | .converter k => 768 + k.val
  | .downlane d => 1024 + d.val | .timingPort => 1280 | .triggerPort => 1536

/-- What the act does. -/
def isAct (k : ActKind) (a : Act) : Bool := decide (a.kind = k)

/-! ## Isolation (R361, R362) -/

/-- The fence bit of a target. -/
def setFence (s : State) (t : Target) (v : Bool) : State :=
  match t with
  | .channel c =>
    let b := BitVec.ofNat 192 (2 ^ c.val)
    { s with flt := { s.flt with fencedCh := if v then s.flt.fencedCh ||| b else s.flt.fencedCh &&& ~~~b } }
  | .stook k =>
    let b := BitVec.ofNat 12 (2 ^ k.val)
    { s with flt := { s.flt with fencedStook := if v then s.flt.fencedStook ||| b else s.flt.fencedStook &&& ~~~b } }
  | .uplane u =>
    let b := BitVec.ofNat 4 (2 ^ u.val)
    { s with flt := { s.flt with fencedUl := if v then s.flt.fencedUl ||| b else s.flt.fencedUl &&& ~~~b } }
  | .converter k =>
    let b := BitVec.ofNat 8 (2 ^ k.val)
    { s with flt := { s.flt with fencedConv := if v then s.flt.fencedConv ||| b else s.flt.fencedConv &&& ~~~b } }
  | _ => s
/-- A channel is cut off: it allocates nothing, and a run on it ends (R75, R280). -/
def isolateChannel (s : State) (c : Nat) : State :=
  let s := calDrop s (fun u => u = c)
  setChan s c { chan s c with ring := [], stuckDone := true }
/-- It is free again. The ring holds nothing from before (R56). -/
def freeChannel (s : State) (c : Nat) : State :=
  if fencedChannel s c then s else setChan s c { chan s c with ring := [], stuckDone := true }
/-- What a fence does to its target, once the target counts as isolated. -/
def isolate (s : State) (t : Target) : State :=
  match t with
  | .channel c => isolateChannel s c.val
  | .stook k => forNat 16 (fun j s => isolateChannel s (16 * k.val + j)) s
  | .uplane u => variantAtBoundary (fenceLane s u.val)
  | .converter k => stopConverter (calDrop s fun u => u = 208 + k.val || (u < 192 && u / 24 = k.val)) k.val
  | _ => s
/-- What a release does, once the target no longer counts as isolated. -/
def unisolate (s : State) (t : Target) : State :=
  match t with
  | .channel c => freeChannel s c.val
  | .stook k => if fencedStook s k.val then s else forNat 16 (fun j s => freeChannel s (16 * k.val + j)) s
  | .uplane u =>
    if s.flt.fencedUl.getLsbD u.val || (lane s u.val).st ≠ .fenced then s else negotiate s u.val
  | .converter k => if convFenced s k.val then s else resumeConverter s k.val
  | .triggerPort => { s with thr := { s.thr with undriven := false } }
  | _ => s
/-- The FENCE marker of a target that has one. -/
def markFence (s : State) (t : Target) (release : Bool) (src : Nat) : State :=
  if fenceable t then fenceMarker s (fenceCode t).1 (fenceCode t).2 release src else s

/-! ## The fence policy (R361, R365) -/

def countBits (w : Nat) (v : Nat) : Nat := ((List.range w).filter fun k => bitAt v k).length
/-- Fenced units of the target's kind, and the limit that `FLT_FENCE_POLICY` sets. -/
def fencedCount (s : State) (t : Target) : Nat :=
  match t with
  | .channel _ => countBits 192 s.flt.fencedCh.toNat
  | .stook _ => countBits 12 s.flt.fencedStook.toNat
  | .uplane _ => countBits 4 s.flt.fencedUl.toNat
  | .converter _ => countBits 8 s.flt.fencedConv.toNat
  | _ => 0
def fenceLimit (s : State) (t : Target) : Nat :=
  let p := reg s A_FLT_FENCE_POLICY 0
  match t with
  | .channel _ => bits p 7 0
  | .stook _ => bits p 11 8
  | .uplane _ => bits p 13 12
  | .converter _ => bits p 16 14
  | _ => 0
/-- No planned uplane stands unfenced. -/
def noLaneLeft (s : State) : Bool :=
  (List.range 4).all fun u => !planned s u || s.flt.fencedUl.getLsbD u
/-- With the target counted as fenced, its kind exceeds the policy. -/
def beyondPolicy (s : State) (t : Target) : Bool :=
  fenceLimit s t < fencedCount s t || (match t with | .uplane _ => noLaneLeft s | _ => false)
/-- Some kind exceeds the policy (`FLT_FENCED` [32]). -/
def policyExceeded (s : State) : Bool :=
  beyondPolicy s (.channel 0) || beyondPolicy s (.stook 0) || beyondPolicy s (.converter 0) ||
    fenceLimit s (.uplane 0) < fencedCount s (.uplane 0) || (s.flt.fencedUl ≠ 0 && noLaneLeft s)
/-- The modes in which the limits are applied (Table 12.4). -/
def limitsApply (m : Mode) : Bool := serviceMode m || m = .recovery
/-- A fence of the target would exceed the policy where it is applied. -/
def fenceForbidden (s : State) (t : Target) : Bool :=
  limitsApply s.modes.cur && beyondPolicy (setFence s t true) t

/-! ## Fences taking effect (R361) -/

/-- The queue of R359 gives up its first act, which begins at beat `b`; one whose target is fenced changes nothing. -/
def promoteAct (s : State) (b : Nat) : State :=
  match s.flt.cur with
  | some _ => s
  | none =>
    let idle := s.flt.queue.takeWhile fun a => isFenced s a.target
    let s := idle.foldl (fun s a => endActions s a.key) { s with flt := { s.flt with queue := s.flt.queue.drop idle.length } }
    match s.flt.queue with
    | [] => s
    | a :: rest => { s with flt := { s.flt with queue := rest, cur := some { a with begun := some b } } }
/-- The act in progress has taken its last action. -/
def endCur (s : State) (a : Act) : State := endActions { s with flt := { s.flt with cur := none } } a.key
/-- A reaction's fence takes effect, beyond the policy too. -/
def fenceNow (s : State) (a : Act) : State :=
  if isFenced s a.target then endCur s a
  else
    let s := setFence s a.target true
    let over' := limitsApply s.modes.cur && beyondPolicy s a.target
    let s := markFence (isolate s a.target) a.target false a.src
    endCur (if over' then escalateBeyond s a.key else s) a
def dropAct (a : Act) : List Act → List Act
  | [] => []
  | x :: rest => if x = a then rest else x :: dropAct a rest
/-- A commanded act ends with this reply. -/
def endCommand (s : State) (a : Act) (status detail : Nat) : State :=
  let s := { s with flt := { s.flt with cmds := dropAct a s.flt.cmds } }
  match a.req with
  | some r => closeCmd s r (match a.kind with | .fence => 0x50 | .unfence => 0x51 | .reset => 0x55) status detail []
  | none => s
/-- A commanded fence takes effect. -/
def fenceCommand (s : State) (a : Act) : State :=
  if isFenced s a.target then endCommand s a 0 0
  else if fenceForbidden s a.target then endCommand s a 8 0
  else
    let s := setFence s a.target true
    endCommand (markFence (isolate s a.target) a.target false 0) a 0 0
/-- FENCE_TAKES_EFFECT (R361): at the first deckle boundary after its reaction began, or after its command. -/
def execFenceTakesEffect (s : State) : Res :=
  .next (if !atBoundary s then s
    else
      let s := match s.flt.cur with
        | some a =>
          if isAct .fence a && (match a.begun with | some b => decide (b < s.tb.up) | none => false) then fenceNow s a else s
        | none => s
      (s.flt.cmds.filter fun a => isAct .fence a && decide (a.asked < s.tb.up)).foldl fenceCommand s)
/-- Commanded releases take effect at a deckle boundary (R361, UNFENCE). -/
def releaseFences (s : State) : State :=
  (s.flt.cmds.filter fun a => isAct .unfence a && decide (a.asked < s.tb.up)).foldl (fun s a =>
    let s := setFence s a.target false
    endCommand (markFence (unisolate s a.target) a.target true 0) a 0 0) s

/-- The bit of the target's own kind is set; a channel inside a fenced stook has none of its own. -/
def ownFence (s : State) (t : Target) : Bool :=
  match t with
  | .channel c => s.flt.fencedCh.getLsbD c.val
  | t => isFenced s t
/-- A commanded act joins the list. -/
def addCommand (s : State) (k : ActKind) (t : Target) (r : Req) : State :=
  { s with flt := { s.flt with cmds := s.flt.cmds ++
      [{ kind := k, target := t, src := 0, key := 0, req := some r, asked := s.tb.up, begun := none, acted := false }] } }
/-- A RESET_BLOCK of the target is outstanding (R337). -/
def resetOutstanding (s : State) (t : Target) : Bool :=
  s.flt.cmds.any fun a => isAct .reset a && decide (a.target = t)
/-- FENCE (R347, R361). -/
def execFence (r : Req) (kind : BitVec 2) (index : Byte) (s : State) : Res :=
  granger s r (.fence r kind index) 0x50 fun s =>
    match fenceTarget kind.toNat index.toNat with
    | none => replyBad s r 0x50 0
    | some t =>
      if resetOutstanding s t then replyBusy s r 0x50 0x55
      else if isFenced s t then replyOk s r 0x50 []
      else if fenceForbidden s t then replyDenied s r 0x50
      else opening s r 0x50 (targetKey t) fun s => addCommand s .fence t r
/-- UNFENCE (R347, R361). -/
def execUnfence (r : Req) (kind : BitVec 2) (index : Byte) (s : State) : Res :=
  granger s r (.unfence r kind index) 0x51 fun s =>
    match fenceTarget kind.toNat index.toNat with
    | none => replyBad s r 0x51 0
    | some t =>
      if resetOutstanding s t then replyBusy s r 0x51 0x55
      else if !ownFence s t then replyOk s r 0x51 []
      else opening s r 0x51 (targetKey t) fun s => addCommand s .unfence t r

/-! ## Block resets (R362, R363) -/

/-- The channel's logic at its reset state, with its settings from the mould in force. -/
def resetChannel (s : State) (c : Nat) : State :=
  let s := discardLatch s c
  setChan s c { chan s c with
    overflow := false, masked := false, backoff := 0, backoffEnd := 0, nextBackoff := 40, episodes := 0, edges := 0,
    numbered := 0, codes := [], prescaledRun := 0, lastAccepted := none, lastRead := none, ring := [],
    ana := anaWanted s c, anaNext := none, stuckRaised := false, rateRaised := false }
/-- The target's logic returns to its reset state (R362, R363). -/
def resetLogic (s : State) (t : Target) : State :=
  match t with
  | .channel c => resetChannel s c.val
  | .stook k =>
    let s := forNat 16 (fun j s => resetChannel s (16 * k.val + 15 - j)) s
    setStook s k.val { stook s k.val with wake := none, idle := 0, prepNext := none, prepRetry := none }
  | .uplane _ => s
  | .converter k => setMc s k.val { mc s k.val with pos := 31, aborted := none }
  | .downlane d => setDlane s d.val { dlane s d.val with locked := false }
  | .timingPort =>
    if ptpOn s && s.tb.servo ≠ .faulty then settleTime (portFaulty s) else s
  | .triggerPort => { s with thr := { s.thr with undriven := true } }
/-- A reset begins: isolation with its marker, the reset, the self-check. -/
def beginReset (s : State) (a : Act) : State :=
  resetLogic (markFence (isolate s a.target) a.target false a.src) a.target
/-- The reset of the reaction in progress begins. -/
def beginCur (s : State) : State :=
  match s.flt.cur with
  | none => s
  | some a =>
    if !isAct .reset a || a.acted then s
    else if isFenced s a.target then endCur s a
    else
      let a := { a with acted := true, begun := some s.tb.up }
      beginReset { s with flt := { s.flt with cur := some a } } a
/-- A commanded reset begins. -/
def beginCommanded (s : State) (a : Act) : State :=
  let b := { a with acted := true, begun := some s.tb.up }
  beginReset { s with flt := { s.flt with cmds := s.flt.cmds.map fun x => if x = a then b else x } } b
/-- BLOCK_RESET_START (R362). -/
def execBlockResetStart (s : State) : Res :=
  let s := beginCur s
  .next ((s.flt.cmds.filter fun a => isAct .reset a && !a.acted).foldl beginCommanded s)

/-- The target is released after a reset that succeeded. -/
def resetReleased (s : State) (a : Act) : State :=
  if isFenced s a.target then s else markFence (unisolate s a.target) a.target true a.src
/-- What RESET_BLOCK raises when it ends in TIMEOUT (R347, Table 12.1). -/
def raiseReset (s : State) (t : Target) : State :=
  match t with
  | .channel c => raise s 24 c.val 3
  | .stook k => raise s 15 k.val 4
  | .uplane u => raise s 32 u.val 5
  | .converter k => raise s 19 k.val 3
  | .downlane d => levelBegin s 33 d.val 0
  | .timingPort => levelBegin s 29 0 (servoCode s.tb.servo)
  | .triggerPort => raise s 31 0 (bnat s.thr.los)
/-- A reaction's reset has failed: it becomes a fence, or goes beyond fence (R365). -/
def resetEscalates (s : State) (a : Act) : State :=
  let s := { s with flt := { s.flt with cur := none } }
  let s := if fenceable a.target then
      let s := setFence s a.target true
      let s := editRec s a.key fun r => { r with esc := 1 }
      let s := assertErr (count s A_FLT_ESCALATIONS 0 15 0 1)
      if limitsApply s.modes.cur && beyondPolicy s a.target then escalateBeyond s a.key else s
    else escalateBeyond (unisolate s a.target) a.key
  endActions s a.key
/-- A commanded reset has failed (R363): the target stays isolated as a fence, and its source is raised. -/
def resetCommandFails (s : State) (a : Act) (selfCheck : Bool) : State :=
  let s := endCommand s a 0x0B (bnat selfCheck)
  let s := if fenceable a.target then setFence s a.target true else unisolate s a.target
  raiseReset s a.target
/-- The act that resets the target, and whether it is a reaction's. -/
def resetOf (s : State) (t : Target) : Option (Act × Bool) :=
  let is (a : Act) : Bool := isAct .reset a && a.acted && decide (a.target = t)
  match s.flt.cur.toList.find? is with
  | some a => some (a, true)
  | none => (s.flt.cmds.find? is).map fun a => (a, false)
/-- A reset's end: success, or failure with or without a reported fault. -/
def endReset (s : State) (a : Act) (reaction ok selfCheck : Bool) : State :=
  if ok then
    if reaction then resetReleased (endCur s a) a else resetReleased (endCommand s a 0 0) a
  else if reaction then resetEscalates s a
  else resetCommandFails s a selfCheck
/-- BLOCK_RESET_DECISION (R362): success at the first deckle boundary at which the self-check has passed and the error line
is inactive; failure at the first at which the self-check has reported a fault, or 40 deckles after the start. -/
def execBlockResetDecision (t : Target) (selfCheck : Option Bool) (lineActive : Bool) (s : State) : Res :=
  .next (match resetOf s t with
    | none => s
    | some (a, reaction) =>
      let b := a.begun.getD 0
      let boundary := atBoundary s && decide (b < s.tb.up) && decide (s.tb.up ≤ b + 40960)
      if boundary && decide (selfCheck = some true) && !lineActive then endReset s a reaction true false
      else if boundary && decide (selfCheck = some false) then endReset s a reaction false true
      else if b + 40960 ≤ s.tb.up then endReset s a reaction false (decide (selfCheck = some false))
      else s)
/-- RESET_BLOCK (R337, R347, R363). -/
def execResetBlock (r : Req) (target : BitVec 3) (index : Byte) (s : State) : Res :=
  granger s r (.resetBlock r target index) 0x55 fun s =>
    match resetTarget target.toNat index.toNat with
    | none => replyBad s r 0x55 0
    | some t =>
      if resetOutstanding s t then replyBusy s r 0x55 0x55
      else if isFenced s t then replyOk s r 0x55 []
      else opening s r 0x55 (targetKey t) fun s => addCommand s .reset t r

/-! ## Raises, windows and traps -/

/-- FAULT_RAISE (R352): an error line is asserted. A level line that is asserted while its condition stands has ended and
begun anew. The trigger port's line with context bit 1 stands for a TG_OUT word of wrong parity, which `TG_PARITY_CHECK`
counts (Table 5.11). A fault of the timing port leaves it FAULTY (Table 3.3). -/
def execFaultRaise (src : BitVec 6) (inst : Byte) (ctx : BitVec 16) (s : State) : Res :=
  let n := src.toNat
  let s := if powered s && n = 31 && ctx.getLsbD 1 then count s A_TG_PARITY_CHECK 0 15 0 1 else s
  let s := if powered s && n = 29 && ptpOn s && s.tb.servo ≠ .faulty then loseMaster s .faulty else s
  .next (if !powered s then s
    else if levelSource n then levelBegin (levelEnd s n inst.toNat) n inst.toNat ctx.toNat
    else raise s n inst.toNat ctx.toNat)
/-- TRAP_RESUME (R360): the handler ends, at the latest one deckle after the trap. -/
def execTrapResume (s : State) : Res := .next { s with flt := { s.flt with trap := false } }
/-- The reaction's window has ended at this beat. -/
def windowEnded (s : State) (x : Reaction) : Bool :=
  match x.stop with | some e => decide (e ≤ s.tb.up) | none => false
/-- A level that waits for its raise to be made anew. -/
def freeLevel (anew : List Level) (l : Level) : Level := if anew.contains l then { l with suppressed := none } else l
/-- REACTION_WINDOW_END (R357): a level condition that the reaction suppressed and that is still present is raised anew. -/
def execReactionWindowEnd (s : State) : Res :=
  let ended := s.flt.reactions.filter (windowEnded s)
  let anew := s.flt.levels.filter fun l => ended.any fun x => decide (l.suppressed = some x.key)
  let s := { s with flt := { s.flt with reactions := s.flt.reactions.filter (fun x => !windowEnded s x),
                                         levels := s.flt.levels.map (freeLevel anew) } }
  .next (anew.foldl (fun s l => raise s l.src l.inst l.ctx) s)

/-! ## ERR_N (R366) -/

/-- ERRPIN_RELEASE. -/
def execErrpinRelease (r : Req) (s : State) : Res :=
  granger s r (.errpinRelease r) 0x54 fun s =>
    if !errNow s then replyOk s r 0x54 []
    else opening s r 0x54 0 fun s =>
      let due := max (s.tb.up + 1) (s.flt.errUp + 4096)
      { s with flt := { s.flt with errRel := s.flt.errRel ++ [(r, due)] } }
/-- ERRPIN_MIN_ELAPSED: a pending release takes effect. -/
def execErrpinMinElapsed (s : State) : Res :=
  .next (match s.flt.errRel with
    | [] => s
    | (_, due) :: _ =>
      if s.tb.up < due then s
      else
        let all := s.flt.errRel
        let s := { s with flt := { s.flt with errLow := false, errRel := [], errHighUntil := s.tb.up + 2 } }
        all.foldl (fun s e => closeCmd s e.1 0x54 0 0 []) s)
/-- A PIN raise of the two beats of high asserts ERR_N at their end. -/
def errAgain (s : State) : State :=
  if s.flt.errAgain && s.flt.errHighUntil ≤ s.tb.up then
    { s with flt := { s.flt with errAgain := false, errLow := true, errBeat := s.tb.beat, errUp := s.tb.up } }
  else s

/-! ## FAULT_READ and FAULT_CLEAR (R348, R352 to R356) -/

def emptyRecord : List PWord := [0, 0, 0, 0]
/-- FAULT_READ (Table 11.8). -/
def execFaultRead (r : Req) (first : BitVec 4) (count : BitVec 5) (s : State) : Res :=
  granger s r (.faultRead r first count) 0x52 fun s =>
    if 16 < count.toNat then replyBad s r 0x52 0
    else
      let entry (k : Nat) : List PWord := match s.flt.hist[k]? with
        | some f => faultWords f
        | none => emptyRecord
      let first' := match s.flt.first with
        | some f => faultWords f
        | none => emptyRecord
      replyOk s r 0x52 (valueWords 2 s.flt.word.toNat ++ first' ++
        (List.range count.toNat).flatMap fun j => entry (first.toNat + j))
/-- The raises of this beat that the history holds. -/
def raisedNow (s : State) : List FaultRec := s.flt.hist.filter fun f => f.up = s.tb.up
/-- Error-word bits are cleared, but not those of conditions present or of raises of this beat (R12, R352). -/
def clearWord (s : State) (mask : BitVec 64) : State :=
  let stay := s.flt.levels.map fun l => l.src
  let keep := stay.foldl (fun (a : BitVec 64) k => a ||| BitVec.ofNat 64 (2 ^ k)) s.flt.rose
  { s with flt := { s.flt with word := s.flt.word &&& ~~~(mask &&& ~~~keep) } }
/-- The first-error record is cleared; a raise of the same beat is captured (R354). -/
def clearFirst (s : State) : State :=
  { s with flt := { s.flt with first := s.flt.roseFirst } }
def clearHistory (s : State) : State := { s with flt := { s.flt with hist := raisedNow s } }
/-- The reply of FAULT_CLEAR. -/
def clearReply (s : State) (r : Req) : State := replyOk s r 0x53 (valueWords 2 s.flt.word.toNat)
/-- FAULT_CLEAR. -/
def execFaultClear (r : Req) (mask : BitVec 64) (s : State) : Res :=
  granger s r (.faultClear r mask) 0x53 fun s => clearReply (clearWord s mask) r
/-- FAULT_CLEAR with W2 [0] set. -/
def execFaultClearFirst (r : Req) (mask : BitVec 64) (history : Bool) (s : State) : Res :=
  granger s r (.faultClearFirst r mask history) 0x53 fun s =>
    let s := clearFirst (clearWord s mask)
    clearReply (if history then clearHistory s else s) r
/-- FAULT_CLEAR with W2 [1] set. -/
def execFaultClearHistory (r : Req) (mask : BitVec 64) (s : State) : Res :=
  granger s r (.faultClearHistory r mask) 0x53 fun s => clearReply (clearHistory (clearWord s mask)) r

/-! ## Modes (R339, R361, R364) -/

/-- A commanded act ends because the new mode does not allow it. -/
def abortAct (s : State) (a : Act) : State :=
  let s := { s with flt := { s.flt with cmds := dropAct a s.flt.cmds } }
  if isAct .reset a && a.acted && !isFenced s a.target then markFence (unisolate s a.target) a.target true 0 else s
/-- Commands about fences that the new mode does not accept end; their replies are those of R339. -/
def faultLeave (s : State) (new : Mode) : State :=
  if opcodeAllowed 0x50 new then s else s.flt.cmds.foldl abortAct s
/-- HELD: the queue empties and every window ends (R364). -/
def faultHeld (s : State) : State :=
  { s with flt := { s.flt with
      reactions := [], queue := [], cur := none, cmds := [], errRel := [], interrupts := [], trap := false } }
/-- START-UP: every fence is released, without markers (R361, R364). -/
def faultStart (s : State) : State :=
  { s with flt := { s.flt with fencedCh := 0, fencedStook := 0, fencedUl := 0, fencedConv := 0 }
           thr := { s.thr with undriven := false } }

end Sys2Proof.Machine
end

