-- ==== Sys2Proof/Machine/Barns.lean ====
section
/-!
DEFINITION. Barns, Hasp and fail-over (chapter 13): lockstep and its loss, take-overs and their self-test, resync,
revert, BARN_SWITCH, the cross-link, double faults and the cold start.
-/
namespace Sys2Proof.Machine

/-! ## Barns -/

def barn (s : State) (w : Barn) : BarnRec := match w with | .a => s.barns.a | .b => s.barns.b
def setBarn (s : State) (w : Barn) (x : BarnRec) : State :=
  match w with
  | .a => { s with barns := { s.barns with a := x } }
  | .b => { s with barns := { s.barns with b := x } }
def standbyBarn (s : State) : Barn := otherBarn s.barns.owner
/-- The Hasp latches an owner: the selector and its three copies (R372). -/
def latchOwner (s : State) (w : Barn) : State :=
  { s with barns := { s.barns with owner := w, hasp := HaspCopy.three w } }
/-- The owner that at least two valid copies hold. -/
def haspVote (l : List HaspCopy) : Option Barn :=
  let votes (v : Bool) : Nat := (l.filter fun c => c.bit ≠ c.compl && c.bit = v).length
  if 2 ≤ votes true then some .b else if 2 ≤ votes false then some .a else none
/-- The vote of every beat edge (R372). Its source's context gives the owner bit of each copy. -/
def haspBeat (s : State) : State :=
  match haspVote s.barns.hasp with
  | some w => levelEnd (latchOwner s w) 2 0
  | none =>
    let seen := ((List.range 3).map fun k => bnat ((s.barns.hasp.getD k { bit := false, compl := true }).bit) * 2 ^ k).sum
    levelBegin (latchOwner s s.barns.owner) 2 0 seen
/-- The Barn that the HOME_BARN strap names. -/
def strapBarn (s : State) : Barn := if bitAt s.pwr.straps.toNat 7 then .b else .a
/-- The home Barn (R386). -/
def homeBarn (s : State) : Barn :=
  match bits (reg s A_BN_HOME 0) 1 0 with
  | 1 => .a | 2 => .b | _ => strapBarn s
/-- The standby is eligible (R375). -/
def eligible (s : State) : Bool :=
  decide (s.barns.standby = .lockstep) && s.barns.xlink && s.barns.agreed && !s.barns.suspended
def standbyCode : Standby → Nat | .lockstep => 0 | .resyncing => 1 | .detached => 2 | .failed => 3
/-- Reverts of the last 3 600 s. -/
def recentReverts (s : State) : Nat := (s.barns.reverts.filter fun b => decide (s.tb.up < b + 3600 * 40960000)).length
/-- The BARN_STATUS word (R346). -/
def barnStatusWord (s : State) : Nat :=
  barnCode s.barns.owner + barnCode (homeBarn s) * 2 + standbyCode s.barns.standby * 4 + bnat (eligible s) * 16 +
    bnat s.barns.xlink * 32 + bnat s.barns.suspended * 64 + min 255 (recentReverts s) * 2 ^ 8
/-- The Barns run. -/
def barnsRun (s : State) : Bool := powered s && decide (s.modes.cur ≠ .held)

/-- Every outstanding command of this opcode is replied. -/
def closeAll (s : State) (op status : Nat) : State :=
  (s.cmd.outst.filter fun o => o.opcode = BitVec.ofNat 8 op).foldl (fun s o => closeCmd s o.req op status 0 []) s

/-! ## Resync (R383, R384) -/

def startResync (s : State) : State :=
  if decide (s.barns.standby = .detached) && s.barns.xlink && !s.barns.suspended then
    { s with barns := { s.barns with standby := .resyncing, resync := some { phase := 1, since := s.tb.dk, bad := 0 } } }
  else s
/-- A resync is abandoned (R384); `status` is the reply of an outstanding BARN_RESYNC, which raises its source. -/
def abandonResync (s : State) (status : Nat) : State :=
  match s.barns.resync with
  | none => s
  | some _ =>
    let s := { s with barns := { s.barns with resync := none, standby := .detached } }
    let s := count s A_BN_RESYNC_COUNT 0 31 16 1
    if outstanding s 0x62 then raise (closeAll s 0x62 status) 11 (barnCode (standbyBarn s)) 0 else s
/-- The standby enters lockstep at this boundary. -/
def enterLockstep (s : State) : State :=
  { s with barns := { s.barns with standby := .lockstep, resync := none, lockSince := s.tb.dk, agreed := true,
                                   checkpoint := deckle s } }

/-- RESYNC_SNAPSHOT (R383). -/
def execResyncSnapshot (s : State) : Res :=
  .next (match s.barns.resync with
    | some x => if x.phase = 1 then { s with barns := { s.barns with resync := some { x with phase := 2 } } } else s
    | none => s)
/-- RESYNC_JOURNAL (R383, R384): a checkpoint held by beat 512 of its deckle leads to the join. -/
def execResyncJournal (signatureOk : Bool) (s : State) : Res :=
  .next (match s.barns.resync with
    | some x =>
      if x.phase < 2 then s
      else if signatureOk then
        let phase := if s.tb.beat.toNat % 1024 ≤ 512 then 3 else 2
        { s with barns := { s.barns with resync := some { x with phase := phase, bad := 0 } } }
      else
        let s := count s A_BN_XLINK 0 31 16 1
        if x.bad = 0 then { s with barns := { s.barns with resync := some { x with phase := 2, bad := 1 } } }
        else abandonResync s 0x0C
    | none => s)
/-- RESYNC_JOIN (R383): at boundary J + 1 the checkpoint signatures are compared. -/
def execResyncJoin (signatureOk : Bool) (s : State) : Res :=
  .next (match s.barns.resync with
    | some x =>
      if x.phase < 3 || !atBoundary s then s
      else if signatureOk then closeAll (count (enterLockstep s) A_BN_RESYNC_COUNT 0 15 0 1) 0x62 0
      else
        let s := count s A_BN_XLINK 0 31 16 1
        startResync { s with barns := { s.barns with standby := .detached, resync := none } }
    | none => s)
/-- RESYNC_ABANDON (R384): 400 deckles without a join. The other three causes end the resync where they arise. -/
def execResyncAbandon (s : State) : Res :=
  .next (match s.barns.resync with
    | some x => if x.since + 400 ≤ s.tb.dk then abandonResync s 0x0B else s
    | none => s)
/-- BARN_RESYNC (R337, R347). -/
def execBarnResync (r : Req) (s : State) : Res :=
  granger s r (.barnResync r) 0x62 fun s =>
    if outstanding s 0x61 then replyBusy s r 0x62 0x61
    else if outstanding s 0x62 then replyBusy s r 0x62 0x62
    else if s.barns.standby = .lockstep then replyOk s r 0x62 []
    else if !s.barns.xlink || decide (s.barns.standby = .failed) then replyDenied s r 0x62
    else opening s r 0x62 0 fun s => startResync s

/-! ## Mismatch and self-test (R373, R374, R377 to R381) -/

/-- The Hasp forwards no word: the idle keeper drives every lane, and ends a frame in progress at once (R377). -/
def silence (s : State) (t : Takeover) : State :=
  let s := { s with barns := { s.barns with takeover := some t } }
  forNat 4 (fun u s =>
    let x := lane s u
    let ended := if x.line.isEmpty then x.lastSet else if x.gen = 1 then 6 else 5
    if x.st = .active || x.st = .draining || (u = 3 && s.nl.active) then
      setLane s u { x with line := [], idleSet := 1, lastSet := ended }
    else s) s
def newTakeover (s : State) (kind : Nat) (alarm : Option Barn) (cold : Bool) : Takeover :=
  { kind := kind, deckle := deckle s, dk := s.tb.dk, checkpoint := s.barns.checkpoint, cold := cold,
    alarmA := decide (alarm = some .a), alarmB := decide (alarm = some .b), test := none }
/-- The Hasp stays silent until the Barns have started cold. -/
def coldTakeover (s : State) : Takeover :=
  match s.barns.takeover with
  | some t => { t with cold := true, test := none }
  | none => newTakeover s 4 none true
/-- Comparison is resumed after an upgrade that failed. -/
def endSuspension (s : State) : State := { s with barns := { s.barns with suspended := false } }
/-- An upgrade couch in steps 1 to 3 is cancelled (R324). -/
def cancelUpgrade (s : State) : State := endSuspension (cancelCouch s fun c => c.upgrade && decide (1 ≤ c.phase))
/-- The standby loads the microcode in force and is resynchronised (R324). -/
def reloadStandby (s : State) : State :=
  let w := standbyBarn s
  let o := barn s s.barns.owner
  startResync (setBarn s w { barn s w with mc := o.mc, stateVersion := o.stateVersion })
/-- Step 1, 2 or 3 of the upgrade fails (R324). -/
def failUpgrade (s : State) : State := reloadStandby (endSuspension (cancelCouch s fun c => c.upgrade))
/-- A double Barn fault (R390, R392). -/
def doubleFault (s : State) : State :=
  let s := abandonResync (silence s (coldTakeover s)) 0x0C
  let s := cancelUpgrade (raise s 1 (barnCode s.barns.owner) 0)
  if serviceMode s.modes.cur then causeRecovery s 0x07
  else if s.modes.cur = .recovery then recoveryFail s else s
/-- The detection beat. -/
def mismatch (s : State) (kind : Nat) (alarm : Option Barn) : State := silence s (newTakeover s kind alarm false)
/-- LOCKSTEP_MISMATCH (R373): kinds 1 to 4. -/
def execLockstepMismatch (kind : BitVec 4) (s : State) : Res :=
  .next (if barnsRun s && decide (s.barns.standby = .lockstep) && !s.barns.suspended && s.barns.takeover.isNone &&
      decide (1 ≤ kind.toNat) && decide (kind.toNat ≤ 4) then mismatch s kind.toNat none else s)
/-- A standby that fails outside lockstep is held in reset (Table 13.1). In step 5 of an upgrade this fails it (R324). -/
def failStandby (s : State) : State :=
  let w := standbyBarn s
  let step5 := s.barns.suspended && !(match s.md.couch with | some c => c.upgrade | none => false)
  let s := abandonResync (cancelUpgrade s) 0x0C
  let s := { s with barns := { s.barns with standby := .failed, agreed := false } }
  let s := setBarn s w { barn s w with passed := false, failedAt := s.tb.dk }
  if step5 then raise s 11 (barnCode w) 1 else s
/-- An alarm during a take-over counts in its verdict. -/
def noteAlarm (s : State) (t : Takeover) (w : Barn) : State :=
  let t := { t with alarmA := t.alarmA || decide (w = .a), alarmB := t.alarmB || decide (w = .b) }
  { s with barns := { s.barns with takeover := some t } }
/-- BARN_ALARM (R374, R390, R324). -/
def execBarnAlarm (w : Barn) (s : State) : Res :=
  .next (if !barnsRun s then s
    else match s.barns.takeover with
      | some t => noteAlarm s t w
      | none =>
        if decide (s.barns.standby = .lockstep) && !s.barns.suspended then mismatch s 4 (some w)
        else if w = s.barns.owner then doubleFault s
        else failStandby s)

/-- BARN_SELFTEST_START (R378): at the first deckle boundary after detection. -/
def execBarnSelftestStart (s : State) : Res :=
  .next (match s.barns.takeover with
    | some t =>
      let wait := match s.barns.bothFailed with | some b => decide (s.tb.dk < b + 40000) | none => false
      if atBoundary s && t.test.isNone && decide (t.dk < s.tb.dk) && !wait && barnsRun s then
        { s with barns := { s.barns with takeover := some { t with test := some s.tb.dk } } }
      else s
    | none => s)
/-- The result of one Barn's self-test is recorded (R378, R385). -/
def recordTest (s : State) (w : Barn) (bitsOff : Nat) (ok : Bool) : State :=
  let x := barn s w
  setBarn s w { x with passed := ok, bits := bitsOff, fails := if ok then 0 else satAdd 255 x.fails 1,
                       failedAt := if ok then x.failedAt else s.tb.dk, stopped := if ok then false else x.stopped }

/-- The limit of each RESET_BLOCK that a take-over of n beats overlaps is longer by the overlap (R381, Table 11.7). -/
def pauseResets (s : State) (n : Nat) : State :=
  let move (b : Nat) : Nat := b + min n (s.tb.up - b)
  let longer (a : Act) : Act := if a.kind = .reset then { a with begun := a.begun.map move } else a
  { s with flt := { s.flt with cmds := s.flt.cmds.map longer } }
/-- The stream resumes (R380, R381): the paused limits move on, and the commands about Barns end. -/
def resumeStream (s : State) (t : Takeover) : State :=
  let n := s.tb.dk - t.dk
  let s := { s with barns := { s.barns with
    takeover := none, switch := none, lastDeckle := t.deckle, lastDur := max 1 (min 10 n), lastKind := t.kind } }
  let s := ownerRewind (pauseTraining (pauseCredit (pauseResets s (1024 * n)) n) n)
  let s := resumeMarker s 0 t.checkpoint
  closeAll (closeAll s 0x61 0x0C) 0x62 0x0C
/-- The owner becomes this Barn; the other is its standby in this state. -/
def giveHasp (s : State) (w : Barn) (st : Standby) : State :=
  let s := latchOwner s w
  { s with barns := { s.barns with standby := st, agreed := false } }

/-- The verdict of Table 13.2 after a mismatch. -/
def verdict (s : State) (t : Takeover) (bitsA bitsB : Nat) (okA okB : Bool) : State :=
  let o := s.barns.owner
  let p := otherBarn o
  let ok (w : Barn) : Bool := match w with | .a => okA | .b => okB
  let n (w : Barn) : Nat := match w with | .a => bitsA | .b => bitsB
  let failed (s : State) (w : Barn) : State := raise (raise s 8 (barnCode w) t.kind) 9 (barnCode w) (n w)
  match ok o, ok p with
  | true, true =>
    let s := raise (count (giveHasp s o .detached) A_BN_TAKEOVERS 0 31 16 1) 8 0xFF t.kind
    startResync (resumeStream s t)
  | true, false => resumeStream (failed (count (giveHasp s o .failed) A_BN_TAKEOVERS 0 31 16 1) p) t
  | false, true =>
    if s.barns.xlink then
      let s := failed (count (giveHasp s p .failed) A_BN_TAKEOVERS 0 15 0 1) o
      resumeStream (raise s 46 (barnCode p) 0) t
    else doubleFault (failed (giveHasp s o .detached) o)
  | false, false =>
    let s := raise (raise s 9 0 bitsA) 9 1 bitsB
    doubleFault (raise (giveHasp s o .failed) 8 0xFF t.kind)

/-! ## Cold start (R391, R392) -/

/-- What both Barns lose when they start cold, and what the new owner rebuilds: the queues of the units whose arrival numbers
precede the committed pointer record's (R216). -/
def coldRebuild (s : State) : State :=
  let s := keepUnits s fun u => arrBefore u.arr (pointer s).arrival
  let s := mapUnits s fun u => { u with st := if u.st = .inFlight then .eligible else u.st, flying := [] }
  let s := { s with gran := { s.gran with seq := pset 0 s.gran.seq 14 (((pointer s).seq14 + 1024) % 2 ^ 16)
                                          ptrUsed := (pointer s).deckle, back := [] }
                    thr := { s.thr with waiting := [], store := [], expires := [] } }
  renegotiateAll (dropPoisoned s)
/-- The Barn that a cold start makes owner: the home Barn if it passed, else the one that did. -/
def coldOwner (s : State) : Barn :=
  if (barn s (homeBarn s)).passed then homeBarn s
  else if (barn s (otherBarn (homeBarn s))).passed then otherBarn (homeBarn s) else homeBarn s
/-- The owner's partner after RECOVERY step 1 or a cold start. -/
def settleStandby (s : State) (o : Barn) : State :=
  startResync (giveHasp s o (if (barn s (otherBarn o)).passed then .detached else .failed))
/-- At-completion commands other than MODE_REQUEST end (R340). -/
def abortOutstanding (s : State) : State :=
  let go := s.cmd.outst.filter fun o => o.opcode.toNat ≠ 3
  let s := { s with flt := { s.flt with cmds := [], errRel := [] }
                    barns := { s.barns with switch := none } }
  go.foldl (fun s o => closeCmd s o.req o.opcode.toNat 0x0C 0 []) s
/-- A cold start outside service (R392). -/
def coldVerdict (s : State) (t : Takeover) : State :=
  if s.barns.a.passed || s.barns.b.passed then
    let s := settleStandby { s with barns := { s.barns with takeover := none, bothFailed := none } } (coldOwner s)
    let s := coldRebuild s
    abortOutstanding (resumeMarker s 4 s.gran.ptrUsed)
  else { s with barns := { s.barns with bothFailed := some s.tb.dk, takeover := some { t with test := none } } }
/-- BARN_SELFTEST_VERDICT (R379, R392): at the boundary that ends the two deckles of the self-test. In step 1 of RECOVERY
the results are recorded for the step's end (R391). -/
def execBarnSelftestVerdict (bitsA bitsB : BitVec 16) (stateA stateB : Bool) (s : State) : Res :=
  .next (
    let run (t : Takeover) : State :=
      let okA := decide (bitsA = 0) && stateA && !t.alarmA
      let okB := decide (bitsB = 0) && stateB && !t.alarmB
      let s := recordTest (recordTest s .a bitsA.toNat okA) .b bitsB.toNat okB
      if s.modes.cur = .recovery && s.modes.recStep = 1 then s
      else if t.cold then (if serviceMode s.modes.cur then s else coldVerdict s t)
      else verdict s t bitsA.toNat bitsB.toNat okA okB
    match s.barns.takeover with
    | some t =>
      match t.test with
      | some b => if atBoundary s && decide (b + 2 ≤ s.tb.dk) && barnsRun s then run t else s
      | none => s
    | none =>
      if atBoundary s && decide (s.modes.cur = .recovery) && decide (s.modes.recStep = 1) then
        run (newTakeover s 0 none true)
      else s)
/-- BARN_RETEST (R385, R392). When both Barns failed, their retest is that of BARN_SELFTEST_START. -/
def execBarnRetest (bits' : BitVec 16) (s : State) : Res :=
  let w := standbyBarn s
  let x := barn s w
  let cfg := reg s A_BN_RETEST 0
  .next (if barnsRun s && decide (s.barns.standby = .failed) && s.barns.takeover.isNone && !x.stopped &&
      decide (x.failedAt + bits cfg 15 0 * 40000 ≤ s.tb.dk) then
    let s := recordTest s w bits'.toNat (decide (bits' = 0))
    if bits' = 0 then reloadStandby { s with barns := { s.barns with standby := .detached } }
    else
      let y := barn s w
      let s := setBarn s w { y with stopped := decide (bits cfg 23 16 ≤ y.fails) }
      raise s 9 (barnCode w) bits'.toNat
  else s)

/-! ## Cross-link (R389) -/

/-- A standby in lockstep is detached. -/
def detachStandby (s : State) : State :=
  if s.barns.standby = .lockstep then { s with barns := { s.barns with standby := .detached, agreed := false } } else s
/-- An upgrade is in steps 1 to 3. -/
def upgrading (s : State) : Bool :=
  match s.md.couch with
  | some c => c.upgrade && decide (1 ≤ c.phase)
  | none => false
/-- CROSSLINK_LOSS. -/
def execCrosslinkLoss (s : State) : Res :=
  .next (if barnsRun s && s.barns.xlink then
    let s := count s A_BN_XLINK 0 15 0 1
    let s := { s with barns := { s.barns with xlink := false, xlost := s.tb.dk, agreed := false } }
    let s := abandonResync s 0x0C
    let s := if upgrading s then failUpgrade s else s
    levelBegin (detachStandby s) 10 0 0
  else s)
/-- CROSSLINK_RESTORED (R376, R389): the link has been up for 40 deckles. -/
def execCrosslinkRestored (s : State) : Res :=
  .next (if barnsRun s && (s.barns.xlink || decide (s.barns.xlost + 40 ≤ s.tb.dk)) then
    let s := levelEnd { s with barns := { s.barns with xlink := true } } 10 0
    if s.barns.takeover.isNone then startResync s else s
  else s)

/-! ## Revert and BARN_SWITCH (R386 to R388) -/

/-- Ownership moves to the standby without a rewind; `cause` is that of OWNER_CHANGE and RESUME. -/
def changeOwner (s : State) (cause : Nat) (st : Standby) : State :=
  let w := standbyBarn s
  let s := latchOwner s w
  let s := { s with barns := { s.barns with standby := st } }
  resumeMarker (raise s 46 (barnCode w) cause) cause (deckle s)
/-- A BARN_SWITCH falls due at this boundary. -/
def switchDue (s : State) : Bool :=
  atBoundary s && s.barns.takeover.isNone && (match s.barns.switch with | some x => decide (x.2 < s.tb.up) | none => false)
/-- The switch is made, after a couch and a mode transition of the same boundary (R388). -/
def makeSwitch (s : State) : State :=
  match s.barns.switch with
  | some (r, _) =>
    if !switchDue s || couchDue s || transitionDue s then s
    else
      let s' := { s with barns := { s.barns with switch := none } }
      if eligible s then closeCmd (changeOwner s' 2 .lockstep) r 0x61 0 0 [] else closeCmd s' r 0x61 8 0 []
  | none => s
/-- BARN_SWITCH (R337, R347, R387). -/
def execBarnSwitch (r : Req) (s : State) : Res :=
  granger s r (.barnSwitch r) 0x61 fun s =>
    if outstanding s 0x61 then replyBusy s r 0x61 0x61
    else if outstanding s 0x62 then replyBusy s r 0x61 0x62
    else if !eligible s then replyDenied s r 0x61
    else opening s r 0x61 0 fun s => { s with barns := { s.barns with switch := some (r, s.tb.up) } }
/-- Every condition of a revert holds but the limit MAX (R386). -/
def revertDue (s : State) : Bool :=
  let v := reg s A_BN_REVERT 0
  atBoundary s && bitAt v 0 && (serviceMode s.modes.cur || decide (s.modes.cur = .cal)) &&
    decide (homeBarn s = standbyBarn s) && eligible s && s.barns.takeover.isNone &&
    decide (s.barns.lockSince + bits v 31 8 ≤ s.tb.dk)
/-- REVERT (R386, R388). -/
def execRevert (s : State) : Res :=
  .next (if !revertDue s || switchDue s || couchDue s || transitionDue s then s
    else if recentReverts s < bits (reg s A_BN_REVERT 0) 3 1 then
      let s := changeOwner s 1 .lockstep
      let s := count s A_BN_REVERTS 0 15 0 1
      { s with barns := { s.barns with withheld := false, reverts := (s.tb.up :: s.barns.reverts).take 255 } }
    else if s.barns.withheld then s
    else count { s with barns := { s.barns with withheld := true } } A_BN_REVERTS 0 31 16 1)
/-- BARN_STATUS (R346). -/
def execBarnStatus (r : Req) (s : State) : Res :=
  granger s r (.barnStatus r) 0x60 fun s => replyOk s r 0x60 (valueWords 1 (barnStatusWord s))

/-! ## Boundaries and modes -/

/-- The Barns at a deckle boundary: the checkpoint closes (R371), and a switch falls due. -/
def barnsDeckle (s : State) : State :=
  let locked := decide (s.barns.standby = .lockstep) && !s.barns.suspended && s.barns.takeover.isNone
  let s := { s with barns := { s.barns with
    agreed := locked, checkpoint := if locked then deckle s else s.barns.checkpoint
    withheld := s.barns.withheld && decide (s.barns.standby = .lockstep) } }
  makeSwitch s
/-- HELD: the Barns are off. -/
def barnsHeld (s : State) : State :=
  levelEnd { s with barns := { s.barns with
    standby := .detached, xlink := false, agreed := false, suspended := false, takeover := none, resync := none,
    switch := none, withheld := false, bothFailed := none } } 10 0
/-- START-UP or RECOVERY step 1 lets stopped retests begin again (R385). -/
def retestsAllowed (s : State) : State :=
  { s with barns := { s.barns with a := { s.barns.a with stopped := false }, b := { s.barns.b with stopped := false } } }
/-- START-UP step 2 (R23, R375): the HOME_BARN strap's Barn owns, the other is in lockstep. -/
def barnsStart (s : State) : State :=
  let s := latchOwner s (strapBarn s)
  enterLockstep { s with barns := { s.barns with xlink := true } }

end Sys2Proof.Machine
end

