-- ==== Sys2Proof/Machine/Values.lean ====
section
/-!
DEFINITION. What values the attributes take: the mouldable attributes and their sections (R305, Table 10.4), the reserved
encodings (rule 0x09) and the ranges (rule 0x0A), which a SET obeys as a mould does (R329).
-/
namespace Sys2Proof.Machine

/-- The RO tables that change only by couching (R305). -/
def couchTable (id : Nat) : Bool :=
  [A_WN_FIR_SET, A_WN_FIR_COEF, A_TH_ANSWER_TABLE, A_TH_TRIGGER_TABLE, A_TH_OPCODES_KNOWN, A_MG_SCOPE].contains id
/-- A mouldable attribute (R305). -/
def mouldable (a : Attr) : Bool :=
  couchTable a.id || (decide (a.access = Access.rw) && decide (a.id < 0xE000) && decide (a.id / 4096 ≠ 9))
/-- The section of Table 10.4 that gives an attribute. -/
def sectionOf (id : Nat) : Nat :=
  if id = A_CH_THRESHOLD then 0x03
  else if id = A_WN_FIR_SET ∨ id = A_WN_FIR_COEF then 0x05
  else if id = A_TH_ANSWER_TABLE then 0x08
  else if id = A_MG_SCOPE then 0x0B
  else [0x01, 0x02, 0x04, 0x06, 0x07, 0x09, 0x0A, 0x0C, 0x0D, 0, 0x0E, 0x0F, 0x10, 0x11].getD (id / 4096) 0

/-- The largest FECLK offset of a divider code (R400). -/
def feclkOffsetMax (code : Nat) : Nat := [7, 15, 3, 1].getD code 255
/-- The value uses a reserved encoding (rule 0x09). -/
def badEncoding (id inst v : Nat) : Bool :=
  if id = A_CH_CONFIG then 6 ≤ bits v 3 1 || bits v 5 4 = 3 || (inst % 2 = 1 && bitAt v 7)
  else if id = A_TB_SOURCE then bits v 1 0 = 3
  else if id = A_GR_FLOW_MAP then bits v 1 0 = 3 || bits v 3 2 = 3
  else if id = A_LK_UL_CONFIG then bits v 3 2 = 0 || bits v 5 4 = 0
  else if id = A_LK_DL_CONFIG then bits v 3 2 = 0
  else if id = A_BN_HOME then bits v 1 0 = 3
  else if id = A_CK_FECLK then 5 ≤ bits v 2 0 || feclkOffsetMax (bits v 2 0) < bits v 15 8
  else false
/-- Field [hi:lo] lies outside min to max. -/
def outside (v hi lo min max : Nat) : Bool := bits v hi lo < min || max < bits v hi lo
/-- The value lies outside a range that its attribute table states (rule 0x0A). -/
def outOfRange (id v : Nat) : Bool :=
  if id = A_CH_STUCK_LIMIT then outside v 15 0 8 65535
  else if id = A_PRESCALE_TABLE then bitAt v 3 || bitAt v 7 || bitAt v 11 || bitAt v 15
  else if id = A_TB_STEP_THRESHOLD then outside v 15 0 1 65535
  else if id = A_TB_SLEW_MAX then outside v 6 0 0 64
  else if id = A_TB_SYNC_CTRL then outside v 15 8 8 255
  else if id = A_PTP_CTRL then outside v 19 16 2 10
  else if id = A_TB_LOSS_SYNCS then outside v 7 0 2 255
  else if id = A_TB_SERVO_BW then outside v 15 0 1 1000
  else if id = A_TDC_REPLICA_PERIOD then outside v 15 0 1 40000
  else if id = A_WN_CONFIG then outside v 11 10 0 2
  else if id = A_WN_CFD then outside v 3 0 1 15
  else if id = A_TH_TRIGGER_TABLE then outside v 48 32 0 81920
  else if id = A_TH_MAX_LATENCY then outside v 16 0 64 81920
  else if id = A_GR_BANK_MARGIN then outside v 16 0 4096 65536
  else if id = A_GR_BANK_IDLE then outside v 15 0 1 65535
  else if id = A_GR_SCRUB_CTRL then outside v 7 0 1 255
  else if id = A_LK_UL_CONFIG then outside v 11 8 2 3
  else if id = A_LK_DL_CONFIG then outside v 3 2 1 2
  else if id = A_LK_CREDIT_TIMEOUT then outside v 15 0 8 40000
  else if id = A_LK_SLEEP_DECKLES then outside v 15 0 1 65535
  else if id = A_LK_TRAIN_DECKLES then outside v 3 0 1 15
  else if id = A_MON_SCAN_LIST then outside v 4 0 0 26
  else if id = A_MON_BASE_SLEW then outside v 7 0 1 255
  else if id = A_CAL_GLEAN_CTRL then outside v 23 8 60 65535 || outside v 31 24 1 255
  else if id = A_CAL_AUTOCOMMIT then v ≠ 0 && v < 3600
  else if id = A_CAL_TEMP_DELTA then outside v 7 0 1 40
  else if id = A_FLT_FENCE_POLICY then outside v 7 0 0 192 || outside v 11 8 0 11
  else if id = A_BN_REVERT then outside v 31 8 40000 16000000
  else if id = A_BN_RETEST then outside v 15 0 1 65535 || outside v 23 16 1 255
  else if id = A_CK_SLEEP_DECKLES then outside v 15 0 1 65535
  else if id = A_NL_CONFIG then outside v 6 0 1 64
  else if id = A_TA_TEST_OUT then
    let i := bits v 15 8
    let top := match bits v 4 0 with | 6 => 191 | 7 => 11 | 9 => 1 | _ => 0
    outside v 4 0 0 9 || top < i
  else if id = A_TA_UL_EQ then outside v 7 4 0 12 || outside v 11 8 0 6
  else false
/-- A bit that is reserved is set; the value may have bits above its width. -/
def reservedSet (a : Attr) (v : Nat) : Bool := v &&& a.mask ≠ v

/-- The RW attributes of blocks 0x0 to 0xD take a SET in START-UP and CALIBRATION & TEST only (R13); those of block 0xE in
every mode with a Granger (R464); the installation key and its state in CALIBRATION & TEST (R309). -/
def settable (id : Nat) (m : Mode) : Bool :=
  if id = A_MD_KEY ∨ id = A_MD_KEY_STATE then m = .cal
  else if 0xE000 ≤ id then m ≠ .held
  else m = .startUp || m = .cal

end Sys2Proof.Machine
end

