-- ==== Sys2Proof/Machine/Check.lean ====
section
/-!
DEFINITION. The mould image and its check: header, directory and attribute runs (R303 to R307), and the consistency rules of
Table 10.6 in code order (R315).
-/
namespace Sys2Proof.Machine

/-- A failed rule: its code, section, attribute and instance (`MD_CHECK_RESULT`). -/
structure Broken where
  rule : Nat
  sec : Nat
  attr : Nat
  inst : Nat
deriving DecidableEq, Repr

/-- One value of an attribute run: its section, attribute, instance, the run's WIDTH and the value. -/
structure RunVal where
  sec : Nat
  id : Nat
  inst : Nat
  width : Nat
  v : Nat
  /-- Offset of the value in the image. -/
  off : Nat
deriving DecidableEq, Repr

/-- A directory entry (Table 10.3). -/
structure DirEntry where
  id : Nat
  format : Nat
  off : Nat
  len : Nat
  rsv : Nat
deriving DecidableEq, Repr

/-! ## Reading an image -/

def headField (c : Copy) (off n : Nat) : Nat := memNat 0 c.mem off n
def sectionCount (c : Copy) : Nat := headField c 0x0C 2
def dirEntry (c : Copy) (i : Nat) : DirEntry :=
  let b := 0x80 + 16 * i
  { id := headField c b 2, format := headField c (b + 2) 2, off := headField c (b + 4) 4, len := headField c (b + 8) 4,
    rsv := headField c (b + 12) 4 }
def directory (c : Copy) : List DirEntry := (List.range (min 32 (sectionCount c))).map (dirEntry c)
def findSection (c : Copy) (id : Nat) : Option DirEntry := (directory c).find? fun e => e.id = id
def sectionBytes (c : Copy) (e : DirEntry) : List Byte := memReads 0 c.mem e.off e.len
/-- The values of one run, n left, the first at `off` for instance `inst`. -/
def runValues (sec id width : Nat) : Nat → Nat → Nat → List Byte → List RunVal
  | 0, _, _, _ => []
  | n + 1, inst, off, bs =>
    { sec := sec, id := id, inst := inst, width := width, v := ofBytes (bs.take width), off := off } ::
      runValues sec id width n (inst + 1) (off + width) (bs.drop width)
def attrNamed (id : Nat) : Option Attr := (attrBlock (id / 4096)).find? fun a => a.id = id
/-- A run word (R305) is not well formed. -/
def badRun (w id first count width : Nat) : Bool :=
  bitAt w 29 || bits w 23 0 ≠ 0 || width = 0 || 16 < width || 512 < first + count ||
    (256 < first + count && id ≠ A_TH_ANSWER_TABLE) ||
    (match attrNamed id with | some a => a.width ≠ width | none => false)
/-- The values of a section's runs in order, and the first run that is not well formed (rule 0x07). -/
def parseRuns (sec : Nat) : Nat → Nat → List Byte → List RunVal × Option Broken
  | _, _, [] => ([], none)
  | 0, _, _ :: _ => ([], some { rule := 0x07, sec := sec, attr := 0, inst := 0 })
  | fuel + 1, off, b :: bs =>
    let bytes := b :: bs
    let w := ofBytes (bytes.take 8)
    let id := bits w 63 48
    let first := bits w 47 39
    let count := bits w 38 30 + 1
    let width := bits w 28 24
    let n := count * width
    let pad := (8 - n % 8) % 8
    let fail : Broken := { rule := 0x07, sec := sec, attr := id, inst := first }
    if bytes.length < 8 + n + pad || badRun w id first count width then ([], some fail)
    else
      let body := bytes.drop 8
      let vals := runValues sec id width count first (off + 8) body
      if ((body.drop n).take pad).any fun x => x ≠ 0 then (vals, some fail)
      else
        let (rest, f) := parseRuns sec fuel (off + 8 + n + pad) (body.drop (n + pad))
        (vals ++ rest, f)
/-- Bytes of the schedule table (R306). -/
def scheduleBytes : Nat := 61440
/-- The runs of a section (R305, R306), and what breaks rule 0x07 in it. -/
def parseSection (c : Copy) (e : DirEntry) : List RunVal × Option Broken :=
  let fail : Broken := { rule := 0x07, sec := e.id, attr := 0, inst := 0 }
  let bytes := sectionBytes c e
  if e.id = 0x12 then ([], if bytes.length < 8 || bits (ofBytes (bytes.take 8)) 15 0 ≠ 0 then some fail else none)
  else if e.id = 0x13 then
    ([], if bytes.length < 32 || (bytes.drop 32).any (fun x => decide (x ≠ 0)) then some fail else none)
  else if e.id = 0x0B then
    (if e.len < scheduleBytes then ([], some fail)
     else parseRuns e.id e.len e.off (bytes.take (e.len - scheduleBytes)))
  else parseRuns e.id e.len e.off bytes
def runVals (c : Copy) : List RunVal := (directory c).flatMap fun e => (parseSection c e).1
def valKey (x : RunVal) : Nat := x.id * 512 + x.inst
/-- The working registers that a mould gives. -/
def mouldCfg (vals : List RunVal) : PMap Nat :=
  vals.foldl (fun m x => pset (attrReset x.id x.inst) m (valKey x) x.v) []
/-- The schedule table of a mould: the bytes that are not 0, by index. -/
def mouldSched (c : Copy) : PMap Byte :=
  match findSection c 0x0B with
  | some e => memOf 0 0 (memReads 0 c.mem (e.off + (e.len - scheduleBytes)) scheduleBytes)
  | none => []
/-- MC_VERSION and STATE_VERSION of section 0x0012. -/
def mouldMicrocode (c : Copy) : Option (Nat × Nat) :=
  match findSection c 0x12 with
  | some e => let w := headField c e.off 8; some (bits w 63 32, bits w 31 16)
  | none => none
def minAggProto (c : Copy) : Nat := headField c 0x18 1
def initialModeCode (c : Copy) : Nat := headField c 0x1A 1

/-! ## Rules 0x01 to 0x0A -/

def wholeRule (rule : Nat) : Option Broken := some { rule := rule, sec := 0, attr := 0, inst := 0 }
def rule01 (c : Copy) : Option Broken :=
  if headField c 0 4 = 0x4D0D0192 ∧ headField c 4 2 = 1 ∧ headField c 0x14 2 = 0x0192 then none else wholeRule 0x01
/-- Every byte below n has been written (R312). -/
def covered (ranges : List (Nat × Nat)) (n : Nat) : Bool :=
  match ranges with
  | [] => n = 0
  | (a, b) :: _ => n = 0 || (a = 0 && n ≤ b)
def rule02 (c : Copy) : Option Broken :=
  let n := copyLength c
  if n % 8 = 0 && n ≤ 1048576 && covered c.ranges n then none else wholeRule 0x02
def mandatory : List Nat := (List.range 16).map (· + 1)
def entryOk (c : Copy) (e : DirEntry) : Bool :=
  1 ≤ e.id && e.id ≤ 0x13 && e.format = 1 && e.off % 8 = 0 && e.len % 8 = 0 && 0x80 + 16 * sectionCount c ≤ e.off &&
    e.off + e.len ≤ digestAt c
def overlap (e f : DirEntry) : Bool := e.off < f.off + f.len && f.off < e.off + e.len
/-- The first entry that repeats an ID or overlaps an earlier section. -/
def clash : List DirEntry → List DirEntry → Option Nat
  | _, [] => none
  | before, e :: rest => if before.any fun f => f.id = e.id || overlap e f then some e.id else clash (e :: before) rest
def rule03 (c : Copy) : Option Broken :=
  let d := directory c
  let at' (sec : Nat) : Option Broken := some { rule := 0x03, sec := sec, attr := 0, inst := 0 }
  if sectionCount c = 0 || 32 < sectionCount c || copyLength c < 0x80 + 16 * sectionCount c + 32 + 32 * bnat (hasHmac c) then
    at' 0
  else match d.find? fun e => !entryOk c e with
    | some e => at' e.id
    | none => match clash [] d with
      | some k => at' k
      | none => match mandatory.find? fun k => !(d.any fun e => e.id = k) with
        | some k => at' k
        | none => if bitAt (copyFlags c) 1 = d.any (fun e => decide (e.id = 0x12)) then none else at' 0x12
/-- The bytes that DIGEST and HMAC cover (Table 10.1, R308). -/
def digested (c : Copy) : List Byte := memReads 0 c.mem 0 (digestAt c)
def rule04 (c : Copy) : Option Broken := if sha256 (digested c) = copyDigest c then none else wholeRule 0x04
def rule05 (s : State) (c : Copy) : Option Broken :=
  let need := s.md.require || (findSection c 0x13).isSome
  let ok := if hasHmac c then
      decide (s.md.keyState ≠ 0) && decide (hmac256 s.md.key (digested c) = memReads 0 c.mem (copyLength c - 32) 32)
    else !need
  if ok then none else wholeRule 0x05
def rule06 (c : Copy) : Option Broken :=
  if headField c 0x16 1 ≤ Config.revision ∧ Config.revision ≤ headField c 0x17 1 ∧ headField c 0x19 1 ≤ Config.devProto then
    none
  else wholeRule 0x06
/-- A value with a reserved bit set. -/
def valReserved (x : RunVal) : Bool := match attrNamed x.id with | some a => reservedSet a x.v | none => false
def broken (rule : Nat) (x : RunVal) : Broken := { rule := rule, sec := x.sec, attr := x.id, inst := x.inst }
def rule07 (c : Copy) : Option Broken :=
  let d := directory c
  if copyFlags c / 4 ≠ 0 || headField c 0x0E 2 ≠ 0 || headField c 0x1B 1 ≠ 0 || headField c 0x40 64 ≠ 0 then wholeRule 0x07
  else match d.find? fun e => e.rsv ≠ 0 with
    | some e => some { rule := 0x07, sec := e.id, attr := 0, inst := 0 }
    | none => d.findSome? fun e =>
        let (vals, f) := parseSection c e
        match vals.find? valReserved with
        | some x => some (broken 0x07 x)
        | none => f
/-- The value is of a mouldable attribute of its section, at an instance that the attribute has. -/
def valBelongs (x : RunVal) : Bool :=
  match attrFind x.id x.inst with
  | some a => mouldable a && sectionOf x.id = x.sec
  | none => false
/-- The first value that does not belong or that repeats an earlier one. -/
def firstStray : PMap Unit → List RunVal → Option RunVal
  | _, [] => none
  | seen, x :: rest =>
    if !valBelongs x || seen.any (fun e => decide (e.1 = valKey x)) then some x
    else firstStray (pins seen (valKey x) ()) rest
def attrInstances (a : Attr) : List Nat := a.insts.flatMap fun r => (List.range (r.2 + 1 - r.1)).map (· + r.1)
def mouldAttrs : List Attr := (List.range 14).flatMap fun b => (attrBlock b).filter mouldable
/-- A value that the mould's sections owe and do not give. -/
def firstMissing (c : Copy) (vals : List RunVal) : Option Broken :=
  mouldAttrs.findSome? fun a =>
    let sec := sectionOf a.id
    if (findSection c sec).isNone then none
    else
      let mine := vals.filter fun x => x.id = a.id
      match (attrInstances a).find? fun i => !(mine.any fun x => x.inst = i) with
      | some i => some { rule := 0x08, sec := sec, attr := a.id, inst := i }
      | none => none
def rule08 (c : Copy) (vals : List RunVal) : Option Broken :=
  match firstStray [] vals with
  | some x => some (broken 0x08 x)
  | none => firstMissing c vals
def rule09 (vals : List RunVal) : Option Broken :=
  (vals.find? fun x => badEncoding x.id x.inst x.v).map (broken 0x09)
def rule0A (vals : List RunVal) : Option Broken := (vals.find? fun x => outOfRange x.id x.v).map (broken 0x0A)

/-! ## Rules 0x10 to 0x1F, on the working registers g that the mould gives -/

def failAt (rule id inst : Nat) : Broken := { rule := rule, sec := sectionOf id, attr := id, inst := inst }
def firstAt (rule id n : Nat) (bad : Nat → Bool) : Option Broken :=
  ((List.range n).find? bad).map fun i => failAt rule id i
def rule10 (g : PMap Nat) : Option Broken :=
  firstAt 0x10 A_CH_CONFIG 192 fun c =>
    c % 2 = 0 && bitAt (cfgGet g A_CH_CONFIG c) 7 && bitAt (cfgGet g A_CH_CONFIG (c + 1)) 0
def rule11 (g : PMap Nat) : Option Broken :=
  match ((List.range 192).filter fun c => bitAt (cfgGet g A_WN_CONFIG c) 9)[16]? with
  | some c => some (failAt 0x11 A_WN_CONFIG c)
  | none => none
def rule12 (g : PMap Nat) : Option Broken :=
  let taps := fun (k : Nat) => bits (cfgGet g A_WN_FIR_SET k) 4 0
  (firstAt 0x12 A_WN_FIR_SET 16 fun k => taps k = 0 || 16 < taps k).or
    (firstAt 0x12 A_WN_FIR_COEF 256 fun i => taps (i / 16) ≤ i % 16 && cfgGet g A_WN_FIR_COEF i ≠ 0)
def rule13 (g : PMap Nat) : Option Broken :=
  if 2 ^ 38 ≤ cfgGet g A_TB_EPOCH 0 then some (failAt 0x13 A_TB_EPOCH 0)
  else if cfgGet g A_TB_SYNC_PRESET 0 % 1024 ≠ 0 then some (failAt 0x13 A_TB_SYNC_PRESET 0) else none
/-- The actions that Table 5.3 allows for an opcode. -/
def allowedActions (op : Nat) : List Nat :=
  match op with
  | 0 => [0] | 1 => [0, 1, 2, 3, 5] | 2 => [0, 4, 3, 5] | 3 => [0, 5] | 4 => [0, 5] | _ => [5]
/-- Rules 1 to 6 of R167 on entry i of the answer table. -/
def answerOk (known i e : Nat) : Bool :=
  let mode := i / 64
  let op := i % 8
  let ans := e / 32
  let act := e % 32
  if mode = 0 then e = 0xA0
  else if 6 ≤ mode then e = 0
  else if op = 0 then e = 0
  else if 5 ≤ op || !bitAt known op then e = 0xE5
  else if mode = 5 then e = 0xC0
  else
    (allowedActions op).contains act && (mode = 3 || mode = 4 || !([1, 2, 4].contains act)) &&
      (op ≠ 1 || ((ans = 1 || ans = 2) == (act = 1 || act = 2)))
def rule14 (g : PMap Nat) : Option Broken :=
  let known := cfgGet g A_TH_OPCODES_KNOWN 0
  (firstAt 0x14 A_TH_ANSWER_TABLE 512 fun i => !answerOk known i (cfgGet g A_TH_ANSWER_TABLE i)).or
    (if bitAt known 0 && bits known 7 5 = 0 then none else some (failAt 0x14 A_TH_OPCODES_KNOWN 0))
def rule15 (g : PMap Nat) : Option Broken :=
  firstAt 0x15 A_TH_TRIGGER_TABLE 64 fun t =>
    let e := cfgGet g A_TH_TRIGGER_TABLE t
    let lat := bits e 48 32
    bitAt e 63 && (lat < bits e 15 0 || bits (cfgGet g A_TH_MAX_LATENCY 0) 16 0 < lat + 63 + bits e 31 16)
def rule16 (g : PMap Nat) : Option Broken :=
  firstAt 0x16 A_GR_WM_PAIR 2 fun p =>
    let w := cfgGet g A_GR_WM_PAIR p
    bits w 45 24 ≤ bits w 21 0
def rule17 (g : PMap Nat) : Option Broken :=
  let ul := cfgGet g A_LK_UL_CONFIG
  let dl := cfgGet g A_LK_DL_CONFIG
  if !bitAt (ul 0) 0 then some (failAt 0x17 A_LK_UL_CONFIG 0)
  else (firstAt 0x17 A_LK_UL_CONFIG 4 fun u => bits (ul u) 5 4 < bits (ul u) 3 2).or
    (firstAt 0x17 A_LK_DL_CONFIG 2 fun d => bitAt (dl d) 0 && bits (dl d) 3 2 ≠ 1 && bits (dl d) 3 2 ≠ 2)
/-- Table 7.3. -/
def laneBudget (gen : Nat) : Nat := match gen with | 1 => 368 | 2 => 1770 | 3 => 4296 | _ => 0
/-- VALID entries of variant v that name uplane u (R229). -/
def entriesNaming (m : PMap Byte) (v u : Nat) : Nat :=
  (m.filter fun e => e.1 / 4096 + 1 = v && bitAt e.2.toNat 7 && bits e.2.toNat 6 5 = u).length
/-- Variant v breaks R232. -/
def badVariant (g : PMap Nat) (m : PMap Byte) (v : Nat) : Bool :=
  (List.range 4).any fun u =>
    let n := entriesNaming m v u
    let gen := if v = 1 then bits (cfgGet g A_LK_UL_CONFIG 0) 3 2 else bits (cfgGet g A_LK_UL_CONFIG u) 5 4
    n ≠ 0 && (!bitAt v u || laneBudget gen < 5 * n)
def rule18 (g : PMap Nat) (m : PMap Byte) : Option Broken :=
  ((List.range 16).find? fun v => v ≠ 0 && badVariant g m v).map fun v =>
    { rule := 0x18, sec := 0x0B, attr := A_MG_VARIANT_LOAD, inst := v }
/-- Dynamic: not applied while no planned uplane has completed negotiation. -/
def rule19 (s : State) (c : Copy) : Option Broken :=
  if ((List.range 4).any fun u => planned s u && (lane s u).negotiated) && aggProtoMin s < minAggProto c then wholeRule 0x19
  else none
def rule1A (g : PMap Nat) : Option Broken :=
  let ent := fun (k e : Nat) => cfgGet g A_MON_SCAN_LIST (32 * k + e)
  let valid := fun (k : Nat) => ((List.range 32).filter fun e => bitAt (ent k e) 7).map fun e => bits (ent k e) 4 0
  match (List.range 8).find? fun k => (valid k).isEmpty || (valid k).any (fun l => decide (26 < l)) with
  | some k => some (failAt 0x1A A_MON_SCAN_LIST (32 * k))
  | none => firstAt 0x1A A_MON_CH_CTRL 192 fun c =>
      bitAt (cfgGet g A_MON_CH_CTRL c) 0 && !(valid (c / 24)).contains (c % 24)
/-- A source whose target FENCE may name (R368): channel, stook, uplane or converter; and one that has any target. -/
def fenceSource (src : Nat) : Bool := [12, 15, 19, 24, 25, 26, 32].contains src
def targetSource (src : Nat) : Bool := fenceSource src || [29, 31, 33].contains src
/-- Rules 1 to 5 and 7 of R368 on a reaction word. -/
def reactionOk (src w : Nat) : Bool :=
  if reservedSource src then w = 0
  else
    bits w 7 6 = 0 && bnat (bitAt w 2) + bnat (bitAt w 3) + bnat (bitAt w 4) ≤ 1 && (!bitAt w 2 || fenceSource src) &&
      (!bitAt w 3 || targetSource src) && (severity src ≠ 3 || (bitAt w 0 && bitAt w 5)) &&
      (!(bitAt w 1 || bitAt w 2 || bitAt w 3) || 1 ≤ bits w 15 8)
/-- Rules 1 and 6 of R368 on a shadow list. -/
def shadowOk (src w : Nat) : Bool :=
  if reservedSource src then w = 0
  else (List.range 64).all fun b => !bitAt w b || (!reservedSource b && severity b ≠ 3 && b ≠ src)
def rule1B (g : PMap Nat) : Option Broken :=
  (firstAt 0x1B A_FLT_REACTION 64 fun i => !reactionOk i (cfgGet g A_FLT_REACTION i)).or
    (firstAt 0x1B A_FLT_SHADOW 64 fun i => !shadowOk i (cfgGet g A_FLT_SHADOW i))
/-- Dynamic: in a service mode, or for a transition into one. -/
def rule1C (service : Bool) (g : PMap Nat) : Option Broken :=
  if service then firstAt 0x1C A_FLT_REACTION 64 fun i => bitAt (cfgGet g A_FLT_REACTION i) 4 else none
def rule1D (c : Copy) : Option Broken :=
  if [2, 3, 4].contains (initialModeCode c) then none else wholeRule 0x1D
def compatChannels (g : PMap Nat) : List Nat :=
  (List.range (min 64 (bits (cfgGet g A_NL_CONFIG 0) 6 0))).map fun e => bits (cfgGet g A_NL_SEQ e) 5 0
/-- R426 for a mould with section 0x0011. -/
def rule1E (c : Copy) (g : PMap Nat) : Option Broken :=
  if (findSection c 0x11).isNone then none
  else
    let cc := fun (k : Nat) => cfgGet g A_CH_CONFIG k
    match (compatChannels g).find? fun k => !bitAt (cc k) 0 || !bitAt (cc k) 6 || bitAt (cc (k / 2 * 2)) 7 with
    | some k => some (failAt 0x1E A_CH_CONFIG k)
    | none => match (compatChannels g).find? fun k => bitAt (cfgGet g A_WN_CONFIG k) 9 with
      | some k => some (failAt 0x1E A_WN_CONFIG k)
      | none => if bitAt (cfgGet g A_LK_UL_CONFIG 3) 0 then some (failAt 0x1E A_LK_UL_CONFIG 3) else none
/-- The microcode in force: the owner's. -/
def microcode (s : State) : Nat × Nat :=
  let b := match s.barns.owner with | .a => s.barns.a | .b => s.barns.b
  (b.mc, b.stateVersion)
def rule1F (s : State) (c : Copy) : Option Broken :=
  let (ver, st) := microcode s
  match mouldMicrocode c with
  | none => if headField c 0x1C 4 ≤ ver then none else wholeRule 0x1F
  | some (v, t) =>
    if Config.mcLow ≤ v ∧ v ≤ Config.mcHigh ∧ t = st then none
    else some { rule := 0x1F, sec := 0x12, attr := 0, inst := 0 }

/-! ## The check (R315) -/

/-- Rules 0x10 to 0x1F. -/
def checkValues (s : State) (c : Copy) (g : PMap Nat) : Option Broken :=
  (rule10 g).or ((rule11 g).or ((rule12 g).or ((rule13 g).or ((rule14 g).or ((rule15 g).or ((rule16 g).or ((rule17 g).or
    ((rule18 g (mouldSched c)).or ((rule19 s c).or ((rule1A g).or ((rule1B g).or ((rule1C (serviceMode s.modes.cur) g).or
      ((rule1D c).or ((rule1E c g).or (rule1F s c)))))))))))))))
/-- The rules of Table 10.6 in code order; the first that fails. -/
def checkImage (s : State) (c : Copy) : Option Broken :=
  let vals := runVals c
  (rule01 c).or ((rule02 c).or ((rule03 c).or ((rule04 c).or ((rule05 s c).or ((rule06 c).or ((rule07 c).or
    ((rule08 c vals).or ((rule09 vals).or ((rule0A vals).or (checkValues s c (mouldCfg vals)))))))))))
/-- The dynamic rules, as at the couch beat and at a transition into a service mode. -/
def dynamicFail (s : State) (c : Copy) (g : PMap Nat) (service : Bool) : Option Broken :=
  (rule05 s c).or ((rule19 s c).or (rule1C service g))
/-- `MD_CHECK_RESULT` (Table 10.9). -/
def checkWord (f : Option Broken) : BitVec 48 :=
  match f with
  | none => 0
  | some f => BitVec.ofNat 48 (f.rule + f.sec % 65536 * 2 ^ 8 + f.attr % 65536 * 2 ^ 24 + f.inst % 256 * 2 ^ 40)

end Sys2Proof.Machine
end

