-- ==== Sys2Proof/Machine/Spi.lean ====
section
/-!
DEFINITION. The SPI port (R333 to R335, R435, R436): its status byte, its queues, and transactions that are no packets.
-/
namespace Sys2Proof.Machine

/-- A WRITE would be accepted now (R334). -/
def spiCanWrite (s : State) : Bool := decide (s.cmd.spiOpen < 8)
/-- The status byte of Table 11.5. -/
def spiStatusByte (s : State) : Byte :=
  BitVec.ofNat 8 (128 + bnat (decide (s.modes.cur = .held)) * 16 + bnat s.cmd.refused * 8 + bnat (spiCanWrite s) * 4 +
    bnat (!s.cmd.spiEv.isEmpty) * 2 + bnat (!s.cmd.spiQ.isEmpty))
/-- The device has clocked these bytes out on SPI_SDO. -/
def spiOut (s : State) (bs : List Byte) : State := { s with cmd := { s.cmd with sdo := bs } }
def spiError (s : State) : State := count s A_CMD_PORT_ERRORS 2 63 48 1
/-- A transaction whose first byte is not of Table 11.4 is ignored and counted (R333). -/
def spiUnknown (s : State) (len : Nat) : State := spiError (spiOut s (spiStatusByte s :: List.replicate (len - 1) 0))
/-- In the register personality, a transaction of `len` bytes with READ set that names no register of Table 16.2: an unused
address reads 0, and a length other than 24 bits has no effect and is counted (R436). -/
def nlOther (s : State) (len : Nat) : State :=
  let s := spiOut s (List.replicate len 0)
  if len = 3 then s else count s A_NL_SPI_ERRORS 0 15 0 1
/-- A transaction of the packet personality, of `len` bytes, or what it is in the register personality. -/
def spiTransaction (s : State) (len : Nat) (body : State → State) : Res :=
  atPads s (if !powered s then s else if s.nl.personality then nlOther s len else body s)

end Sys2Proof.Machine
end

