-- ==== Sys2Proof/Machine/Nl64.lean ====
section
/-!
DEFINITION. NL64 compatibility (chapter 16): the configuration, the sequenced scan, the frames on UL3 and the SPI register
personality.
-/
namespace Sys2Proof.Machine

/-! ## The configuration (R426 to R428) -/

def nlSeqLen (s : State) : Nat := bits (reg s A_NL_CONFIG 0) 6 0
def nlSeqCh (s : State) (p : Nat) : Nat := bits (reg s A_NL_SEQ p) 5 0
/-- The channel field of a channel, and the channel of a field (R432). -/
def nlField (c : Nat) : Nat := c ^^^ 0x20
def nlPair (s : State) (c : Nat) : NlPair := pget NlPair.dflt s.nl.pairs c
def setNlPair (s : State) (c : Nat) (p : NlPair) : State :=
  { s with nl := { s.nl with pairs := pset NlPair.dflt s.nl.pairs c p } }
/-- The mould in force carries section 0x0011. -/
def hasCompat (s : State) : Bool :=
  match s.md.active with
  | some c => (findSection c 0x11).isSome
  | none => false
/-- The configuration comes into force at this boundary (R427). -/
def nlStart (s : State) : State :=
  let v := reg s A_NL_CONFIG 0
  let s := { s with nl := { s.nl with
    active := true, run := bitAt v 7, autoInc := bitAt v 8, pos := 0, pointer := nlField (nlSeqCh s 0), scan := 0,
    lastEntry := [], pairs := [], due := [], pairing := none, words := [] } }
  setLane s 3 { lane s 3 with st := .off, gen := 1, idleSet := 1, line := [] }
/-- The configuration ends at this beat: UL3 enters electrical idle and OFF (R428). -/
def nlEnd (s : State) : State :=
  if !s.nl.active then s
  else
    let s := { s with nl := { s.nl with active := false, due := [], words := [] } }
    setLane s 3 { lane s 3 with st := .off, gen := 0, idleSet := 0 }

/-- LEGACY_ENTER (R349, R427). -/
def execLegacyEnter (r : Req) (s : State) : Res :=
  granger s r (.legacyEnter r) 0x7E fun s =>
    if !hasCompat s then replyDenied s r 0x7E
    else opening s r 0x7E 0 fun s => { s with nl := { s.nl with enter := some r } }
/-- LEGACY_LEAVE (R349, R427). -/
def execLegacyLeave (r : Req) (s : State) : Res :=
  granger s r (.legacyLeave r) 0x7F fun s =>
    if !s.nl.active then replyOk s r 0x7F []
    else opening s r 0x7F 0 fun s => { s with nl := { s.nl with leave := some r } }

/-! ## The scan (R429 to R431) -/

/-- The two halves of a result pair, UNPAIRED clear (Table 16.3). -/
def nlLow (p : NlPair) : Nat := bnat p.overrun * 2 ^ 15 + bnat p.sat * 2 ^ 14 + bnat p.stale * 2 ^ 13 + p.code
def nlHigh (c : Nat) (p : NlPair) : Nat := nlField c * 2 ^ 8 + p.scan % 256
/-- The 12-bit code of a corrected value (R430). -/
def nlCode (y : Int) : Nat := (clampInt 0 4095 ((y + 131072) / 64)).toNat
/-- The result of a slot on channel c: its newest ring sample, or, with none to take, the kept value (R430, R431). -/
def nlSample (s : State) (c : Nat) : Option (NlPair × State) :=
  let x := chan s c
  match x.ring with
  | [] => none
  | code :: _ =>
    if x.held || fencedChannel s c then none
    else
      let y := correctCode s c c (bnat (Config.scanCell s.free)) code.toInt
      some ({ code := nlCode y, sat := code = BitVec.ofInt 14 (-8192) || code = BitVec.ofInt 14 8191, stale := false,
              scan := s.nl.scan, overrun := false }, { s with free := s.free + 1 })
/-- NL64_SCAN_SLOT (R429): slot j begins at beat (j * 1 024) div 25 of its deckle. -/
def execNl64ScanSlot (slot : Fin 25) (s : State) : Res :=
  .next (if s.nl.active && s.nl.run && decide (s.tb.beat.toNat % 1024 = slot.val * 1024 / 25) && fresh s 6 slot.val then
    let s := noteDone s 6 slot.val
    let p := s.nl.pos
    let c := nlSeqCh s p
    let s := match nlSample s c with
      | some (r, s) => { s with nl := { s.nl with
          due := s.nl.due ++ [(slot.val * 64 + c, s.tb.up + 2, r)], lastEntry := pins s.nl.lastEntry c p } }
      | none => { s with nl := { s.nl with
          due := s.nl.due ++ [(slot.val * 64 + c, s.tb.up + 2, { nlPair s c with stale := true, overrun := false })] } }
    if nlSeqLen s ≤ p + 1 then { s with nl := { s.nl with pos := 0, scan := (s.nl.scan + 1) % 2 ^ 16 } }
    else { s with nl := { s.nl with pos := p + 1 } }
  else s)
/-- One result takes effect in its pair and in its deckle's frame (R430, R437). -/
def nlResult (s : State) (e : Nat × Nat × NlPair) : State :=
  let c := e.1 % 64
  let r := e.2.2
  let open' := decide (s.nl.pairing = some c)
  let s := setNlPair s c { r with overrun := (nlPair s c).overrun || open' }
  let w := BitVec.ofNat 32 (nlHigh c r * 2 ^ 16 + nlLow { r with overrun := false })
  { s with nl := { s.nl with words := s.nl.words ++ [(e.1 / 64, w)] } }
/-- Results whose beat has come. -/
def nlResults (s : State) (all : Bool) : State :=
  let ready := s.nl.due.filter fun e => all || decide (e.2.1 ≤ s.tb.up)
  let rest := s.nl.due.filter fun e => !(all || decide (e.2.1 ≤ s.tb.up))
  ready.foldl nlResult { s with nl := { s.nl with due := rest } }
/-- NL64_RESULT_UPDATE (R430): 2 beats after the slot edge. -/
def execNl64ResultUpdate (s : State) : Res := .next (nlResults s false)

/-! ## Boundaries (R427, R428, R433, R434) -/

/-- The frame of the deckle just ended (Table 16.1). -/
def nlFrameBytes (s : State) (ended : Deckle) : List Byte :=
  frame (toBytes 2 (256 + s.tb.quality * 32 + min 25 s.nl.words.length) ++ toBytes 2 s.nl.fseq.toNat ++
    toBytes 6 ended.toNat ++ (s.nl.words.take 25).flatMap fun w => toBytes 4 w.2.toNat)
/-- UL3 sends the frame of the deckle just ended, or loses it in a take-over. -/
def nlFrame (s : State) (ended : Deckle) : State :=
  if !s.nl.active then s
  else
    let s := nlResults s true
    let bytes := nlFrameBytes s ended
    let s := { s with nl := { s.nl with words := [], fseq := s.nl.fseq + 1 } }
    if s.barns.takeover.isSome then count s A_NL_FRAMES 0 63 32 1
    else count (setLane s 3 { lane s 3 with line := bytes }) A_NL_FRAMES 0 31 0 1
/-- The configuration that a LEGACY command has asked for begins or ends at this boundary. -/
def nlDeckle (s : State) (ended : Deckle) : State :=
  let s := nlFrame s ended
  let s := match s.nl.enter with
    | some r => closeCmd (nlStart { s with nl := { s.nl with enter := none } }) r 0x7E 0 0 []
    | none => s
  match s.nl.leave with
  | some r => closeCmd (nlEnd { s with nl := { s.nl with leave := none } }) r 0x7F 0 0 []
  | none => s
/-- A couch at this beat, from the sections of the mould before (R427): without section 0x0011 the configuration ends, and UL3
negotiates if the new mould plans it (Table 10.7); a different section starts the sequence anew. -/
def nlCouch (s : State) (same : Bool) : State :=
  if !s.nl.active then s
  else if !hasCompat s then
    let s := nlEnd s
    if planned s 3 then negotiate s 3 else s
  else if same then s else { s with nl := { s.nl with pos := 0 } }

/-! ## The register personality (R435 to R437) -/

/-- REGISTER_PERSONALITY_SWITCH (R435): at a rise of SPI_CS_N. -/
def execRegisterPersonalitySwitch (s : State) : Res :=
  atPads s (if !powered s then s
    else if s.nl.active && bitAt s.pwr.straps.toNat 2 && s.cmd.spiQ.isEmpty then
      { s with nl := { s.nl with personality := true } }
    else if !s.nl.active then { s with nl := { s.nl with personality := false } } else s)
/-- A 24-bit transaction: the register personality's, or one that the packet personality does not know. -/
def nlTransaction (s : State) (body : State → State) : Res :=
  atPads s (if !powered s then s else if s.nl.personality then body s else spiUnknown s 3)
def nlReadOut (s : State) (v : Nat) : State :=
  spiOut { s with nl := { s.nl with sdo := BitVec.ofNat 16 v } } (0 :: toBytes 2 v)
/-- The channel that the pointer names. -/
def nlPointed (s : State) : Nat := nlField s.nl.pointer
/-- A read of RESULT_LO (R437). -/
def nlReadLow (s : State) : State :=
  let c := nlPointed s
  let p := nlPair s c
  let s := if p.overrun then count s A_NL_SPI_ERRORS 0 31 16 1 else s
  let s := nlReadOut s (nlLow p)
  let s := setNlPair s c { p with overrun := false }
  { s with nl := { s.nl with pairing := some c, shadow := BitVec.ofNat 16 (nlHigh c p) } }
/-- RESULT_LO_READ (R437). -/
def execResultLoRead (s : State) : Res := nlTransaction s nlReadLow
/-- The pointer takes the entry after the one that last sampled the pointed channel (R437). -/
def nlAdvance (s : State) : State :=
  match s.nl.lastEntry.find? fun e => e.1 = nlPointed s with
  | some e => { s with nl := { s.nl with pointer := nlField (nlSeqCh s (if nlSeqLen s ≤ e.2 + 1 then 0 else e.2 + 1)) } }
  | none => s
/-- A read of RESULT_HI (R437). -/
def nlReadHigh (s : State) : State :=
  match s.nl.pairing with
  | some _ =>
    let s := nlReadOut s s.nl.shadow.toNat
    let s := { s with nl := { s.nl with pairing := none } }
    if s.nl.autoInc then nlAdvance s else s
  | none =>
    let c := nlPointed s
    nlReadOut s (2 ^ 15 + nlHigh c (nlPair s c))
/-- RESULT_HI_READ (R437). -/
def execResultHiRead (s : State) : Res := nlTransaction s nlReadHigh
/-- The registers of Table 16.2 that a read only shows; an unused address reads 0. -/
def nlRegister (s : State) (addr : Nat) : Nat :=
  match addr with
  | 0 => 0x0640
  | 1 => bnat s.nl.run + bnat s.nl.autoInc * 2
  | 2 => bnat (s.nl.active && s.nl.run) + bnat s.nl.pairing.isSome * 2 + nlField (nlSeqCh s s.nl.pos) * 2 ^ 8
  | 3 => s.nl.pointer
  | 6 => nlSeqLen s
  | 7 => s.nl.scan
  | _ => 0
/-- A 24-bit transaction with READ set (R436). -/
def nlRead (s : State) (addr : Nat) : State :=
  if addr = 4 then nlReadLow s else if addr = 5 then nlReadHigh s else nlReadOut s (nlRegister s addr)
def nlWriteOut (s : State) : State := spiOut s [0, 0, 0]
/-- NL_POINTER takes a channel field. -/
def nlPoint (s : State) (v : Nat) : State :=
  nlWriteOut { s with nl := { s.nl with pointer := v % 64, pairing := none } }
/-- NL_POINTER_WRITE (R437). -/
def execNlPointerWrite (v : BitVec 16) (s : State) : Res := nlTransaction s fun s => nlPoint s v.toNat
/-- NL_REGISTER_WRITE (R436): NL_CTRL and NL_POINTER are writable. -/
def execNlRegisterWrite (addr : BitVec 7) (v : BitVec 16) (s : State) : Res :=
  nlTransaction s fun s =>
    if addr = 1 then nlWriteOut { s with nl := { s.nl with run := v.getLsbD 0, autoInc := v.getLsbD 1 } }
    else if addr = 3 then nlPoint s v.toNat
    else count (nlWriteOut s) A_NL_SPI_ERRORS 0 15 0 1

/-- `NL_STATE` and `NL_RESULT` (Table 16.5). -/
def nlState (s : State) : Nat :=
  bnat s.nl.active + bnat s.nl.personality * 2 + bnat s.nl.run * 4 + bnat s.nl.autoInc * 8 + s.nl.pos * 16 +
    s.nl.pointer * 2 ^ 10 + s.nl.scan * 2 ^ 16
def nlResultValue (s : State) (c : Nat) : Nat :=
  nlHigh c (nlPair s c) * 2 ^ 16 + nlLow { nlPair s c with overrun := false }

end Sys2Proof.Machine
end

