-- ==== Sys2Proof/Machine/Steps.lean ====
section
/-!
DEFINITION. A step of the time base (R95 to R98): its record, its epoch sheaf and the scheduled actions that it cancels.
-/
namespace Sys2Proof.Machine

/-- No step lies within 32 768 beats of the third step before it (R98). -/
def spacingOk (s : State) (b : Nat) : Bool :=
  match s.tb.steps[2]? with
  | some e => decide (e.2 + 32768 ≤ b)
  | none => true
/-- A scheduled deckle that the step leaves more than 2^20 deckles ahead (R96). -/
def farAhead (s : State) (d : Deckle) : Bool := deckleAhead (deckle s) d && decide (2 ^ 20 < (d - deckle s).toNat)
/-- The requested transition whose named deckle is cancelled is replied ABORTED (R33). -/
def cancelFarRequest (s : State) : State :=
  match s.modes.pend with
  | some p =>
    match p.at? with
    | some d =>
      if farAhead s d then closeCmd { s with modes := { s.modes with pend := none } } p.req 0x03 0x0C 0 [] else s
    | none => s
  | none => s
/-- The step that has moved the count by `disp` at this beat edge: counted, its displacement kept, its epoch sheaf, and the
actions of R96. -/
def stepRecord (s : State) (disp : Beat) : State :=
  let s := { s with tb := { s.tb with
    steps := ((disp, s.tb.up) :: s.tb.steps).take 3, stepgen := (s.tb.stepgen + 1) % 4 } }
  let s := epochCause (count s A_TB_STEPS 0 15 0 1) 3
  cancelCouch (cancelFarRequest s) fun c => decide (c.form = 1) && c.reached.isNone && farAhead s c.d

/-- A new epoch comes into force as a step at this deckle boundary, or at the first at which a step may be taken (R83, R98). -/
def setEpoch (s : State) (e : Nat) : State :=
  if e = s.tb.epoch then { s with tb := { s.tb with epochNext := none } }
  else if spacingOk s s.tb.up && atBoundary s then
    stepRecord { s with tb := { s.tb with epoch := e, epochNext := none } } 0
  else { s with tb := { s.tb with epochNext := some e } }

end Sys2Proof.Machine
end

