-- ==== Sys2Proof/Machine/Mould.lean ====
section
/-!
DEFINITION. Moulds and couching (chapter 10): staging, patches, checks, the couch beat and the microcode upgrade, the
installation key.
-/
namespace Sys2Proof.Machine

/-! ## Attributes (R326) -/

def stagingCode : Staging → Nat
  | .empty => 0 | .loading => 1 | .staged => 2 | .checked => 3 | .failed => 4 | .pending => 5
/-- `MD_ACTIVE`. -/
def mdActive (s : State) : Nat :=
  match s.md.active with
  | none => 0
  | some c => headField c 0x10 4 + minAggProto c * 2 ^ 32 + initialModeCode c % 8 * 2 ^ 40 + bnat s.md.modified * 2 ^ 43 +
      bnat (hasHmac c) * 2 ^ 44
/-- `MD_DIGEST`: instances 0 to 3 of the active copy, 4 to 7 of the shadow. -/
def mdDigest (s : State) (i : Nat) : Nat :=
  let of' (c : Copy) : Nat := memNat 0 c.mem (digestAt c + 8 * (i % 4)) 8
  if i < 4 then (match s.md.active with | some c => of' c | none => 0)
  else if s.md.stage = .empty ∨ s.md.stage = .loading then 0 else of' s.md.shadow
/-- 1 024-byte blocks of the shadow copy written whole, below LENGTH once it is known (R312). -/
def blocksStaged (c : Copy) : Nat :=
  let top := if c.ranges.any fun r => r.1 ≤ 8 && 12 ≤ r.2 then min 1048576 (copyLength c) else 1048576
  ((List.range ((top + 1023) / 1024)).filter fun b =>
    c.ranges.any fun r => r.1 ≤ 1024 * b && min top (1024 * b + 1024) ≤ r.2).length
/-- `MD_STAGE`. -/
def mdStage (s : State) : Nat :=
  stagingCode s.md.stage + bnat s.md.prevMould * 16 + blocksStaged s.md.shadow * 2 ^ 16
/-- `MD_COUCH_TIME`. -/
def mdCouchTime (s : State) : Nat :=
  match s.md.couch with
  | some c => if c.form = 2 then c.secs * 2 ^ 32 + c.ns else 0
  | none => 0
/-- `MD_MICROCODE` of a Barn. -/
def mdMicrocode (s : State) (b : Nat) : Nat :=
  let x := if b = 0 then s.barns.a else s.barns.b
  x.mc + x.stateVersion * 2 ^ 32
/-- `MD_KEY_STATE`. -/
def mdKeyState (s : State) : Nat := s.md.keyState + bnat s.md.require * 4
/-- MOULD_INFO (R326). -/
def execMouldInfo (r : Req) (s : State) : Res :=
  granger s r (.mouldInfo r) 0x25 fun s =>
    replyOk s r 0x25 (valueWords 2 (mdActive s) ++ (List.range 4).flatMap (fun i => valueWords 2 (mdDigest s i)) ++
      valueWords 1 (mdStage s) ++ valueWords 2 (mdCouchState s))

/-! ## Staging (R311 to R314) -/

def emptyCopy : Copy := { mem := [], ranges := [] }
def shadowEmpty (s : State) : State :=
  { s with md := { s.md with shadow := emptyCopy, stage := .empty, prevMould := false } }
/-- A range of written bytes joins the others. -/
def addRange : Nat → Nat → List (Nat × Nat) → List (Nat × Nat)
  | a, b, [] => [(a, b)]
  | a, b, (x, y) :: rest =>
    if b < x then (a, b) :: (x, y) :: rest
    else if y < a then (x, y) :: addRange a b rest
    else addRange (min a x) (max b y) rest
/-- Bytes put into a copy. -/
def copyPut (c : Copy) (off : Nat) (bs : List Byte) : Copy :=
  { mem := c.mem.filter (fun e => e.1 < off) ++ memOf 0 off bs ++ c.mem.filter (fun e => off + bs.length ≤ e.1)
    ranges := if bs.isEmpty then c.ranges else addRange off (off + bs.length) c.ranges }
/-- Every block below the header's LENGTH has been written (R312). -/
def copyComplete (c : Copy) : Bool :=
  c.ranges.any (fun r => r.1 ≤ 8 && 12 ≤ r.2) && covered c.ranges (copyLength c)
/-- Step 5 of START-UP waits for the host, and this port is not its port (R416, Table 15.3). -/
def bootPortWrong (s : State) (p : Port) : Bool :=
  let src := bits s.pwr.straps.toNat 1 0
  let mine : Bool := match src with
    | 1 => decide (p = .spi)
    | 2 => decide (p ≠ .spi)
    | 3 => decide (s.modes.bootPort = some p)
    | _ => true
  decide (s.modes.cur = .startUp) && decide (s.modes.suStep = 5) && !s.modes.suHalted && !mine
/-- What holds a staging command back (R312, R337, R416); `first`: the command fills an empty shadow copy. -/
def stagingHeld (s : State) (r : Req) (op : Nat) (first : Bool) (k : State → State) : State :=
  if bootPortWrong s r.port then replyDenied s r op
  else if s.md.checking.isSome then replyBusy s r op 0x22
  else if s.md.stage = .pending then replyBusy s r op 0x23
  else if !first && s.md.stage = .empty then reply s r op 0x0A 0 []
  else k s
/-- The staged image has changed. -/
def restaged (s : State) (c : Copy) (st : Staging) : State :=
  { s with md := { s.md with shadow := c, stage := st, prevMould := false }
           modes := { s.modes with stagedAt := s.tb.up } }
/-- Step 5 of a host boot checks the image itself once it is STAGED (R416). -/
def autoCheck (s : State) : State :=
  if s.modes.cur = .startUp && s.modes.suStep = 5 && !s.modes.suHalted && s.md.stage = .staged && s.md.checking.isNone then
    { s with md := { s.md with checking := some none } }
  else s
/-- STAGE_MOULD with and without FIRST (R312). -/
def stageBytes (s : State) (r : Req) (first : Bool) (offset : Nat) (bytes : List Byte) : State :=
  let n := bytes.length
  if offset % 8 ≠ 0 || 1048576 < offset + n then replyBad s r 0x20 0
  else if n % 8 ≠ 0 || n = 0 || 1024 < n then replyBad s r 0x20 1
  else stagingHeld s r 0x20 first fun s =>
    let c := copyPut (if first then emptyCopy else s.md.shadow) offset bytes
    autoCheck (replyOk (restaged s c (if copyComplete c then .staged else .loading)) r 0x20 [])
/-- STAGE_MOULD. -/
def execStageMould (r : Req) (offset : BitVec 20) (bytes : List Byte) (s : State) : Res :=
  granger s r (.stageMould r offset bytes) 0x20 fun s => stageBytes s r false offset.toNat bytes
/-- STAGE_MOULD with FIRST. -/
def execStageMouldFirst (r : Req) (offset : BitVec 20) (bytes : List Byte) (s : State) : Res :=
  granger s r (.stageMouldFirst r offset bytes) 0x20 fun s => stageBytes s r true offset.toNat bytes
/-- The word of a packet in which the first record beyond byte 1 048 575 begins (R345); `at'` counts bytes from W0. -/
def badEdit : Nat → List Edit → Option Nat
  | _, [] => none
  | at', e :: rest =>
    if 1048576 < e.offset + e.bytes.length then some (at' / 4) else badEdit (at' + 6 + e.bytes.length) rest
/-- The records applied in order (R313). -/
def applyEdits (c : Copy) (es : List Edit) : Copy := es.foldl (fun c e => copyPut c e.offset e.bytes) c
/-- STAGE_PATCH (R313, R345). -/
def execStagePatch (r : Req) (edits : List Edit) (s : State) : Res :=
  granger s r (.stagePatch r edits) 0x21 fun s =>
    match badEdit 4 edits with
    | some w => replyBad s r 0x21 w
    | none => stagingHeld s r 0x21 false fun s =>
        autoCheck (replyOk (restaged s (applyEdits s.md.shadow edits) .staged) r 0x21 [])
/-- STAGE_PATCH with FIRST (R313): the base DIGEST must be the active copy's own. -/
def execStagePatchFirst (r : Req) (digest : List Byte) (edits : List Edit) (s : State) : Res :=
  granger s r (.stagePatchFirst r digest edits) 0x21 fun s =>
    match badEdit 36 edits with
    | some w => replyBad s r 0x21 w
    | none => stagingHeld s r 0x21 true fun s =>
        match s.md.active with
        | some c =>
          if copyDigest c = digest then
            autoCheck (replyOk (restaged s (applyEdits c edits) .staged) r 0x21 [])
          else reply s r 0x21 0x09 0x25 []
        | none => reply s r 0x21 0x09 0x25 []
/-- DISCARD_STAGED (R314, R321, R337). -/
def execDiscardStaged (r : Req) (s : State) : Res :=
  granger s r (.discardStaged r) 0x24 fun s =>
    if s.md.checking.isSome then replyBusy s r 0x24 0x22
    else
      let s := match s.md.couch with
        | some c => endSuspension (failCouch s c 0x0C 0 .empty false)
        | none => s
      replyOk (shadowEmpty s) r 0x24 []

/-! ## Checking (R315) -/

/-- CHECK_STAGED. In step 5 of a host boot it shares the check that runs already (R416). -/
def execCheckStaged (r : Req) (s : State) : Res :=
  granger s r (.checkStaged r) 0x22 fun s =>
    match s.md.checking with
    | some (some _) => replyBusy s r 0x22 0x22
    | some none => opening s r 0x22 0 fun s => { s with md := { s.md with checking := some (some r) } }
    | none =>
      match s.md.stage with
      | .pending => replyBusy s r 0x22 0x23
      | .empty => reply s r 0x22 0x0A 0 []
      | .loading => reply s r 0x22 0x0A 1 []
      | _ => opening s r 0x22 0 fun s => { s with md := { s.md with checking := some (some r) } }
/-- MOULD_CHECK_COMPLETE (R315). -/
def execMouldCheckComplete (s : State) : Res :=
  .next (match s.md.checking with
    | none => s
    | some q =>
      let f := checkImage s s.md.shadow
      let s := { s with md := { s.md with
        checking := none, check := checkWord f, stage := if f.isNone then .checked else .failed } }
      match q with
      | none => s
      | some r =>
        match f with
        | none => closeCmd s r 0x22 0 0 []
        | some b => closeCmd s r 0x22 0x09 b.rule (valueWords 2 s.md.check.toNat))
/-- A check in progress ends without a result. -/
def dropCheck (s : State) : State := { s with md := { s.md with checking := none } }

/-! ## COUCH (R317, R318, R323) -/

/-- The staged mould changes the microcode in force: an upgrade couch. -/
def isUpgrade (s : State) : Bool :=
  decide (s.md.stage = .checked) && (match mouldMicrocode s.md.shadow with
    | some m => decide (m.1 ≠ (microcode s).1)
    | none => false)
/-- What refuses a COUCH, else the couch is pending. -/
def couchHeld (s : State) (r : Req) (k : State → State) : State :=
  if s.md.checking.isSome then replyBusy s r 0x23 0x22
  else match s.md.stage with
    | .empty => reply s r 0x23 0x0A 0 []
    | .loading => reply s r 0x23 0x0A 1 []
    | .staged => replyDenied s r 0x23
    | .failed => reply s r 0x23 0x09 (s.md.check.toNat % 256) []
    | .pending => replyBusy s r 0x23 0x23
    | .checked => k s
def setCouch (s : State) (c : Couch) : State := { s with md := { s.md with couch := some c, stage := .pending } }
/-- Deckle boundaries to the first one `beats` or more after this beat. -/
def boundariesAfter (s : State) (beats : Nat) : Nat := max 1 ((s.tb.beat.toNat % 1024 + beats + 1023) / 1024)
/-- The deckles by which the couch's deckle lies ahead at least: 41 (R317), or 200 whole ones for an upgrade (R323). -/
def couchLead (s : State) : Nat := if isUpgrade s then 200 + bnat (!atBoundary s) else 41
/-- The same in deckles' length from acceptance, for form 2. -/
def timeLead (s : State) : Nat := if isUpgrade s then 200 else 41
/-- COUCH form 0: at the first boundary after preload, or 200 deckles after acceptance. -/
def execCouchImmediate (r : Req) (s : State) : Res :=
  granger s r (.couchImmediate r) 0x23 fun s =>
    couchHeld s r fun s => opening s r 0x23 0 fun s =>
      let up := isUpgrade s
      let beats := if up then 200 * 1024 else (Config.preloadBeats s.free).val
      setCouch { s with free := if up then s.free else s.free + 1 }
        { req := some r, form := 0, d := 0, secs := 0, ns := 0, due := s.tb.dk + boundariesAfter s beats, upgrade := up,
          phase := 0, reached := none }
/-- COUCH form 1. -/
def execCouchAtDeckle (r : Req) (d : Deckle) (s : State) : Res :=
  granger s r (.couchAtDeckle r d) 0x23 fun s =>
    if !(deckleAhead (deckle s) d && decide (couchLead s ≤ (d - deckle s).toNat)) then replyBad s r 0x23 1
    else couchHeld s r fun s =>
      reply (setCouch s { req := some r, form := 1, d := d, secs := 0, ns := 0, due := 0, upgrade := isUpgrade s,
                          phase := 0, reached := none }) r 0x23 2 0 []
/-- T lies at least n beats after the beat in force. -/
def timeAhead (s : State) (secs ns n : Nat) : Bool :=
  decide (((s.tb.beat.toNat + n : Nat) : Int) * 3125 ≤ ((secs : Int) - s.tb.epoch) * 40960000 * 3125 + ns * 128)
/-- COUCH form 2. -/
def execCouchAtPtpTime (r : Req) (secs : BitVec 48) (ns : BitVec 32) (s : State) : Res :=
  granger s r (.couchAtPtpTime r secs ns) 0x23 fun s =>
    if 999999999 < ns.toNat then replyBad s r 0x23 3
    else if !timeAhead s secs.toNat ns.toNat (timeLead s * 1024) then replyBad s r 0x23 1
    else couchHeld s r fun s =>
      if s.tb.quality ≤ 1 then replyDenied s r 0x23
      else reply (setCouch s { req := some r, form := 2, d := 0, secs := secs.toNat, ns := ns.toNat, due := 0,
                               upgrade := isUpgrade s, phase := 0, reached := none }) r 0x23 2 0 []

/-! ## The couch beat (R319, R320) -/

/-- Registers that no mould sets: blocks 0x9, 0xE and 0xF. -/
def unmouldedKey (k : Nat) : Bool := decide (0xE000 * 512 ≤ k) || decide (k / (4096 * 512) = 9)
/-- The working registers after a couch of these values. -/
def couchedCfg (s : State) (g : PMap Nat) : PMap Nat :=
  g.filter (fun e => !unmouldedKey e.1) ++ s.cfg.filter (fun e => unmouldedKey e.1)
/-- A register differs between two sets of working registers. -/
def changed (old new : PMap Nat) (id inst : Nat) : Bool := decide (cfgGet old id inst ≠ cfgGet new id inst)
/-- The pair of channel c fuses under these registers (R51). -/
def pairFuses (m : PMap Nat) (c : Nat) : Bool :=
  bitAt (cfgGet m A_CH_CONFIG (c - c % 2)) 7 && !bitAt (cfgGet m A_CH_CONFIG (c - c % 2 + 1)) 0
/-- The couch takes a channel from its run (R280): disabled, or another gain, fusing or acquisition style. -/
def runDisturbed (old new : PMap Nat) (c : Nat) : Bool :=
  let a := cfgGet old A_CH_CONFIG c
  let b := cfgGet new A_CH_CONFIG c
  (bitAt a 0 && !bitAt b 0) || bits a 3 1 ≠ bits b 3 1 || bitAt a 6 ≠ bitAt b 6 || pairFuses old c ≠ pairFuses new c
/-- The lane plan of an uplane differs (Table 10.7). -/
def planChanged (old new : PMap Nat) (u : Nat) : Bool :=
  let a := cfgGet old A_LK_UL_CONFIG u
  let b := cfgGet new A_LK_UL_CONFIG u
  bitAt a 0 ≠ bitAt b 0 || bits a 5 2 ≠ bits b 5 2 || bits a 11 8 ≠ bits b 11 8
/-- The watermark pairs of this edge are evaluated anew against the new marks, and the answer table and the pins follow them
(R207, R209). -/
def newMarks (s : State) : State :=
  let p := wmAgain s.gran.wm0 (lowMark s 0) (highMark s 0)
  { s with
    gran := { s.gran with wm0 := p, wm1 := wmAgain s.gran.wm1 (lowMark s 1) (highMark s 1)
                          flowMap := reg s A_GR_FLOW_MAP 0 }
    thr := { s.thr with latched := p.st } }
/-- Every block takes the new values, from those before (Table 10.7). -/
def blocksTake (s : State) (old : PMap Nat) : State :=
  let s := forNat 192 (fun c s => refreshChannel s c) s
  let s := calDrop s fun u => decide (u < 192) && runDisturbed old s.cfg u
  let s := forNat 192 (fun c s =>
    if bitAt (cfgGet old A_WN_CONFIG c) 9 && !bitAt (reg s A_WN_CONFIG c) 9 then closeGap s c else s) s
  let s := newMarks (monCouch (refreshTiming s))
  forNat 4 (fun u s => if planChanged old s.cfg u then replanLane s u else s) s
/-- The same section 0x0011 in two copies. -/
def sameCompat (a b : Option Copy) : Bool :=
  match a, b with
  | some a, some b =>
    match findSection a 0x11, findSection b 0x11 with
    | some x, some y => decide (sectionBytes a x = sectionBytes b y)
    | _, _ => false
  | _, _ => false
/-- The two copies exchange roles (R319), and section 0x0013 writes its key (R310). -/
def swapCopies (s : State) : State :=
  let new := s.md.shadow
  let s := match findSection new 0x13 with
    | some e => { s with md := { s.md with key := (sectionBytes new e).take 32 } }
    | none => s
  let (shadow, st, prev) : Copy × Staging × Bool := match s.md.active with
    | none => (emptyCopy, .empty, false)
    | some a => (a, if s.md.modified then .staged else .checked, true)
  { s with md := { s.md with active := some new, modified := false, shadow := shadow, stage := st, prevMould := prev } }
/-- The CONTROL sheaf of kind COUCH (R153, R319). -/
def controlCouch (s : State) : State := pushSheaf s (oneSlot 9 0 14 s.tb.beat (2 * 2 ^ 56 + activeDigest6 s))
/-- The new mould comes into force at this beat. -/
def takeMould (s : State) : State :=
  let old := s.cfg
  let oldCopy := s.md.active
  let g := mouldCfg (runVals s.md.shadow)
  let s := swapCopies { s with cfg := couchedCfg s g, cfgPrev := old, couchUp := s.tb.up
                               mg := { s.mg with sched := mouldSched s.md.shadow }
                               modes := { s.modes with firstCouch := false } }
  let s := setEpoch (controlCouch s) (reg s A_TB_EPOCH 0)
  variantAtBoundary (nlCouch (blocksTake s old) (sameCompat oldCopy s.md.active))
/-- At the couch beat of an upgrade the standby takes the Hasp, and the former owner loads the new microcode (R323). -/
def upgradeHasp (s : State) : State :=
  match s.md.active with
  | none => s
  | some c =>
    match mouldMicrocode c with
    | none => s
    | some (v, t) =>
      let old := s.barns.owner
      let s := changeOwner s 2 .detached
      setBarn s old { barn s old with mc := v, stateVersion := t }
/-- The pending couch at its beat: the dynamic rules first (R319). -/
def applyCouch (s : State) (c : Couch) (late : Bool) : State :=
  match dynamicFail s s.md.shadow (mouldCfg (runVals s.md.shadow)) (serviceMode s.modes.cur || s.modes.cur = .recovery) with
  | some f =>
    let s := failCouch { s with md := { s.md with check := checkWord (some f) } } c 0x09 f.rule .checked late
    if c.upgrade then reloadStandby (endSuspension s) else s
  | none =>
    let s := takeMould (endCouch s c 0 late)
    let s := count s A_MD_COUCH_COUNT 0 15 0 1
    couchMessage (if c.upgrade then upgradeHasp s else s) c 0 0
/-- An upgrade couch whose steps 1 to 3 have not all passed fails at its beat; any other is applied. -/
def settleCouch (s : State) (c : Couch) (late : Bool) : State :=
  if c.upgrade && decide (c.phase < 3) then failUpgrade s else applyCouch s c late
/-- COUCH_BEAT (R319). In RECOVERY the couch waits for the return (R321). -/
def execCouchBeat (s : State) : Res :=
  .next (match s.md.couch with
    | some c =>
      if atBoundary s && c.reached.isSome && s.modes.cur ≠ .recovery && s.modes.cur ≠ .held then
        makeSwitch (settleCouch s c false)
      else s
    | none => s)

/-! ## Upgrade (R323, R324) -/

/-- The next of steps 1 to 3 has passed. -/
def passPhase (s : State) (c : Couch) : State :=
  { s with md := { s.md with couch := some { c with phase := c.phase + 1 } } }
/-- Step 1: the standby is detached, comparison is suspended, and the standby loads the new microcode. -/
def detachForUpgrade (s : State) (c : Couch) : State :=
  let s := passPhase { s with barns := { s.barns with standby := .detached, agreed := false, suspended := true } } c
  let w := standbyBarn s
  match mouldMicrocode s.md.shadow with
  | some (v, t) => setBarn s w { barn s w with mc := v, stateVersion := t }
  | none => s
/-- A step ends n deckles before the couch or earlier. -/
def inTime (s : State) (c : Couch) (n : Nat) : Bool := deckleReached (couchDeckle s c) (deckle s + BitVec.ofNat 46 n)
/-- UPGRADE_DETACH: the next of steps 1 to 3 of Table 10.8 ends, well or not: the detaching at h - 200, the self-test of two
deckles by h - 120, the resynchronisation by h - 8. -/
def execUpgradeDetach (ok : Bool) (s : State) : Res :=
  .next (match s.md.couch with
    | some c =>
      let come (n : Nat) : Bool := deckleReached (deckle s + BitVec.ofNat 46 n) (couchDeckle s c)
      if !c.upgrade || c.reached.isSome || !atBoundary s || s.barns.takeover.isSome || !come 200 then s
      else match c.phase with
        | 0 => if ok && inTime s c 200 && s.barns.standby = .lockstep then detachForUpgrade s c else failUpgrade s
        | 1 =>
          if !come 198 then s
          else if ok && inTime s c 120 then
            let w := standbyBarn s
            passPhase (setBarn s w { barn s w with passed := true, bits := 0 }) c
          else failUpgrade s
        | 2 => if ok && inTime s c 8 then passPhase s c else failUpgrade s
        | _ => s
    | none => s)
/-- UPGRADE_REJOIN: step 5 of Table 10.8, after the self-test of two deckles and by h + 200. -/
def execUpgradeRejoin (ok : Bool) (s : State) : Res :=
  .next (
    let closed : Bool := !(match s.md.couch with | some c => c.upgrade | none => false)
    if s.barns.suspended && closed && atBoundary s && s.barns.takeover.isNone && barnsRun s &&
        decide (s.couchUp + 2048 ≤ s.tb.up) then
      if ok && s.barns.xlink && decide (s.tb.up ≤ s.couchUp + 204800) then closeAll (enterLockstep (endSuspension s)) 0x62 0
      else closeAll (raise (endSuspension s) 11 (barnCode (standbyBarn s)) 1) 0x62 0x0C
    else s)

/-! ## The installation key (R309) -/

/-- A SET of MD_KEY or MD_KEY_STATE in its mode (R11, R309). -/
def keySet (s : State) (r : Req) (i : Instr) (body : State → State) : Res :=
  granger s r i 0x11 fun s => if s.modes.cur = .cal then body s else replyNotInMode s r 0x11
/-- A SET of `MD_KEY`: four SETs, instances 0 to 3 in order; the fourth makes the slot SET. -/
def keyWrite (s : State) (r : Req) (inst : Nat) (value : BitVec 64) : State :=
  if 4 ≤ inst then replyBad s r 0x11 0
  else if s.md.keyState = 2 then replyDenied s r 0x11
  else if inst ≠ 0 && inst ≠ s.md.keyNew.length then replyDenied s r 0x11
  else
    let words := if inst = 0 then [value] else s.md.keyNew ++ [value]
    let s := if words.length = 4 then
        { s with md := { s.md with key := words.flatMap fun w => toBytes 8 w.toNat, keyNew := [], keyState := 1 } }
      else { s with md := { s.md with keyNew := words } }
    reply s r 0x11 0 8 (valueWords 2 0)
/-- MD_KEY_WRITE. -/
def execMdKeyWrite (r : Req) (inst : BitVec 9) (value : BitVec 64) (s : State) : Res :=
  keySet s r (.mdKeyWrite r inst value) fun s => keyWrite s r inst.toNat value
/-- The reply of a SET of `MD_KEY_STATE`. -/
def keyReply (s : State) (r : Req) : State := reply s r 0x11 0 1 (valueWords 1 (mdKeyState s))
/-- REQUIRE takes a value: once set, it is cleared only while the slot is not LOCKED. -/
def setRequire (s : State) (v : Bool) : Option State :=
  if s.md.require && !v && s.md.keyState = 2 then none
  else some { s with md := { s.md with require := v } }
/-- A SET of LOCK, with the REQUIRE bit it carries. A slot that is EMPTY is not locked. -/
def keyLock (s : State) (r : Req) (require : Bool) : State :=
  if s.md.keyState = 0 then replyDenied s r 0x11
  else match setRequire s require with
    | none => replyDenied s r 0x11
    | some s => keyReply { s with md := { s.md with keyState := 2, keyNew := [] } } r
/-- A SET of REQUIRE with LOCK clear. -/
def keyRequire (s : State) (r : Req) (value : Bool) : State :=
  match setRequire s value with
  | none => replyDenied s r 0x11
  | some s => keyReply s r
/-- KEY_LOCK. -/
def execKeyLock (r : Req) (require : Bool) (s : State) : Res :=
  keySet s r (.keyLock r require) fun s => keyLock s r require
/-- KEY_REQUIRE. -/
def execKeyRequire (r : Req) (value : Bool) (s : State) : Res :=
  keySet s r (.keyRequire r value) fun s => keyRequire s r value

/-! ## A SET of a mouldable attribute (R316) -/

/-- Where a copy's runs hold the value of an attribute's instance. -/
def valueAt (c : Copy) (id inst : Nat) : Option Nat :=
  ((runVals c).find? fun x => x.id = id && x.inst = inst).map RunVal.off
/-- The working value and the active copy are written together. -/
def writeMoulded (s : State) (a : Attr) (inst v : Nat) : State :=
  let s := setReg s a.id inst v
  match s.md.active with
  | none => s
  | some c =>
    let c' := match valueAt c a.id inst with
      | some off => { c with mem := (copyPut c off (toBytes a.width v)).mem }
      | none => c
    { s with md := { s.md with active := some c', modified := true } }

end Sys2Proof.Machine
end

