-- ==== Sys2Proof/Machine/Modes.lean ====
section
/-!
DEFINITION. The modes (chapter 1, R339, R419): what every transition does, entry into HELD, MODE_REQUEST and the requested
transitions, and RECOVERY.
-/
namespace Sys2Proof.Machine

/-! ## What a transition ends and begins -/

/-- At-completion commands that Table 11.7 does not allow in the new mode are replied ABORTED (R339). A couch follows R321,
and ERRPIN_RELEASE stays. -/
def abortForMode (s : State) (new : Mode) : State :=
  let go := s.cmd.outst.filter fun o =>
    !opcodeAllowed o.opcode.toNat new && decide (o.opcode.toNat ≠ 0x23) && decide (o.opcode.toNat ≠ 0x54)
  go.foldl (fun s o => closeCmd s o.req o.opcode.toNat 0x0C 0 []) s
/-- The operations of those commands end. -/
def endForMode (s : State) (new : Mode) : State :=
  let s := faultLeave (calLeave (monLeave s new) new) new
  let s := if opcodeAllowed 0x43 new then s else dropCommit s
  let s := if opcodeAllowed 0x61 new then s else { s with barns := { s.barns with switch := none } }
  if opcodeAllowed 0x7E new then s
  else
    let s := { s with nl := { s.nl with enter := none, leave := none } }
    if new = .recovery then s else nlEnd s
/-- The mode is left for `new`. -/
def leaveFor (s : State) (new : Mode) : State := abortForMode (endForMode s new) new
/-- The mode attributes of an entry (Table 1.7). -/
def noteMode (s : State) (new : Mode) (cause : Byte) : State :=
  count { s with modes := { s.modes with cur := new, cause := cause, entryDeckle := deckle s } } A_MODE_TRANSITIONS 0 31 0 1
/-- Every bank of the Granary is powered (Table 1.4). -/
def allBanks (s : State) : State :=
  { s with gran := { s.gran with powered := BitVec.allOnes 64, bankIdle := [] } }
/-- What an all-on mode forces on, and where the idle counts of service begin (R19). -/
def blocksForMode (s : State) (new : Mode) : State :=
  if allOn new then lanesAllOn (allBanks (clocksAllOn s)) (decide (new = .recovery))
  else
    let s := forNat 12 (fun k s => setStook s k { stook s k with idle := 0 }) s
    { s with gran := { s.gran with idle := 0 }, clk := { s.clk with pllIdle := 0 } }
/-- The sheaves and the message of a mode change (R118, Tables 4.11 and 11.3). -/
def announceMode (s : State) (old : Mode) (requested : Bool) : State :=
  let s := controlMode s s.modes.cur old s.modes.cause.toNat
  let s := epochCause s 1
  if requested then s
  else event s 0x03 0 [BitVec.ofNat 32 (s.modes.cause.toNat * 256 + modeByte s)]
/-- A transition between modes other than HELD at this beat (R31). -/
def changeMode (s : State) (new : Mode) (cause : Byte) (requested : Bool) : State :=
  let old := s.modes.cur
  announceMode (blocksForMode (noteMode (leaveFor s new) new cause) new) old requested

/-! ## HELD (R38, R212, R419, R420, R465) -/

def lostSheaf (s : State) (x : Sheaf) : State := lost s x.src x.cls
/-- The staging banks and the Winnower's output queue of a stook are lost; a sheaf that the Granary has begun to take is not
lost twice. -/
def loseStook (s : State) (k : Nat) : State :=
  let x := stook s k
  let drain := if x.drained = 0 then x.drain else x.drain.drop 1
  let l := x.outq ++ x.waitq.map Prod.snd ++ (x.fill ++ drain).map Numbered.sheaf
  l.foldl lostSheaf (setStook s k { x with outq := [], waitq := [], fill := [], drain := [], drained := 0, swapDue := none })
/-- The Granary keeps bank 0 only (R38, R212). -/
def keepBank0 (s : State) : State :=
  let away (u : GUnit) : Bool := u.ready = notWhole || u.slots.any fun k => decide (32768 ≤ k)
  let s := (s.gran.units.filter away ++ s.gran.hold).foldl (fun s u => lost s u.src u.cls) s
  let kept := (s.gran.units.filter fun u => !away u).map fun u =>
    { u with st := if u.st = .inFlight then .eligible else u.st, flying := [] }
  let s := dropPoisoned { s with gran := { s.gran with units := kept } }
  let s := forNat 12 (fun k s => loseStook s k) (s.gran.dwq.foldl lostSheaf s)
  { s with gran := { s.gran with
      powered := 1, bankIdle := [], hold := [], dwq := [], direct := 0, back := [], bursting := false
      flow0 := { low := false, since := s.tb.up }, flow1 := { low := false, since := s.tb.up } } }
/-- The working registers that the Barns hold are lost, and `TA_TEST_OUT` takes its reset value (R419, R456). -/
def barnRegsLost (m : PMap Nat) : PMap Nat :=
  m.filter fun e =>
    let b := e.1 / (4096 * 512)
    !(b = 0 || b = 4 || b = 6 || b = 0xB || e.1 / 512 = A_TA_TEST_OUT)
/-- UL0 sends /H/ while LANEREF and the supplies of its pads are good (R420). -/
def heldIdle (s : State) : State :=
  let on := s.pwr.lanerefGood && powered s && s.pwr.good.contains .vddSd && s.pwr.good.contains .vddaSd
  setLane s 0 { lane s 0 with idleSet := if on then 2 else 0 }
/-- The links: every PMA is reset, DL0 is received at Gen1 (R242, R420). -/
def linksHeld (s : State) : State :=
  let keep := bits (reg s A_LK_DL_CONFIG 0) 3 2 = 1
  heldIdle { s with lanes := [], dls := if keep then s.dls.filter fun e => e.1 = 0 else []
                    mg := { variant := 0, variantDeckle := deckle s, sched := [] } }
/-- The measured check of START-UP or the integrity check of RECOVERY is in progress (R274). -/
def checkRuns (s : State) : Bool :=
  (s.modes.cur = .startUp && s.modes.suStep = 7) || (s.modes.cur = .recovery && s.modes.recStep = 3)
/-- Calibration stops without a message (Table 1.4, R36). -/
def calHeld (s : State) : State :=
  let s := dropCommit s
  { s with cal := { s.cal with
      run := none, queued := none, sweep := none
      lastStatus := if s.cal.run.isSome || checkRuns s then 0x0C else s.cal.lastStatus } }
/-- The couched mould and the shadow copy are lost; a pending couch ends without a reply (R322, R321). -/
def mdHeld (s : State) : State :=
  let s := match s.md.couch with
    | some c => failCouch s { c with req := none } 0x0C 0 .empty false
    | none => s
  let s := dropCheck (shadowEmpty s)
  { s with md := { s.md with active := none, modified := false, prevMould := false }, cfgPrev := [] }
/-- Commands not yet replied end; what is queued to be read stays (R36). -/
def cmdHeld (s : State) : State :=
  { s with cmd := { s.cmd with
      inq := [], outst := [], spiOpen := (s.cmd.spiQ.filter fun m => m.reply).length } }
/-- Conditions that end with the blocks that raised them. -/
def levelsHeld (s : State) : State :=
  { s with flt := { s.flt with levels := s.flt.levels.filter fun l => l.src = 2 || l.src = 6 || l.src = 16 } }
/-- The Barn's part of the Thresher is lost. -/
def thrHeld (s : State) : State :=
  { s with thr := { s.thr with waiting := [], store := [], expires := [] } }
/-- The mode's own record of a step in progress ends. -/
def stepsHeld (s : State) : State :=
  { s with modes := { s.modes with
      heldUp := s.tb.up, pend := none, toRecovery := none, toHeld := none, chipReset := false, recStep := 0, recRetried := false, cold := false,
      suStep := 0, suHalted := false, autoFrom := none, bootPort := none, firstCouch := true } }
/-- The front ends, the Granary, the monitor path and calibration at the entry. -/
def frontHeld (s : State) : State :=
  calHeld (keepBank0 (monHeld (s.chs.foldl (fun s e => channelHeld s e.1) s)))
/-- The entry into HELD from another mode (R419). -/
def goHeld (s : State) (cause : Byte) : State :=
  let s := cmdHeld (mdHeld (nlEnd s))
  let s := linksHeld (barnsHeld (faultHeld (clocksHeld (frontHeld s))))
  let s := stepsHeld (thrHeld (levelsHeld (noteMode s .held cause)))
  let s := { s with cfg := barnRegsLost s.cfg, nl := { s.nl with personality := false, enter := none, leave := none } }
  refreshTiming { s with tb := { s.tb with work := none, sync := [] } }
/-- HELD, from any mode; of causes that fall in the beat of the entry the lowest code stays (R410), and a later one changes no
`MODE_CAUSE`: it holds the cause of the entry (R36). -/
def enterHeld (s : State) (cause : Byte) : State :=
  if s.modes.cur = .held then
    let lower := s.modes.heldUp = s.tb.up && cause.toNat < s.modes.cause.toNat
    { s with modes := { s.modes with cause := if lower then cause else s.modes.cause, autoFrom := none, pend := none } }
  else goHeld s cause

/-! ## Conditions (R30, R32) -/

/-- A mode request that Table 1.5 lists. -/
def legalRequest (s : State) (t : Mode) : Bool :=
  match s.modes.cur, t with
  | .held, _ => false
  | _, .held => true
  | .startUp, .startUp => s.modes.suHalted
  | .startUp, .cal => s.modes.suHalted
  | .cal, .streaming => true
  | .cal, .triggered => true
  | .streaming, .triggered => !s.nl.active
  | .triggered, .streaming => true
  | .streaming, .cal => true
  | .triggered, .cal => true
  | .streaming, .recovery => true
  | .triggered, .recovery => true
  | _, _ => false
/-- A critical fault is outstanding in the error word. -/
def criticalOutstanding (s : State) : Bool := s.flt.word.toNat % 256 ≠ 0
/-- A mould that passed its check is in force, with the rules of service evaluated (R32, R319). -/
def mouldServes (s : State) : Bool :=
  match s.md.active with
  | none => false
  | some c => !s.md.modified && (dynamicFail s c s.cfg true).isNone
/-- The status that keeps a transition from `t`, 0 for none (R32). -/
def gate (s : State) (t : Mode) : Nat :=
  if !serviceMode t then 0
  else if foregroundRuns s then 1
  else if !mouldServes s || criticalOutstanding s then 8
  else 0

/-! ## RECOVERY (R26 to R28, R391) -/

/-- Entries of the last 3 600 s (`RECOVERY_COUNT`). -/
def recentRecoveries (s : State) : Nat :=
  (s.modes.recLog.filter fun b => decide (s.tb.up < b + 3600 * 40960000)).length
/-- One more entry would exceed the limit (R28). At limit 0 only the automatic entry is barred, as Table 1.7 words it: DESIGN
CHOICE, log entry 18. -/
def recoveryBarred (s : State) (requested : Bool) : Bool :=
  let limit := reg s A_RECOVERY_LIMIT 0
  limit < recentRecoveries s + 1 && !(requested && limit = 0)
/-- A request that RECOVERY displaces is replied ABORTED (R35). -/
def displaceRequest (s : State) : State :=
  match s.modes.pend with
  | some p => closeCmd { s with modes := { s.modes with pend := none } } p.req 0x03 0x0C 0 []
  | none => s
/-- RECOVERY begins at this boundary, or HELD in its place (R26, R28). -/
def beginRecovery (s : State) (cause : Byte) (requested : Bool) : State :=
  if recoveryBarred s requested then raise (goHeld s 0x09) 0 0 0x8000
  else
    let s := { s with modes := { s.modes with
      ret := some s.modes.cur, recLog := (s.tb.up :: s.modes.recLog).take 255, recStep := 1, recRetried := false,
      cold := false, recDk := s.tb.dk, toRecovery := none } }
    retestsAllowed (changeMode s .recovery cause requested)
/-- A cause of RECOVERY takes effect at this boundary. -/
def recoveryNow (s : State) : State :=
  match s.modes.toRecovery with
  | some c =>
    if causeDue s && serviceMode s.modes.cur && !couchDue s then beginRecovery (displaceRequest s) c false else s
  | none => s
/-- RECOVERY_ENTRY (R26, R35): after a couch of the same boundary (R388). -/
def execRecoveryEntry (s : State) : Res := .next (recoveryNow s)

/-- Step 1 with a complete checkpoint: the Barn that holds it owns, the other is retested and resynchronised (R391). -/
def recoverResync (s : State) : State :=
  let o := s.barns.owner
  let w := if !(barn s o).passed && (barn s (otherBarn o)).passed then otherBarn o else o
  settleStandby { s with barns := { s.barns with takeover := none } } w
/-- Step 1 by cold start (R391). -/
def recoverCold (s : State) : State :=
  let s := settleStandby { s with barns := { s.barns with takeover := none } } (coldOwner s)
  coldRebuild { s with modes := { s.modes with cold := true } }
/-- A Barn passed its self-test. -/
def someBarn (s : State) : Bool := s.barns.a.passed || s.barns.b.passed
/-- The integrity check passes: the values that slew are recomputed from their targets (R290). -/
def integrityPassed (s : State) : State :=
  checkRunEnds { s with cal := { s.cal with slews := [] } } 3 0
/-- RECOVERY_STEP_COMPLETE (R26, R28). The last step's end leads to the return at the next boundary. -/
def execRecoveryStepComplete (ok resync : Bool) (s : State) : Res :=
  .next (
    if s.modes.cur ≠ .recovery || s.modes.toHeld.isSome || s.modes.recStep = 0 || 3 < s.modes.recStep then s
    else if !ok || (s.modes.recStep = 1 && !someBarn s) then
      recoveryFail (if s.modes.recStep = 3 then checkRunFails s 3 else s)
    else
      let s := if s.modes.recStep = 1 then (if resync then recoverResync s else recoverCold s)
        else if s.modes.recStep = 3 then integrityPassed s else s
      { s with modes := { s.modes with recStep := s.modes.recStep + 1, recRetried := false, causeAt := s.tb.up } })
/-- After a cold start every sheaf still pending is marked (R181). -/
def markPending (s : State) : State :=
  let l := s.gran.units.filter fun u => u.st = .pending
  let s := l.foldl (fun s u => count s A_TH_MATCHED u.src 31 0 1) (count s A_TH_EXCEPTIONS 2 15 0 l.length)
  mapUnits s fun u => if u.st = .pending then { u with st := .eligible } else u
/-- A couch whose boundary fell in RECOVERY is applied at the return; one of this boundary is not late (R321). -/
def lateCouch (s : State) : State :=
  match s.md.couch with
  | some c =>
    match c.reached with
    | some b => settleCouch s c (decide (b < s.tb.dk))
    | none => s
  | none => s
/-- The stream resumes: RESUME with CAUSE 3 or 4 ahead of the first quire (R27, R239, R391). After a resync the sheaves whose
expiry boundary fell in RECOVERY are decided (R181). -/
def resumeRecovery (s : State) (entry : Deckle) (cold : Bool) : State :=
  let s := pauseCredit s (s.tb.dk - s.modes.recDk)
  if cold then resumeMarker (abortOutstanding (markPending s)) 4 s.gran.ptrUsed
  else ownerRewind (resumeMarker (expireUnits (enterDue s)) 3 entry)
/-- RECOVERY_RETURN (R26). -/
def execRecoveryReturn (s : State) : Res :=
  .next (
    if s.modes.cur ≠ .recovery || s.modes.recStep ≠ 4 || !atBoundary s || s.tb.up ≤ s.modes.causeAt then s
    else
      let cold := s.modes.cold
      let entry := s.modes.entryDeckle
      let back := s.modes.ret.getD .streaming
      let s := lateCouch s
      let s := { s with modes := { s.modes with recStep := 0, cold := false } }
      makeSwitch (resumeRecovery (changeMode s back 0x05 false) entry cold))
/-- RECOVERY_WINDOW_EXPIRY (R28): entries older than 3 600 s leave the window. -/
def execRecoveryWindowExpiry (s : State) : Res :=
  .next { s with modes := { s.modes with
    recLog := s.modes.recLog.filter fun b => decide (s.tb.up < b + 3600 * 40960000) } }

end Sys2Proof.Machine
end

