-- ==== Sys2Proof/Machine/StartUp.lean ====
section
/-!
DEFINITION. START-UP (R23 to R25, R412 to R418, R290), the requested transitions (R30 to R36, R344) and MODE_REQUEST.
-/
namespace Sys2Proof.Machine

/-! ## The first beat of START-UP (R418, R465) -/

/-- BOOT_SRC1, BOOT_SRC0. -/
def bootSource (s : State) : Nat := bits s.pwr.straps.toNat 1 0
/-- The source-14 counter continues behind the pointer record, or starts at 0 after a power-on (R418). -/
def startSeq14 (s : State) : State :=
  let n := if s.modes.booted then ((pointer s).seq14 + 1024) % 2 ^ 16 else 0
  { s with gran := { s.gran with seq := pset 0 s.gran.seq 14 n } }
/-- A restart empties the shadow copy; a check in progress ends. -/
def clearStaging (s : State) : State :=
  let s := cancelCouch s fun _ => true
  let s := match s.md.checking with
    | some (some r) => closeCmd s r 0x22 0x0C 0 []
    | _ => s
  shadowEmpty (dropCheck s)
/-- The step record of R23 at its beginning. -/
def startSteps (s : State) (port : Option Port) : State :=
  { s with modes := { s.modes with
      pend := none, suPassed := 0, suStep := 1, suFailed := 0, suHalted := false, suSince := s.tb.up, stagedAt := s.tb.up,
      firstCouch := true, booted := true, autoFrom := none, bootPort := port } }
/-- The blocks at the first beat of START-UP. -/
def startBlocks (s : State) : State :=
  let s := blocksForMode s .startUp
  let s := forNat 4 (fun u s => if planned s u then negotiate s u else s) s
  let s := monStart (faultStart (retestsAllowed s))
  s.chs.foldl (fun s e => channelRestart s e.1) s
/-- START-UP begins at this beat, from HELD or again from a halted START-UP. `MODE_CAUSE` stays that of the entry into HELD
(R36). -/
def beginStartUp (s : State) (port : Option Port) (requested : Bool) : State :=
  let old := s.modes.cur
  let last := s.tb.lastQuality
  let s := if old = .held then noteMode (startSeq14 s) .startUp s.modes.cause
    else noteMode (clearStaging (leaveFor s .startUp)) .startUp 0x03
  let s := refreshTiming (announceMode (startSteps s port) old requested)
  let s := if s.tb.quality ≠ last then epochCause s 2 else s
  startBlocks s
/-- AUTO_START (R412). -/
def execAutoStart (s : State) : Res :=
  .next (match s.modes.autoFrom with
    | some b =>
      if s.modes.cur = .held && atBoundary s && decide (b + 40 ≤ s.tb.dk) && decide (bootSource s ≠ 3) && powered s &&
          s.pwr.powerGood && s.pwr.resetHigh then beginStartUp s none false else s
    | none => s)

/-! ## The steps (R23, R25, R417) -/

/-- The step in progress has passed, and the next begins. -/
def passStep (s : State) (k : Nat) : State :=
  autoCheck { s with modes := { s.modes with
    suPassed := s.modes.suPassed ||| BitVec.ofNat 7 (2 ^ (k - 1)), suStep := k + 1, suSince := s.tb.up, stagedAt := s.tb.up,
    causeAt := s.tb.up } }
/-- START-UP halts (R25). -/
def haltStep (s : State) (k : Nat) : State :=
  { s with modes := { s.modes with suStep := 0, suFailed := k, suHalted := true } }
/-- A boot package up to MC_CHECK: none when a check fails or the microcode is out of range, else its MC_VERSION and
STATE_VERSION, none of them for the resident microcode (R413 to R415). -/
def packageMicrocode (bs : List Byte) : Option (Option (Nat × Nat)) :=
  let n := ofBytes ((bs.drop 4).take 4)
  let img := (bs.drop 16).take n
  let tail := ofBytes (bs.drop (16 + n))
  if bs.length ≠ 24 + n || ofBytes (bs.take 4) ≠ 0xB0070192 || n % 8 ≠ 0 ||
      ofBytes ((bs.drop 12).take 4) ≠ crc32c (bs.take 12) || tail ≠ (if n = 0 then 0 else crc32c img) then none
  else if n = 0 then some none
  else
    let w := ofBytes (img.take 8)
    let v := bits w 63 32
    if v < Config.mcLow || Config.mcHigh < v then none else some (some (v, bits w 31 16))
/-- Both Barns hold this microcode and have passed their self-test. -/
def loadBarns (s : State) (mc : Nat × Nat) : State :=
  let put (x : BarnRec) : BarnRec := { x with mc := mc.1, stateVersion := mc.2, passed := true, fails := 0, bits := 0 }
  { s with barns := { s.barns with a := put s.barns.a, b := put s.barns.b } }
/-- Step 1: self-test of every block with the boot microcode. -/
def step1 (s : State) (ok : Bool) (block : Nat) (boot : List Byte) : State :=
  let img := if bootSource s = 0 then packageMicrocode boot else some none
  match img with
  | none => raise (haltStep s 1) 5 1 0xFFFF
  | some mc =>
    if ok then passStep (loadBarns s (mc.getD (Config.mcVersion, Config.mcStateVersion))) 1
    else raise (haltStep s 1) 5 1 block
/-- Step 4: the Seed Store load. -/
def step4 (s : State) (ok : Bool) : State :=
  let (good, s) := seedLoad s
  if good && ok then passStep s 4 else haltStep s 4
/-- Step 5 has ended with this image's check. -/
def mouldLoaded (s : State) (f : Option Broken) : State :=
  let s := { s with md := { s.md with check := checkWord f, checking := none } }
  match f with
  | none => passStep { s with md := { s.md with stage := .checked } } 5
  | some f => raise (haltStep { s with md := { s.md with stage := .failed } } 5) 4 0 f.rule
/-- Step 5: the mould of the boot package, or the one that the host has staged and the block has checked. -/
def step5 (s : State) (boot : List Byte) : State :=
  if bootSource s = 0 then
    let c := copyPut emptyCopy 0 boot
    mouldLoaded (restaged s c .staged) (checkImage s c)
  else match s.md.stage with
    | .checked => passStep s 5
    | .failed => raise (haltStep s 5) 4 0 (s.md.check.toNat % 256)
    | _ => s
/-- Step 6: the immediate couch, with a host-staged microcode in both Barns first (R413). -/
def step6 (s : State) (ok : Bool) : State :=
  if !atBoundary s then s
  else if !ok then haltStep s 6
  else
    let s := if bootSource s = 0 then s else match mouldMicrocode s.md.shadow with
      | some mc => loadBarns s mc
      | none => s
    let c : Couch := { req := none, form := 0, d := 0, secs := 0, ns := 0, due := s.tb.dk, upgrade := false,
                       phase := 0, reached := some s.tb.dk }
    let s := applyCouch (setCouch s c) c false
    if s.md.active.isSome then passStep s 6 else haltStep s 6
/-- A channel lies beyond a limit of `CAL_CHECK` (R290): the step code of the first figure beyond. -/
def beyondCheck (s : State) (f : Residual) : Option Nat :=
  let lim := reg s A_CAL_CHECK 0
  if bits lim 15 0 < f.sar.toNat then some 0x03
  else if bits lim 31 16 < f.tdc.toNat then some 0x0A else none
/-- Step 7: the measured check. -/
def step7 (s : State) (ok : Bool) (found : List Residual) : State :=
  let far := found.filter fun f => decide (f.unit < 192) && enabled s f.unit && (beyondCheck s f).isSome
  let s := found.foldl setQuality s
  let s := far.foldl (fun s f => raise s 34 f.unit (0x500 + (beyondCheck s f).getD 0)) s
  if ok && decide (far.length ≤ bits (reg s A_CAL_CHECK 0) 39 32) then passStep (checkRunEnds s 2 0) 7
  else haltStep (checkRunFails s 2) 7
/-- STARTUP_STEP_COMPLETE. -/
def execStartupStepComplete (ok : Bool) (block : BitVec 16) (boot : List Byte) (found : List Residual) (s : State) : Res :=
  .next (
    if s.modes.cur ≠ .startUp || s.modes.suHalted then s
    else match s.modes.suStep with
      | 1 => step1 s ok block.toNat boot
      | 2 => if ok then passStep (barnsStart s) 2 else haltStep s 2
      | 3 => if ok then passStep s 3 else raise (haltStep s 3) 5 3 block.toNat
      | 4 => step4 s ok
      | 5 => step5 s boot
      | 6 => step6 s ok
      | 7 => step7 s ok found
      | _ => s)
/-- BOOT_STAGING_TIMEOUT (R416). -/
def execBootStagingTimeout (s : State) : Res :=
  .next (
    if s.modes.cur = .startUp && decide (s.modes.suStep = 5) && !s.modes.suHalted && decide (bootSource s ≠ 0) &&
        decide (s.modes.stagedAt + 60 * 40960000 ≤ s.tb.up) && s.md.checking.isNone &&
        !(s.md.stage = .checked || s.md.stage = .failed) then
      raise (haltStep s 5) 4 0 0x02
    else s)
/-- The limit of a step in beats, beside its reads (Table 15.5): 1 ms is 40 960 beats. -/
def stepLimitBeats (s : State) (k : Nat) : Nat :=
  let ms := 40960
  match k with
  | 1 => 60 * ms
  | 2 => 4096
  | 3 => 40 * ms
  | 4 => 20 * ms
  | 5 => 50 * ms
  | 6 => 41 * 1024 + (if bootSource s ≠ 0 && (mouldMicrocode s.md.shadow).isSome then 10 * ms else 0)
  | _ => 500 * ms
/-- The step in progress exceeds its limit; 25 µs, 1 024 beats, are added for each byte it reads. Step 5 of a host boot has
40 ms for its check, from the last staging command; its wait is R416's. -/
def stepOverdue (s : State) (k read : Nat) : Bool :=
  if k = 5 && decide (bootSource s ≠ 0) then s.md.checking.isSome && decide (s.modes.stagedAt + 40 * 40960 < s.tb.up)
  else decide (s.modes.suSince + stepLimitBeats s k + 1024 * (if bootSource s = 0 && (k = 1 || k = 5) then read else 0)
    < s.tb.up)
/-- STARTUP_STEP_TIMEOUT (R417). -/
def execStartupStepTimeout (read : BitVec 32) (s : State) : Res :=
  let k := s.modes.suStep
  .next (
    if s.modes.cur = .startUp && !s.modes.suHalted && decide (1 ≤ k) && decide (k ≤ 7) && stepOverdue s k read.toNat then
      haltStep (if k = 7 then checkRunFails s 2 else s) k
    else s)
/-- STARTUP_COMPLETE (R24). While a condition of R32 fails, the transition does not take effect. -/
def execStartupComplete (s : State) : Res :=
  .next (
    if s.modes.cur ≠ .startUp || s.modes.suStep ≠ 8 || !atBoundary s || s.tb.up ≤ s.modes.causeAt || transitionDue s then s
    else
      let m := match s.md.active with | some c => modeOf (initialModeCode c) | none => none
      match m with
      | some t => if (t = .cal || serviceMode t) && gate s t = 0 then
          changeMode { s with modes := { s.modes with suStep := 0 } } t 0x04 false else s
      | none => s)
/-- `STARTUP_STATUS`. HALTED and the failed step stand until START-UP begins again or HELD is entered: DESIGN CHOICE, log
entry 21. -/
def startupStatus (s : State) : Nat :=
  s.modes.suPassed.toNat + s.modes.suFailed * 2 ^ 8 + bnat s.modes.suHalted * 2 ^ 15

/-! ## Requested transitions (R30 to R36) -/

/-- A request takes effect, or is turned away with its mode unchanged (R32 to R34). -/
def requestNow (s : State) (p : ModePend) : State :=
  let s := { s with modes := { s.modes with pend := none } }
  if !legalRequest s p.target then closeCmd s p.req 0x03 7 (modeByte s) []
  else match gate s p.target with
    | 0 =>
      match p.target with
      | .held => goHeld (closeCmd s p.req 0x03 0 0 []) 0x03
      | .startUp => closeCmd (beginStartUp s (some p.req.port) true) p.req 0x03 0 0 []
      | .recovery =>
        let s := beginRecovery s 0x03 true
        if s.modes.cur = .held then s else closeCmd s p.req 0x03 0 0 []
      | t => closeCmd (changeMode s t 0x03 true) p.req 0x03 0 0 []
    | st => closeCmd s p.req 0x03 st (if st = 1 then 0x40 else 0) []
/-- The entry into HELD that RECOVERY has caused (R28). -/
def recoveryFailed (s : State) : State :=
  match s.modes.toHeld with
  | some (cause, step) => if causeDue s then raise (goHeld s cause) 0 0 step else s
  | none => s
/-- A chip reset enters HELD at once; an automatic start may follow it (R357, R412). -/
def chipReset (s : State) : State :=
  let s := goHeld s 0x02
  { s with modes := { s.modes with autoFrom := some (s.tb.dk + bnat (!atBoundary s)) } }
/-- MODE_TRANSITION: the transition that is due takes effect, after a couch of the same boundary (R31, R34, R35, R388).
From HELD, an accepted request begins START-UP at a beat after its reply (R344). -/
def execModeTransition (s : State) : Res :=
  .next (
    if s.modes.cur = .held then
      match s.modes.pend with
      | some p => if p.acc < s.tb.up then
          beginStartUp { s with modes := { s.modes with pend := none } } (some p.req.port) true else s
      | none => s
    else if s.modes.chipReset then chipReset s
    else if s.modes.toHeld.isSome then recoveryFailed s
    else if couchDue s && s.modes.cur ≠ .recovery then s
    else if s.modes.toRecovery.isSome && causeDue s then makeSwitch (recoveryNow s)
    else match s.modes.pend with
      | some p => if requestDue s p then makeSwitch (requestNow s p) else s
      | none => s)
/-- HELD_ENTRY (R419): a chip reset at once, a failed RECOVERY or a request for HELD at its boundary. -/
def execHeldEntry (s : State) : Res :=
  .next (
    if s.modes.cur = .held then s
    else if s.modes.chipReset then chipReset s
    else if s.modes.toHeld.isSome then recoveryFailed s
    else match s.modes.pend with
      | some p =>
        let waits := (couchDue s && s.modes.cur ≠ .recovery) || (s.modes.toRecovery.isSome && causeDue s)
        if p.target = .held && requestDue s p && !waits then requestNow s p else s
      | none => s)

/-- The held responder's MODE_REQUEST (R344). -/
def heldRequest (s : State) (r : Req) (target : Nat) (at? : Option Deckle) : State :=
  if 6 ≤ target || at?.isSome then replyBad s r 0x03 0
  else if target ≠ 1 then replyNotInMode s r 0x03
  else if !s.pwr.resetHigh || !s.pwr.powerGood then replyDenied s r 0x03
  else if s.modes.pend.isSome then replyBusy s r 0x03 0x03
  else replyOk { s with modes := { s.modes with pend := some { req := r, target := .startUp, at? := none, acc := s.tb.up } } }
    r 0x03 []
/-- MODE_REQUEST outside HELD (R30 to R33). -/
def modeRequest (s : State) (r : Req) (target : Nat) (at? : Option Deckle) : State :=
  match modeOf target with
  | none => replyBad s r 0x03 0
  | some t =>
    let past : Bool := match at? with | some d => !deckleAhead (deckle s) d | none => false
    if past then replyBad s r 0x03 1
    else if s.modes.pend.isSome then replyBusy s r 0x03 0x03
    else if !legalRequest s t then replyNotInMode s r 0x03
    else if serviceMode t && foregroundRuns s then replyBusy s r 0x03 0x40
    else opening s r 0x03 0 fun s =>
      { s with modes := { s.modes with pend := some { req := r, target := t, at? := at?, acc := s.tb.up } } }
/-- MODE_REQUEST. -/
def execModeRequest (r : Req) (target : BitVec 3) (at? : Option Deckle) (s : State) : Res :=
  granger s r (.modeRequest r target at?) 0x03 fun s =>
    if s.modes.cur = .held then heldRequest s r target.toNat at? else modeRequest s r target.toNat at?

end Sys2Proof.Machine
end

