-- ==== Sys2Proof/Machine/Power.lean ====
section
/-!
DEFINITION. Supplies, power-good, RESET_N, straps and LANEREF (R405 to R412, R420). A supply's detector and what its failure
entails (power-good, VDDIO, VDD_MEM) are rows of their own at the same instant.
-/
namespace Sys2Proof.Machine

def supplies : List Supply := [.vddAon, .vddCore, .vddMem, .avdd, .vddSd, .vddaSd, .vddio]
def isGood (s : State) (x : Supply) : Bool := s.pwr.good.contains x
def allGood (s : State) : Bool := supplies.all fun x => isGood s x
/-- 2.000 ms in beats (R406). -/
def powerGoodBeats : Nat := 81920
/-- UL0's idle set in HELD follows the supplies of its pads (R420). -/
def padsFollow (s : State) : State := if s.modes.cur = .held then heldIdle s else s
/-- The units that a loss of VDD_MEM emptied are counted when the supply returns (R407). -/
def countBank0 (s : State) : State :=
  let s' := s.pwr.bank0Lost.foldl (fun s u => lost s u.1 u.2) s
  { s' with pwr := { s'.pwr with bank0Lost := [] } }
/-- SUPPLY_GOOD (R405). The supplies stand in the table's order. -/
def execSupplyGood (sup : Supply) (s : State) : Res :=
  .next (
    if isGood s sup then s
    else
      let l := supplies.filter fun x => isGood s x || decide (x = sup)
      let s := { s with pwr := { s.pwr with good := l } }
      let s := if allGood s then { s with pwr := { s.pwr with goodSince := s.tb.up } } else s
      padsFollow (if sup = .vddMem then countBank0 s else s))
/-- SUPPLY_FAIL (R405). -/
def execSupplyFail (sup : Supply) (s : State) : Res :=
  .next (
    let l := s.pwr.good.filter fun x => decide (x ≠ sup)
    padsFollow { s with pwr := { s.pwr with good := l, aonLost := s.pwr.aonLost || decide (sup = .vddAon) } })
/-- Power-good is withdrawn, and the device is in HELD (R407). -/
def withdraw (s : State) : State :=
  let s := { s with pwr := { s.pwr with powerGood := false, awaitStraps := true } }
  enterHeld s 0x00
/-- POWER_GOOD_WITHDRAW (R406, R407). -/
def execPowerGoodWithdraw (s : State) : Res := .next (if s.pwr.powerGood && !allGood s then withdraw s else s)
/-- VDDIO_LOSS (R408): the device stops being powered; its always-on state is kept. -/
def execVddioLoss (s : State) : Res := .next (if isGood s .vddAon && !isGood s .vddio then withdraw s else s)
/-- VDD_MEM_LOSS (R407): bank 0 and the mould copies are empty. -/
def execVddMemLoss (s : State) : Res :=
  .next (
    if isGood s .vddMem then s
    else
      let s := withdraw s
      let gone := s.gran.units.map fun u => (u.src, u.cls)
      { s with pwr := { s.pwr with bank0Lost := s.pwr.bank0Lost ++ gone }
               gran := { s.gran with units := [] }
               md := { s.md with shadow := emptyCopy, stage := .empty, active := none, modified := false } })
/-- The straps are sampled (R411), and the path to an automatic start begins (R412). -/
def sampleStraps (s : State) (straps : Byte) : State :=
  { s with pwr := { s.pwr with straps := straps, awaitStraps := false }
           modes := { s.modes with autoFrom := some (s.tb.dk + bnat (!atBoundary s)) } }
/-- POWER_GOOD_ASSERT (R406, R407, R411): all seven supplies good together for 2.000 ms. -/
def execPowerGoodAssert (straps : Byte) (s : State) : Res :=
  .next (
    if powered s && allGood s && !s.pwr.powerGood && decide (s.pwr.goodSince + powerGoodBeats ≤ s.tb.up) then
      let s := { s with pwr := { s.pwr with powerGood := true }, modes := { s.modes with cause := 0x00 } }
      if s.pwr.resetHigh then sampleStraps s straps else s
    else s)
/-- RESET_N_LOW (R410): at once, in every mode. -/
def execResetNLow (s : State) : Res :=
  .next (
    let s := { s with pwr := { s.pwr with resetHigh := false, awaitStraps := true } }
    if powered s then enterHeld s 0x01 else s)
/-- RESET_N_RISE (R411). -/
def execResetNRise (straps : Byte) (s : State) : Res :=
  .next (
    if s.pwr.resetHigh then s
    else
      let s := { s with pwr := { s.pwr with resetHigh := true } }
      if powered s && s.pwr.powerGood then sampleStraps s straps else s)
/-- LANEREF_RETURN (R420, R397). -/
def execLanerefReturn (s : State) : Res := .next (padsFollow { s with pwr := { s.pwr with lanerefGood := true } })
/-- What a power-on keeps: the commands that wait, the supplies and pins, the Seed Store banks and the key slot, and bank 0
while VDD_MEM is good (R406, R407, R309). -/
def powerOn (s : State) : State :=
  let z := State.reset
  let keep := isGood s .vddMem
  { z with
    pending := s.pending
    pwr := { s.pwr with powerGood := false, aonLost := false, awaitStraps := true,
                        straps := z.pwr.straps, bank0Lost := [] }
    gran := { z.gran with
      units := if keep then s.gran.units.map fun u => { u with ready := 0 } else [], arrivals := if keep then s.gran.arrivals else 0
      ptrA := if keep then s.gran.ptrA else PtrRec.dflt, ptrB := if keep then s.gran.ptrB else PtrRec.dflt
      ptrLast := keep && s.gran.ptrLast, ptrUsed := if keep then s.gran.ptrUsed else 0 }
    cal := { z.cal with bank0 := s.cal.bank0, bank1 := s.cal.bank1 }
    md := { z.md with keyState := s.md.keyState, require := s.md.require, key := s.md.key }
    once := z.once
    free := s.free }
/-- POWER_ON (R406): the device becomes powered after VDD_AON was not good. -/
def execPowerOn (s : State) : Res :=
  .next (if isGood s .vddAon && isGood s .vddio && s.pwr.aonLost then
    let t := powerOn (goHeld s 0x00)
    heldIdle { t with pwr := { t.pwr with goodSince := 0 } }
  else s)

end Sys2Proof.Machine
end

