-- ==== Sys2Proof/Machine/Tap.lean ====
section
/-!
DEFINITION. Test access (R456 to R459, R452): the TAP's instructions, and what the pins TEST_OUT, FECLK0 to FECLK3, ERR_N and
the flow pins show of the state.
-/
namespace Sys2Proof.Machine

/-! ## The TAP (R457 to R459) -/

/-- An instruction comes into force and selects its data register: 0 boundary, 1 IDCODE, 2 bypass. -/
def tapLoad (s : State) (i : TapInst) (code : BitVec 6) (dr : Nat) : State :=
  if powered s then { s with tap := { s.tap with inst := i, code := code, dr := dr } } else s
/-- TAP_EXTEST: the boundary cells take the pads. -/
def execTapExtest (s : State) : Res := .next (tapLoad s .extest 0x00 0)
/-- TAP_SAMPLE_PRELOAD: the boundary register captures the pads. -/
def execTapSamplePreload (s : State) : Res :=
  .next (let t := tapLoad s .sample 0x01 0
    if powered s then { t with tap := { t.tap with sampled := some s.tb.up } } else t)
/-- TAP_IDCODE. -/
def execTapIdcode (s : State) : Res := .next (tapLoad s .idcode 0x02 1)
/-- TAP_CLAMP. -/
def execTapClamp (s : State) : Res := .next (tapLoad s .clamp 0x03 2)
/-- TAP_HIGHZ. -/
def execTapHighz (s : State) : Res := .next (tapLoad s .highz 0x04 2)
/-- TAP_BYPASS: code 0x3F, or one that is not supported. -/
def execTapBypass (code : BitVec 6) (s : State) : Res :=
  .next (if 5 ≤ code.toNat then tapLoad s .bypass code 2 else s)
/-- TAP_TEST_LOGIC_RESET: IEEE 1149.1 takes IDCODE in Test-Logic-Reset, and any hold of the pads ends. -/
def execTapTestLogicReset (s : State) : Res := .next (tapLoad s .idcode 0x02 1)
/-- `TA_IDCODE` (R458). -/
def taIdcode : Nat := Config.revision % 16 * 2 ^ 28 + Config.deviceCode * 2 ^ 12 + 0x63D * 2 + 1
/-- `TA_SUPPLY`. -/
def taSupply (s : State) : Nat :=
  (s.pwr.good.map fun x => 2 ^ supplyCode x).sum + bnat s.pwr.powerGood * 128
/-- `TA_UL_EQ` at a deckle boundary. -/
def tapDeckle (s : State) : State :=
  { s with tap := { s.tap with ulEq := ((List.range 4).filter fun u => decide (reg s A_TA_UL_EQ u ≠ 0x46)).map fun u =>
      (u, reg s A_TA_UL_EQ u) } }

/-! ## Pins -/

/-- TEST_OUT (Table 17.13); none is high impedance. -/
def testOut (s : State) : Option Bool :=
  if !powered s || s.modes.cur = .held then none
  else
    let v := reg s A_TA_TEST_OUT 0
    let i := bits v 15 8
    match bits v 4 0 with
    | 1 => some false
    | 2 => some true
    | 3 => some (decide (s.tb.beat.toNat % 8 < 4))
    | 4 => some (atBoundary s)
    | 5 => some (decide (s.tb.beat.toNat % 40960000 < 409600))
    | 6 => some (chan s i).active
    | 7 => some (stookRuns s i)
    | 8 => some (decide (s.clk.pll = 2))
    | 9 => some (if i = 0 then s.gran.wm0.asserted else s.gran.wm1.asserted)
    | _ => none
/-- Periods of domain 38 in one period of a FECLK output, by code (R400); 0 is off. -/
def feclkPeriod (code : Nat) : Nat := [8, 16, 4, 2].getD code 0
/-- FECLK output k in period e (0 to 7) of domain 38 of the beat in force (R400): high for the first half from each rising
edge. None: REFCLK passes through in HELD, or the pad is off (R401, R409). -/
def feclk (s : State) (k e : Nat) : Option Bool :=
  let v := reg s A_CK_FECLK k
  let p := feclkPeriod (bits v 2 0)
  if !powered s then none
  else if p = 0 then some false
  else if s.modes.cur = .held then none
  else some (decide ((s.tb.beat.toNat * 8 + e + p - bits v 15 8 % p) % p < p / 2))
/-- ERR_N is driven low (R366, R367). -/
def errN (s : State) : Bool := powered s && errNow s
/-- FLOW0_N and FLOW1_N are driven low (R207, R421). -/
def flowLow (s : State) (k : Nat) : Bool :=
  powered s && decide (s.modes.cur ≠ .held) && (if k = 0 then s.gran.flow0.low else s.gran.flow1.low)
/-- TG_OUT drives a word of this answer (R158, R421). -/
def tgOut (s : State) : Option (BitVec 16) := if powered s then some (tgOutNow s) else none

end Sys2Proof.Machine
end

