-- ==== Sys2Proof/Machine/Attrs.lean ====
section
/-!
DEFINITION. Attribute addressing (R10 to R13, R341, R342, R348, R466): the value of every attribute, GET, SET, GET_BLOCK,
TALLY_READ, and the status commands of the time base, the lanes and the Granary.
-/
namespace Sys2Proof.Machine

/-! ## Values of the attributes that are no plain register -/

/-- Blocks 0x0 (Tables 1.7 and 11.9). -/
def valueOf0 (s : State) (id inst : Nat) : Nat :=
  if id = A_ID_DEVICE then Config.deviceCode
  else if id = A_ID_REVISION then Config.revision
  else if id = A_ID_IDENTITY then s.cal.identity.toNat
  else if id = A_ID_ADDRESS then s.cal.address.toNat
  else if id = A_ID_STRAPS then s.pwr.straps.toNat
  else if id = A_MODE_CURRENT then modeByte s
  else if id = A_MODE_RETURN then (match s.modes.ret with | some m => modeCode m | none => 0)
  else if id = A_MODE_CAUSE then s.modes.cause.toNat
  else if id = A_MODE_ENTRY_DECKLE then s.modes.entryDeckle.toNat
  else if id = A_RECOVERY_COUNT then min 255 (recentRecoveries s)
  else if id = A_STARTUP_STATUS then startupStatus s
  else if id = A_CMD_OUTSTANDING then s.cmd.outst.length + s.cmd.outMax * 2 ^ 8
  else if id = A_CMD_LAST_BAD then (pget 0 s.cmd.lastBad inst).toNat
  else reg s id inst

/-- `CH_STATE` (Table 2.8). An input-path check that holds the channel shows as calibration: DESIGN CHOICE, log entry 16. -/
def chState (s : State) (c : Nat) : Nat :=
  let x := chan s c
  latchUsed s x + bnat x.masked * 2 ^ 5 + bnat (prescaleCode x ≠ 0) * 2 ^ 6 + prescaleCode x * 2 ^ 7 +
    bnat (fencedChannel s c) * 2 ^ 10 + bnat x.held * 2 ^ 11 + bnat (fused s c) * 2 ^ 12 +
    bnat (windowOpen x) * 2 ^ 13
/-- `CH_BACKOFF`. -/
def chBackoff (s : State) (c : Nat) : Nat := if (chan s c).masked then (chan s c).backoff else 0
def valueOf1 (s : State) (id inst : Nat) : Nat :=
  if id = A_CH_STATE then chState s inst
  else if id = A_CH_BACKOFF then chBackoff s inst
  else reg s id inst

/-- The port states of Table 3.3. -/
def portState (s : State) : Nat :=
  match s.tb.servo with
  | .idle => 3 | .listen => 4 | .acquire => 8 | .track => 9 | .faulty => 2
def tbStatus (s : State) : Nat :=
  s.tb.quality + servoCode s.tb.servo * 2 ^ 3 + refCode s.tb.ref * 2 ^ 6 + bnat s.tb.refclk * 2 ^ 8 +
    bnat s.tb.linkUp * 2 ^ 9
/-- `TB_OFFSET`: the last offset, and the mean of the last 32 Syncs in 1/16 fine tick. -/
def tbOffset (s : State) : Nat :=
  let n := s.tb.offsets.length
  let mean := if n = 0 then 0 else roundDiv (16 * s.tb.offsets.sum) n
  toField 32 s.tb.offset + toField 32 mean * 2 ^ 32
/-- Block 0x2 (Table 3.8). -/
def valueOf2 (s : State) (id inst : Nat) : Nat :=
  if id = A_TB_NOW then s.tb.beat.toNat
  else if id = A_TB_STATUS then tbStatus s
  else if id = A_TB_OFFSET then tbOffset s
  else if id = A_TB_FREQ_RATIO then toField 32 s.tb.freqRatio
  else if id = A_PTP_MASTER then (match s.tb.master with | some m => m.toNat | none => 0)
  else if id = A_PTP_STATUS then portState s
  else if id = A_PTP_PATH_DELAY then toField 32 (pathDelay s)
  else if id = A_PTP_LATENCY then s.cal.latency.toNat
  else if id = A_TDC_REPLICA then (stook s inst).prep
  else if id = A_TDC_CH_OFFSET then toField 16 (calValue s 8 inst 0) + toField 16 (calValue s 6 inst 0) * 2 ^ 16
  else if id = A_TDC_VERNIER_MAP then vernierMap s inst
  else reg s id inst

/-- `WN_CORR` (Table 4.13): offset and gain of the channel's two cells in force. -/
def wnCorr (s : State) (c : Nat) : Nat :=
  toField 16 (calValue s 0 c 0) + toField 16 (cellGain s c c 0) * 2 ^ 16 + toField 16 (calValue s 0 c 1) * 2 ^ 32 +
    toField 16 (cellGain s c c 1) * 2 ^ 48
def valueOf3 (s : State) (id inst : Nat) : Nat :=
  if id = A_WN_CORR then wnCorr s inst
  else if id = A_WN_BASELINE then toField 18 (chan s inst).base
  else if id = A_WN_SEQ then nextSeq s inst
  else reg s id inst

/-- Sheaves of a stook that stand PENDING in the Granary. -/
def pendingOf (s : State) (k : Nat) : Nat := (s.gran.units.filter fun u => u.src = k && u.st = .pending).length
/-- `TG_STATUS` (Table 5.11). -/
def tgStatus (s : State) : Nat := bnat s.thr.los + bnat s.thr.locked * 2 + bnat (vectorReplaced s) * 4
def valueOf4 (s : State) (id inst : Nat) : Nat :=
  if id = A_TH_WINDOWS then s.thr.store.length + s.thr.storeMax * 2 ^ 16
  else if id = A_TH_PENDING then pendingOf s inst
  else if id = A_TG_STATUS then tgStatus s
  else if id = A_TG_IN_PHASE then toField 6 s.thr.phase
  else reg s id inst

/-- `GR_WM_STATE` of a pair (Table 6.7). -/
def wmState (s : State) (p : Nat) : Nat :=
  let w := if p = 0 then s.gran.wm0 else s.gran.wm1
  w.st + bnat w.asserted * 4 + w.level * 2 ^ 4
def classOcc (s : State) (cls : Nat) : Nat :=
  classSlots s cls + flyingSlots (s.gran.units.filter fun u => u.cls = cls) * 2 ^ 22
def poolValue (s : State) : Nat := poolUsed s + s.gran.poolMax * 2 ^ 9 + s.gran.hold.length * 2 ^ 18
/-- The channels of the open GAP markers, the oldest in the last byte (R199). -/
def gapOpenValue (s : State) : Nat :=
  let cs := ((s.gran.units ++ s.gran.hold).filter GUnit.gapOpen).map fun u => match u.hit with | some h => h.1 | none => 255
  ofBytes ((((cs.take 16).map fun c => BitVec.ofNat 8 c) ++ List.replicate (16 - cs.length) 0xFF).reverse)
def scrubStatus (s : State) : Nat := s.gran.scrubNext + min s.gran.scrubPasses (2 ^ 24 - 1) * 2 ^ 24
def staging (s : State) (k : Nat) : Nat :=
  let x := stook s k
  fillEntries x + drainEntries x * 2 ^ 8 + bnat x.fillY * 2 ^ 16
def granaryOcc (s : State) : Nat := occupied s + s.gran.occMax * 2 ^ 22
/-- Block 0x5 (Table 6.7). -/
def valueOf5 (s : State) (id inst : Nat) : Nat :=
  if id = A_GR_WM_STATE then wmState s inst
  else if id = A_GR_CLASS_OCC then classOcc s inst
  else if id = A_GR_POOL then poolValue s
  else if id = A_GR_GAP_OPEN then gapOpenValue s
  else if id = A_GR_BANKS then s.gran.powered.toNat
  else if id = A_GR_SCRUB_STATUS then scrubStatus s
  else if id = A_GR_STAGING then staging s inst
  else if id = A_GRANARY_OCC then granaryOcc s
  else reg s id inst

/-- `LK_UL_STATUS`, `LK_QUIRE_STATE` and `MG_VARIANT` (Table 7.11). -/
def laneStatus (s : State) (u : Nat) : Nat :=
  let x := lane s u
  laneCode x.st + x.gen * 2 ^ 4 + x.negGen * 2 ^ 6 + x.fmt * 2 ^ 8 + x.rwg.toNat * 2 ^ 12 + x.ringLog2 * 2 ^ 14 +
    x.aggProto * 2 ^ 24
def quireState (s : State) (u : Nat) : Nat := (lane s u).cred.toNat + (lane s u).qnum.toNat * 2 ^ 32
def variantValue (s : State) : Nat := s.mg.variant.toNat + s.mg.variantDeckle.toNat * 2 ^ 4
def variantLoad (s : State) (v : Nat) : Nat :=
  ((List.range 4).map fun u => entriesNaming s.mg.sched v u * 2 ^ (13 * u)).sum
def valueOf6 (s : State) (id inst : Nat) : Nat :=
  if id = A_LK_UL_STATUS then laneStatus s inst
  else if id = A_LK_QUIRE_STATE then quireState s inst
  else if id = A_LK_AGG_PROTO_MIN then aggProtoMin s
  else if id = A_LK_DEV_PROTO then Config.devProto
  else if id = A_MG_VARIANT then variantValue s
  else if id = A_MG_VARIANT_LOAD then variantLoad s inst
  else reg s id inst

/-- The local input of a global one (Table 8.1). -/
def localInput (i : Nat) : Nat := if i < 192 then i % 24 else if i < 200 then 24 else 25 + i % 2
/-- `MON_STATE` (Table 8.9). -/
def monState (s : State) (k : Nat) : Nat :=
  let x := mc s k
  let own := if x.claimed then none else x.run
  let activity :=
    if s.modes.cur = .held then 4 else if convFenced s k then 3 else if x.claimed then 2
    else match own with
      | some c => if c.injected.isSome then 1 else 0
      | none => 5
  let at' := match own with | some c => localInput c.input + c.entry * 2 ^ 8 | none => 0
  at' + activity * 2 ^ 5 + x.inj.length * 2 ^ 16 + bnat x.aborted.isSome * 2 ^ 19
def valueOf7 (s : State) (id inst : Nat) : Nat :=
  if id = A_MON_RESULT then monValue (monRec s inst) false
  else if id = A_MON_STATE then monState s inst
  else if id = A_TD_STATE then tdState s inst
  else if id = A_IPC_RESULT then (pget 0xF s.mon.ipcRes inst).toNat
  else reg s id inst

/-- Block 0x8 (Table 9.9). -/
def valueOf8 (s : State) (id inst : Nat) : Nat :=
  if id = A_CAL_RUN_STATUS then calRunStatus s
  else if id = A_CAL_CH_RESULT then (pget 0 s.cal.chRes inst).toNat
  else if id = A_CAL_QUALITY then calQuality s inst
  else if id = A_CAL_TEMP then s.cal.temp.toNat
  else if id = A_SEED_STATUS then seedStatus s
  else if id = A_SEED_COMMITS then (if inst = 0 then (commitCounts s).1 else (commitCounts s).2)
  else if id = A_CAL_SLEWING then calSlewing s inst
  else reg s id inst

/-- Block 0x9 (Table 10.9). `MD_KEY` reads as 0 (R10). -/
def valueOf9 (s : State) (id inst : Nat) : Nat :=
  if id = A_MD_ACTIVE then mdActive s
  else if id = A_MD_DIGEST then mdDigest s inst
  else if id = A_MD_STAGE then mdStage s
  else if id = A_MD_CHECK_RESULT then s.md.check.toNat
  else if id = A_MD_COUCH_STATE then mdCouchState s
  else if id = A_MD_COUCH_TIME then mdCouchTime s
  else if id = A_MD_MICROCODE then mdMicrocode s inst
  else if id = A_MD_MICROCODE_RANGE then Config.mcLow + Config.mcHigh * 2 ^ 32
  else if id = A_MD_KEY then 0
  else if id = A_MD_KEY_STATE then mdKeyState s
  else reg s id inst

/-- A fault record as one number; 0 for none. -/
def recordValue (f : Option FaultRec) : Nat := match f with | some f => wordsValue (faultWords f) | none => 0
def fltFenced (s : State) : Nat :=
  s.flt.fencedStook.toNat + s.flt.fencedUl.toNat * 2 ^ 12 + s.flt.fencedConv.toNat * 2 ^ 16 +
    countBits 192 s.flt.fencedCh.toNat * 2 ^ 24 + bnat (policyExceeded s) * 2 ^ 32
def fltErrpin (s : State) : Nat :=
  bnat (errNow s) + bnat (!s.flt.errRel.isEmpty) * 2 + bnat (s.flt.errLow && s.flt.errUp + 4096 ≤ s.tb.up) * 4 +
    s.flt.errBeat.toNat * 2 ^ 8
def fltStatus (s : State) : Nat :=
  let src := match (running s).head? with | some x => x.src | none => 0
  s.flt.queue.length + bnat (!(running s).isEmpty) * 2 ^ 5 + src * 2 ^ 6
/-- Block 0xA (Table 12.6). -/
def valueOfA (s : State) (id inst : Nat) : Nat :=
  if id = A_FLT_WORD then s.flt.word.toNat
  else if id = A_FLT_FIRST then recordValue s.flt.first
  else if id = A_FLT_HISTORY then recordValue s.flt.hist[inst]?
  else if id = A_FLT_FENCED then fltFenced s
  else if id = A_FLT_CH_FENCED then s.flt.fencedCh.toNat / 2 ^ (16 * inst) % 2 ^ 16
  else if id = A_FLT_ERRPIN then fltErrpin s
  else if id = A_FLT_STATUS then fltStatus s
  else reg s id inst

/-- The hold-off of R386 runs: lockstep with a home Barn that is the standby has not lasted long enough. -/
def holdOff (s : State) : Bool :=
  let v := reg s A_BN_REVERT 0
  bitAt v 0 && decide (homeBarn s = standbyBarn s) && decide (s.barns.standby = .lockstep) &&
    decide (s.tb.dk < s.barns.lockSince + bits v 31 8)
def bnSelftest (s : State) (b : Nat) : Nat :=
  let x := if b = 0 then s.barns.a else s.barns.b
  bnat x.passed + bnat x.stopped * 2 + min 255 x.fails * 2 ^ 8 + x.bits * 2 ^ 16
def bnResync (s : State) : Nat :=
  match s.barns.resync with
  | some x => x.phase + min 65535 (s.tb.dk - x.since) * 2 ^ 16
  | none => 0
/-- Block 0xB (Table 13.4). -/
def valueOfB (s : State) (id inst : Nat) : Nat :=
  if id = A_BN_STATUS then
    barnStatusWord s + bnat s.barns.takeover.isSome * 2 ^ 16 + bnat (holdOff s) * 2 ^ 17
  else if id = A_BN_SELFTEST then bnSelftest s inst
  else if id = A_BN_LAST_TAKEOVER then
    s.barns.lastDeckle.toNat + s.barns.lastDur * 2 ^ 48 + s.barns.lastKind * 2 ^ 52
  else if id = A_BN_RESYNC then bnResync s
  else reg s id inst

def valueOfC (s : State) (id inst : Nat) : Nat :=
  if id = A_CK_DOMAINS then ckDomains s
  else if id = A_CK_PLL_STATUS then ckPllStatus s
  else if id = A_CK_KEEPER then toField 16 s.clk.keeper
  else if id = A_CK_POWER_EST then s.clk.power + s.clk.powerMax * 2 ^ 16
  else reg s id inst
def valueOfD (s : State) (id inst : Nat) : Nat :=
  if id = A_NL_STATE then nlState s
  else if id = A_NL_RESULT then nlResultValue s inst
  else reg s id inst
def valueOfE (s : State) (id inst : Nat) : Nat :=
  if id = A_TA_IDCODE then taIdcode
  else if id = A_TA_SUPPLY then taSupply s
  else if id = A_TA_JTAG then s.tap.code.toNat
  else reg s id inst

/-- The value of an attribute that is no tally, at this beat (R10). -/
def valueOf (s : State) (id inst : Nat) : Nat :=
  match id / 4096 with
  | 0 => valueOf0 s id inst
  | 1 => valueOf1 s id inst
  | 2 => valueOf2 s id inst
  | 3 => valueOf3 s id inst
  | 4 => valueOf4 s id inst
  | 5 => valueOf5 s id inst
  | 6 => valueOf6 s id inst
  | 7 => valueOf7 s id inst
  | 8 => valueOf8 s id inst
  | 9 => valueOf9 s id inst
  | 10 => valueOfA s id inst
  | 11 => valueOfB s id inst
  | 12 => valueOfC s id inst
  | 13 => valueOfD s id inst
  | _ => valueOfE s id inst

/-! ## Reads -/

/-- The attribute that an address word names (R341): instance bit [8] belongs to `TH_ANSWER_TABLE` only. -/
def addressed (id inst : Nat) : Option Attr :=
  if 256 ≤ inst ∧ id ≠ A_TH_ANSWER_TABLE then none else attrFind id inst
/-- What a read returns: a tally's value before the events of the beat (R12), else the value in force. -/
def readValue (s : State) (a : Attr) (inst : Nat) : Nat :=
  if a.access = .rc then tallyRead s a.id inst else valueOf s a.id inst
/-- The fields with the largest value since the last read start anew from the present level (R466). -/
def restartMax (s : State) (id : Nat) : State :=
  if id = A_CMD_OUTSTANDING then { s with cmd := { s.cmd with outMax := s.cmd.outst.length } }
  else if id = A_TH_WINDOWS then { s with thr := { s.thr with storeMax := s.thr.store.length } }
  else if id = A_GR_POOL then { s with gran := { s.gran with poolMax := poolUsed s } }
  else if id = A_GRANARY_OCC then { s with gran := { s.gran with occMax := occupied s } }
  else if id = A_CK_POWER_EST then { s with clk := { s.clk with powerMax := s.clk.power } }
  else s
/-- What a GET or GET_BLOCK leaves behind. -/
def afterRead (s : State) (a : Attr) (inst : Nat) : State :=
  if a.access = .rc then clearTally s a.id inst else restartMax s a.id
/-- The words of n instances from the first on (R342). -/
def blockWords (s : State) (a : Attr) (first n : Nat) : List PWord :=
  (List.range n).flatMap fun j => valueWords (wordCount a.width) (readValue s a (first + j))

/-- GET (R342). -/
def execGet (r : Req) (id : BitVec 16) (inst : BitVec 9) (s : State) : Res :=
  granger s r (.get r id inst) 0x10 fun s =>
    match addressed id.toNat inst.toNat with
    | none => replyBad s r 0x10 0
    | some a => reply (afterRead s a inst.toNat) r 0x10 0 a.width (blockWords s a inst.toNat 1)
/-- COUNT instances are there, and their values fit a reply (Table 11.8). -/
def blockFits (a : Attr) (first n : Nat) : Bool :=
  decide (1 ≤ n) && decide (n * wordCount a.width ≤ 268) &&
    (List.range n).all fun j => (addressed a.id (first + j)).isSome
/-- A read of COUNT instances at one beat. -/
def readBlock (s : State) (r : Req) (op : Nat) (id inst count : Nat) (rcOnly : Bool) (after : State → Attr → Nat → State) :
    State :=
  match addressed id inst with
  | none => replyBad s r op 0
  | some a =>
    if rcOnly && a.access ≠ .rc then replyBad s r op 0
    else if !blockFits a inst count then replyBad s r op 1
    else reply (forNat count (fun j s => after s a (inst + j)) s) r op 0 a.width (blockWords s a inst count)
/-- GET_BLOCK. -/
def execGetBlock (r : Req) (id : BitVec 16) (inst count : BitVec 9) (s : State) : Res :=
  granger s r (.getBlock r id inst count) 0x12 fun s =>
    readBlock s r 0x12 id.toNat inst.toNat count.toNat false afterRead
/-- TALLY_READ (R348): RC attributes, cleared under R12. -/
def execTallyRead (r : Req) (id : BitVec 16) (inst count : BitVec 9) (s : State) : Res :=
  granger s r (.tallyRead r id inst count) 0x73 fun s =>
    readBlock s r 0x73 id.toNat inst.toNat count.toNat true afterRead
/-- TALLY_PEEK (R348): TALLY_READ with PEEK set clears nothing. -/
def execTallyPeek (r : Req) (id : BitVec 16) (inst count : BitVec 9) (s : State) : Res :=
  granger s r (.tallyPeek r id inst count) 0x73 fun s =>
    readBlock s r 0x73 id.toNat inst.toNat count.toNat true fun s _ _ => s

/-- TIME_STATUS (Table 11.8). -/
def execTimeStatus (r : Req) (s : State) : Res :=
  granger s r (.timeStatus r) 0x70 fun s =>
    replyOk s r 0x70 (valueWords 2 s.tb.beat.toNat ++ valueWords 1 (tbStatus s) ++ valueWords 2 (tbOffset s) ++
      valueWords 1 (portState s * 2 ^ 8 + reg s A_TB_SOURCE 0))
/-- LANE_STATUS. -/
def execLaneStatus (r : Req) (u : BitVec 2) (s : State) : Res :=
  granger s r (.laneStatus r u) 0x71 fun s =>
    replyOk s r 0x71 (valueWords 1 (laneStatus s u.toNat) ++ valueWords 2 (quireState s u.toNat) ++
      valueWords 2 (variantValue s))
/-- GRANARY_STATUS. -/
def execGranaryStatus (r : Req) (s : State) : Res :=
  granger s r (.granaryStatus r) 0x72 fun s =>
    replyOk s r 0x72 (valueWords 2 (granaryOcc s) ++ valueWords 1 (wmState s 0) ++ valueWords 1 (wmState s 1) ++
      valueWords 1 (poolValue s) ++ (List.range 4).flatMap fun c => valueWords 2 (classOcc s c))
/-- SCRUB_STATUS: the errors are read without clearing. -/
def execScrubStatus (r : Req) (s : State) : Res :=
  granger s r (.scrubStatus r) 0x74 fun s =>
    replyOk s r 0x74 (valueWords 2 (scrubStatus s) ++ valueWords 1 (tallyRead s A_GR_SCRUB_ERRORS 0))

/-! ## SET (R11, R13, R316, R338) -/

/-- The first parameter word, from 1 on, in which a value of n words breaks its attribute's definition. -/
def badValueWord (a : Attr) (inst n v : Nat) : Option Nat :=
  if reservedSet a v then some (n - Nat.log2 (v - (v &&& a.mask)) / 32)
  else if badEncoding a.id inst v || outOfRange a.id v then some n
  else if a.id = A_LK_UL_CONFIG && bits v 5 4 < bits v 3 2 then some n
  else if a.id = A_TB_SYNC_PRESET && v % 1024 ≠ 0 then some n
  else none
/-- What a new working value does beside standing in its register. -/
def setEffect (s : State) (id inst old : Nat) : State :=
  if id = A_CH_CONFIG then refreshChannel (refreshChannel s inst) (partner inst)
  else if id = A_TB_SOURCE ∨ id = A_TB_SYNC_CTRL ∨ id = A_PTP_CTRL then refreshTiming s
  else if id = A_TB_EPOCH then
    let e := reg s A_TB_EPOCH 0
    { s with tb := { s.tb with epochNext := if e = s.tb.epoch then none else some e } }
  else if id = A_WN_CONFIG then (if bitAt old 9 && !bitAt (reg s A_WN_CONFIG inst) 9 then closeGap s inst else s)
  else if id = A_LK_UL_CONFIG then
    (if bits old 11 0 ≠ bits (reg s A_LK_UL_CONFIG inst) 11 0 then replanLane s inst else s)
  else if id = A_MON_SCAN_LIST then kickConverter s (inst / 32)
  else if id = A_MON_CH_CTRL then clearTarget s inst
  else s
/-- A SET whose address and value are in order, of an RW attribute in a mode that accepts it. -/
def setRw (s : State) (r : Req) (a : Attr) (inst v : Nat) : State :=
  let old := reg s a.id inst
  let s := if mouldable a then writeMoulded s a inst v else setReg s a.id inst v
  let s := setEffect s a.id inst old
  reply s r 0x11 0 a.width (valueWords (wordCount a.width) (reg s a.id inst))
/-- A SET whose address and value are in order (R11). -/
def setAttr (s : State) (r : Req) (a : Attr) (inst v : Nat) : State :=
  match a.access with
  | .rw | .wo =>
    if !settable a.id s.modes.cur then replyNotInMode s r 0x11
    else if a.id = A_MD_KEY then keyWrite s r inst (BitVec.ofNat 64 v)
    else if a.id = A_MD_KEY_STATE then
      (if bitAt v 3 then keyLock s r (bitAt v 2) else keyRequire s r (bitAt v 2))
    else setRw s r a inst v
  | .w1c =>
    let s := clearWord s (BitVec.ofNat 64 v)
    reply s r 0x11 0 a.width (valueWords 2 s.flt.word.toNat)
  | _ => replyDenied s r 0x11
/-- SET. -/
def execSet (r : Req) (id : BitVec 16) (inst : BitVec 9) (value : List PWord) (s : State) : Res :=
  granger s r (.set r id inst value) 0x11 fun s =>
    match addressed id.toNat inst.toNat with
    | none => replyBad s r 0x11 0
    | some a =>
      let v := wordsValue value
      if value.length ≠ wordCount a.width then replyLength s r 0x11 (1 + value.length)
      else match badValueWord a inst.toNat value.length v with
        | some k => replyBad s r 0x11 k
        | none => setAttr s r a inst.toNat v

end Sys2Proof.Machine
end

