-- ==== Sys2Proof/Machine/Frames.lean ====
section
/-!
DEFINITION. The transports of command packets (R327 to R336, R240): COMMAND frames, SPI transactions, and the checks of
R329 that a packet meets at acceptance, ending in the command it spells.
-/
namespace Sys2Proof.Machine

/-! ## The packet's form (R329, Tables 11.7 and 11.8) -/

/-- The parameter words of a packet. -/
def packetWords (bs : List Byte) (n : Nat) : List PWord := toWords n (bs.drop 4)
def wordAt (ws : List PWord) (k : Nat) : Nat := (ws.getD k 0).toNat

/-- LENGTH is one that Table 11.8 allows (check 5). SET counts the words of the attribute it names, STAGE_MOULD those of the
byte count it gives. -/
def lengthOk (op n : Nat) (ws : List PWord) : Bool :=
  if op = 0x01 then decide (n ≤ 268)
  else if op = 0x03 then n = 1 || n = 3
  else if op = 0x11 then
    match addressed (wordAt ws 0 / 2 ^ 16) (wordAt ws 0 % 512) with
    | some a => n = 1 + wordCount a.width
    | none => decide (1 ≤ n)
  else if op = 0x12 ∨ op = 0x73 ∨ op = 0x40 ∨ op = 0x44 then n = 2
  else if op = 0x20 then
    let k := wordAt ws 1 % 2 ^ 11
    decide (2 ≤ n) && (k = 0 || k % 8 ≠ 0 || decide (1024 < k) || n = 2 + k / 4)
  else if op = 0x21 then decide (1 ≤ n) && decide (n ≤ 268)
  else if op = 0x23 then n = 1 || n = 3 || n = 4
  else if [0x10, 0x30, 0x31, 0x32, 0x33, 0x50, 0x51, 0x52, 0x55, 0x71].contains op then n = 1
  else if op = 0x53 then n = 3
  else n = 0

/-- The reserved bits of the parameter words (Table 11.8). -/
def reservedBits (op : Nat) (ws : List PWord) : List Nat :=
  match op with
  | 0x03 => [0xFFFFFEF8, 0xFFFFC000]
  | 0x10 => [0xFE00]
  | 0x11 => [0xFE00]
  | 0x12 => [0xFE00, 0xFFFFFE00]
  | 0x20 => [0x7FF00000, 0xFFFFF800]
  | 0x21 => [0x7FFFFFFF]
  | 0x23 => [0xFFFFFFFC, if wordAt ws 0 % 4 = 1 then 0xFFFFC000 else 0xFFFF0000]
  | 0x30 => [0xFFFFFE00]
  | 0x31 => [0xFFFF0000]
  | 0x32 => [0xF000FC00]
  | 0x33 => [0xFFFFFF00]
  | 0x40 => [0xFFFF00FC, 0xFFFFF001]
  | 0x44 => [0xFFFE0000, 0xFFFFF800]
  | 0x50 => [0xFFFF00FC]
  | 0x51 => [0xFFFF00FC]
  | 0x52 => [0xFFFFFE00]
  | 0x53 => [0, 0, 0xFFFFFFFC]
  | 0x55 => [0xFFFF00F8]
  | 0x71 => [0xFFFFFFFC]
  | 0x73 => [0xFE00, 0x7FFFFE00]
  | _ => []
/-- The first word with a reserved bit set. -/
def reservedWord (ws : List PWord) : Nat → List Nat → Option Nat
  | _, [] => none
  | k, m :: rest => if k < ws.length && wordAt ws k &&& m ≠ 0 then some k else reservedWord ws (k + 1) rest
/-- The first word whose value no command row carries, or that lies before a word with a reserved bit: a reserved code, an
AT or form that does not match LENGTH, an unknown address, an offset. The rows check what else their parameters must meet. -/
def rangeWord (op n : Nat) (ws : List PWord) : Option Nat :=
  let w := wordAt ws 0
  if op = 0x03 then (if 6 ≤ w % 8 || bitAt w 8 ≠ (n = 3 : Bool) then some 0 else none)
  else if op = 0x12 ∨ op = 0x73 then
    match addressed (w / 2 ^ 16) (w % 512) with
    | none => some 0
    | some a => if op = 0x73 && a.access ≠ .rc then some 0 else none
  else if op = 0x20 then
    let k := wordAt ws 1 % 2 ^ 11
    if w % 8 ≠ 0 || 1048576 < w % 2 ^ 20 + k then some 0
    else if k = 0 || k % 8 ≠ 0 || 1024 < k then some 1 else none
  else if op = 0x21 then (if bitAt w 31 && n < 9 then some 0 else none)
  else if op = 0x23 then (if w % 4 = 3 || n ≠ [1, 3, 4].getD (w % 4) 0 then some 0 else none)
  else if op = 0x40 then (if w % 4 = 3 then some 0 else none)
  else none
def earlier (a b : Option Nat) : Option Nat :=
  match a, b with
  | some x, some y => some (min x y)
  | some x, none => some x
  | none, b => b

/-- A byte of `bs` from position k on is not 0: its position. -/
def firstNonZero : Nat → List Byte → Option Nat
  | _, [] => none
  | k, b :: rest => if b = 0 then firstNonZero (k + 1) rest else some k
/-- The edit records of STAGE_PATCH (R345), at byte `at'` of the parameter words; else the word at fault. -/
def editRecords : Nat → Nat → List Byte → Sum (List Edit) Nat
  | 0, at', bs => match firstNonZero at' bs with | some k => .inr (k / 4) | none => .inl []
  | fuel + 1, at', bs =>
    let n := ofBytes ((bs.drop 4).take 2)
    if bs.length < 6 || n = 0 then
      match (if bs.length < 6 then firstNonZero at' bs else firstNonZero (at' + 6) (bs.drop 6)) with
      | some k => .inr (k / 4)
      | none => .inl []
    else if bs.length < 6 + n then .inr (at' / 4)
    else
      match editRecords fuel (at' + 6 + n) (bs.drop (6 + n)) with
      | .inl es => .inl ({ offset := ofBytes (bs.take 4), bytes := (bs.drop 6).take n } :: es)
      | .inr k => .inr k

/-- STAGE_PATCH (Table 11.8). -/
def patchOf (r : Req) (ws : List PWord) : Sum Instr Nat :=
  let first := bitAt (wordAt ws 0) 31
  let skip := if first then 36 else 4
  let bs := wordsBytes ws
  match editRecords 300 skip (bs.drop skip) with
  | .inr k => .inr k
  | .inl es => .inl (if first then .stagePatchFirst r ((bs.drop 4).take 32) es else .stagePatch r es)
/-- MODE_REQUEST. -/
def modeRequestOf (r : Req) (n : Nat) (ws : List PWord) : Instr :=
  .modeRequest r (BitVec.ofNat 3 (wordAt ws 0))
    (if n = 3 then some (BitVec.ofNat 46 (wordAt ws 1 * 2 ^ 32 + wordAt ws 2)) else none)
/-- STAGE_MOULD. -/
def stageOf (r : Req) (ws : List PWord) : Instr :=
  let w := wordAt ws 0
  let bs := (wordsBytes (ws.drop 2)).take (wordAt ws 1 % 2 ^ 11)
  if bitAt w 31 then .stageMouldFirst r (BitVec.ofNat 20 w) bs else .stageMould r (BitVec.ofNat 20 w) bs
/-- COUCH. -/
def couchOf (r : Req) (ws : List PWord) : Instr :=
  match wordAt ws 0 % 4 with
  | 0 => .couchImmediate r
  | 1 => .couchAtDeckle r (BitVec.ofNat 46 (wordAt ws 1 * 2 ^ 32 + wordAt ws 2))
  | _ => .couchAtPtpTime r (BitVec.ofNat 48 (wordAt ws 1 * 2 ^ 32 + wordAt ws 2)) (BitVec.ofNat 32 (wordAt ws 3))
/-- TEST_DAC. -/
def testDacOf (r : Req) (w : Nat) : Instr :=
  if bitAt w 9 then
    .testDacConnect r (BitVec.ofNat 4 w) (BitVec.ofNat 4 (bits w 7 4)) (bitAt w 8) (BitVec.ofNat 12 (bits w 27 16))
  else .testDacRelease r (BitVec.ofNat 4 w)
/-- CAL_START. -/
def calStartOf (r : Req) (ws : List PWord) : Instr :=
  let w := wordAt ws 0
  let mask := BitVec.ofNat 12 (wordAt ws 1)
  match w % 4 with
  | 0 => .calStartForeground r mask
  | 1 => .calStartGleanChannel r (BitVec.ofNat 8 (bits w 15 8)) mask
  | _ => .calStartGleanSweep r mask
/-- FAULT_CLEAR. -/
def faultClearOf (r : Req) (ws : List PWord) : Instr :=
  let mask := BitVec.ofNat 64 (wordAt ws 0 * 2 ^ 32 + wordAt ws 1)
  let v := wordAt ws 2
  if bitAt v 0 then .faultClearFirst r mask (bitAt v 1)
  else if bitAt v 1 then .faultClearHistory r mask else .faultClear r mask
/-- TALLY_READ, with or without PEEK. -/
def tallyOf (r : Req) (ws : List PWord) : Instr :=
  let w := wordAt ws 0
  let id := BitVec.ofNat 16 (w / 2 ^ 16)
  if bitAt (wordAt ws 1) 31 then .tallyPeek r id (BitVec.ofNat 9 w) (BitVec.ofNat 9 (wordAt ws 1))
  else .tallyRead r id (BitVec.ofNat 9 w) (BitVec.ofNat 9 (wordAt ws 1))
/-- The commands of one parameter word or none. -/
def shortCommand (r : Req) (op w : Nat) : Instr :=
  let low := BitVec.ofNat 8 w
  let index := BitVec.ofNat 8 (bits w 15 8)
  match op with
  | 0x02 => .identify r
  | 0x10 => .get r (BitVec.ofNat 16 (w / 2 ^ 16)) (BitVec.ofNat 9 w)
  | 0x22 => .checkStaged r
  | 0x24 => .discardStaged r
  | 0x25 => .mouldInfo r
  | 0x30 => .injectConversion r low (bitAt w 8)
  | 0x31 => .readMonitor r low index
  | 0x32 => testDacOf r w
  | 0x33 => .inputPathCheck r low
  | 0x41 => .calAbort r
  | 0x42 => .calStatus r
  | 0x43 => .calCommit r
  | 0x50 => .fence r (BitVec.ofNat 2 w) index
  | 0x51 => .unfence r (BitVec.ofNat 2 w) index
  | 0x52 => .faultRead r (BitVec.ofNat 4 w) (BitVec.ofNat 5 (bits w 8 4))
  | 0x54 => .errpinRelease r
  | 0x55 => .resetBlock r (BitVec.ofNat 3 w) index
  | 0x60 => .barnStatus r
  | 0x61 => .barnSwitch r
  | 0x62 => .barnResync r
  | 0x70 => .timeStatus r
  | 0x71 => .laneStatus r (BitVec.ofNat 2 w)
  | 0x72 => .granaryStatus r
  | 0x74 => .scrubStatus r
  | 0x7E => .legacyEnter r
  | 0x7F => .legacyLeave r
  | _ => .nop r
/-- The command that a packet spells (Table 11.8); else the first faulty parameter word. -/
def commandOf (r : Req) (op n : Nat) (ws : List PWord) : Sum Instr Nat :=
  let w := wordAt ws 0
  match op with
  | 0x01 => .inl (.echo r ws)
  | 0x03 => .inl (modeRequestOf r n ws)
  | 0x11 => .inl (.set r (BitVec.ofNat 16 (w / 2 ^ 16)) (BitVec.ofNat 9 w) (ws.drop 1))
  | 0x12 => .inl (.getBlock r (BitVec.ofNat 16 (w / 2 ^ 16)) (BitVec.ofNat 9 w) (BitVec.ofNat 9 (wordAt ws 1)))
  | 0x20 => .inl (stageOf r ws)
  | 0x21 => patchOf r ws
  | 0x23 => .inl (couchOf r ws)
  | 0x40 => .inl (calStartOf r ws)
  | 0x44 => .inl (.seedRead r (BitVec.ofNat 1 (bits w 16 16)) (BitVec.ofNat 16 w) (BitVec.ofNat 11 (wordAt ws 1)))
  | 0x53 => .inl (faultClearOf r ws)
  | 0x73 => .inl (tallyOf r ws)
  | _ => .inl (shortCommand r op w)

/-- The header word as received, 0 for bytes that did not arrive (R329). -/
def headerWord (bs : List Byte) : Nat := ofBytes ((bs ++ [0, 0, 0, 0]).take 4)
/-- The checks of R329 in their order, in the mode in force: a status with its DETAIL, or the command. `size` is the byte
count that the transport gives for the packet; a count that its bytes do not have fails check 1 too. -/
def checkPacket (s : State) (p : Port) (size : Nat) (bs : List Byte) : Sum Instr (Nat × Nat) :=
  let h := headerWord bs
  let n := bits h 15 7
  let op := bits h 31 24
  if size < 8 || 269 < n || size ≠ 8 + 4 * n || size ≠ bs.length then .inr (4, size % 65536)
  else
    let crc := crc16 (bs.take (size - 4))
    let ws := packetWords bs n
    if ofBytes (bs.drop (size - 2)) ≠ crc then .inr (5, crc)
    else if !knownOpcode op then .inr (3, 0)
    else if h % 128 ≠ 0 then .inr (6, 0xFF)
    else if !lengthOk op n ws then .inr (4, size)
    else if !opcodeAllowed op s.modes.cur then .inr (7, modeByte s)
    else match earlier (reservedWord ws 0 (reservedBits op ws)) (rangeWord op n ws) with
      | some k => .inr (6, k)
      | none =>
        match commandOf { port := p, tag := BitVec.ofNat 8 (bits h 23 16) } op n ws with
        | .inl i => .inl i
        | .inr k => .inr (6, k)

/-! ## Acceptance (R330, R332, R336) -/

/-- `CMD_PORT_ERRORS` and `CMD_LAST_BAD` (Table 11.9). -/
def noteBad (s : State) (p : Port) (status h : Nat) : State :=
  let keep (s : State) : State :=
    { s with cmd := { s.cmd with lastBad := pset 0 s.cmd.lastBad (portCode p) (BitVec.ofNat 32 h) } }
  if status = 4 then keep (count s A_CMD_PORT_ERRORS (portCode p) 15 0 1)
  else if status = 5 then keep (count s A_CMD_PORT_ERRORS (portCode p) 31 16 1)
  else s
/-- A packet that a transport has delivered meets the checks and waits for the Granger. A packet that fails one is replied at
once, or, while the Grangers stand still, when they resume (R377). -/
def receivePacket (s : State) (p : Port) (size : Nat) (bs : List Byte) : State :=
  let h := headerWord bs
  let r : Req := { port := p, tag := BitVec.ofNat 8 (bits h 23 16) }
  match checkPacket s p size bs with
  | .inl i => enqueuePacket s p (.command i)
  | .inr (status, detail) =>
    let s := noteBad s p status h
    if grangersStopped s then enqueuePacket s p (.failed r (bits h 31 24) status detail)
    else reply s r (bits h 31 24) status detail []
def queued (s : State) (p : Port) : Nat := (s.cmd.inq.filter fun e => e.2.1 = p).length
/-- A packet arrives in a COMMAND frame (R332). -/
def downlanePacket (s : State) (p : Port) (size : Nat) (bs : List Byte) : State :=
  let s := count s A_CMD_PORT_COUNT (portCode p) 31 0 1
  if queued s p < 8 then receivePacket s p size bs
  else
    let h := headerWord bs
    reply (count s A_CMD_PORT_ERRORS (portCode p) 47 32 1) { port := p, tag := BitVec.ofNat 8 (bits h 23 16) }
      (bits h 31 24) 1 0xFF []
/-- What a sound COMMAND frame delivers (R240): FTYPE 0x43, a reserved byte, the packet's byte count, the packet. Its CRC-32
alone decides whether the packet is received (R330); the byte count, of whatever value, is the one that check 1 of R329
meets (bytes that did not arrive read 0). -/
def framePacket (bs : List Byte) : Option (Nat × List Byte) :=
  match frameBody bs with
  | some b =>
    if (b.headD 0).toNat = 0x43 then some (ofBytes ((b ++ [0, 0, 0, 0]).drop 2 |>.take 2), b.drop 4) else none
  | none => none
/-- COMMAND_FRAME (R240, R332). -/
def execCommandFrame (d : DlId) (bytes : List Byte) (s : State) : Res :=
  atPads s (if !dlReceives s d.val then s
    else match framePacket bytes with
      | none => dlDiscard s d.val
      | some (size, packet) =>
        downlanePacket (count s A_LK_CTRL_COUNT d.val 31 0 1) (if d.val = 0 then .dl0 else .dl1) size packet)

/-! ## SPI (R333 to R335) -/

/-- A WRITE of these bytes after its first byte. -/
def spiWriteBytes (s : State) (bytes : List Byte) : State :=
  let s' := spiOut s (spiStatusByte s :: List.replicate bytes.length 0)
  if spiCanWrite s then
    let s' := count s' A_CMD_PORT_COUNT 2 31 0 1
    receivePacket { s' with cmd := { s'.cmd with spiOpen := s'.cmd.spiOpen + 1, refused := false } } .spi bytes.length bytes
  else spiError { s' with cmd := { s'.cmd with refused := true } }
/-- SPI_WRITE (R334). -/
def execSpiWrite (bytes : List Byte) (s : State) : Res :=
  spiTransaction s (bytes.length + 1) fun s => spiWriteBytes s bytes
/-- The oldest reply or outcome message leaves the queue; one that answers a packet frees its place (R334, R335). -/
def popReply (s : State) : State :=
  match s.cmd.spiQ with
  | [] => { s with cmd := { s.cmd with spiEv := s.cmd.spiEv.drop 1 } }
  | m :: rest =>
    let s := count s A_CMD_PORT_COUNT 2 63 32 1
    { s with cmd := { s.cmd with spiQ := rest, spiOpen := if m.reply then s.cmd.spiOpen - 1 else s.cmd.spiOpen } }
/-- The message that a READ returns: its bytes, none when nothing is queued. -/
def spiOldest (s : State) : List Byte :=
  match s.cmd.spiQ, s.cmd.spiEv with
  | m :: _, _ => msgBytes m
  | [], m :: _ => msgBytes m
  | [], [] => []
/-- A READ that clocks this many bytes after its first byte. -/
def spiReadBytes (s : State) (clocked : Nat) : State :=
  let bs := spiOldest s
  let out := (toBytes 2 bs.length ++ bs ++ List.replicate clocked 0).take clocked
  let s' := spiOut s (spiStatusByte s :: out)
  if !bs.isEmpty && 2 + bs.length ≤ clocked then popReply s' else s'
/-- SPI_READ (R335). -/
def execSpiRead (clocked : Nat) (s : State) : Res :=
  spiTransaction s (clocked + 1) fun s => spiReadBytes s clocked
/-- SPI_STATUS. -/
def execSpiStatus (s : State) : Res := spiTransaction s 1 fun s => spiOut s [spiStatusByte s]
/-- SPI_UNKNOWN_TRANSACTION; a first byte of Table 11.4 with nothing after it is that transaction. In the register personality
a first byte with READ set reads the register that it names, in 24 bits (R436): DESIGN CHOICE, log entry 53. -/
def execSpiUnknownTransaction (first : Byte) (s : State) : Res :=
  if powered s && s.nl.personality && first.getLsbD 7 then atPads s (nlRead s (first.toNat % 128))
  else spiTransaction s 1 fun s =>
    if first = 0xA1 then spiWriteBytes s []
    else if first = 0xA2 then spiReadBytes s 0
    else if first = 0xA3 then spiOut s [spiStatusByte s]
    else spiUnknown s 1

end Sys2Proof.Machine
end

