-- ==== Sys2Proof/Machine/Granger.lean ====
section
/-!
DEFINITION. The Granger at work (R18, R336): each beat it takes the packets that wait, in their order, and runs them.
-/
namespace Sys2Proof.Machine

/-- The meaning of a packet's command. -/
def runPacket (i : Instr) (s : State) : Res :=
  match i with
  | .nop r => execNop r s
  | .echo r ws => execEcho r ws s
  | .identify r => execIdentify r s
  | .modeRequest r t d => execModeRequest r t d s
  | .get r id n => execGet r id n s
  | .set r id n v => execSet r id n v s
  | .getBlock r id n k => execGetBlock r id n k s
  | .tallyRead r id n k => execTallyRead r id n k s
  | .tallyPeek r id n k => execTallyPeek r id n k s
  | .stageMould r o bs => execStageMould r o bs s
  | .stageMouldFirst r o bs => execStageMouldFirst r o bs s
  | .stagePatch r es => execStagePatch r es s
  | .stagePatchFirst r d es => execStagePatchFirst r d es s
  | .checkStaged r => execCheckStaged r s
  | .couchImmediate r => execCouchImmediate r s
  | .couchAtDeckle r d => execCouchAtDeckle r d s
  | .couchAtPtpTime r t ns => execCouchAtPtpTime r t ns s
  | .discardStaged r => execDiscardStaged r s
  | .mouldInfo r => execMouldInfo r s
  | .injectConversion r i five => execInjectConversion r i five s
  | .readMonitor r a n => execReadMonitor r a n s
  | .testDacConnect r k c low v => execTestDacConnect r k c low v s
  | .testDacRelease r k => execTestDacRelease r k s
  | .inputPathCheck r c => execInputPathCheck r c s
  | .calStartForeground r m => execCalStartForeground r m s
  | .calStartGleanChannel r c m => execCalStartGleanChannel r c m s
  | .calStartGleanSweep r m => execCalStartGleanSweep r m s
  | .calAbort r => execCalAbort r s
  | .calStatus r => execCalStatus r s
  | .calCommit r => execCalCommit r s
  | .seedRead r k o n => execSeedRead r k o n s
  | .fence r k n => execFence r k n s
  | .unfence r k n => execUnfence r k n s
  | .faultRead r a n => execFaultRead r a n s
  | .faultClear r m => execFaultClear r m s
  | .faultClearFirst r m h => execFaultClearFirst r m h s
  | .faultClearHistory r m => execFaultClearHistory r m s
  | .errpinRelease r => execErrpinRelease r s
  | .resetBlock r t n => execResetBlock r t n s
  | .barnStatus r => execBarnStatus r s
  | .barnSwitch r => execBarnSwitch r s
  | .barnResync r => execBarnResync r s
  | .timeStatus r => execTimeStatus r s
  | .laneStatus r u => execLaneStatus r u s
  | .granaryStatus r => execGranaryStatus r s
  | .scrubStatus r => execScrubStatus r s
  | .legacyEnter r => execLegacyEnter r s
  | .legacyLeave r => execLegacyLeave r s
  | .mdKeyWrite r n v => execMdKeyWrite r n v s
  | .keyLock r b => execKeyLock r b s
  | .keyRequire r b => execKeyRequire r b s
  | _ => .next s

/-- A packet is served: its command, or the reply of the check that it failed. -/
def servePacket (p : Packet) (s : State) : Res :=
  match p with
  | .command i => runPacket i s
  | .failed r op status detail => .next (reply s r op status detail [])
/-- The Granger waits: it stands still, its answers could not reach the pads, or a couch beat comes first (R338). -/
def grangerWaits (s : State) : Bool := grangersStopped s || !padsFree s || couchFirst s
/-- The packets that wait, taken in turn. -/
def takePackets : Nat → State → State
  | 0, s => s
  | n + 1, s =>
    match s.cmd.inq with
    | [] => s
    | e :: rest =>
      if grangerWaits s then s
      else match servePacket e.2.2 { s with cmd := { s.cmd with inq := rest } } with
        | .next s' => takePackets n s'
        | _ => s
/-- The Granger's part of a beat. -/
def grangerBeat (s : State) : State := takePackets s.cmd.inq.length s

end Sys2Proof.Machine
end

