-- ==== Sys2Proof/Machine/Boundary.lean ====
section
/-!
DEFINITION. The passing of beats (R82), the deckle boundary (R31), and the steps of the time base (R83, R90 to R98).
-/
namespace Sys2Proof.Machine

/-! ## What one beat does -/

/-- The beat in force ends: its hit primitive enters the pipeline, and what was of this beat only is over. -/
def endBeat (s : State) : State :=
  let p := primOf s
  let s := granEnd (settleRequests (slewBeat s))
  let next (e : Nat × Channel) : Nat × Channel := (e.1, { e.2 with prevPrim := contributes s e.1, edgeNow := false })
  let s := { s with chs := s.chs.map next }
  clocksBeat (settleWord { s with
    thr := { s.thr with pipe := (p :: s.thr.pipe).take 4 }
    tb := { s.tb with flags := 0 } })
/-- The next beat edge: the count is `b`, and a read of a tally returns what it held before this beat (R12). -/
def setBeat (s : State) (b : Beat) : State :=
  { s with tb := { s.tb with beat := b, up := s.tb.up + 1, dk := if b.toNat % 1024 = 0 then s.tb.dk + 1 else s.tb.dk }
           flt := { s.flt with rose := 0, roseFirst := none }, talOld := s.tal, talNew := [] }
/-- What the blocks do at every beat edge. -/
def startBeat (s : State) : State :=
  let s := granEdge (refillQueues (applyReturns (haspBeat s)))
  let s := { s with thr := { s.thr with latchedPrev := s.thr.latched, latched := s.gran.wm0.st } }
  promoteAct (endTrap (sendInterrupts (errAgain s))) s.tb.up

/-! ## The deckle boundary -/

/-- The sampling instant of TG_IN follows the words: at most one step a deckle, by a free value, as is whether it lies clear of
the eye's edges. Without transitions there is no eye (R183). -/
def phaseDeckle (s : State) : State :=
  if s.thr.los || s.thr.undriven || !powered s then { s with thr := { s.thr with locked := false } }
  else
    let d : Int := ((Config.phaseMove s.free).val : Int) - 1
    { s with thr := { s.thr with phase := clampInt (-32) 31 (s.thr.phase + d), locked := Config.eyeClear s.free }
             free := s.free + 1 }
/-- Accepted replica periods come into force, and running stooks are measured (R111). -/
def replicasDeckle (s : State) (replica : List (StookId × BitVec 32)) : State :=
  let s := forNat 12 (fun k s => match (stook s k).prepNext with
    | some p => setStook s k { stook s k with prep := p, prepNext := none }
    | none => s) s
  replica.foldl (fun s r =>
    if (stook s r.1.val).clock && s.modes.cur ≠ .held && r.2 ≠ 0 then replicaMeasured s r.1.val r.2.toNat else s) s
/-- Code-group and block errors of the receivers (`LK_DL_ERRORS` [31:16]). -/
def errorsDeckle (s : State) (dlErrors : List (DlId × Nat)) : State :=
  dlErrors.foldl (fun s e => count s A_LK_DL_ERRORS e.1.val 31 16 e.2) s
/-- The per-deckle work of the blocks that serve the data, outside HELD. -/
def serviceDeckle (s : State) : State :=
  let s := lanesDeckle (granDeckle s)
  let s := slewDeckle (commitDeckle s)
  barnsDeckle (releaseFences (couchBoundary { s with mon := { s.mon with slewCount := s.mon.slewCount + 1 } }))
/-- The per-deckle work of every block at the boundary in force; `ended` is the deckle number before it. What has a row of
its own happens there. -/
def deckleWork (s : State) (ended : Deckle) (replica : List (StookId × BitVec 32)) (dlErrors : List (DlId × Nat)) :
    State :=
  let s := errorsDeckle (replicasDeckle (channelsDeckle s) replica) dlErrors
  let s := phaseDeckle (timeDeckle s)
  let s := if s.modes.cur = .held then s else serviceDeckle s
  tapDeckle (clocksDeckle (nlDeckle s ended))
/-- The next beat, with the boundary's work where one falls. -/
def nextBeat (s : State) (replica : List (StookId × BitVec 32)) (dlErrors : List (DlId × Nat)) : State :=
  let ended := deckle s
  let s := startBeat (setBeat (endBeat s) (s.tb.beat + 1))
  grangerBeat (if atBoundary s then deckleWork s ended replica dlErrors else s)
/-- n beats pass. -/
def passBeats : Nat → List (StookId × BitVec 32) → List (DlId × Nat) → State → State
  | 0, _, _, s => s
  | n + 1, replica, dlErrors, s => passBeats n replica dlErrors (nextBeat s replica dlErrors)
/-- The always-on domain counts beats (R84, R406). -/
def counting (s : State) : Bool := s.pwr.good.contains .vddAon && !s.pwr.aonLost
/-- DECKLE_BOUNDARY: the beats up to the next boundary pass. -/
def execDeckleBoundary (replica : List (StookId × BitVec 32)) (dlErrors : List (DlId × Nat)) (s : State) : Res :=
  .next (if counting s then passBeats (1024 - s.tb.beat.toNat % 1024) replica dlErrors s else s)
/-- One beat of a device that is given no command. -/
def tick (s : State) : State := if counting s then nextBeat s [] [] else s

/-! ## Steps (R83, R90 to R98) -/

/-- The edge in force is a step edge: it receives `count`, and the deckle in progress ends (R95, R98). -/
def takeStep (s : State) (count : Beat) : State :=
  let old := s.tb.beat
  let mid := old.toNat % 1024 ≠ 0
  let s := { s with tb := { s.tb with beat := count, set := true, dk := if mid then s.tb.dk + 1 else s.tb.dk } }
  let s := settleTime (stepRecord s (count - old))
  if mid then deckleWork s (deckleOf old) [] [] else couchBoundary s
/-- A SYNC load of `v` (R90); within the spacing of R98 it waits for a deckle boundary. -/
def loadCount (s : State) (v : Beat) : State :=
  if spacingOk s s.tb.up then takeStep { s with tb := { s.tb with confirmed := true, work := none } } v
  else { s with tb := { s.tb with work := some (.load v) } }
/-- ARM clears. -/
def disarm (s : State) : State := setReg s A_TB_SYNC_CTRL 0 (reg s A_TB_SYNC_CTRL 0 / 2 * 2)
/-- The check of R90 against the count that edge k + DELAY received. -/
def checkCount (s : State) (d : SyncDue) : State :=
  let want := match d.word with | some w => w.toNat | none => reg s A_TB_SYNC_PRESET 0
  let got := (s.tb.beat - BitVec.ofNat 56 (s.tb.up - d.due)).toNat
  let own := timingGen s ≠ 2
  if want % 1024 = got % 1024 then
    settleTime { count s A_TB_SYNC_TALLY 0 15 0 1 with tb := { s.tb with confirmed := s.tb.confirmed || own } }
  else
    let s := { s with tb := { s.tb with confirmed := s.tb.confirmed && !own } }
    settleTime (raise (syncMismatch s) 28 0 0)
/-- SYNC_LOAD_OR_CHECK (R90 to R94, R97). -/
def execSyncLoadOrCheck (s : State) : Res :=
  .next (match s.tb.sync with
    | [] => s
    | d :: rest =>
      if s.tb.up < d.due then s
      else
        let s := { s with tb := { s.tb with sync := rest } }
        if bitAt (reg s A_TB_SYNC_CTRL 0) 0 && timingGen s ≠ 2 then
          let v := match d.word with | some w => w | none => BitVec.ofNat 56 (reg s A_TB_SYNC_PRESET 0)
          if stepAllowed s then loadCount (disarm s) v else raise (syncMismatch (disarm s)) 28 0 1
        else checkCount s d)
/-- TIME_STEP (R95, R98): a servo step at the first edge whose corrected count is a multiple of 1 024, or a load that waited
for its boundary. -/
def execTimeStep (s : State) : Res :=
  .next (match s.tb.work with
    | some (.load v) => if spacingOk s s.tb.up && atBoundary s then loadCount s v else s
    | some (.servo n fine) =>
      let b := s.tb.beat + BitVec.ofInt 56 n
      if spacingOk s s.tb.up && b.toNat % 1024 = 0 then
        takeStep { s with tb := { s.tb with work := none, phase := s.tb.phase + fine } } b
      else s
    | none => s)
/-- EPOCH_CHANGE (R83): at a deckle boundary, outside HELD. -/
def execEpochChange (s : State) : Res :=
  .next (match s.tb.epochNext with
    | some e => if atBoundary s && s.modes.cur ≠ .held then setEpoch s e else s
    | none => s)

end Sys2Proof.Machine
end

