-- ==== Sys2Proof/Machine/Writes.lean ====
section
/-!
DEFINITION. The writes of the Granary as rows (step 4 of R192): the draining banks, the direct writers and the P0 hold. The
requests of DRAINING lanes, step 3 of the same beat, come before them.
-/
namespace Sys2Proof.Machine

/-- A write of this beat, after its requests; none in HELD. -/
def writeRow (s : State) (f : State → State) : Res := .next (if s.modes.cur = .held then s else f (settleRequests s))
/-- GRANARY_WRITE (R197): the next sheaf of the direct writers obtains its slots or is dropped. -/
def execGranaryWrite (s : State) : Res := writeRow s fun s => directWrite s (nextDirect (holdFull s))
/-- P0_HOLD_WRITE (R201): the held P0 units are written as slots come free. -/
def execP0HoldWrite (s : State) : Res := writeRow s (flushHold 64)
/-- DEFERRED_P0_WRITE (R201): a writer of P0 sheaves that a full hold kept waiting resolves its write. -/
def execDeferredP0Write (s : State) : Res :=
  writeRow s fun s => if holdFull s then s else directWrite s fun q => (directHeads q).find? fun x => x.cls = 0
/-- STAGING_DRAIN (R186). -/
def execStagingDrain (st : StookId) (g : Guard) (s : State) : Res := writeRow s fun s => drainStaging s st.val g

end Sys2Proof.Machine
end

