-- ==== Sys2Proof/Machine/Dispatch.lean ====
section
/-!
DEFINITION. Which meaning each command has: one arm per constructor.
-/
namespace Sys2Proof.Machine

def exec (i : Instr) (s : State) : Host.Outcome State Fault Refusal :=
  match i with
  | .nop r => Sys2Proof.Machine.execNop r s
  | .echo r words => Sys2Proof.Machine.execEcho r words s
  | .identify r => Sys2Proof.Machine.execIdentify r s
  | .modeRequest r target wat => Sys2Proof.Machine.execModeRequest r target wat s
  | .get r id inst => Sys2Proof.Machine.execGet r id inst s
  | .set r id inst value => Sys2Proof.Machine.execSet r id inst value s
  | .getBlock r id inst count => Sys2Proof.Machine.execGetBlock r id inst count s
  | .tallyRead r id inst count => Sys2Proof.Machine.execTallyRead r id inst count s
  | .tallyPeek r id inst count => Sys2Proof.Machine.execTallyPeek r id inst count s
  | .stageMould r offset bytes => Sys2Proof.Machine.execStageMould r offset bytes s
  | .stageMouldFirst r offset bytes => Sys2Proof.Machine.execStageMouldFirst r offset bytes s
  | .stagePatch r edits => Sys2Proof.Machine.execStagePatch r edits s
  | .stagePatchFirst r digest edits => Sys2Proof.Machine.execStagePatchFirst r digest edits s
  | .checkStaged r => Sys2Proof.Machine.execCheckStaged r s
  | .mouldCheckComplete => Sys2Proof.Machine.execMouldCheckComplete s
  | .couchImmediate r => Sys2Proof.Machine.execCouchImmediate r s
  | .couchAtDeckle r d => Sys2Proof.Machine.execCouchAtDeckle r d s
  | .couchAtPtpTime r secs ns => Sys2Proof.Machine.execCouchAtPtpTime r secs ns s
  | .couchBeat => Sys2Proof.Machine.execCouchBeat s
  | .discardStaged r => Sys2Proof.Machine.execDiscardStaged r s
  | .mouldInfo r => Sys2Proof.Machine.execMouldInfo r s
  | .injectConversion r input five => Sys2Proof.Machine.execInjectConversion r input five s
  | .readMonitor r first count => Sys2Proof.Machine.execReadMonitor r first count s
  | .testDacConnect r stook ch low code => Sys2Proof.Machine.execTestDacConnect r stook ch low code s
  | .testDacRelease r stook => Sys2Proof.Machine.execTestDacRelease r stook s
  | .testDacSettled stook => Sys2Proof.Machine.execTestDacSettled stook s
  | .inputPathCheck r ch => Sys2Proof.Machine.execInputPathCheck r ch s
  | .inputPathCheckEnd m => Sys2Proof.Machine.execInputPathCheckEnd m s
  | .calStartForeground r mask => Sys2Proof.Machine.execCalStartForeground r mask s
  | .calStartGleanChannel r ch mask => Sys2Proof.Machine.execCalStartGleanChannel r ch mask s
  | .calStartGleanSweep r mask => Sys2Proof.Machine.execCalStartGleanSweep r mask s
  | .calAbort r => Sys2Proof.Machine.execCalAbort r s
  | .calStatus r => Sys2Proof.Machine.execCalStatus r s
  | .calCommit r => Sys2Proof.Machine.execCalCommit r s
  | .seedCommitComplete readBack => Sys2Proof.Machine.execSeedCommitComplete readBack s
  | .seedRead r bank offset count => Sys2Proof.Machine.execSeedRead r bank offset count s
  | .fence r kind index => Sys2Proof.Machine.execFence r kind index s
  | .unfence r kind index => Sys2Proof.Machine.execUnfence r kind index s
  | .faultRead r first count => Sys2Proof.Machine.execFaultRead r first count s
  | .faultClear r mask => Sys2Proof.Machine.execFaultClear r mask s
  | .faultClearFirst r mask history => Sys2Proof.Machine.execFaultClearFirst r mask history s
  | .faultClearHistory r mask => Sys2Proof.Machine.execFaultClearHistory r mask s
  | .errpinRelease r => Sys2Proof.Machine.execErrpinRelease r s
  | .resetBlock r target index => Sys2Proof.Machine.execResetBlock r target index s
  | .barnStatus r => Sys2Proof.Machine.execBarnStatus r s
  | .barnSwitch r => Sys2Proof.Machine.execBarnSwitch r s
  | .barnResync r => Sys2Proof.Machine.execBarnResync r s
  | .timeStatus r => Sys2Proof.Machine.execTimeStatus r s
  | .laneStatus r lane => Sys2Proof.Machine.execLaneStatus r lane s
  | .granaryStatus r => Sys2Proof.Machine.execGranaryStatus r s
  | .scrubStatus r => Sys2Proof.Machine.execScrubStatus r s
  | .legacyEnter r => Sys2Proof.Machine.execLegacyEnter r s
  | .legacyLeave r => Sys2Proof.Machine.execLegacyLeave r s
  | .mdKeyWrite r inst value => Sys2Proof.Machine.execMdKeyWrite r inst value s
  | .keyLock r require => Sys2Proof.Machine.execKeyLock r require s
  | .keyRequire r value => Sys2Proof.Machine.execKeyRequire r value s
  | .epochChange => Sys2Proof.Machine.execEpochChange s
  | .commandFrame d bytes => Sys2Proof.Machine.execCommandFrame d bytes s
  | .creditFrame d bytes => Sys2Proof.Machine.execCreditFrame d bytes s
  | .aggAnnounceFrame d bytes => Sys2Proof.Machine.execAggAnnounceFrame d bytes s
  | .spiWrite bytes => Sys2Proof.Machine.execSpiWrite bytes s
  | .spiRead clocked => Sys2Proof.Machine.execSpiRead clocked s
  | .spiStatus => Sys2Proof.Machine.execSpiStatus s
  | .spiUnknownTransaction first => Sys2Proof.Machine.execSpiUnknownTransaction first s
  | .replyFrameSend u => Sys2Proof.Machine.execReplyFrameSend u s
  | .tgIdle cls operand => Sys2Proof.Machine.execTgIdle cls operand s
  | .tgAccept cls type offset => Sys2Proof.Machine.execTgAccept cls type offset s
  | .tgDiscard cls age => Sys2Proof.Machine.execTgDiscard cls age s
  | .tgSyncByteWord cls index byte => Sys2Proof.Machine.execTgSyncByteWord cls index byte s
  | .tgSyncLoadWord cls low => Sys2Proof.Machine.execTgSyncLoadWord cls low s
  | .tgPing cls operand => Sys2Proof.Machine.execTgPing cls operand s
  | .tgReservedOpcode op cls operand => Sys2Proof.Machine.execTgReservedOpcode op cls operand s
  | .windowComesIntoForce => Sys2Proof.Machine.execWindowComesIntoForce s
  | .windowLeavesStore => Sys2Proof.Machine.execWindowLeavesStore s
  | .earlyExpiry => Sys2Proof.Machine.execEarlyExpiry s
  | .pendingExpiry => Sys2Proof.Machine.execPendingExpiry s
  | .tgLossOfSignal => Sys2Proof.Machine.execTgLossOfSignal s
  | .hitEdge c level fine lag inFlight => Sys2Proof.Machine.execHitEdge c level fine lag inFlight s
  | .discriminatorRelease c level => Sys2Proof.Machine.execDiscriminatorRelease c level s
  | .sampleConverted c code => Sys2Proof.Machine.execSampleConverted c code s
  | .tdcStop c raw => Sys2Proof.Machine.execTdcStop c raw s
  | .entryComplete c => Sys2Proof.Machine.execEntryComplete c s
  | .stuckLimitExpiry c => Sys2Proof.Machine.execStuckLimitExpiry c s
  | .stuckBackoffEnd c => Sys2Proof.Machine.execStuckBackoffEnd c s
  | .stuckBackoffReset c => Sys2Proof.Machine.execStuckBackoffReset c s
  | .winnowerReadEntry c g => Sys2Proof.Machine.execWinnowerReadEntry c g s
  | .sheafToStaging st => Sys2Proof.Machine.execSheafToStaging st s
  | .tallyReport c => Sys2Proof.Machine.execTallyReport c s
  | .stagingSwap st => Sys2Proof.Machine.execStagingSwap st s
  | .stagingDrain st g => Sys2Proof.Machine.execStagingDrain st g s
  | .granaryWrite => Sys2Proof.Machine.execGranaryWrite s
  | .p0HoldWrite => Sys2Proof.Machine.execP0HoldWrite s
  | .deferredP0Write => Sys2Proof.Machine.execDeferredP0Write s
  | .bankPowerOff b => Sys2Proof.Machine.execBankPowerOff b s
  | .scrubSlot g => Sys2Proof.Machine.execScrubSlot g s
  | .scrubBurst found => Sys2Proof.Machine.execScrubBurst found s
  | .granaryReport => Sys2Proof.Machine.execGranaryReport s
  | .mergeScheduleEntry k found builder => Sys2Proof.Machine.execMergeScheduleEntry k found builder s
  | .quireClose u => Sys2Proof.Machine.execQuireClose u s
  | .quireSend u => Sys2Proof.Machine.execQuireSend u s
  | .negotiationTimeout u => Sys2Proof.Machine.execNegotiationTimeout u s
  | .trainingEnd u => Sys2Proof.Machine.execTrainingEnd u s
  | .laneActivate u => Sys2Proof.Machine.execLaneActivate u s
  | .trainingConfirmTimeout u => Sys2Proof.Machine.execTrainingConfirmTimeout u s
  | .creditTimeout u => Sys2Proof.Machine.execCreditTimeout u s
  | .laneTransmitterFault u => Sys2Proof.Machine.execLaneTransmitterFault u s
  | .laneFailedRetry u => Sys2Proof.Machine.execLaneFailedRetry u s
  | .laneSleepEntry => Sys2Proof.Machine.execLaneSleepEntry s
  | .drainComplete u => Sys2Proof.Machine.execDrainComplete u s
  | .linkReport => Sys2Proof.Machine.execLinkReport s
  | .downlaneLockLoss d => Sys2Proof.Machine.execDownlaneLockLoss d s
  | .downlaneLock d => Sys2Proof.Machine.execDownlaneLock d s
  | .refclkLoss => Sys2Proof.Machine.execRefclkLoss s
  | .refclkReturn => Sys2Proof.Machine.execRefclkReturn s
  | .syncInPulse => Sys2Proof.Machine.execSyncInPulse s
  | .syncLoadOrCheck => Sys2Proof.Machine.execSyncLoadOrCheck s
  | .timeStep => Sys2Proof.Machine.execTimeStep s
  | .epochPeriodic => Sys2Proof.Machine.execEpochPeriodic s
  | .ptpSync h interval t1 t2 => Sys2Proof.Machine.execPtpSync h interval t1 t2 s
  | .ptpFollowUp h t1 => Sys2Proof.Machine.execPtpFollowUp h t1 s
  | .ptpDelayResp h requester interval t4 => Sys2Proof.Machine.execPtpDelayResp h requester interval t4 s
  | .ptpAnnounce h interval ptpTimescale ds => Sys2Proof.Machine.execPtpAnnounce h interval ptpTimescale ds s
  | .ptpDiscardedMessage wrongDomain => Sys2Proof.Machine.execPtpDiscardedMessage wrongDomain s
  | .delayReqSend t3 => Sys2Proof.Machine.execDelayReqSend t3 s
  | .masterLoss => Sys2Proof.Machine.execMasterLoss s
  | .holdoverExpiry => Sys2Proof.Machine.execHoldoverExpiry s
  | .tpLinkDown => Sys2Proof.Machine.execTpLinkDown s
  | .tpLinkUp => Sys2Proof.Machine.execTpLinkUp s
  | .replicaMeasureAsleep st period => Sys2Proof.Machine.execReplicaMeasureAsleep st period s
  | .deckleBoundary replica dlErrors => Sys2Proof.Machine.execDeckleBoundary replica dlErrors s
  | .modeTransition => Sys2Proof.Machine.execModeTransition s
  | .recoveryEntry => Sys2Proof.Machine.execRecoveryEntry s
  | .recoveryStepComplete ok resync => Sys2Proof.Machine.execRecoveryStepComplete ok resync s
  | .recoveryReturn => Sys2Proof.Machine.execRecoveryReturn s
  | .recoveryWindowExpiry => Sys2Proof.Machine.execRecoveryWindowExpiry s
  | .startupStepComplete ok block boot found => Sys2Proof.Machine.execStartupStepComplete ok block boot found s
  | .startupComplete => Sys2Proof.Machine.execStartupComplete s
  | .autoStart => Sys2Proof.Machine.execAutoStart s
  | .bootStagingTimeout => Sys2Proof.Machine.execBootStagingTimeout s
  | .heldEntry => Sys2Proof.Machine.execHeldEntry s
  | .powerOn => Sys2Proof.Machine.execPowerOn s
  | .supplyGood sup => Sys2Proof.Machine.execSupplyGood sup s
  | .supplyFail sup => Sys2Proof.Machine.execSupplyFail sup s
  | .powerGoodAssert straps => Sys2Proof.Machine.execPowerGoodAssert straps s
  | .powerGoodWithdraw => Sys2Proof.Machine.execPowerGoodWithdraw s
  | .vddioLoss => Sys2Proof.Machine.execVddioLoss s
  | .vddMemLoss => Sys2Proof.Machine.execVddMemLoss s
  | .resetNLow => Sys2Proof.Machine.execResetNLow s
  | .resetNRise straps => Sys2Proof.Machine.execResetNRise straps s
  | .faultRaise src inst ctx => Sys2Proof.Machine.execFaultRaise src inst ctx s
  | .trapResume => Sys2Proof.Machine.execTrapResume s
  | .fenceTakesEffect => Sys2Proof.Machine.execFenceTakesEffect s
  | .blockResetStart => Sys2Proof.Machine.execBlockResetStart s
  | .blockResetDecision t selfCheck lineActive => Sys2Proof.Machine.execBlockResetDecision t selfCheck lineActive s
  | .reactionWindowEnd => Sys2Proof.Machine.execReactionWindowEnd s
  | .errpinMinElapsed => Sys2Proof.Machine.execErrpinMinElapsed s
  | .lockstepMismatch kind => Sys2Proof.Machine.execLockstepMismatch kind s
  | .barnAlarm b => Sys2Proof.Machine.execBarnAlarm b s
  | .barnSelftestStart => Sys2Proof.Machine.execBarnSelftestStart s
  | .barnSelftestVerdict bitsA bitsB stateA stateB => Sys2Proof.Machine.execBarnSelftestVerdict bitsA bitsB stateA stateB s
  | .crosslinkLoss => Sys2Proof.Machine.execCrosslinkLoss s
  | .crosslinkRestored => Sys2Proof.Machine.execCrosslinkRestored s
  | .resyncSnapshot => Sys2Proof.Machine.execResyncSnapshot s
  | .resyncJournal signatureOk => Sys2Proof.Machine.execResyncJournal signatureOk s
  | .resyncJoin signatureOk => Sys2Proof.Machine.execResyncJoin signatureOk s
  | .resyncAbandon => Sys2Proof.Machine.execResyncAbandon s
  | .barnRetest bits => Sys2Proof.Machine.execBarnRetest bits s
  | .revert => Sys2Proof.Machine.execRevert s
  | .upgradeDetach ok => Sys2Proof.Machine.execUpgradeDetach ok s
  | .upgradeRejoin ok => Sys2Proof.Machine.execUpgradeRejoin ok s
  | .gleanSweepStart => Sys2Proof.Machine.execGleanSweepStart s
  | .gleanRunStart => Sys2Proof.Machine.execGleanRunStart s
  | .calibrationMeasurement saturated fired values elements => Sys2Proof.Machine.execCalibrationMeasurement saturated fired values elements s
  | .calibrationRelease found => Sys2Proof.Machine.execCalibrationRelease found s
  | .foregroundRunEnd found => Sys2Proof.Machine.execForegroundRunEnd found s
  | .calClaimTakesEffect k => Sys2Proof.Machine.execCalClaimTakesEffect k s
  | .monitorWindowEnd k raw => Sys2Proof.Machine.execMonitorWindowEnd k raw s
  | .monitorResultDelivered k => Sys2Proof.Machine.execMonitorResultDelivered k s
  | .injectAbortEdge k => Sys2Proof.Machine.execInjectAbortEdge k s
  | .baselineSlewStep => Sys2Proof.Machine.execBaselineSlewStep s
  | .tapHoldRelease c => Sys2Proof.Machine.execTapHoldRelease c s
  | .corePllFastStart => Sys2Proof.Machine.execCorePllFastStart s
  | .corePllStop => Sys2Proof.Machine.execCorePllStop s
  | .corePllLockLoss => Sys2Proof.Machine.execCorePllLockLoss s
  | .lcPllLockLoss p => Sys2Proof.Machine.execLcPllLockLoss p s
  | .stookClockStart st => Sys2Proof.Machine.execStookClockStart st s
  | .stookSleep st => Sys2Proof.Machine.execStookSleep st s
  | .granaryInterfaceSleep => Sys2Proof.Machine.execGranaryInterfaceSleep s
  | .nl64ScanSlot slot => Sys2Proof.Machine.execNl64ScanSlot slot s
  | .nl64ResultUpdate => Sys2Proof.Machine.execNl64ResultUpdate s
  | .registerPersonalitySwitch => Sys2Proof.Machine.execRegisterPersonalitySwitch s
  | .resultLoRead => Sys2Proof.Machine.execResultLoRead s
  | .resultHiRead => Sys2Proof.Machine.execResultHiRead s
  | .nlPointerWrite v => Sys2Proof.Machine.execNlPointerWrite v s
  | .nlRegisterWrite addr v => Sys2Proof.Machine.execNlRegisterWrite addr v s
  | .tapExtest => Sys2Proof.Machine.execTapExtest s
  | .tapSamplePreload => Sys2Proof.Machine.execTapSamplePreload s
  | .tapIdcode => Sys2Proof.Machine.execTapIdcode s
  | .tapClamp => Sys2Proof.Machine.execTapClamp s
  | .tapHighz => Sys2Proof.Machine.execTapHighz s
  | .tapBypass code => Sys2Proof.Machine.execTapBypass code s
  | .startupStepTimeout read => Sys2Proof.Machine.execStartupStepTimeout read s
  | .lanerefReturn => Sys2Proof.Machine.execLanerefReturn s
  | .tgSignalReturn => Sys2Proof.Machine.execTgSignalReturn s
  | .tapTestLogicReset => Sys2Proof.Machine.execTapTestLogicReset s

end Sys2Proof.Machine
end

