-- ==== Sys2Proof/Machine/Pads.lean ====
section
/-!
DEFINITION. What every pad shows of the state (R409, R421, R441, Tables 15.7 and 17.3), boundary scan included (R457, R459).
-/
namespace Sys2Proof.Machine

/-- The signals of Table 17.3, and the lands of Table 15.7. -/
inductive Signal where
  | uplane (u : Lane) | downlane (d : DlId) | tpTx | tpRx | laneref | tgIn | tgOut | syncIn | refclk
  /-- FECLK output k in period e of domain 38 of the beat in force. -/
  | feclk (k : Fin 4) (e : Fin 8)
  | spiIn | spiSdo | fem | errN | resetN | flow (k : Fin 2) | strap | housekeeping | mref | tapIn | tdo | testOut
  | land | gref | guard
deriving DecidableEq, Repr

/-- What a pad does. -/
inductive Pad where
  /-- The power-off state (R409). -/
  | off
  /-- Its boundary-scan cell takes it (R459). -/
  | scan
  | highZ
  | released
  | electricalIdle
  | level (v : Bool)
  /-- REFCLK is passed through (R401). -/
  | passed
  | word (w : BitVec 16)
  /-- A lane sends, between its frames, this idle set (`Uplane.idleSet`). -/
  | sends (idleSet : Nat)
  /-- 1000BASE-X, or master of the FEM bus. -/
  | operates
  | received
  | ignored
  | notLoaded
  /-- A guard land follows its GREF. -/
  | toGref
deriving DecidableEq, Repr

/-- The supply of a signal's pad (Tables 15.1 and 17.3). -/
def padSupply : Signal → Supply
  | .uplane _ => .vddaSd | .downlane _ => .vddaSd | .tpTx => .vddaSd | .tpRx => .vddaSd | .laneref => .vddaSd
  | .land => .avdd | .gref => .avdd | .guard => .avdd
  | _ => .vddio
/-- The boundary-scan register covers the pad (R457). -/
def scanned : Signal → Bool
  | .housekeeping => false | .mref => false | .tapIn => false | .tdo => false
  | x => decide (padSupply x = .vddio)
/-- A driven pad, which HIGHZ leaves at high impedance. -/
def drives : Signal → Bool
  | .tgOut => true | .feclk _ _ => true | .spiSdo => true | .fem => true | .errN => true | .flow _ => true | .testOut => true
  | _ => false
/-- FECLK in each mode (R400, R401): an output set to off stays off. -/
def feclkPad (s : State) (k : Fin 4) (e : Fin 8) : Pad :=
  match feclk s k.val e.val with
  | some v => .level v
  | none => if s.tb.refclk then .passed else .level false
/-- The Held and Service columns of Table 17.3. -/
def padInMode (s : State) (x : Signal) : Pad :=
  let held := decide (s.modes.cur = .held)
  match x with
  | .uplane u => let i := (lane s u.val).idleSet; if i = 0 then .electricalIdle else .sends i
  | .downlane d => if dlClock s d.val then .received else .ignored
  | .tpTx => if held then .electricalIdle else .operates
  | .tpRx => if held then .ignored else .received
  | .tgOut => .word (tgOutNow s)
  | .syncIn => if held then .ignored else .received
  | .feclk k e => feclkPad s k e
  | .spiSdo => .highZ
  | .fem => if held then .released else .operates
  | .errN => if errNow s then .level false else .released
  | .flow k => .level (!flowLow s k.val)
  | .strap => if held then .received else .ignored
  | .housekeeping => if held then .notLoaded else .received
  | .mref => if held then .notLoaded else .received
  | .tdo => .highZ
  | .testOut => match testOut s with | some v => .level v | none => .highZ
  | .guard => .toGref
  | _ => .received
/-- What a signal's pad shows: the power-off state without its supply, else what the TAP's instruction or the mode gives. -/
def pad (s : State) (x : Signal) : Pad :=
  if !powered s || !isGood s (padSupply x) then .off
  else if scanned x && (s.tap.inst = .extest || s.tap.inst = .clamp) then .scan
  else if drives x && s.tap.inst = .highz then .highZ
  else padInMode s x

end Sys2Proof.Machine
end

