-- ==== Sys2Proof/Safety.lean ====
section
/-!
DEFINITION. What counts as a safe state and a safe run, and the conditions and messages of the command ports, in the terms
the statements use.
-/
namespace Sys2Proof.Machine

/-- The byte memories stand in their canonical form: the two Seed Store banks list no erased byte. -/
def State.BanksWf (s : State) : Prop := memWf 0xFF s.cal.bank0 ∧ memWf 0xFF s.cal.bank1

/-- The TAP's code and data register are those of its instruction (Table 17.14): 0 boundary, 1 IDCODE, 2 bypass. -/
def State.TapWf (s : State) : Prop :=
  match s.tap.inst with
  | .extest => s.tap.code = 0x00 ∧ s.tap.dr = 0
  | .sample => s.tap.code = 0x01 ∧ s.tap.dr = 0
  | .idcode => s.tap.code = 0x02 ∧ s.tap.dr = 1
  | .clamp => s.tap.code = 0x03 ∧ s.tap.dr = 2
  | .highz => s.tap.code = 0x04 ∧ s.tap.dr = 2
  | .bypass => 5 ≤ s.tap.code.toNat ∧ s.tap.dr = 2
/-- The invariant that every step keeps. -/
def State.Inv (s : State) : Prop := s.BanksWf ∧ s.TapWf

/-- The bounds of R335 (event queue of the SPI port), R355 (history) and R359 (fence queue). -/
def State.Bounded (s : State) : Prop :=
  s.cmd.spiEv.length ≤ 16 ∧ s.flt.hist.length ≤ 16 ∧ s.flt.queue.length ≤ 16

/-- A run of k steps that meets neither a fault nor a refusal. -/
def SafeRun : Nat → State → Prop
  | 0, _ => True
  | k + 1, s => ∃ t, step s = .next t ∧ SafeRun k t

/-- A packet of opcode `op` from `r` is executed now: its port is heard, the Grangers are not stopped, no couch comes first in
the beat and Table 11.7 allows the opcode in the mode in force (R22, R338, R343, R360, R377, R459). -/
def Served (s : State) (r : Req) (op : Nat) : Prop :=
  padsFree s = true ∧ powered s = true ∧ grangersStopped s = false ∧ couchFirst s = false ∧
    opcodeAllowed op s.modes.cur = true ∧ (s.modes.cur = .held → r.port ≠ .dl1)
/-- The same for an at-completion command, within the limit of R337. -/
def ServedOpen (s : State) (r : Req) (op : Nat) : Prop := Served s r op ∧ s.cmd.outst.length < 16

/-- The messages on their way to a port, oldest first. -/
def msgsOf (s : State) : Port → List Msg
  | .spi => s.cmd.spiQ
  | _ => s.cmd.laneQ
/-- The reply to a packet (R330), and the outcome message that follows an earlier reply (R331). -/
def replyMsg (r : Req) (op status detail : Nat) (data : List PWord) : Msg :=
  { opcode := BitVec.ofNat 8 op, tag := r.tag, unsolicited := false, reply := true,
    words := statusWord status detail :: data, origin := some r.port }
def outcomeMsg (r : Req) (op status detail : Nat) (data : List PWord) : Msg :=
  { opcode := BitVec.ofNat 8 op, tag := r.tag, unsolicited := true, reply := false,
    words := statusWord status detail :: data, origin := some r.port }

/-- The packet a command row stands for: who sent it, and its opcode (Table 11.7). -/
def packetOf : Instr → Option (Req × Nat)
  | .nop r => some (r, 0x00) | .echo r _ => some (r, 0x01) | .identify r => some (r, 0x02)
  | .modeRequest r _ _ => some (r, 0x03)
  | .get r _ _ => some (r, 0x10) | .set r _ _ _ => some (r, 0x11) | .getBlock r _ _ _ => some (r, 0x12)
  | .tallyRead r _ _ _ => some (r, 0x73) | .tallyPeek r _ _ _ => some (r, 0x73)
  | .mdKeyWrite r _ _ => some (r, 0x11) | .keyLock r _ => some (r, 0x11) | .keyRequire r _ => some (r, 0x11)
  | .stageMould r _ _ => some (r, 0x20) | .stageMouldFirst r _ _ => some (r, 0x20)
  | .stagePatch r _ => some (r, 0x21) | .stagePatchFirst r _ _ => some (r, 0x21)
  | .checkStaged r => some (r, 0x22)
  | .couchImmediate r => some (r, 0x23) | .couchAtDeckle r _ => some (r, 0x23) | .couchAtPtpTime r _ _ => some (r, 0x23)
  | .discardStaged r => some (r, 0x24) | .mouldInfo r => some (r, 0x25)
  | .injectConversion r _ _ => some (r, 0x30) | .readMonitor r _ _ => some (r, 0x31)
  | .testDacConnect r _ _ _ _ => some (r, 0x32) | .testDacRelease r _ => some (r, 0x32)
  | .inputPathCheck r _ => some (r, 0x33)
  | .calStartForeground r _ => some (r, 0x40) | .calStartGleanChannel r _ _ => some (r, 0x40)
  | .calStartGleanSweep r _ => some (r, 0x40)
  | .calAbort r => some (r, 0x41) | .calStatus r => some (r, 0x42) | .calCommit r => some (r, 0x43)
  | .seedRead r _ _ _ => some (r, 0x44)
  | .fence r _ _ => some (r, 0x50) | .unfence r _ _ => some (r, 0x51) | .faultRead r _ _ => some (r, 0x52)
  | .faultClear r _ => some (r, 0x53) | .faultClearFirst r _ _ => some (r, 0x53) | .faultClearHistory r _ => some (r, 0x53)
  | .errpinRelease r => some (r, 0x54) | .resetBlock r _ _ => some (r, 0x55)
  | .barnStatus r => some (r, 0x60) | .barnSwitch r => some (r, 0x61) | .barnResync r => some (r, 0x62)
  | .timeStatus r => some (r, 0x70) | .laneStatus r _ => some (r, 0x71) | .granaryStatus r => some (r, 0x72)
  | .scrubStatus r => some (r, 0x74)
  | .legacyEnter r => some (r, 0x7E) | .legacyLeave r => some (r, 0x7F)
  | _ => none

/-- The commands that may change a working register: SET (R11), the rows at which a couch, a mode change, a reset or a loss of
supply loads or resets registers (R13), and the rows at which the time base gives up a set delay (R92). -/
def writesRegisters : Instr → Bool
  | .set .. | .couchBeat | .deckleBoundary .. | .powerOn | .syncLoadOrCheck | .autoStart | .heldEntry | .modeTransition
  | .powerGoodWithdraw | .recoveryEntry | .recoveryReturn | .resetNLow | .startupStepComplete .. | .vddMemLoss
  | .vddioLoss => true
  | _ => false
/-- The commands that may write a Seed Store bank: the end of a commit (R295), and the rows at which a deckle boundary falls, where a commit begins
by erasing its bank. -/
def writesBanks : Instr → Bool
  | .seedCommitComplete .. | .deckleBoundary .. | .syncLoadOrCheck | .timeStep => true
  | _ => false
/-- The commands that may change the TAP's instruction: its own (R457), and power-on. -/
def loadsTap : Instr → Bool
  | .tapExtest | .tapSamplePreload | .tapIdcode | .tapClamp | .tapHighz | .tapBypass .. | .tapTestLogicReset
  | .powerOn => true
  | _ => false

end Sys2Proof.Machine
end

