-- ==== Sys2Proof/Certificates/Slice0/Obligations.lean ====
section
/-!
DEFINITION. The statements for the provers, chapter by chapter of the spec.
-/
open Sys2Proof Sys2Proof.Machine

/-- A step takes the command at the front of the queue and runs it on the state with the rest of the queue; with an empty queue one beat
passes (DESIGN CHOICE, log entry 1). -/
def Obligations.StepRunsFrontCommand : Prop :=
  (∀ (s : State) (c : Instr) (rest : List Instr), s.pending = c :: rest → step s = exec c { s with pending := rest }) ∧
  ∀ s : State, s.pending = [] → step s = .next (tick s)

/-- No command and no beat adds to the queue of waiting commands, takes from it or reorders it: each runs exactly once, in the order in which they
wait. -/
def Obligations.QueueBelongsToStep : Prop :=
  (∀ (c : Instr) (s t : State), exec c s = .next t → t.pending = s.pending) ∧ ∀ s : State, (tick s).pending = s.pending

/-- R84, R350, R354, R393, R404, R419, R464, Table 0.2: the state right after reset: HELD, beat count 0, time quality NOT_SET, no fault, every working
register at the reset value of its table, every tally 0, nothing queued and no mould. (Power-on values that the spec does not
give are the model's, log entry 2; none is stated here.) -/
def Obligations.ResetState : Prop :=
  State.reset.modes.cur = .held ∧ State.reset.tb.beat = 0 ∧ State.reset.tb.quality = 0 ∧ State.reset.flt.word = 0 ∧
  State.reset.flt.first = none ∧ State.reset.flt.hist = [] ∧ State.reset.flt.errLow = false ∧ State.reset.pending = [] ∧
  State.reset.cmd.inq = [] ∧ State.reset.cmd.spiQ = [] ∧ State.reset.cmd.outst = [] ∧ State.reset.md.active = none ∧
  State.reset.gran.units = [] ∧ (∀ id inst, reg State.reset id inst = attrReset id inst) ∧
  (∀ id inst, tally State.reset id inst = 0) ∧ attrReset A_CMD_UNSOL_ROUTE 0 = 1 ∧ attrReset A_CK_SLEEP_DECKLES 0 = 0x40 ∧
  attrReset A_TA_UL_EQ 3 = 0x46 ∧ attrReset A_NL_SEQ 63 = 63 ∧ valueOf State.reset A_TA_JTAG 0 = 2 ∧
  valueOf State.reset A_NL_RESULT 5 = 0x2800 + 0x25 * 2 ^ 24

/-- The invariant of the block (canonical Seed Store banks, a TAP whose data register and code belong to its instruction) holds right after
reset. -/
def Obligations.InvariantAtReset : Prop :=
  State.reset.Inv

/-- The invariant is kept by every step from every state that meets it: R294 to R297, the Seed Store banks stay in canonical form; R457, Table 17.14, the
TAP's data register and code stay those of its instruction. -/
def Obligations.StepKeepsInvariant : Prop :=
  ∀ s t : State, s.Inv → step s = .next t → t.Inv

/-- What every other command leaves alone: a command that is not named by writesRegisters leaves every working register as it is, one not
named by writesBanks leaves both Seed Store banks, and one not named by loadsTap leaves the TAP's instruction, code and data register. (Rows that
queue a packet run it at a later beat, which DECKLE_BOUNDARY passes.) -/
def Obligations.RegistersFrame : Prop :=
  ∀ (c : Instr) (s t : State), exec c s = .next t →
    (writesRegisters c = false → t.cfg = s.cfg ∧ ∀ id inst, reg t id inst = reg s id inst) ∧
    (writesBanks c = false → t.cal.bank0 = s.cal.bank0 ∧ t.cal.bank1 = s.cal.bank1) ∧
    (loadsTap c = false → t.tap.inst = s.tap.inst ∧ t.tap.code = s.tap.code ∧ t.tap.dr = s.tap.dr)

/-- R335, R355, R359: whatever is sent or raised, the SPI port keeps at most 16 event messages, the fault collector at most 16 records and at most 16 queued
isolations. -/
def Obligations.BoundsHold : Prop :=
  (∀ (s : State) (m : Msg), s.Bounded → (send s m).Bounded) ∧
  (∀ (s : State) (src inst ctx : Nat), s.Bounded → (raise s src inst ctx).Bounded)

/-- R33: a requested transition between the modes other than HELD, START-UP and RECOVERY takes effect at its boundary, when
nothing that comes first falls there and its conditions (R32) are met. -/
def Obligations.RequestedTransition : Prop :=
  ∀ (s : State) (p : ModePend), s.modes.cur ≠ .held → s.modes.pend = some p → requestDue s p = true →
    s.modes.chipReset = false → s.modes.toHeld = none → s.modes.toRecovery = none → couchDue s = false →
    legalRequest s p.target = true → gate s p.target = 0 →
    (p.target = .cal ∨ p.target = .streaming ∨ p.target = .triggered) →
    ∃ t, exec .modeTransition s = .next t ∧ t.modes.cur = p.target ∧ t.modes.cause = 0x03 ∧ t.modes.pend = none ∧
      t.modes.entryDeckle = deckle s

/-- R26: a cause of RECOVERY in service takes effect at the next boundary: the mode, `MODE_RETURN` and `MODE_CAUSE`.
R26, R28: a RECOVERY step that passes leads to the next; the third leads to the return, whose mode is `MODE_RETURN`; a
first failure is retried and a second one leads to HELD; an entry older than 3 600 s leaves the window. R290: the integrity check of
step 3, when it passes, recomputes the values that slew from their targets, changes no accepted value, and reports the end of its run.
R26: after all steps RECOVERY returns to `MODE_RETURN` at the next boundary, with `MODE_CAUSE` 0x05. -/
def Obligations.Recovery : Prop :=
  (∀ (s : State) (c : Byte), serviceMode s.modes.cur = true → s.modes.toRecovery = some c → causeDue s = true →
     couchDue s = false → recoveryBarred s false = false →
     ∃ t, exec .recoveryEntry s = .next t ∧ t.modes.cur = .recovery ∧ t.modes.ret = some s.modes.cur ∧ t.modes.cause = c ∧
       t.modes.recStep = 1 ∧ t.modes.entryDeckle = deckle s) ∧
  ((∀ (s : State) (resync : Bool), s.modes.cur = .recovery → s.modes.toHeld = none → s.modes.recStep = 2 ∨ s.modes.recStep = 3 →
     ∃ t, exec (.recoveryStepComplete true resync) s = .next t ∧ t.modes.cur = .recovery ∧
       t.modes.recStep = s.modes.recStep + 1 ∧ t.modes.recRetried = false) ∧
   (∀ (s : State) (resync : Bool), s.modes.cur = .recovery → s.modes.toHeld = none → 1 ≤ s.modes.recStep → s.modes.recStep ≤ 3 →
     ∃ t, exec (.recoveryStepComplete false resync) s = .next t ∧
       (s.modes.recRetried = false → t.modes.recRetried = true ∧ t.modes.recStep = s.modes.recStep ∧ t.modes.toHeld = none) ∧
       (s.modes.recRetried = true → t.modes.toHeld = some (0x08, s.modes.recStep))) ∧
   (∀ (s : State) (resync : Bool), s.modes.cur = .recovery → s.modes.toHeld = none → s.modes.recStep = 3 →
     ∃ t, exec (.recoveryStepComplete true resync) s = .next t ∧ t.cal.slews = [] ∧ t.cal.image = s.cal.image ∧
       t.cal.lastStatus = 0 ∧ t.gran.dwq = s.gran.dwq ++ [report 15 s.tb.beat 0x23 3 0 0]) ∧
   (∀ s : State, ∃ t, exec .recoveryWindowExpiry s = .next t ∧
     t.modes.recLog = s.modes.recLog.filter (fun b => decide (s.tb.up < b + 3600 * 40960000)))) ∧
  (∀ (s : State) (m : Mode), s.modes.cur = .recovery → s.modes.recStep = 4 → s.modes.ret = some m → atBoundary s = true →
     s.modes.causeAt < s.tb.up → s.md.couch = none →
     ∃ t, exec .recoveryReturn s = .next t ∧ t.modes.cur = m ∧ t.modes.cause = 0x05 ∧ t.modes.recStep = 0)

/-- R410, R419: RESET_N low, a loss of power-good, of VDDIO or of VDD_MEM enters HELD at once from every other mode, and the
mode's cause is the one of Table 1.6.
R38, R212, R419: what an entry into HELD leaves of the block: no unit outside bank 0, nothing in the hold, the direct
writers or the stooks, no couched mould, no outstanding command, no fence in progress; the fault state and ERR_N as they were (a pending couch that the
entry ends raises COUCH_FAILED, and a unit found uncorrectable in flight is discarded and raised, R215). -/
def Obligations.EntriesIntoHeld : Prop :=
  ((∀ s : State, powered s = true → s.modes.cur ≠ .held →
     ∃ t, exec .resetNLow s = .next t ∧ t.modes.cur = .held ∧ t.modes.cause = 0x01 ∧ t.modes.entryDeckle = deckle s ∧
       t.pwr.resetHigh = false) ∧
   (∀ s : State, s.modes.cur ≠ .held → s.pwr.powerGood = true → allGood s = false →
     ∃ t, exec .powerGoodWithdraw s = .next t ∧ t.modes.cur = .held ∧ t.modes.cause = 0x00 ∧ t.pwr.powerGood = false) ∧
   (∀ s : State, s.modes.cur ≠ .held → isGood s .vddAon = true → isGood s .vddio = false →
     ∃ t, exec .vddioLoss s = .next t ∧ t.modes.cur = .held ∧ t.modes.cause = 0x00 ∧ t.pwr.powerGood = false) ∧
   (∀ s : State, isGood s .vddMem = false →
     ∃ t, exec .vddMemLoss s = .next t ∧ t.modes.cur = .held ∧ t.gran.units = [] ∧ t.md.active = none ∧ t.md.stage = .empty) ∧
   (∀ s : State, s.modes.cur ≠ .held → s.modes.chipReset = true →
     ∃ t, exec .heldEntry s = .next t ∧ t.modes.cur = .held ∧ t.modes.cause = 0x02)) ∧
  (∀ s : State, powered s = true → s.modes.cur ≠ .held →
     ∃ t, exec .resetNLow s = .next t ∧
       (∀ u ∈ t.gran.units, ∀ k ∈ u.slots, k < 32768) ∧ t.gran.hold = [] ∧ t.gran.dwq = [] ∧ t.gran.powered = 1 ∧
       (∀ k < 12, (stook t k).outq = [] ∧ (stook t k).fill = [] ∧ (stook t k).drain = []) ∧
       t.md.active = none ∧ t.md.stage = .empty ∧ t.cmd.outst = [] ∧ t.cmd.inq = [] ∧
       t.flt.reactions = [] ∧ t.flt.queue = [] ∧ t.flt.cur = none ∧
       t.tb.beat = s.tb.beat ∧
       (s.md.couch = none → (∀ u ∈ s.gran.units, u.poisoned = none) → t.flt.word = s.flt.word ∧ t.flt.first = s.flt.first ∧ t.flt.hist = s.flt.hist ∧
         t.flt.errLow = s.flt.errLow))

/-- R406: a power-on leaves HELD with cause 0x00, beat count 0, time quality NOT_SET, the fault state clear and ERR_N released;
it keeps the Seed Store banks.
R405, R406, R411, R420: the detectors of the supplies, power-good after 2.000 ms of all seven, the sampling of the straps at
the later of power-good and the rise of RESET_N, and the return of LANEREF. -/
def Obligations.PowerSupplies : Prop :=
  (∀ s : State, isGood s .vddAon = true → isGood s .vddio = true → s.pwr.aonLost = true →
     ∃ t, exec .powerOn s = .next t ∧ t.modes.cur = .held ∧ t.modes.cause = 0x00 ∧ t.tb.beat = 0 ∧ t.tb.quality = 0 ∧
       t.flt.word = 0 ∧ t.flt.first = none ∧ t.flt.hist = [] ∧ t.flt.errLow = false ∧
       t.cal.bank0 = s.cal.bank0 ∧ t.cal.bank1 = s.cal.bank1 ∧ t.pending = s.pending) ∧
  ((∀ (s : State) (x : Supply), isGood s x = false → ∃ t, exec (.supplyGood x) s = .next t ∧ isGood t x = true) ∧
   (∀ (s : State) (x : Supply), isGood s x = true → ∃ t, exec (.supplyFail x) s = .next t ∧ isGood t x = false) ∧
   (∀ (s : State) (straps : Byte), powered s = true → allGood s = true → s.pwr.powerGood = false →
     s.pwr.goodSince + 81920 ≤ s.tb.up → ∃ t, exec (.powerGoodAssert straps) s = .next t ∧ t.pwr.powerGood = true ∧
       t.modes.cause = 0x00 ∧ t.pwr.straps = (if s.pwr.resetHigh then straps else s.pwr.straps)) ∧
   (∀ (s : State) (straps : Byte), s.pwr.resetHigh = false → powered s = true → s.pwr.powerGood = true →
     ∃ t, exec (.resetNRise straps) s = .next t ∧ t.pwr.resetHigh = true ∧ t.pwr.straps = straps) ∧
   (∀ s : State, ∃ t, exec .lanerefReturn s = .next t ∧ t.pwr.lanerefGood = true))

/-- R412, R418: an automatic start at the first boundary at least 40 deckles after the strap sampling leads from HELD to the
first step of START-UP, and `MODE_CAUSE` stays that of the entry into HELD (R36).
R23, R25, R416, R417: a passed step begins the next one; a failed or overdue step, and an unused wait for a boot mould, halt
START-UP with the step recorded.
R24: after all steps START-UP enters the initial mode that the mould in force names, with `MODE_CAUSE` 0x04. -/
def Obligations.StartUp : Prop :=
  (∀ (s : State) (b : Nat), s.modes.autoFrom = some b → s.modes.cur = .held → atBoundary s = true → b + 40 ≤ s.tb.dk →
     bootSource s ≠ 3 → powered s = true → s.pwr.powerGood = true → s.pwr.resetHigh = true →
     ∃ t, exec .autoStart s = .next t ∧ t.modes.cur = .startUp ∧ t.modes.suStep = 1 ∧ t.modes.suPassed = 0 ∧
       t.modes.cause = s.modes.cause ∧ t.modes.entryDeckle = deckle s) ∧
  ((∀ (s : State) (boot : List Byte) (block : BitVec 16) (found : List Residual), s.modes.cur = .startUp →
     s.modes.suHalted = false → s.modes.suStep = 3 →
     ∃ t, exec (.startupStepComplete true block boot found) s = .next t ∧ t.modes.suStep = 4 ∧
       t.modes.suPassed = s.modes.suPassed ||| 4 ∧ t.modes.suHalted = false) ∧
   (∀ (s : State) (boot : List Byte) (block : BitVec 16) (found : List Residual), s.modes.cur = .startUp →
     s.modes.suHalted = false → s.modes.suStep = 3 →
     ∃ t, exec (.startupStepComplete false block boot found) s = .next t ∧ t.modes.suHalted = true ∧ t.modes.suFailed = 3 ∧
       t.modes.cur = .startUp) ∧
   (∀ (s : State) (read : BitVec 32), s.modes.cur = .startUp → s.modes.suHalted = false → 1 ≤ s.modes.suStep →
     s.modes.suStep ≤ 7 → stepOverdue s s.modes.suStep read.toNat = true →
     ∃ t, exec (.startupStepTimeout read) s = .next t ∧ t.modes.suHalted = true ∧ t.modes.suFailed = s.modes.suStep) ∧
   (∀ s : State, s.modes.cur = .startUp → s.modes.suStep = 5 → s.modes.suHalted = false → bootSource s ≠ 0 →
     s.modes.stagedAt + 60 * 40960000 ≤ s.tb.up → s.md.checking = none → s.md.stage ≠ .checked → s.md.stage ≠ .failed →
     ∃ t, exec .bootStagingTimeout s = .next t ∧ t.modes.suHalted = true ∧ t.modes.suFailed = 5)) ∧
  (∀ (s : State) (c : Copy) (m : Mode), s.modes.cur = .startUp → s.modes.suStep = 8 → atBoundary s = true →
     s.modes.causeAt < s.tb.up → transitionDue s = false → s.md.active = some c → modeOf (initialModeCode c) = some m →
     (m = .cal ∨ serviceMode m = true) → gate s m = 0 →
     ∃ t, exec .startupComplete s = .next t ∧ t.modes.cur = m ∧ t.modes.cause = 0x04 ∧ t.modes.entryDeckle = deckle s)

/-- R47, R48, R57, R63, R64, R74: an input at the threshold or beyond is a hit edge of an enabled channel at rest, and counts in `CH_HITS`; short of
it there is no edge. While the channel cannot allocate nothing else is counted; less than 12.0 ns after the last accepted edge it is a
pile-up edge; with a full latch it counts in `CH_PILEUP`; else, unless prescale skips it, it allocates the one entry that follows from
the settings. -/
def Obligations.HitEdges : Prop :=
  ∀ (c : Chan) (level : Int) (fine lag : BitVec 13) (k : Fin 4) (s : State), padsFree s = true → powered s = true →
    enabled s c.val = true → (chan s c.val).active = false →
    (beyondThreshold s c.val level = false → exec (.hitEdge c level fine lag k) s = .next s) ∧
    (beyondThreshold s c.val level = true →
    ∃ t, exec (.hitEdge c level fine lag k) s = .next t ∧ (chan t c.val).active = true ∧ (chan t c.val).since = s.tb.up ∧
      bits (tally t A_CH_HITS c.val) 31 0 = satAdd (2 ^ 32 - 1) (bits (tally s A_CH_HITS c.val) 31 0) 1 ∧
      (canAllocate s c.val = false →
        (chan t c.val).latch = (chan s c.val).latch ∧ tally t A_CH_PILEUP c.val = tally s A_CH_PILEUP c.val) ∧
      (canAllocate s c.val = true → earlyEdge s.tb.up (chan s c.val) fine.toNat = true →
        (chan t c.val).latch = (chan s c.val).latch ∧ (chan t c.val).lastAccepted = (chan s c.val).lastAccepted ∧
        bits (tally t A_CH_PILEUP c.val) 31 0 = satAdd (2 ^ 32 - 1) (bits (tally s A_CH_PILEUP c.val) 31 0) 1) ∧
      (canAllocate s c.val = true → earlyEdge s.tb.up (chan s c.val) fine.toNat = false →
        (chan t c.val).lastAccepted = some (s.tb.up * 8192 + fine.toNat) ∧
        (latchDepth s c.val ≤ latchUsed s (chan s c.val) →
          (chan t c.val).latch = (chan s c.val).latch ∧ (chan t c.val).overflow = true ∧
          bits (tally t A_CH_PILEUP c.val) 31 0 = satAdd (2 ^ 32 - 1) (bits (tally s A_CH_PILEUP c.val) 31 0) 1) ∧
        (latchUsed s (chan s c.val) < latchDepth s c.val →
          tally t A_CH_PILEUP c.val = tally s A_CH_PILEUP c.val ∧
          (chan t c.val).latch = (chan s c.val).latch ++
            (if (chan s c.val).numbered % 2 ^ prescaleCode (chan s c.val) = 0 then
              [newEntry s c.val fine.toNat lag.toNat k.val false] else []))))

/-- R47, R53, R61, R110: the release of a discriminator, a converted sample, a TDC record and the completion of the oldest entry.
R70 to R72: when the stuck limit expires the channel is masked for its back-off and counts an episode; at the end of the
back-off a discriminator at rest is re-armed and an active one begins a back-off twice as long, up to 40 000 deckles; 40 000
deckles armed return the back-off to 40. -/
def Obligations.WindowsAndStuckInputs : Prop :=
  ((∀ (c : Chan) (level : Int) (s : State), padsFree s = true → powered s = true → (chan s c.val).active = true →
     (belowRelease s c.val level = true → ∃ t, exec (.discriminatorRelease c level) s = .next t ∧
       (chan t c.val).active = false ∧ (chan t c.val).latch = (chan s c.val).latch) ∧
     (belowRelease s c.val level = false → exec (.discriminatorRelease c level) s = .next s)) ∧
   (∀ (c : Chan) (code : BitVec 14) (s : State), padsFree s = true → powered s = true → s.modes.cur ≠ .held →
     enabled s c.val = true → (chan s c.val).anaNext = none →
     ∃ t, exec (.sampleConverted c code) s = .next t ∧
       (chan t c.val).latch = (chan s c.val).latch.map (takeSample code)) ∧
   (∀ (c : Chan) (raw : BitVec 24) (e : Entry) (rest : List Entry) (s : State), padsFree s = true → powered s = true →
     s.modes.cur ≠ .held → (chan s c.val).latch = e :: rest → e.raw = none →
     ∃ t, exec (.tdcStop c raw) s = .next t ∧ (chan t c.val).latch = { e with raw := some raw } :: rest.map (stopOne raw e.tick)) ∧
   (∀ (c : Chan) (e : Entry) (rest : List Entry) (s : State), padsFree s = true → (chan s c.val).latch = e :: rest →
     e.complete = false → e.samples.length = 16 → e.raw.isSome = true →
     ∃ t, exec (.entryComplete c) s = .next t ∧ (chan t c.val).latch = { e with complete := true } :: rest)) ∧
  ((∀ (c : Chan) (s : State), (chan s c.val).active = true → (chan s c.val).stuckDone = false → canAllocate s c.val = true →
     (chan s c.val).since + reg s A_CH_STUCK_LIMIT c.val < s.tb.up →
     ∃ t, exec (.stuckLimitExpiry c) s = .next t ∧ (chan t c.val).masked = true ∧
       (chan t c.val).backoff = (chan s c.val).nextBackoff ∧
       (chan t c.val).nextBackoff = min 40000 (2 * (chan s c.val).nextBackoff)) ∧
   (∀ (c : Chan) (s : State), (chan s c.val).masked = true → atBoundary s = true →
     deckleDue (deckle s) (chan s c.val).backoffEnd = true →
     ∃ t, exec (.stuckBackoffEnd c) s = .next t ∧
       ((chan s c.val).active = false → (chan t c.val).masked = false ∧ (chan t c.val).latch = (chan s c.val).latch) ∧
       ((chan s c.val).active = true → (chan t c.val).masked = true ∧
         (chan t c.val).backoff = (chan s c.val).nextBackoff ∧ (chan t c.val).latch = (chan s c.val).latch)) ∧
   (∀ (c : Chan) (s : State), (chan s c.val).masked = false → (chan s c.val).episodes ≠ 0 →
     (chan s c.val).armedSince + 40000 ≤ s.tb.dk →
     ∃ t, exec (.stuckBackoffReset c) s = .next t ∧ (chan t c.val).nextBackoff = 40 ∧ (chan t c.val).episodes = 0))

/-- What the commands of the front end leave alone: all but the channel, its stook's wake request, the tallies and the clock
request; of the channels, every other one. -/
def Obligations.FrontEndFrame : Prop :=
  ∀ (c : Chan) (i : Instr) (s t : State),
    ((∃ level fine lag k, i = .hitEdge c level fine lag k) ∨ (∃ level, i = .discriminatorRelease c level) ∨ (∃ code, i = .sampleConverted c code) ∨
      (∃ raw, i = .tdcStop c raw) ∨ i = .entryComplete c ∨ i = .stuckBackoffReset c) →
    exec i s = .next t →
    t = { s with chs := t.chs, stooks := t.stooks, tal := t.tal, talNew := t.talNew, clk := t.clk } ∧
      (∀ d, d ≠ c.val → chan t d = chan s d) ∧ (∀ k, k ≠ c.val / 16 → stook t k = stook s k)

/-- R82, R31: the beats of a deckle pass one by one up to the next multiple of 1 024.
With no command waiting one beat passes: the count goes up by one and wraps from 2^56 - 1 to 0 (R82; that a beat passes is the
model's choice, log entry 1). -/
def Obligations.BeatsAndDeckles : Prop :=
  (∀ (s : State) (replica : List (StookId × BitVec 32)) (errs : List (DlId × Nat)), counting s = true →
     ∃ t, exec (.deckleBoundary replica errs) s = .next t ∧ t.tb.beat.toNat % 1024 = 0 ∧
       t.tb.up = s.tb.up + (1024 - s.tb.beat.toNat % 1024)) ∧
  (∀ s : State, s.pending = [] → counting s = true →
     ∃ t, step s = .next t ∧ t.tb.beat = s.tb.beat + 1 ∧ t.tb.up = s.tb.up + 1)

/-- R90, R91, R92: a SYNC_IN edge takes effect DELAY beats later; a byte word stores its byte, one of index 7 counts a mismatch; a
load word whose seven bytes are there queues the assembled count and clears the record.
R90, R97, R98: an armed load that falls due sets the count, clears ARM and is a step; one that R97 refuses leaves the count,
clears ARM and counts a mismatch; a check leaves the count and counts a pass or a mismatch. -/
def Obligations.Sync : Prop :=
  ((∀ s : State, padsFree s = true → powered s = true → s.modes.cur ≠ .held → timingGen s = 0 →
     ∃ t, exec .syncInPulse s = .next t ∧ t.tb.beat = s.tb.beat ∧
       t.tb.sync = s.tb.sync ++ [{ due := s.tb.up + bits (reg s A_TB_SYNC_CTRL 0) 15 8, word := none }]) ∧
   (∀ (s : State) (i : Nat) (b : Byte), timingGen s = 1 → i < 7 →
     (syncByte s i b).tb.asmSeen = s.tb.asmSeen ||| BitVec.ofNat 7 (2 ^ i) ∧
     bits (syncByte s i b).tb.asm.toNat (55 - 8 * i) (48 - 8 * i) = b.toNat) ∧
   (∀ (s : State) (b : Byte), timingGen s = 1 → (syncByte s 7 b).tb = s.tb ∧
     bits (tally (syncByte s 7 b) A_TB_SYNC_TALLY 0) 31 16 = satAdd 65535 (bits (tally s A_TB_SYNC_TALLY 0) 31 16) 1) ∧
   (∀ s : State, timingGen s = 1 → s.tb.asmSeen = 127 → s.tb.asm.toNat % 1024 = 0 →
     (syncLoad s 0x7FF).tb.asmSeen = 0 ∧ (syncLoad s 0x7FF).tb.sync =
       s.tb.sync ++ [{ due := s.tb.up + bits (reg s A_TB_SYNC_CTRL 0) 15 8, word := some s.tb.asm }])) ∧
  ((∀ (s : State) (d : SyncDue) (rest : List SyncDue), s.tb.sync = d :: rest → d.due ≤ s.tb.up → timingGen s ≠ 2 →
     bitAt (reg s A_TB_SYNC_CTRL 0) 0 = true → spacingOk s s.tb.up = true → stepAllowed s = true →
     ∃ t, exec .syncLoadOrCheck s = .next t ∧
       t.tb.beat = (match d.word with | some w => w | none => BitVec.ofNat 56 (reg s A_TB_SYNC_PRESET 0)) ∧
       t.tb.sync = rest ∧ bitAt (reg t A_TB_SYNC_CTRL 0) 0 = false) ∧
   (∀ (s : State) (d : SyncDue) (rest : List SyncDue), s.tb.sync = d :: rest → d.due ≤ s.tb.up → timingGen s ≠ 2 →
     bitAt (reg s A_TB_SYNC_CTRL 0) 0 = true → stepAllowed s = false →
     ∃ t, exec .syncLoadOrCheck s = .next t ∧ t.tb.beat = s.tb.beat ∧ bitAt (reg t A_TB_SYNC_CTRL 0) 0 = false ∧
       bits (tally t A_TB_SYNC_TALLY 0) 31 16 = satAdd 65535 (bits (tally s A_TB_SYNC_TALLY 0) 31 16) 1) ∧
   (∀ (s : State) (d : SyncDue) (rest : List SyncDue), s.tb.sync = d :: rest → d.due = s.tb.up →
     bitAt (reg s A_TB_SYNC_CTRL 0) 0 = false → d.word = none →
     ∃ t, exec .syncLoadOrCheck s = .next t ∧ t.tb.beat = s.tb.beat ∧
       (reg s A_TB_SYNC_PRESET 0 % 1024 = s.tb.beat.toNat % 1024 →
         bits (tally t A_TB_SYNC_TALLY 0) 15 0 = satAdd 65535 (bits (tally s A_TB_SYNC_TALLY 0) 15 0) 1) ∧
       (reg s A_TB_SYNC_PRESET 0 % 1024 ≠ s.tb.beat.toNat % 1024 →
         bits (tally t A_TB_SYNC_TALLY 0) 31 16 = satAdd 65535 (bits (tally s A_TB_SYNC_TALLY 0) 31 16) 1)))

/-- R83, R95, R98: a servo step takes effect at the first edge whose corrected count is a multiple of 1 024, with the rest applied to
the phase; a load that the spacing held back, at a deckle boundary; a new epoch is a step at a deckle boundary that leaves the count.
Each counts in `TB_STEPS` or the step generation; what is not due, or comes too soon after the third step before it, waits.
R85, R87, R118: REFCLK absent, which leaves its reference and raises source 16 until it is present again; a periodic epoch sheaf where
bits [31:0] of the count are 0, with PERIODIC set, and WRAP too where the count has wrapped by counting; at other counts none.
R111, R112: the replica of a sleeping stook, measured after `TDC_REPLICA_PERIOD` deckles: within 0.5 % of the period in force it is
accepted for the next boundary, and so is a first one; one beyond it is repeated in a later deckle, and the new value is accepted where the
repeat agrees with it within 0.02 %, refused with the stook's TDC fault (source 26) where not. -/
def Obligations.StepsAndReferences : Prop :=
  ((∀ (s : State) (n fine : Int), s.tb.work = some (.servo n fine) → spacingOk s s.tb.up = true →
     (s.tb.beat + BitVec.ofInt 56 n).toNat % 1024 = 0 →
     ∃ t, exec .timeStep s = .next t ∧ t.tb.beat = s.tb.beat + BitVec.ofInt 56 n ∧ t.tb.work = none ∧
       t.tb.phase = s.tb.phase + fine ∧ t.tb.stepgen = (s.tb.stepgen + 1) % 4 ∧ t.tb.up = s.tb.up) ∧
   (∀ (s : State) (n fine : Int), s.tb.work = some (.servo n fine) →
     (spacingOk s s.tb.up = false ∨ (s.tb.beat + BitVec.ofInt 56 n).toNat % 1024 ≠ 0) → exec .timeStep s = .next s) ∧
   (∀ (s : State) (v : Beat), s.tb.work = some (.load v) → spacingOk s s.tb.up = true → atBoundary s = true →
     ∃ t, exec .timeStep s = .next t ∧ t.tb.beat = v ∧ t.tb.work = none ∧ t.tb.stepgen = (s.tb.stepgen + 1) % 4) ∧
   (∀ (s : State) (v : Beat), s.tb.work = some (.load v) → (spacingOk s s.tb.up = false ∨ atBoundary s = false) →
     exec .timeStep s = .next s) ∧
   (∀ s : State, s.tb.work = none → exec .timeStep s = .next s) ∧
   (∀ (s : State) (e : Nat), s.tb.epochNext = some e → e ≠ s.tb.epoch → atBoundary s = true → s.modes.cur ≠ .held →
     spacingOk s s.tb.up = true →
     ∃ t, exec .epochChange s = .next t ∧ t.tb.epoch = e ∧ t.tb.epochNext = none ∧ t.tb.beat = s.tb.beat ∧
       t.tb.stepgen = (s.tb.stepgen + 1) % 4 ∧ t.tb.flags = s.tb.flags ||| 8 ∧
       bits (tally t A_TB_STEPS 0) 15 0 = satAdd 65535 (bits (tally s A_TB_STEPS 0) 15 0) 1) ∧
   (∀ s : State, s.tb.epochNext = some s.tb.epoch → atBoundary s = true → s.modes.cur ≠ .held →
     exec .epochChange s = .next { s with tb := { s.tb with epochNext := none } }) ∧
   (∀ (s : State) (e : Nat), s.tb.epochNext = some e → e ≠ s.tb.epoch →
     (atBoundary s = false ∨ s.modes.cur = .held ∨ spacingOk s s.tb.up = false) → exec .epochChange s = .next s) ∧
   (∀ s : State, s.tb.epochNext = none → exec .epochChange s = .next s)) ∧
  ((∀ s : State, padsFree s = true → powered s = true →
     ∃ t, exec .refclkLoss s = .next t ∧ t.tb.refclk = false ∧ t.tb.beat = s.tb.beat ∧ (s.tb.refclk = false → t = s) ∧
       (s.tb.refclk = true → t.tb.ref ≠ .refclk ∧ (t.flt.levels.any fun l => l.src = 16 && l.inst = 0) = true)) ∧
   (∀ s : State, padsFree s = true → powered s = true →
     ∃ t, exec .refclkReturn s = .next t ∧ t.tb.refclk = true ∧ t.tb.beat = s.tb.beat ∧ (s.tb.refclk = true → t = s) ∧
       (s.tb.refclk = false → t.tb.ref ≠ .keeper ∧ (t.flt.levels.any fun l => l.src = 16 && l.inst = 0) = false)) ∧
   (∀ s : State, powered s = true → s.modes.cur ≠ .held →
     ∃ t, exec .epochPeriodic s = .next t ∧ t.tb.beat = s.tb.beat ∧
       (s.tb.beat.toNat % 2 ^ 32 ≠ 0 → t = s) ∧
       (s.tb.beat.toNat % 2 ^ 32 = 0 →
         t.gran.dwq = replaceEpoch (oneSlot 4 0 12 s.tb.beat (epochW1 t)) s.gran.dwq ∧
         (s.tb.beat.toNat ≠ 0 → t.tb.flags = s.tb.flags ||| 16) ∧
         (s.tb.beat.toNat = 0 → s.tb.up ≠ 0 → s.tb.steps = [] → t.tb.flags = s.tb.flags ||| 16 ||| 1)))) ∧
  (∀ (st : StookId) (p : BitVec 32) (s : State), serviceMode s.modes.cur = true → (stook s st.val).clock = false → p ≠ 0 →
     (stook s st.val).prepSince < s.tb.dk →
     ((stook s st.val).prepRetry = none → (stook s st.val).prepSince + bits (reg s A_TDC_REPLICA_PERIOD 0) 15 0 ≤ s.tb.dk →
       ∃ t, exec (.replicaMeasureAsleep st p) s = .next t ∧ (stook t st.val).prep = (stook s st.val).prep ∧
         (stook t st.val).prepSince = s.tb.dk ∧
         ((stook s st.val).prep = 0 ∨ apart p.toNat (stook s st.val).prep 200 = false →
           (stook t st.val).prepNext = some p.toNat ∧ (stook t st.val).prepRetry = none) ∧
         ((stook s st.val).prep ≠ 0 → apart p.toNat (stook s st.val).prep 200 = true →
           (stook t st.val).prepRetry = some p.toNat ∧ (stook t st.val).prepNext = (stook s st.val).prepNext)) ∧
     (∀ r, (stook s st.val).prepRetry = some r →
       ∃ t, exec (.replicaMeasureAsleep st p) s = .next t ∧ (stook t st.val).prep = (stook s st.val).prep ∧
         (stook t st.val).prepRetry = none ∧
         (apart p.toNat r 5000 = false → (stook t st.val).prepNext = some r) ∧
         (apart p.toNat r 5000 = true → (stook t st.val).prepNext = (stook s st.val).prepNext ∧
           bits (tally t A_FLT_COUNT 26) 15 0 = satAdd 65535 (bits (tally s A_FLT_COUNT 26) 15 0) 1)))

/-- R99 to R101: the messages of the selected master: a one-step Sync forms the offset, a two-step one waits for its Follow_Up; a
Delay_Resp to the port's own last Delay_Req joins the path delays; `PTP_LATENCY` brings the timestamps to the balls; the next Delay_Req goes
out within its interval (its range is the model's, log entry 24); a discarded message counts in `PTP_MSG_TALLY`.
R99, R103, R106: two Announces of a first master within four intervals select it; the loss of the master or of the link
leaves no master; a link down for more than 1 s makes the port FAULTY until it returns; HOLDOVER ends after `TB_HOLDOVER_TIME`. -/
def Obligations.PrecisionTime : Prop :=
  ((∀ (h : PtpHeader) (k : Int) (t1 t2 : Int) (s : State), padsFree s = true → powered s = true → ptpOn s = true →
     s.tb.linkUp = true → ptpDomainOk s h = true → followed s h = true → -7 ≤ k → k ≤ 0 →
     ∃ t, exec (.ptpSync h k (some t1) t2) s = .next t ∧
       t.tb.offset = atBallIn s t2 - t1 - corrTicks h.corr - sx 32 (reg s A_PTP_ASYMMETRY 0) - pathDelay s) ∧
   (∀ (h : PtpHeader) (k : Int) (t2 : Int) (s : State), padsFree s = true → powered s = true → ptpOn s = true →
     s.tb.linkUp = true → ptpDomainOk s h = true → followed s h = true → -7 ≤ k → k ≤ 0 →
     ∃ t, exec (.ptpSync h k none t2) s = .next t ∧ t.tb.twoStep = some (h, atBallIn s t2) ∧ t.tb.offset = s.tb.offset) ∧
   (∀ (h g : PtpHeader) (t1 t2 : Int) (s : State), padsFree s = true → powered s = true → ptpOn s = true →
     s.tb.linkUp = true → ptpDomainOk s h = true → followed s h = true → s.tb.twoStep = some (g, t2) →
     g.source = h.source → g.seq = h.seq →
     ∃ t, exec (.ptpFollowUp h t1) s = .next t ∧ t.tb.twoStep = none ∧
       t.tb.offset = t2 - t1 - (corrTicks g.corr + corrTicks h.corr) - sx 32 (reg s A_PTP_ASYMMETRY 0) - pathDelay s) ∧
   (∀ (h : PtpHeader) (k t3 t4 d : Int) (s : State), padsFree s = true → powered s = true → ptpOn s = true →
     s.tb.linkUp = true → ptpDomainOk s h = true → followed s h = true → s.tb.delayReq = some (h.seq, t3) →
     s.tb.syncDiff = some d →
     ∃ t, exec (.ptpDelayResp h (ownPort s) k t4) s = .next t ∧ t.tb.delayReq = none ∧
       t.tb.delayInterval = clampInt (-7) 3 k ∧ t.tb.delays =
       (roundDiv (d + (t4 - t3 - corrTicks h.corr + sx 32 (reg s A_PTP_ASYMMETRY 0))) 2 :: s.tb.delays).take 16) ∧
   (∀ (t3 : Int) (s : State), padsFree s = true → powered s = true → ptpOn s = true → s.tb.linkUp = true →
     s.tb.master.isSome = true →
     (s.tb.delayDue ≤ s.tb.up → ∃ t, exec (.delayReqSend t3) s = .next t ∧
       t.tb.delayReq = some (s.tb.delaySeq, atBallOut s t3) ∧ t.tb.delaySeq = s.tb.delaySeq + 1 ∧
       s.tb.up ≤ t.tb.delayDue ∧ t.tb.delayDue ≤ s.tb.up + 2 * logBeats s.tb.delayInterval) ∧
     (s.tb.up < s.tb.delayDue → exec (.delayReqSend t3) s = .next s)) ∧
   (∀ (w : Bool) (s : State), padsFree s = true → powered s = true → ptpOn s = true → s.tb.linkUp = true →
     ∃ t, exec (.ptpDiscardedMessage w) s = .next t ∧ t.tb = s.tb ∧
       bits (tally t A_PTP_MSG_TALLY (if w then 5 else 4)) 31 0 =
         satAdd (2 ^ 32 - 1) (bits (tally s A_PTP_MSG_TALLY (if w then 5 else 4)) 31 0) 1)) ∧
  ((∀ (h : PtpHeader) (k : Int) (ds : PtpDataset) (f : Foreign) (b : Nat) (s : State), padsFree s = true → powered s = true →
     ptpOn s = true → s.tb.linkUp = true → ptpDomainOk s h = true → -3 ≤ k → k ≤ 3 → s.tb.master = none →
     s.tb.foreign = [f] → f.id = h.source → f.syncOk = true → f.seen = [b] → b ≤ s.tb.up → s.tb.up ≤ b + 4 * logBeats k →
     ∃ t, exec (.ptpAnnounce h k true ds) s = .next t ∧ t.tb.master = some h.source ∧ t.tb.servo = .acquire) ∧
   (∀ s : State, padsFree s = true → powered s = true → ptpOn s = true → s.tb.master.isSome = true →
     ∃ t, exec .masterLoss s = .next t ∧ t.tb.master = none ∧ t.tb.servo = .listen ∧ t.tb.beat = s.tb.beat) ∧
   (∀ (s : State) (b : Nat), s.tb.lostAt = some b → s.tb.expired = false →
     b + bits (reg s A_TB_HOLDOVER_TIME 0) 15 0 * 40960000 ≤ s.tb.up →
     ∃ t, exec .holdoverExpiry s = .next t ∧ t.tb.expired = true ∧ t.tb.beat = s.tb.beat) ∧
   (∀ s : State, padsFree s = true → powered s = true →
     ∃ t, exec .tpLinkDown s = .next t ∧ t.tb.linkUp = false ∧
       (ptpOn s = true → s.tb.linkUp = true → t.tb.linkDownAt = s.tb.up ∧ t.tb.master = none ∧
         (s.tb.master.isSome = true → t.tb.servo = .listen)) ∧
       (ptpOn s = true → s.tb.linkUp = false → s.tb.servo ≠ .faulty → s.tb.linkDownAt + 40960000 < s.tb.up →
         t.tb.servo = .faulty ∧ t.tb.master = none)) ∧
   (∀ s : State, padsFree s = true → powered s = true →
     ∃ t, exec .tpLinkUp s = .next t ∧ t.tb.linkUp = true ∧ (ptpOn s = true → s.tb.servo = .faulty → t.tb.servo = .listen)))

/-- R62, R65, R123, R135: an entry that the Winnower reads leaves the latch; kept, it counts in `WN_KEPT` and its sheaf joins the output
queue; chaffed, it counts in `WN_CHAFF` and nothing of it is stored; uncorrectable, it counts in `CH_PILEUP` and
`CH_ENTRY_ERRORS`; and it stays, with `WN_STALLS` counted, when the queue cannot take its sheaf.
R70, R134, R135: a STUCK entry is always kept, as a stuck sheaf; every kept sheaf goes to class P1 when PRIV of its channel is
set, and to P2 otherwise.
R129: a charge is encoded with a scale below 3 and a mantissa of 14 bits, and decoding is accurate to within 15 below. -/
def Obligations.Winnower : Prop :=
  (∀ (c : Chan) (e : Entry) (s : State), readable s c.val = some e → (chan s c.val).stuckWait = none →
     (∀ x : Sheaf, winnow s c.val e (features s c.val e) = some x → queueTakes (stook s (c.val / 16)) (sheafEntries x) = true →
       ∃ t, exec (.winnowerReadEntry c .clean) s = .next t ∧ (chan t c.val).latch = (chan s c.val).latch.drop 1 ∧
         x ∈ (stook t (c.val / 16)).outq ∧
         (stook t (c.val / 16)).outq.length = (stook s (c.val / 16)).outq.length + 1 ∧
         bits (tally t A_WN_KEPT c.val) 31 0 = satAdd (2 ^ 32 - 1) (bits (tally s A_WN_KEPT c.val) 31 0) 1) ∧
     (winnow s c.val e (features s c.val e) = none →
       ∃ t, exec (.winnowerReadEntry c .clean) s = .next t ∧ (chan t c.val).latch = (chan s c.val).latch.drop 1 ∧
         (stook t (c.val / 16)).outq = (stook s (c.val / 16)).outq ∧
         bits (tally t A_WN_CHAFF c.val) 31 0 = satAdd (2 ^ 32 - 1) (bits (tally s A_WN_CHAFF c.val) 31 0) 1) ∧
     (∃ t, exec (.winnowerReadEntry c (.lost false)) s = .next t ∧ (chan t c.val).latch = (chan s c.val).latch.drop 1 ∧
       (stook t (c.val / 16)).outq = (stook s (c.val / 16)).outq ∧
       bits (tally t A_CH_PILEUP c.val) 31 0 = satAdd (2 ^ 32 - 1) (bits (tally s A_CH_PILEUP c.val) 31 0) 1 ∧
       bits (tally t A_CH_ENTRY_ERRORS c.val) 15 0 = satAdd 65535 (bits (tally s A_CH_ENTRY_ERRORS c.val) 15 0) 1) ∧
     (∀ x : Sheaf, winnow s c.val e (features s c.val e) = some x →
       queueTakes (stook s (c.val / 16)) (sheafEntries x) = false →
       ∃ t, exec (.winnowerReadEntry c .clean) s = .next t ∧ t.chs = s.chs ∧ t.stooks = s.stooks ∧
         bits (tally t A_WN_STALLS (c.val / 16)) 31 0 =
           satAdd (2 ^ 32 - 1) (bits (tally s A_WN_STALLS (c.val / 16)) 31 0) 1)) ∧
  (∀ (s : State) (c : Nat) (e : Entry) (f : Features),
     (e.stuck = true → (winnow s c e f).isSome = true) ∧
     (∀ x, winnow s c e f = some x → x.src = c / 16 ∧
       x.cls = (if bitAt (wnReg s e A_WN_CONFIG c) 9 then 1 else 2) ∧
       (x.words.length = 2 ∨ x.words.length = 8) ∧ (e.stuck = true → x.words.length = 8))) ∧
  (∀ q : Nat, q ≤ 262143 → (chargeCode q).1 < 3 ∧ (chargeCode q).2 < 2 ^ 14 ∧
     (chargeCode q).2 * 4 ^ (chargeCode q).1 ≤ q ∧ q - (chargeCode q).2 * 4 ^ (chargeCode q).1 ≤ 15 ∧
     (q < 16384 → (chargeCode q).2 = q))

/-- R122, R123, R141: the oldest finished sheaf takes its source's sequence number, which goes up by 1 modulo 2^16, and stands last in
the filling bank; it stays where the bank, or the four entries of the beat, have no room for it.
R123, R155: at a channel's boundary its two reports are written and the counts begin again; they join the output queue where it has
room, and wait for it where not. -/
def Obligations.SheavesAndReports : Prop :=
  (∀ (st : StookId) (x : Sheaf) (rest : List Sheaf) (s : State), (stook s st.val).outq = x :: rest → stookRuns s st.val = true →
     (fillEntries (stook s st.val) + sheafEntries x ≤ 128 → movedNow s (stook s st.val) + sheafEntries x ≤ 4 →
       ∃ t n, exec (.sheafToStaging st) s = .next t ∧ rest <+: (stook t st.val).outq ∧
         ((stook s st.val).waitq = [] → (stook t st.val).outq = rest) ∧
         (stook t st.val).fill = (stook s st.val).fill ++ [n] ∧ n.sheaf.src = x.src ∧ n.sheaf.cls = x.cls ∧
         n.seq = BitVec.ofNat 16 (pget 0 s.gran.seq x.src) ∧
         pget 0 t.gran.seq x.src = (pget 0 s.gran.seq x.src + 1) % 2 ^ 16) ∧
     ((128 < fillEntries (stook s st.val) + sheafEntries x ∨ 4 < movedNow s (stook s st.val) + sheafEntries x) →
       exec (.sheafToStaging st) s = .next s)) ∧
  (∀ (c : Chan) (s : State), s.modes.cur ≠ .held → atBoundary s = true → reg s A_WN_TALLY_PERIOD 0 ≠ 0 →
     (deckle s).toNat % reg s A_WN_TALLY_PERIOD 0 = c.val * reg s A_WN_TALLY_PERIOD 0 / 192 →
     fencedStook s (c.val / 16) = false → fresh s 1 c.val = true →
     ∃ t, exec (.tallyReport c) s = .next t ∧
       (∀ x ∈ [report (c.val / 16) s.tb.beat 0x10 c.val (chan s c.val).repKept (chan s c.val).repChaff,
               report (c.val / 16) s.tb.beat 0x11 c.val (chan s c.val).repPile (chan s c.val).repSkip],
         x ∈ (stook t (c.val / 16)).outq ++ (stook t (c.val / 16)).waitq.map Prod.snd ∧
         (stookRuns s (c.val / 16) = true → (stook s (c.val / 16)).waitq = [] → outqEntries (stook s (c.val / 16)) ≤ 30 →
           x ∈ (stook t (c.val / 16)).outq)) ∧
       (chan t c.val).repKept = 0 ∧ (chan t c.val).repChaff = 0 ∧ (chan t c.val).repPile = 0 ∧ (chan t c.val).repSkip = 0)

/-- R157, R159: a TG_IN word that carries OPCODE in bits 0 to 2, CLASS in bit 3 and the operand in bits 4 to 15, each most significant bit
first, spells the command of Table 5.3 with its operand fields.
R164 to R166: the answer to the word of a beat is the entry of the answer table that mode, throttle state, class and opcode
select; in HELD it is HELD with no action; while the Hasp replaces the vector it is NONE for IDLE and RECOVERING for every
other opcode, with no action.
R158, R163: every TG_OUT word has odd parity, its ANSWER bits spell the answer most significant bit first, DECKLE is set exactly in
the first beat of a deckle, and in HELD the primitive's bits and STALE are 0.
R159, R160: IDLE, PING, the reserved opcodes and SYNC words are answered from the vector in the TG_OUT word of the same beat, and
do nothing else but count (and, for SYNC outside HELD, reach the time base).
R183: loss of signal is noted once and the answers go on; the signal's return ends it. -/
def Obligations.TriggerAnswers : Prop :=
  (∀ (op : BitVec 3) (cls : BitVec 1) (operand : BitVec 12),
     tgInCommand (BitVec.ofNat 16 (wordField 0 3 op.toNat + wordField 3 1 cls.toNat + wordField 4 12 operand.toNat)) =
       (if op = 0 then .tgIdle cls operand
        else if op = 1 then .tgAccept cls (operand.extractLsb' 6 6) (operand.extractLsb' 0 6)
        else if op = 2 then .tgDiscard cls operand
        else if op = 3 then
          if operand.getLsbD 11 then .tgSyncLoadWord cls (operand.extractLsb' 0 11)
          else .tgSyncByteWord cls (operand.extractLsb' 8 3) (operand.extractLsb' 0 8)
        else if op = 4 then .tgPing cls operand
        else if op = 5 then .tgReservedOpcode 0 cls operand
        else if op = 6 then .tgReservedOpcode 1 cls operand
        else .tgReservedOpcode 2 cls operand)) ∧
  (∀ (s : State) (op cls : Nat), op < 8 → cls < 2 →
     (s.modes.cur = .held → answerOf s op cls = (5, 0)) ∧
     (s.modes.cur ≠ .held → s.barns.takeover.isSome = true → answerOf s op cls = (if op = 0 then 0 else 6, 0)) ∧
     (s.modes.cur ≠ .held → s.barns.takeover = none → answerOf s op cls =
       (reg s A_TH_ANSWER_TABLE (modeCode s.modes.cur * 64 + s.thr.latchedPrev % 4 * 16 + cls * 8 + op) / 32 % 8,
        reg s A_TH_ANSWER_TABLE (modeCode s.modes.cur * 64 + s.thr.latchedPrev % 4 * 16 + cls * 8 + op) % 32))) ∧
  (∀ (s : State) (a : Nat), a < 8 →
     onesIn (tgOutWord s a).toNat % 2 = 1 ∧
     (tgOutWord s a).getLsbD 10 = bitAt a 2 ∧ (tgOutWord s a).getLsbD 11 = bitAt a 1 ∧ (tgOutWord s a).getLsbD 12 = bitAt a 0 ∧
     (tgOutWord s a).getLsbD 14 = atBoundary s ∧
     (s.modes.cur = .held → (tgOutWord s a).toNat % 1024 = 0 ∧ (tgOutWord s a).getLsbD 13 = false)) ∧
  (∀ (cls : BitVec 1) (operand : BitVec 12) (s : State), padsFree s = true → powered s = true → s.thr.undriven = false →
     (∀ (i : Instr) (op : Nat), (i = .tgIdle cls operand ∧ op = 0) ∨ (i = .tgPing cls operand ∧ op = 4) ∨
         (∃ k : Fin 3, i = .tgReservedOpcode k cls operand ∧ op = 5 + k.val) →
       ∃ t, exec i s = .next t ∧ t.thr.out = tgOutWord s (answerOf s op cls.toNat).1 ∧
         t = { s with thr := t.thr, tal := t.tal, talNew := t.talNew } ∧
         t.thr = { s.thr with out := t.thr.out, worded := true } ∧
         bits (tally t A_TH_ANSWERS (answerOf s op cls.toNat).1) 31 0 =
           satAdd (2 ^ 32 - 1) (bits (tally s A_TH_ANSWERS (answerOf s op cls.toNat).1) 31 0) 1) ∧
     (∀ (k : BitVec 3) (b : Byte), ∃ t, exec (.tgSyncByteWord cls k b) s = .next t ∧
       t.thr.out = tgOutWord s (answerOf s 3 cls.toNat).1 ∧
       (s.modes.cur = .held → t.tb = s.tb) ∧
       (s.modes.cur ≠ .held → timingGen s = 1 → k.toNat < 7 → t.tb.asmSeen = s.tb.asmSeen ||| BitVec.ofNat 7 (2 ^ k.toNat))) ∧
     (∃ t, exec (.tgSyncLoadWord cls 0x7FF) s = .next t ∧
       t.thr.out = tgOutWord s (answerOf s 3 cls.toNat).1 ∧
       (s.modes.cur = .held → t.tb = s.tb) ∧
       (s.modes.cur ≠ .held → timingGen s = 1 → s.tb.asmSeen = 127 → s.tb.asm.toNat % 1024 = 0 →
         t.tb.sync = s.tb.sync ++ [{ due := s.tb.up + bits (reg s A_TB_SYNC_CTRL 0) 15 8, word := some s.tb.asm }]))) ∧
  ((∀ s : State, padsFree s = true → powered s = true → s.thr.los = false →
     ∃ t, exec .tgLossOfSignal s = .next t ∧ t.thr.los = true ∧ t.thr.store = s.thr.store) ∧
   (∀ s : State, padsFree s = true → powered s = true →
     ∃ t, exec .tgSignalReturn s = .next t ∧ t.thr.los = false ∧ t.thr.undriven = false ∧ t.thr.store = s.thr.store ∧
       t.gran = s.gran))

/-- R170, R172, R176: a granted ACCEPT of a valid type lets its window come into force eight beats later, with the bounds of Table 5.8; one
of an undefined type opens none and counts in `TH_EXCEPTIONS`; a granted DISCARD schedules its early expiry for beat n + 8.
R173, R174: a window whose beat has come enters the store, or is merged into the window most recently stored when 512 stand there;
after its retention it leaves.
R176, R178, R179: at its time an expiry leaves no pending unit that it applies to, and at a deckle boundary none past its own boundary;
what a window in force marks is marked first. In HELD and RECOVERY nothing expires. -/
def Obligations.TriggerWindows : Prop :=
  ((∀ (cls : BitVec 1) (type offset : BitVec 6) (s : State), padsFree s = true → powered s = true → s.thr.undriven = false →
     (answerOf s 1 cls.toNat).2 = 1 →
     (bitAt (reg s A_TH_TRIGGER_TABLE type.toNat) 63 = true →
       ∃ t w, exec (.tgAccept cls type offset) s = .next t ∧ t.thr.waiting = s.thr.waiting ++ [w] ∧ w.force = s.tb.up + 8 ∧
         w.lo = s.tb.beat - BitVec.ofNat 56 (bits (reg s A_TH_TRIGGER_TABLE type.toNat) 48 32 + offset.toNat) -
           BitVec.ofNat 56 (bits (reg s A_TH_TRIGGER_TABLE type.toNat) 31 16) ∧
         w.hi = s.tb.beat - BitVec.ofNat 56 (bits (reg s A_TH_TRIGGER_TABLE type.toNat) 48 32 + offset.toNat) +
           BitVec.ofNat 56 (bits (reg s A_TH_TRIGGER_TABLE type.toNat) 15 0) ∧
         w.stooks = BitVec.ofNat 12 (bits (reg s A_TH_TRIGGER_TABLE type.toNat) 60 49) ∧
         w.readClass = bits (reg s A_TH_TRIGGER_TABLE type.toNat) 62 61) ∧
     (bitAt (reg s A_TH_TRIGGER_TABLE type.toNat) 63 = false →
       ∃ t, exec (.tgAccept cls type offset) s = .next t ∧ t.thr.waiting = s.thr.waiting ∧
         bits (tally t A_TH_EXCEPTIONS 0) 15 0 = satAdd 65535 (bits (tally s A_TH_EXCEPTIONS 0) 15 0) 1)) ∧
   (∀ (cls : BitVec 1) (age : BitVec 12) (s : State), padsFree s = true → powered s = true → s.thr.undriven = false →
     (answerOf s 2 cls.toNat).2 = 4 →
     ∃ t, exec (.tgDiscard cls age) s = .next t ∧ t.gran = s.gran ∧ t.thr.expires = s.thr.expires ++
       [{ before := s.tb.beat - BitVec.ofNat 56 (32 * age.toNat), due := s.tb.up + 8 }])) ∧
  ((∀ (w : Window) (s : State), s.thr.waiting = [w] → w.force ≤ s.tb.up →
     (s.thr.store.length < 512 →
       ∃ t, exec .windowComesIntoForce s = .next t ∧ t.thr.waiting = [] ∧ t.thr.store = s.thr.store ++ [w]) ∧
     (∀ l x, s.thr.store = l ++ [x] → 512 ≤ s.thr.store.length →
       ∃ t, exec .windowComesIntoForce s = .next t ∧ t.thr.waiting = [] ∧ t.thr.store = l ++ [mergeWindows x w] ∧
         (mergeWindows x w).readClass = 0 ∧ (mergeWindows x w).stooks = x.stooks ||| w.stooks)) ∧
   (∀ s : State, ∃ t, exec .windowLeavesStore s = .next t ∧ (∀ w ∈ t.thr.store, w ∈ s.thr.store ∧ s.tb.up ≤ w.keep) ∧
     (∀ w ∈ s.thr.store, s.tb.up ≤ w.keep → w ∈ t.thr.store) ∧ t.gran = s.gran)) ∧
  ((∀ (s : State) (e : Expire), s.thr.expires = [e] → e.due ≤ s.tb.up → s.thr.waiting = [] → expiring s = true →
     ∃ t, exec .earlyExpiry s = .next t ∧ t.thr.expires = [] ∧
       (∀ u ∈ t.gran.units, u.st = .pending → hitBefore s.tb.beat e.before u = false ∧ marked s u = false) ∧
       (∀ u ∈ t.gran.units, ∃ v ∈ s.gran.units, u.arr = v.arr ∧ u.words = v.words)) ∧
   (∀ s : State, expiring s = false → exec .earlyExpiry s = .next s ∧ exec .pendingExpiry s = .next s) ∧
   (∀ s : State, atBoundary s = true → expiring s = true → s.thr.waiting = [] →
     ∃ t, exec .pendingExpiry s = .next t ∧
       (∀ u ∈ t.gran.units, u.st = .pending → expired s u = false ∧ marked s u = false) ∧
       (∀ u ∈ t.gran.units, ∃ v ∈ s.gran.units, u.arr = v.arr ∧ u.words = v.words)))

/-- R201: a P0 write that is resolved leaves its sheaf in the Granary or in the hold: none is lost. (A broadcast unit that no lane is owed
is released at once unless it is the newest EPOCH unit, R195; a GAP marker may be extended by the evictions of its own write, R200.)
R189, R190, R192, R197, R201: after the requests of the beat, the next sheaf of the direct writers, of source 12 before 13, 14 and 15, takes
its number and is written once its write can be resolved; one that must wait stays; a P0 sheaf kept waiting by a full hold is written
once the hold has room. -/
def Obligations.GranaryWrites : Prop :=
  (∀ (s t : State) (x : Numbered) (ready : Nat), x.sheaf.cls = 0 →
     (activeLanes s ≠ [] ∨ sheafType x.sheaf ≠ 4 ∧ sheafType x.sheaf ≠ 8) → resolveWrite s x ready = some t →
     ∃ u, (u ∈ t.gran.units ∨ u ∈ t.gran.hold) ∧ u.src = x.sheaf.src ∧ u.seq = x.seq ∧
       (sheafType x.sheaf ≠ 7 → u.words = x.sheaf.words)) ∧
  (∀ (x : Sheaf) (s w : State), s.modes.cur ≠ .held → w = settleRequests s →
     (nextDirect (holdFull w) w.gran.dwq = some x →
       (w.gran.direct + (x.words.length + 1) / 2 ≤ 2048 →
         (∀ r, resolveWrite (number w x).2 (number w x).1 (w.tb.up + 1) = some r →
           ∃ t, exec .granaryWrite s = .next t ∧ t.gran.dwq = dropSheaf x r.gran.dwq ∧ t.gran.units = r.gran.units ∧
             t.gran.hold = r.gran.hold ∧ t.gran.direct = r.gran.direct + (x.words.length + 1) / 2) ∧
         (resolveWrite (number w x).2 (number w x).1 (w.tb.up + 1) = none → exec .granaryWrite s = .next w)) ∧
       (2048 < w.gran.direct + (x.words.length + 1) / 2 → exec .granaryWrite s = .next w)) ∧
     ((directHeads w.gran.dwq).find? (fun y => decide (y.cls = 0)) = some x →
       (holdFull w = true → exec .deferredP0Write s = .next w) ∧
       (∀ r, holdFull w = false → w.gran.direct + (x.words.length + 1) / 2 ≤ 2048 →
         resolveWrite (number w x).2 (number w x).1 (w.tb.up + 1) = some r →
         ∃ t, exec .deferredP0Write s = .next t ∧ t.gran.dwq = dropSheaf x r.gran.dwq ∧ t.gran.units = r.gran.units)))

/-- R185, R186, R188, R146: a due swap with an empty draining bank exchanges the banks; the draining bank writes its sheaves in order; an
uncorrectable one is discarded whole, counted in `WN_GUARD` and announced. -/
def Obligations.Staging : Prop :=
  (∀ (st : StookId) (s : State), s.modes.cur ≠ .held → (stook s st.val).drain = [] → (stook s st.val).fill ≠ [] →
    atBoundary s = true →
    ∃ t, exec (.stagingSwap st) s = .next t ∧ (stook t st.val).drain = (stook s st.val).fill ∧
      (stook t st.val).fill = [] ∧
      bits (tally t A_GR_SWAPS st.val) 15 0 = satAdd 65535 (bits (tally s A_GR_SWAPS st.val) 15 0) 1) ∧
  (∀ (st : StookId) (x : Numbered) (r s w : State), s.modes.cur ≠ .held → w = settleRequests s → (stook w st.val).drain = [x] →
    (stook w st.val).drained = 0 → entriesOf x ≤ 4 → resolveWrite w x (w.tb.up + 1) = some r →
    ∃ t, exec (.stagingDrain st .clean) s = .next t ∧ (stook t st.val).drain = [] ∧
      t.gran.units = (wholeUnit r x).gran.units) ∧
  (∀ (st : StookId) (x : Numbered) (rest : List Numbered) (s w : State), s.modes.cur ≠ .held → w = settleRequests s →
    (stook w st.val).drain = x :: rest →
    ∃ t, exec (.stagingDrain st (.lost false)) s = .next t ∧ (stook t st.val).drain <:+ rest ∧
      (rest = [] → t.gran.units = w.gran.units.filter fun u => !isPart x u) ∧
      oneSlot 9 0 13 w.tb.beat (4 * 2 ^ 56 + x.sheaf.src * 2 ^ 52 + x.seq.toNat * 2 ^ 36) ∈ t.gran.dwq ∧
      bits (tally t A_WN_GUARD x.sheaf.src) 15 0 = satAdd 65535 (bits (tally w A_WN_GUARD x.sheaf.src) 15 0) 1)

/-- R190, R201, R211, R213, R214, R215, R217: held units are written in their order when a general slot is free; an idle bank powers off; an
owed slot is scrubbed within the deckle's transfers and the scrubber moves on, and an uncorrectable one discards the unit it holds; a burst wakes
the interface and resets the wait; the periodic report is queued.
R206, R208: each watermark pair takes the state of Table 5.5 from its level, between the marks it keeps what it was, and its level crosses a
mark upward where it comes to stand at it or above, downward where it comes to stand at it or below. -/
def Obligations.GranaryUpkeep : Prop :=
  ((∀ (u : GUnit) (rest : List GUnit) (s w : State), s.modes.cur ≠ .held → w = settleRequests s → w.gran.hold = u :: rest →
     freeGeneral w ≠ 0 → isBroadcast u = false →
     ∃ t, exec .p0HoldWrite s = .next t ∧ t.gran.hold <:+ rest ∧
       (rest = [] → ∃ v ∈ t.gran.units, v.arr = u.arr ∧ v.words = u.words ∧ v.slots = takeGeneral w 1)) ∧
   (∀ (b : Fin 64) (s : State), bankMayGo s b.val = true →
     ∃ t, exec (.bankPowerOff b) s = .next t ∧ t.gran.powered.getLsbD b.val = false ∧ t.gran.units = s.gran.units) ∧
   (∀ s : State, s.modes.cur ≠ .held → s.gran.clock = true → s.gran.powered.getLsbD (s.gran.scrubNext / 32768) = true →
     s.gran.scrubNext + 1 < 2097152 →
     (s.gran.scrubOwed ≠ 0 → s.gran.direct + s.gran.scrubUsed + 1 ≤ 10368 →
       ∃ t, exec (.scrubSlot .clean) s = .next t ∧ t.gran.scrubNext = s.gran.scrubNext + 1 ∧ t.gran.units = s.gran.units ∧
         t.gran.scrubOwed = s.gran.scrubOwed - 1 ∧ t.gran.scrubUsed = s.gran.scrubUsed + 1) ∧
     (s.gran.scrubOwed = 0 → exec (.scrubSlot .clean) s = .next s)) ∧
   (∀ (s : State) (u : GUnit), s.modes.cur ≠ .held → s.gran.clock = true → scrubMay s (.lost false) = true →
     s.gran.powered.getLsbD (s.gran.scrubNext / 32768) = true →
     s.gran.units.find? (fun x => x.slots.contains s.gran.scrubNext) = some u → isFlying u = false →
     ∃ t, exec (.scrubSlot (.lost false)) s = .next t ∧ ∀ v ∈ t.gran.units, v.arr ≠ u.arr) ∧
   (∀ (found : List Guard) (s : State), serviceMode s.modes.cur = true → s.gran.clock = false → 4096 ≤ s.gran.scrubSince →
     ∃ t, exec (.scrubBurst found) s = .next t ∧ t.gran.scrubSince = 0 ∧ t.gran.clock = true ∧
       t.gran.scrubOwed ≤ s.gran.scrubOwed) ∧
   (∀ s : State, s.modes.cur ≠ .held → periodDue s (reg s A_GR_REPORT_PERIOD 0) = true → fresh s 2 0 = true →
     ∃ t, exec .granaryReport s = .next t ∧ t.gran.repLost = [] ∧
       report 13 s.tb.beat 0x30 0 (occupied s) (backlog s) ∈ t.gran.dwq)) ∧
  (∀ (p : WmPair) (low high level : Nat), low < high →
     (high ≤ level → (wmEdge p low high level).st = 3 ∧ (wmEdge p low high level).asserted = true) ∧
     (level ≤ low → (wmEdge p low high level).st = 0 ∧ (wmEdge p low high level).asserted = false) ∧
     (low < level → level < high → (wmEdge p low high level).asserted = p.asserted ∧
       (wmEdge p low high level).st = if p.asserted then 2 else 1) ∧
     ((wmEdge p low high level).hiNow = true ↔ p.level < high ∧ high ≤ level) ∧
     ((wmEdge p low high level).loNow = true ↔ low < p.level ∧ level ≤ low))

/-- R224, R225, R227, R228: a valid answer takes a NEGOTIATING uplane to TRAINING with the answer's ring, numbers and generations; the
training deckles end; the first boundary after the confirming credit makes the lane ACTIVE; a limit that runs out or a
transmitter fault makes it FAILED, its quires discarded, and its units return to ELIGIBLE at the start of the next beat (R203); it negotiates
again 40 000 deckles later.
R235: the pair's release puts UL0 below its present generation, and the other lanes to sleep once UL0 is ACTIVE at its low one;
a DRAINING lane with nothing in flight sleeps, or trains at its new generation. -/
def Obligations.LaneStates : Prop :=
  ((∀ (d : DlId) (bytes : List Byte) (v : Nat) (s : State), padsFree s = true → dlReceives s d.val = true →
     frame64 0x45 bytes = some v → (lane s (bits v 55 54)).st = .negotiating → s.barns.takeover = none →
     1 ≤ bits v 53 52 → bits v 53 52 ≤ ulGenHi s (bits v 55 54) → 2 ≤ bits v 51 48 →
     bits v 51 48 ≤ formatMax s (bits v 55 54) → 4 ≤ bits v 39 35 → bits v 39 35 ≤ 16 →
     ∃ t, exec (.aggAnnounceFrame d bytes) s = .next t ∧
       (lane t (bits v 55 54)).st = .training ∧ (lane t (bits v 55 54)).fmt = bits v 51 48 ∧
       (lane t (bits v 55 54)).ringLog2 = bits v 39 35 ∧ (lane t (bits v 55 54)).cred = BitVec.ofNat 32 (bits v 31 0) ∧
       (lane t (bits v 55 54)).qnum = BitVec.ofNat 32 (bits v 31 0) ∧
       (lane t (bits v 55 54)).rwg = BitVec.ofNat 2 (bits v 34 33) + 1 ∧
       (lane t (bits v 55 54)).prevRwg = some (BitVec.ofNat 2 (bits v 34 33)) ∧
       (lane t (bits v 55 54)).effHi = min (ulGenHi s (bits v 55 54)) (bits v 53 52) ∧
       (lane t (bits v 55 54)).gen = (if serviceMode s.modes.cur
         then min (ulGenLo s (bits v 55 54)) (min (ulGenHi s (bits v 55 54)) (bits v 53 52))
         else min (ulGenHi s (bits v 55 54)) (bits v 53 52))) ∧
   (∀ (d : DlId) (bytes : List Byte) (v : Nat) (s : State), padsFree s = true → dlReceives s d.val = true →
     frame64 0x45 bytes = some v → (lane s (bits v 55 54)).st = .negotiating → s.barns.takeover = none →
     (bits v 53 52 = 0 ∨ ulGenHi s (bits v 55 54) < bits v 53 52 ∨ bits v 51 48 < 2 ∨
       formatMax s (bits v 55 54) < bits v 51 48 ∨ bits v 39 35 < 4 ∨ 16 < bits v 39 35) →
     exec (.aggAnnounceFrame d bytes) s = .next (count s A_LK_UL_ERRORS (bits v 55 54) 47 32 1)) ∧
   (∀ (u : Lane) (s : State), (lane s u.val).st = .training → (lane s u.val).trainEnd = none → s.barns.takeover = none →
     (lane s u.val).since + bits (reg s A_LK_TRAIN_DECKLES 0) 3 0 ≤ s.tb.dk →
     ∃ t, exec (.trainingEnd u) s = .next t ∧ (lane t u.val).trainEnd = some s.tb.dk ∧ (lane t u.val).st = .training) ∧
   (∀ (u : Lane) (b : Nat) (s : State), (lane s u.val).st = .training → (lane s u.val).confirmed = some b → b < s.tb.up →
     atBoundary s = true → ∃ t, exec (.laneActivate u) s = .next t ∧ (lane t u.val).st = .active) ∧
   (∀ (u : Lane) (i : Instr) (s : State), s.barns.takeover = none →
     ((i = .negotiationTimeout u ∧ (lane s u.val).st = .negotiating ∧ (lane s u.val).since + 4000 ≤ s.tb.dk) ∨
      (i = .trainingConfirmTimeout u ∧ (lane s u.val).st = .training ∧ (lane s u.val).confirmed = none ∧
         ∃ e, (lane s u.val).trainEnd = some e ∧ e + 40 ≤ s.tb.dk) ∨
      (i = .creditTimeout u ∧ (lane s u.val).st = .active ∧ inFlight (lane s u.val) = true ∧ s.modes.cur ≠ .recovery ∧
         (dlane s 0).locked = true ∧ (lane s u.val).credAt + bits (reg s A_LK_CREDIT_TIMEOUT 0) 15 0 ≤ s.tb.dk) ∨
      (i = .laneTransmitterFault u ∧ ((lane s u.val).st = .negotiating ∨ (lane s u.val).st = .training ∨
         (lane s u.val).st = .active ∨ (lane s u.val).st = .draining))) →
     ∃ t, exec i s = .next t ∧ (lane t u.val).st = .failed ∧ (lane t u.val).opn = [] ∧ (lane t u.val).closed = [] ∧
       (u.val, laneUnits (lane s u.val)) ∈ t.gran.back) ∧
   (∀ (u : Nat) (l : List Nat) (s : State), s.gran.back = [(u, l)] → (applyReturns s).gran.back = [] ∧
     ∀ w ∈ (applyReturns s).gran.units, w.arr ∈ l → isBroadcast w = false → w.st = .eligible) ∧
   (∀ (u : Lane) (s : State), (lane s u.val).st = .failed → (lane s u.val).since + 40000 ≤ s.tb.dk → planned s u.val = true →
     ∃ t, exec (.laneFailedRetry u) s = .next t ∧ (lane t u.val).st = .negotiating ∧ (lane t u.val).gen = 1)) ∧
  ((∀ s : State, atBoundary s = true → serviceMode s.modes.cur = true → s.gran.wm1.asserted = false →
     bits (reg s A_LK_SLEEP_DECKLES 0) 15 0 ≤ s.gran.wm1.releasedDeckles → (lane s 0).st = .active →
     ((lane s 0).effLo < (lane s 0).gen → ∃ t, exec .laneSleepEntry s = .next t ∧ (lane t 0).st = .draining ∧
       (lane t 0).drain = some (.gen (lane s 0).effLo) ∧ (lane t 1).st = (lane s 1).st) ∧
     ((lane s 0).gen = (lane s 0).effLo → ∃ t, exec .laneSleepEntry s = .next t ∧ (lane t 0).st = .active ∧
       ∀ k < 3, (lane s (k + 1)).st = .active → (lane t (k + 1)).st = .draining ∧ (lane t (k + 1)).drain = some .sleep)) ∧
   (∀ (u : Lane) (s : State), (lane s u.val).st = .draining → inFlight (lane s u.val) = false → s.barns.takeover = none →
     (∀ w ∈ s.gran.units, w.owed.contains u.val = false) →
     ((lane s u.val).drain = some .sleep →
       ∃ t, exec (.drainComplete u) s = .next t ∧ (lane t u.val).st = .sleep ∧ (lane t u.val).qnum = (lane s u.val).qnum ∧
         (lane t u.val).cred = (lane s u.val).cred ∧ (lane t u.val).rwg = (lane s u.val).rwg) ∧
     (∀ g, (lane s u.val).drain = some (.gen g) →
       ∃ t, exec (.drainComplete u) s = .next t ∧ (lane t u.val).st = .training ∧ (lane t u.val).gen = g ∧
         (lane t u.val).qnum = (lane s u.val).qnum ∧ (lane t u.val).rwg = (lane s u.val).rwg)))

/-- R146, R229, R230, R243: an entry for a lane with four closed quires is skipped and counted; one that finds no unit takes nothing and
is counted; one that finds a unit that fits puts it into the lane's quires, or, with an uncorrectable word, discards it and announces the loss. A
closing takes QNUM, DECKLE, QUALITY and OWNER; it waits while four quires are closed. The oldest unsent quire inside the ring window is sent. -/
def Obligations.MergeAndQuires : Prop :=
  (∀ (k : BitVec 12) (e : Nat) (found : Guard) (builder : Bool) (s : State),
    e = (pget 0 s.mg.sched ((s.mg.variant.toNat - 1) * 4096 + k.toNat)).toNat → selecting s = true → s.mg.variant ≠ 0 →
    s.tb.beat.toNat % 1024 = k.toNat / 4 → fresh s (8 + k.toNat / 512) (k.toNat % 512) = true → bitAt e 7 = true →
    (lane s (bits e 6 5)).st = .active →
    (4 ≤ (lane s (bits e 6 5)).closed.length → ∃ t, exec (.mergeScheduleEntry k found builder) s = .next t ∧ t.gran = s.gran ∧
      t.lanes = s.lanes ∧ bits (tally t A_MG_SKIPS (bits e 6 5)) 63 32 =
        satAdd (2 ^ 32 - 1) (bits (tally s A_MG_SKIPS (bits e 6 5)) 63 32) 1) ∧
    ((lane s (bits e 6 5)).closed.length < 4 → selectUnit s (bits e 6 5) (reg s A_MG_SCOPE (bits e 4 0)) = none →
      ∃ t, exec (.mergeScheduleEntry k found builder) s = .next t ∧ t.gran = s.gran ∧ t.lanes = s.lanes ∧
        bits (tally t A_MG_SKIPS (bits e 6 5)) 31 0 = satAdd (2 ^ 32 - 1) (bits (tally s A_MG_SKIPS (bits e 6 5)) 31 0) 1) ∧
    (∀ x, (lane s (bits e 6 5)).closed.length < 4 →
      selectUnit s (bits e 6 5) (reg s A_MG_SCOPE (bits e 4 0)) = some x → 1 ≤ x.slots.length → x.slots.length ≤ 5 →
      ∃ t, exec (.mergeScheduleEntry k found builder) s = .next t ∧ (lane t (bits e 6 5)).closed.length ≤ 4 ∧
        (found = .clean → x.arr ∈ laneUnits (lane t (bits e 6 5))) ∧
        (found = .lost false → x.flying = [] → (∀ w ∈ t.gran.units, w.arr ≠ x.arr) ∧
          oneSlot 9 0 (finderOf builder) s.tb.beat (4 * 2 ^ 56 + x.src * 2 ^ 52 + x.seq.toNat * 2 ^ 36) ∈ t.gran.dwq))) ∧
  (∀ (u : Lane) (s w : State), w = settleRequests s → merging w = true → closingDue w (lane w u.val) = true →
    ((lane w u.val).closed.length < 4 → ∃ t, exec (.quireClose u) s = .next t ∧ (lane t u.val).opn = [] ∧
      (lane t u.val).qnum = (lane w u.val).qnum + 1 ∧ (lane t u.val).closed = (lane w u.val).closed ++
        [{ units := (lane w u.val).opn, slots := (lane w u.val).opnSlots, qnum := (lane w u.val).qnum,
           deckle := deckle w, quality := w.tb.quality, owner := w.barns.owner, sent := false }]) ∧
    (4 ≤ (lane w u.val).closed.length → ∃ t, exec (.quireClose u) s = .next t ∧
      (lane t u.val).closed = (lane w u.val).closed ∧ (lane t u.val).opn = (lane w u.val).opn ∧
      (lane t u.val).closeDue = true)) ∧
  (∀ (u : Lane) (q : Quire) (s : State), (lane s u.val).closed.find? (fun x => !x.sent) = some q → merging s = true →
    ((lane s u.val).st = .active ∨ (lane s u.val).st = .draining) → pendingReply s u.val = none →
    (windowAllows (lane s u.val) q = true → ∃ t, exec (.quireSend u) s = .next t ∧
      (lane t u.val).line = quireBytes s u.val q ∧ (lane t u.val).closed = markSent q.qnum (lane s u.val).closed ∧
      (lane t u.val).cred = (lane s u.val).cred ∧
      bits (tally t A_LK_TRAFFIC u.val) 31 0 = satAdd (2 ^ 32 - 1) (bits (tally s A_LK_TRAFFIC u.val) 31 0) q.slots) ∧
    (windowAllows (lane s u.val) q = false → exec (.quireSend u) s = .next s)) ∧
  (∀ (s : State) (u : Nat), s.modes.cur ≠ .held → periodDue s (reg s A_LK_REPORT_PERIOD 0) = true → fresh s 3 0 = true →
    u < 4 → planned s u = true →
    ∃ t, exec .linkReport s = .next t ∧ (lane t u).repSlots = 0 ∧ (lane t u).repQuires = 0 ∧
      report 14 s.tb.beat 0x40 u (lane s u).repSlots (lane s u).repQuires ∈ t.gran.dwq ∧
      report 14 s.tb.beat 0x41 u (lane s u).repUnits (lane s u).repRewinds ∈ t.gran.dwq)

/-- R222, R225, R228, R234, R242: a plain credit moves CRED and releases the quires below it; a rewind returns the rest and takes
the new RWG; a frame whose RWG fits nothing changes nothing but its counter; LANE_DOWN fails the lane; a frame of an idle lane
changes nothing; a frame that is not whole is discarded and counted; a downlane gains and loses its lock. -/
def Obligations.CreditsAndDownlanes : Prop :=
  (∀ (d : DlId) (bytes : List Byte) (v : Nat) (s : State), padsFree s = true → dlReceives s d.val = true →
    s.modes.cur ≠ .held → s.barns.takeover = none → frame64 0x42 bytes = some v →
    ((lane s (bits v 55 54)).st = .active ∨ (lane s (bits v 55 54)).st = .draining) → bitAt v 52 = false →
    (BitVec.ofNat 32 (bits v 31 0) - (lane s (bits v 55 54)).cred).toNat ≤
      ((lane s (bits v 55 54)).qnum - (lane s (bits v 55 54)).cred).toNat →
    (bitAt v 53 = false → BitVec.ofNat 2 (bits v 51 50) = (lane s (bits v 55 54)).rwg →
      ∃ t, exec (.creditFrame d bytes) s = .next t ∧ (lane t (bits v 55 54)).cred = BitVec.ofNat 32 (bits v 31 0) ∧
        (lane t (bits v 55 54)).qnum = (lane s (bits v 55 54)).qnum ∧ (lane t (bits v 55 54)).prevRwg = none ∧
        (∀ q ∈ (lane s (bits v 55 54)).closed, (q.qnum - (lane s (bits v 55 54)).cred).toNat <
            (BitVec.ofNat 32 (bits v 31 0) - (lane s (bits v 55 54)).cred).toNat →
          q ∉ (lane t (bits v 55 54)).closed ∧
          ∀ a ∈ q.units, ∀ x, unitAt s a = some x → isBroadcast x = false → ∀ w ∈ t.gran.units, w.arr ≠ a)) ∧
    (bitAt v 53 = true → BitVec.ofNat 2 (bits v 51 50) = (lane s (bits v 55 54)).rwg + 1 →
      ∃ t, exec (.creditFrame d bytes) s = .next t ∧ (lane t (bits v 55 54)).cred = BitVec.ofNat 32 (bits v 31 0) ∧
        (lane t (bits v 55 54)).qnum = BitVec.ofNat 32 (bits v 31 0) ∧
        (lane t (bits v 55 54)).rwg = (lane s (bits v 55 54)).rwg + 1 ∧
        (lane t (bits v 55 54)).prevRwg = some (lane s (bits v 55 54)).rwg ∧
        (lane t (bits v 55 54)).closed = [] ∧ (lane t (bits v 55 54)).opn = [])) ∧
  (∀ (d : DlId) (bytes : List Byte) (v : Nat) (s : State), padsFree s = true → dlReceives s d.val = true →
    s.modes.cur ≠ .held → s.barns.takeover = none → frame64 0x42 bytes = some v →
    ((lane s (bits v 55 54)).st = .active → bitAt v 52 = false →
      BitVec.ofNat 2 (bits v 51 50) ≠ (lane s (bits v 55 54)).rwg →
      (bitAt v 53 = true → BitVec.ofNat 2 (bits v 51 50) ≠ (lane s (bits v 55 54)).rwg + 1) →
      (lane s (bits v 55 54)).prevRwg ≠ some (BitVec.ofNat 2 (bits v 51 50)) →
      ∃ t, exec (.creditFrame d bytes) s = .next t ∧ t.gran.units = s.gran.units ∧
        (lane t (bits v 55 54)) = { lane s (bits v 55 54) with credAt := s.tb.dk } ∧
        bits (tally t A_LK_UL_ERRORS (bits v 55 54)) 15 0 =
          satAdd 65535 (bits (tally s A_LK_UL_ERRORS (bits v 55 54)) 15 0) 1) ∧
    ((lane s (bits v 55 54)).st = .active ∨ (lane s (bits v 55 54)).st = .draining → bitAt v 52 = true →
      ∃ t, exec (.creditFrame d bytes) s = .next t ∧ (lane t (bits v 55 54)).st = .failed) ∧
    ((lane s (bits v 55 54)).st = .training → (lane s (bits v 55 54)).trainEnd.isSome = true →
      (lane s (bits v 55 54)).confirmed = none → bitAt v 52 = false →
      ∃ t, exec (.creditFrame d bytes) s = .next t ∧ (lane t (bits v 55 54)).confirmed = some s.tb.up) ∧
    ((lane s (bits v 55 54)).st = .off ∨ (lane s (bits v 55 54)).st = .negotiating ∨ (lane s (bits v 55 54)).st = .sleep ∨
      (lane s (bits v 55 54)).st = .failed ∨ (lane s (bits v 55 54)).st = .fenced →
      exec (.creditFrame d bytes) s = .next s)) ∧
  (∀ (d : DlId) (bytes : List Byte) (s : State), padsFree s = true → dlReceives s d.val = true →
    (frame64 0x42 bytes = none → exec (.creditFrame d bytes) s = .next (count s A_LK_DL_ERRORS d.val 15 0 1)) ∧
    (frame64 0x45 bytes = none → exec (.aggAnnounceFrame d bytes) s = .next (count s A_LK_DL_ERRORS d.val 15 0 1))) ∧
  (∀ (d : DlId) (s : State), padsFree s = true → powered s = true →
    (∃ t, exec (.downlaneLock d) s = .next t ∧ (dlane t d.val).locked = true ∧ (dlane t d.val).lost = false) ∧
    ((dlane s d.val).lost = false → ∃ t, exec (.downlaneLockLoss d) s = .next t ∧ (dlane t d.val).locked = false ∧
      (dlane t d.val).lost = true ∧
      bits (tally t A_LK_DL_ERRORS d.val) 47 32 = satAdd 65535 (bits (tally s A_LK_DL_ERRORS d.val) 47 32) 1))

/-- R245, R249, R252, R255, R257, R258, R259, R260: at the end of its period a window's result, corrected and scaled, waits 16 beats; the next
conversion begins at the same beat edge, an injected request before the aborted scan conversion, which restarts for a full period; an
injected request aborts a running scan conversion; an injected result is replied and replaces nothing; a scan result replaces the input's
record, and a clean one sets the channel's baseline target; one of a held channel or a claimed converter is stale and replaces nothing.
R249, R261: GATE_HOLD beats after the discriminator's release the tap follows its input again, and the beats of its hold count in the
window that runs on it; every `MON_BASE_SLEW` deckles each baseline moves one unit toward its target, but for the channels of a
fenced or claimed converter. -/
def Obligations.Monitor : Prop :=
  ((∀ (k : Conv) (raw : Int) (c : Conversion) (s : State), (mc s k.val).run = some c →
     (s.tb.up < c.stop → exec (.monitorWindowEnd k raw) s = .next s) ∧
     (c.stop ≤ s.tb.up → ∃ t r, exec (.monitorWindowEnd k raw) s = .next t ∧ (mc t k.val).result = some r ∧ r.conv = c ∧
       r.due = s.tb.up + 16 ∧ r.result = (monResult s k.val c.input raw).1 ∧ r.overrange = (monResult s k.val c.input raw).2 ∧
       ((mc s k.val).claimed = true → r.stale = true ∧ (mc t k.val).run = scanConv s k.val c.entry) ∧
       ((mc s k.val).claimed = false → r.stale = c.stale ∧ (s.modes.cur ≠ .held → convFenced s k.val = false →
         (∀ q rest, (mc s k.val).inj = q :: rest → (mc t k.val).inj = rest ∧
           (mc t k.val).run = some (convAt s q.input (mc s k.val).pos q.five (some q.req))) ∧
         (∀ a, (mc s k.val).inj = [] → (mc s k.val).claimWaits = false → (mc s k.val).aborted = some a →
           (mc t k.val).aborted = none ∧ (mc t k.val).run = some (convAt s a.input a.entry a.five none)) ∧
         ((mc s k.val).inj = [] → (mc s k.val).claimWaits = false → (mc s k.val).aborted = none →
           (mc t k.val).run = scanConv s k.val (mc s k.val).pos))))) ∧
   (∀ (k : Conv) (q : Inject) (rest : List Inject) (c : Conversion) (s : State), (mc s k.val).inj = q :: rest →
     (mc s k.val).claimed = false → s.modes.cur ≠ .held → convFenced s k.val = false → q.acc + 1 ≤ s.tb.up →
     (mc s k.val).result = none → (mc s k.val).run = some c → c.injected = none →
     ∃ t, exec (.injectAbortEdge k) s = .next t ∧ (mc t k.val).aborted = some c ∧ (mc t k.val).inj = rest ∧
       (mc t k.val).run = some (convAt s q.input (mc s k.val).pos q.five (some q.req)) ∧
       bits (tally t A_MON_ABORTS k.val) 15 0 = satAdd 65535 (bits (tally s A_MON_ABORTS k.val) 15 0) 1) ∧
   (∀ (k : Conv) (r : ConvResult) (q : Req) (s : State), (mc s k.val).result = some r → r.due ≤ s.tb.up →
     r.conv.injected = some q →
     ∃ t, exec (.monitorResultDelivered k) s = .next t ∧ t.mon.results = s.mon.results ∧ t.chs = s.chs ∧
       t.mon.out = s.mon.out ∧ (mc t k.val).result = none ∧
       replyMsg q 0x30 0 0 (valueWords 2 (monValue
         (newRecord s r (r.stale || (decide (r.conv.input < 192) && (chan s r.conv.input).held)) []) true)) ∈ msgsOf t q.port) ∧
   (∀ (k : Conv) (r : ConvResult) (s : State), (mc s k.val).result = some r → r.due ≤ s.tb.up → r.conv.injected = none →
     r.stale = false → (r.conv.input < 192 → (chan s r.conv.input).held = false) → (mc s k.val).claimed = false →
     ∃ t, exec (.monitorResultDelivered k) s = .next t ∧ monRec t r.conv.input =
         newRecord s r false (((r.result, overGate s r) :: (monRec s r.conv.input).accepted).take 2) ∧
       (r.conv.input < 192 → bitAt (reg s A_MON_CH_CTRL r.conv.input) 0 = true → r.overrange = false → overGate s r = false →
         (chan t r.conv.input).baseTarget = baseTargetOf (chan s r.conv.input).ana.gain r.result)) ∧
   (∀ (k : Conv) (r : ConvResult) (s : State), (mc s k.val).result = some r → r.due ≤ s.tb.up → r.conv.injected = none →
     (r.stale = true ∨ (mc s k.val).claimed = true ∨ r.conv.input < 192 ∧ (chan s r.conv.input).held = true) →
     ∃ t, exec (.monitorResultDelivered k) s = .next t ∧ (monRec t r.conv.input).stale = true ∧
       (monRec t r.conv.input).result = (monRec s r.conv.input).result ∧ t.chs = s.chs)) ∧
  ((∀ (c : Chan) (b : Nat) (s : State), (chan s c.val).tapResume = some b → b ≤ s.tb.up → (chan s c.val).active = false →
     ∃ t, exec (.tapHoldRelease c) s = .next t ∧ (chan t c.val).tapHeld = false ∧ (chan t c.val).tapResume = none ∧
       (chan t c.val).base = (chan s c.val).base ∧
       ∀ v, (mc s (convOf c.val)).run = some v → v.input = c.val → (mc t (convOf c.val)).run =
         some { v with gatedBeats := v.gatedBeats + tapBeats (chan s c.val) v.start s.tb.up }) ∧
   (∀ (s : State) (c : Nat), s.modes.cur ≠ .held → atBoundary s = true → reg s A_MON_BASE_SLEW 0 ≤ s.mon.slewCount →
     c < 192 →
     ∃ t, exec .baselineSlewStep s = .next t ∧ t.mon.slewCount = 0 ∧ t.tb = s.tb ∧
       (convFenced s (c / 24) = true ∨ (mc s (c / 24)).claimed = true → chan t c = chan s c) ∧
       (convFenced s (c / 24) = false → (mc s (c / 24)).claimed = false →
         ((chan s c).base < (chan s c).baseTarget → (chan t c).base = (chan s c).base + 1) ∧
         ((chan s c).base = (chan s c).baseTarget → (chan t c).base = (chan s c).base) ∧
         ((chan s c).baseTarget < (chan s c).base → (chan t c).base = (chan s c).base - 1))))

/-- R256, R263, R265, Table 11.8: an injected conversion joins its converter's queue of four, else BUSY; READ_MONITOR replies the records;
TEST_DAC drives the stook's DAC and is replied when its output has settled, or waits behind its holder; without CONNECT the hold ends. -/
def Obligations.MonitorCommands : Prop :=
  (∀ (r : Req) (i : Byte) (five : Bool) (s : State), Served s r 0x30 → i.toNat < 216 →
    (4 ≤ (mc s (convOf i.toNat)).inj.length → ∃ d, exec (.injectConversion r i five) s = .next (reply s r 0x30 1 d [])) ∧
    ((mc s (convOf i.toNat)).inj.length < 4 → convFenced s (convOf i.toNat) = true →
      exec (.injectConversion r i five) s = .next (reply s r 0x30 8 0 [])) ∧
    ((mc s (convOf i.toNat)).inj.length < 4 → convFenced s (convOf i.toNat) = false → s.cmd.outst.length < 16 →
      ∃ t, exec (.injectConversion r i five) s = .next t ∧ (mc t (convOf i.toNat)).inj =
        (mc s (convOf i.toNat)).inj ++ [{ req := r, input := i.toNat, five := five, acc := s.tb.up }] ∧
        t.cmd.outst = s.cmd.outst ++ [{ req := r, opcode := 0x30, key := i.toNat }] ∧ t.cmd.spiQ = s.cmd.spiQ ∧
        t.cmd.laneQ = s.cmd.laneQ)) ∧
  (∀ (r : Req) (a n : Byte) (s : State), Served s r 0x31 → 1 ≤ n.toNat → n.toNat ≤ 108 → a.toNat + n.toNat ≤ 216 →
    exec (.readMonitor r a n) s = .next (reply s r 0x31 0 0
      ((List.range n.toNat).flatMap fun j => valueWords 2 (monValue (monRec s (a.toNat + j)) false)))) ∧
  (∀ (r : Req) (k ch : BitVec 4) (low : Bool) (code : BitVec 12) (s : State), ServedOpen s r 0x32 → k.toNat < 12 →
    foregroundRuns s = false →
    ((tdac s k.toNat).holder = .none ∨ (tdac s k.toNat).holder = .host →
      ∃ t, exec (.testDacConnect r k ch low code) s = .next t ∧ (tdac t k.toNat).holder = .host ∧
        (tdac t k.toNat).connected = true ∧ (tdac t k.toNat).ch = ch.toNat ∧ (tdac t k.toNat).low = low ∧
        (tdac t k.toNat).code = code ∧ (tdac t k.toNat).settled = false ∧
        (tdac t k.toNat).reqs = (tdac s k.toNat).reqs ++ [r]) ∧
    ((tdac s k.toNat).holder = .calibration ∨ (tdac s k.toNat).holder = .check →
      ∃ t, exec (.testDacConnect r k ch low code) s = .next t ∧ (tdac t k.toNat).holder = (tdac s k.toNat).holder ∧
        (tdac t k.toNat).waits = (tdac s k.toNat).waits ++ [DacClaim.host r ch.toNat low code])) ∧
  (∀ (r : Req) (k : BitVec 4) (s : State), Served s r 0x32 → k.toNat < 12 → foregroundRuns s = false →
    (tdac s k.toNat).holder = .host → (tdac s k.toNat).waits = [] →
    ∃ t, exec (.testDacRelease r k) s = .next t ∧ (tdac t k.toNat).holder = .none ∧
      (tdac t k.toNat).connected = false ∧ ∃ w, replyMsg r 0x32 0 0 w ∈ msgsOf t r.port) ∧
  (∀ (k : StookId) (s : State), (tdac s k.val).holder = .host → (tdac s k.val).settled = false →
    ∃ t, exec (.testDacSettled k) s = .next t ∧ (tdac t k.val).settled = true ∧ (tdac t k.val).reqs = [] ∧
      ∀ q ∈ (tdac s k.val).reqs, replyMsg q 0x32 0 0 (valueWords 1 (tdState s k.val)) ∈ msgsOf t q.port)

/-- R266 to R268: a check on an enabled channel is opened and, with the test DAC free, begins at once: the channel is held and the DAC
claimed; with the DAC taken it waits; a second one is BUSY. Each step of Table 8.6 takes its measurement where the input is quiet and goes on
to the next; one on an input that is not is retried, and without retries left ends the check with verdict 8. At its end the channel and the
DAC are free, the verdict is the lowest code of the failures found, and it is reported and replied. -/
def Obligations.InputPathCheck : Prop :=
  (∀ (r : Req) (c : Byte) (s : State), Served s r 0x33 → c.toNat < 192 → enabled s c.toNat = true →
    (s.mon.ipc.isSome = true → exec (.inputPathCheck r c) s = .next (reply s r 0x33 1 0x33 [])) ∧
    (s.mon.ipc = none → s.cmd.outst.length < 16 → (tdac s (c.toNat / 16)).holder = .none →
      ∃ t, exec (.inputPathCheck r c) s = .next t ∧ (chan t c.toNat).held = true ∧
        (tdac t (c.toNat / 16)).holder = .check ∧ ∃ p, t.mon.ipc = some p ∧ p.req = r ∧ p.ch = c.toNat ∧ p.started = true) ∧
    (s.mon.ipc = none → s.cmd.outst.length < 16 → (tdac s (c.toNat / 16)).holder ≠ .none →
      ∃ t, exec (.inputPathCheck r c) s = .next t ∧ t.chs = s.chs ∧ DacClaim.check ∈ (tdac t (c.toNat / 16)).waits ∧
        ∃ p, t.mon.ipc = some p ∧ p.ch = c.toNat ∧ p.started = false)) ∧
  (∀ (p : Ipc) (m : CheckMeas) (s : State), s.mon.ipc = some p → p.started = true →
    (checkQuiet s p.ch = false → p.retries < reg s A_CAL_RETRIES 0 → exec (.inputPathCheckEnd m) s =
      .next { s with mon := { s.mon with ipc := some { p with retries := p.retries + 1 } } }) ∧
    (checkQuiet s p.ch = true →
      (∀ v, m = .level v → p.step = 1 → ∃ t q, exec (.inputPathCheckEnd m) s = .next t ∧ t.mon.ipc = some q ∧
        q.plus = v ∧ q.step = 2 ∧ q.retries = 0 ∧ (tdac t (p.ch / 16)).holder = .check) ∧
      (∀ v, m = .level v → p.step = 2 → ∃ t q, exec (.inputPathCheckEnd m) s = .next t ∧ t.mon.ipc = some q ∧
        q.minus = v ∧ q.step = (if bits (reg s A_IPC_REF p.ch) 13 0 = 0 then 4 else 3) ∧
        (tdac t (p.ch / 16)).connected = false) ∧
      (∀ v, m = .peak v → p.step = 3 → ∃ t q, exec (.inputPathCheckEnd m) s = .next t ∧ t.mon.ipc = some q ∧
        q.peak = v ∧ q.step = 4)) ∧
    (∀ v, (checkQuiet s p.ch = false ∧ reg s A_CAL_RETRIES 0 ≤ p.retries ∧ v = 8 ∨
        (∃ e : Option Int, checkQuiet s p.ch = true ∧ p.step = 4 ∧ m = .edge e ∧
          v = ipcVerdict s (checkFound s p (e.map fun x => roundDiv (x - injectorDelay s p.ch) 16)))) →
      ∃ t, exec (.inputPathCheckEnd m) s = .next t ∧ t.mon.ipc = none ∧ (chan t p.ch).held = false ∧
        (tdac t (p.ch / 16)).holder ≠ .check ∧ (pget 15 t.mon.ipcRes p.ch).toNat % 16 = v ∧
        replyMsg p.req 0x33 (if v = 8 then 0x0D else 0) 0 (valueWords 2 (pget 15 t.mon.ipcRes p.ch).toNat)
          ∈ msgsOf t p.req.port)) ∧
  (∀ (s : State) (f : CheckFound) (q : Nat) (g : Int), f.ref ≠ 0 → f.peak = some q → f.residual.isSome = true → f.gain = some g →
    bits (reg s A_IPC_TOL 0) 15 0 < g.natAbs →
    (4 * q < f.ref → ipcVerdict s f = 2) ∧ (3 * f.ref < 2 * q → ipcVerdict s f = 3) ∧
    (f.ref ≤ 4 * q → 2 * q ≤ 3 * f.ref → ipcVerdict s f = 4))

/-- R275, R276, R279, R280, Table 11.8: CAL_START of each kind is replied at once; a foreground run begins unless an injected conversion
is in the way, holds every enabled channel and claims every test DAC; a gleaned channel waits for its boundary; CAL_ABORT is
replied OK with or without a run; CAL_STATUS replies the run, the store and the device figure. -/
def Obligations.CalibrationCommands : Prop :=
  (∀ (r : Req) (mask : BitVec 12) (s : State), Served s r 0x40 → s.modes.cur = .cal → bitAt mask.toNat 0 = false →
    hostRun s = false → (∀ d ∈ s.mon.dacs, d.2.holder ≠ .host) → s.mon.ipc = none →
    ((∀ k < 8, injectedPending s k = false) →
      ∃ t x, exec (.calStartForeground r mask) s = .next t ∧ t.cal.run = some x ∧ x.kind = .foreground ∧ x.req = some r ∧
        (∀ c < 192, enabled s c = true → (chan t c).held = true) ∧ (∀ k < 12, (tdac t k).holder = .calibration) ∧
        replyMsg r 0x40 0 0 [] ∈ msgsOf t r.port) ∧
    ((∃ k < 8, injectedPending s k = true) →
      ∃ t x, exec (.calStartForeground r mask) s = .next t ∧ t.cal.queued = some x ∧ x.kind = .foreground ∧
        t.cal.run = s.cal.run ∧ t.chs = s.chs ∧ replyMsg r 0x40 2 0 [] ∈ msgsOf t r.port)) ∧
  (∀ (r : Req) (mask : BitVec 12) (s : State), Served s r 0x40 → bitAt mask.toNat 0 = false → s.modes.cur ≠ .cal →
    exec (.calStartForeground r mask) s = .next (reply s r 0x40 7 (modeByte s) [])) ∧
  (∀ (r : Req) (c : Byte) (mask : BitVec 12) (s : State), Served s r 0x40 → serviceMode s.modes.cur = true →
    c.toNat < 192 → enabled s c.toNat = true → fencedChannel s c.toNat = false → mask.toNat &&& gleanSteps = mask.toNat →
    hostRun s = false →
    ∃ t x, exec (.calStartGleanChannel r c mask) s = .next t ∧ t.cal.queued = some x ∧ x.kind = .gleanCh ∧
      x.unit = c.toNat ∧ x.req = some r ∧ t.cal.run = s.cal.run ∧ replyMsg r 0x40 0 0 [] ∈ msgsOf t r.port) ∧
  (∀ (r : Req) (mask : BitVec 12) (s : State), Served s r 0x40 → serviceMode s.modes.cur = true →
    mask.toNat &&& (gleanSteps + 2) = mask.toNat → hostRun s = false →
    ∃ t w, exec (.calStartGleanSweep r mask) s = .next t ∧ t.cal.sweep = some w ∧ w.next = 0 ∧ w.req = some r ∧
      w.mask = mask.toNat ∧ replyMsg r 0x40 0 0 [] ∈ msgsOf t r.port) ∧
  (∀ (r : Req) (s : State), Served s r 0x41 →
    ∃ t, exec (.calAbort r) s = .next t ∧ t.cal.queued = none ∧ replyMsg r 0x41 0 0 [] ∈ msgsOf t r.port ∧
      (∀ x, t.cal.run = some x → x.aborting.isSome = true) ∧ (s.cal.run = none → t.cal.run = none)) ∧
  (∀ (r : Req) (s : State), Served s r 0x42 → exec (.calStatus r) s = .next (reply s r 0x42 0 0
    (valueWords 1 (calRunStatus s) ++ valueWords 2 (seedStatus s) ++ valueWords 2 (calQuality s 255))))

/-- R255, R277 to R283: a sweep begins when it is due; its next channel is held from a boundary; a converter's claim makes its results
stale; a disturbed measurement is repeated while retries last; a run that is complete ends at its release with its channel
free; an aborted one brings no value into force. -/
def Obligations.CalibrationRuns : Prop :=
  (∀ s : State, serviceMode s.modes.cur = true → bitAt (reg s A_CAL_GLEAN_CTRL 0) 0 = true → s.cal.sweepDue ≤ s.tb.up →
    s.cal.sweep = none →
    ∃ t w, exec .gleanSweepStart s = .next t ∧ t.cal.sweep = some w ∧ w.next = 0 ∧ w.req = none ∧
      t.cal.sweepDue = s.tb.up + bits (reg s A_CAL_GLEAN_CTRL 0) 23 8 * 40960000) ∧
  (∀ (s : State) (w : Sweep) (u : Nat), atBoundary s = true → serviceMode s.modes.cur = true → s.cal.run = none →
    s.cal.lastRelease + 1024 * bits (reg s A_CAL_GLEAN_CTRL 0) 31 24 ≤ s.tb.up → s.cal.queued = none → s.cal.sweep = some w →
    w.paused = false → nextUnit s w.next = some u → u < 192 → (tdac s (u / 16)).holder = .none →
    ∃ t x, exec .gleanRunStart s = .next t ∧ t.cal.run = some x ∧ x.kind = .gleanCh ∧ x.unit = u ∧ x.sweep = true ∧
      x.lead = s.tb.up + 4096 ∧ (chan t u).held = true ∧ (chan t u).holdBeat = s.tb.beat ∧
      (tdac t (u / 16)).holder = .calibration) ∧
  (∀ (k : Conv) (s : State), (mc s k.val).claimWaits = true → (mc s k.val).run = none →
    injectedPending s k.val = false → convFenced s k.val = false → s.cal.queued = none →
    ∃ t, exec (.calClaimTakesEffect k) s = .next t ∧ (mc t k.val).claimed = true ∧ (mc t k.val).claimWaits = false ∧
      ∀ l < 27, (monRec t (globalInput k.val l)).stale = true) ∧
  (∀ (sat : List Nat) (fired : List (Nat × Nat)) (vs : List (CalKey × Int)) (es : List ElemMeas) (x : Run) (b : Nat)
      (s : State), s.cal.run = some x → x.kind = .gleanCh → x.ready = none → x.aborting = none → x.start = some b →
    x.held = [x.unit] → x.dropped = [] → x.failed = [] → x.part = [] →
    (s.tb.up < b + stepBeats s .gleanCh x.step → exec (.calibrationMeasurement sat fired vs es) s = .next s) ∧
    (b + stepBeats s .gleanCh x.step ≤ s.tb.up → x.unit ∈ sat ∨ disturbed s x fired x.unit = true →
      ∃ t y, exec (.calibrationMeasurement sat fired vs es) s = .next t ∧ t.cal.run = some y ∧ y.got = x.got ∧
        y.step = x.step ∧ y.pass = x.pass ∧
        (x.retries < reg s A_CAL_RETRIES 0 → y.retries = x.retries + 1 ∧ y.failed = [] ∧ y.ready = none) ∧
        (reg s A_CAL_RETRIES 0 ≤ x.retries → y.failed = pset 0 [] x.unit x.step ∧ y.ready = some s.tb.dk))) ∧
  (∀ (found : List Residual) (x : Run) (d : Nat) (s : State), s.cal.run = some x → x.kind = .gleanCh → x.unit < 192 →
    x.held = [x.unit] → x.dropped = [] → s.mon.ipc = none →
    (x.aborting = none → x.ready = some d → d ≤ s.tb.dk → atBoundary s = true →
      ∃ t, exec (.calibrationRelease found) s = .next t ∧ t.cal.run = none ∧ (chan t x.unit).held = false ∧
        t.cal.lastStatus = (if x.failed ≠ [] then 0x0D else if x.rejected ≠ [] then 0x0E else 0) ∧
        t.cal.lastRelease = s.tb.up) ∧
    (x.aborting = some d → d < s.tb.dk → atBoundary s = true →
      ∃ t, exec (.calibrationRelease found) s = .next t ∧ t.cal.run = none ∧ (chan t x.unit).held = false ∧
        t.cal.image = s.cal.image ∧ t.cal.slews = s.cal.slews ∧ t.cal.lastStatus = 0x0C)) ∧
  (∀ (found : List Residual) (x : Run) (d : Nat) (s : State), s.cal.run = some x → x.kind = .foreground →
    s.mon.ipc = none → x.aborting = none → x.ready = some d → d ≤ s.tb.dk →
    ∃ t, exec (.foregroundRunEnd found) s = .next t ∧ t.cal.run = none ∧
      (∀ c < 192, c ∈ runUnits x → (chan t c).held = false) ∧ (∀ k < 12, (tdac t k).holder ≠ .calibration) ∧
      t.cal.lastStatus = (if x.failed ≠ [] then 0x0D else if x.rejected ≠ [] then 0x0E else 0))

/-- R282: the result of two or three measurements of one quantity.
R284, R285: at a deckle boundary a value in force moves toward its target by the whole units that its allowance gives, the rest
of the allowance staying; it never passes the target; with a slew limit of 0, or out of a foreground run, it is there at
once; outside service it stands. -/
def Obligations.AgreementAndSlewing : Prop :=
  (∀ (tol : Nat) (a b c : Int),
     ((a - b).natAbs ≤ tol → ∀ o, agree tol a b o = some ((a + b + 1) / 2)) ∧
     (tol < (a - b).natAbs → agree tol a b none = none ∧
       ((a - c).natAbs ≤ tol → (a - c).natAbs ≤ (b - c).natAbs → agree tol a b (some c) = some ((a + c + 1) / 2)) ∧
       ((b - c).natAbs ≤ tol → (b - c).natAbs < (a - c).natAbs → agree tol a b (some c) = some ((b + c + 1) / 2)) ∧
       (tol < (a - c).natAbs → tol < (b - c).natAbs → agree tol a b (some c) = none))) ∧
  (∀ (s : State) (no : Nat) (w : Slew), let limit := reg s A_CAL_SLEW (no / 2 ^ 20)
     let unit := slewUnit (no / 2 ^ 20) (no % 2 ^ 10)
     (w.once = true ∨ limit = 0 → slewOne s (no, w) = none) ∧
     (w.once = false → limit ≠ 0 → serviceMode s.modes.cur = false → slewOne s (no, w) = some (no, w)) ∧
     (w.once = false → limit ≠ 0 → serviceMode s.modes.cur = true →
       (slewOne s (no, w) = none → (w.target - w.v).natAbs * 10240 ≤ unit * (w.allow + limit)) ∧
       (∀ e, slewOne s (no, w) = some e → e.1 = no ∧ e.2.target = w.target ∧
         (e.2.v - w.v).natAbs * 10240 + unit * e.2.allow = unit * (w.allow + limit) ∧ e.2.allow < 10240 ∧
         (e.2.v - w.v).natAbs + (w.target - e.2.v).natAbs = (w.target - w.v).natAbs)))

/-- R294 to R300: a commit goes to the bank that is not in force; read back whole and valid it comes into force, else the bank in force
stays, the reply is ROLLED_BACK and the fault is counted; no value in force moves; a boot uses the bank of Table 9.7 and writes
none, its records coming into force at the next boundary; SEED_READ replies the bytes as they lie. -/
def Obligations.SeedStore : Prop :=
  (∀ (r : Req) (s : State), ServedOpen s r 0x43 → s.cal.commit = none → foregroundRuns s = false →
    commitDenied s = false →
    ∃ t c, exec (.calCommit r) s = .next t ∧ t.cal.commit = some c ∧ c.req = some r ∧ c.image = none ∧
      c.bank = (match s.cal.inForce with | some b => 1 - b | none => 1) ∧ t.cal.inForce = s.cal.inForce ∧
      t.cal.image = s.cal.image) ∧
  (∀ (r : Req) (s : State), Served s r 0x43 → s.cal.commit.isSome = true →
    exec (.calCommit r) s = .next (reply s r 0x43 1 0x43 [])) ∧
  (∀ (back : Bool) (c : Commit) (img : List Byte) (s : State), s.cal.commit = some c → c.image = some img → c.bank < 2 →
    ∃ t, exec (.seedCommitComplete back) s = .next t ∧ t.cal.commit = none ∧
      seedBank t (1 - c.bank) = seedBank s (1 - c.bank) ∧ t.cal.image = s.cal.image ∧ t.cal.slews = s.cal.slews ∧
      (back = true → bankValid (seedBank t c.bank) = true → t.cal.inForce = some c.bank ∧
        ∀ r, c.req = some r → replyMsg r 0x43 0 0 (valueWords 2 (seedStatus t)) ∈ msgsOf t r.port) ∧
      (back = false → t.cal.inForce = s.cal.inForce ∧
        bits (tally t A_FLT_COUNT 35) 15 0 = satAdd 65535 (bits (tally s A_FLT_COUNT 35) 15 0) 1 ∧
        ∀ r, c.req = some r → replyMsg r 0x43 0x0F 0 (valueWords 2 (seedStatus t)) ∈ msgsOf t r.port)) ∧
  (∀ (r : Req) (b : BitVec 1) (o : BitVec 16) (n : BitVec 11) (s : State), Served s r 0x44 → 1 ≤ n.toNat →
    n.toNat ≤ 1024 → o.toNat + n.toNat ≤ 65536 →
    exec (.seedRead r b o n) s = .next (reply s r 0x44 0 0
      (toWords ((n.toNat + 3) / 4) (memReads 0xFF (seedBank s b.toNat) o.toNat n.toNat)))) ∧
  (∀ s : State, (seedLoad s).1 = (bootBank s).isSome ∧ (seedLoad s).2.cal.inForce = bootBank s ∧
    (seedLoad s).2.cal.bank0 = s.cal.bank0 ∧ (seedLoad s).2.cal.bank1 = s.cal.bank1 ∧
    (seedLoad s).2.cal.image = s.cal.image ∧ (seedLoad s).2.cal.slews = s.cal.slews ∧
    (∀ b, bootBank s = some b →
      (seedLoad s).2.cal.loaded = some (memOf 0 0x440 (memReads 0xFF (seedBank s b) 0x440 0xCDC0))) ∧
    (bankValid s.cal.bank0 = true → bankValid s.cal.bank1 = true →
      bootBank s = some (if bankSeq s.cal.bank0 < bankSeq s.cal.bank1 then 1 else 0)) ∧
    (bankValid s.cal.bank0 = true → bankValid s.cal.bank1 = false → bootBank s = some 0) ∧
    (bankValid s.cal.bank0 = false → bankValid s.cal.bank1 = true → bootBank s = some 1) ∧
    (bankValid s.cal.bank0 = false → bankValid s.cal.bank1 = false → bootBank s = none))

/-- R311 to R314: a staging write puts its bytes into the shadow copy, which is STAGED once complete; without FIRST an empty copy is
NOTHING_STAGED; a pending couch makes it BUSY; a patch starts from the active copy whose DIGEST it names; DISCARD_STAGED empties
the copy in any state and cancels the pending couch. The active copy stays.
R315, R326: CHECK_STAGED runs the check once; its end makes the image CHECKED or FAILED by the first rule that fails, records the
rule and replies it; an empty or loading copy is NOTHING_STAGED; MOULD_INFO replies its attributes. -/
def Obligations.MouldStaging : Prop :=
  ((∀ (r : Req) (o : BitVec 20) (bs : List Byte) (first : Bool) (i : Instr) (s : State), Served s r 0x20 →
     i = (if first then .stageMouldFirst r o bs else .stageMould r o bs) → o.toNat % 8 = 0 → bs.length % 8 = 0 →
     1 ≤ bs.length → bs.length ≤ 1024 → o.toNat + bs.length ≤ 1048576 → bootPortWrong s r.port = false →
     s.md.checking = none →
     (s.md.stage = .pending → exec i s = .next (reply s r 0x20 1 0x23 [])) ∧
     (first = false → s.md.stage = .empty → exec i s = .next (reply s r 0x20 0x0A 0 [])) ∧
     (s.md.stage ≠ .pending → (first = true ∨ s.md.stage ≠ .empty) →
       ∃ t c, exec i s = .next t ∧ c = copyPut (if first then { mem := [], ranges := [] } else s.md.shadow) o.toNat bs ∧
         t.md.shadow = c ∧ t.md.stage = (if copyComplete c then .staged else .loading) ∧ t.md.active = s.md.active ∧
         t.cfg = s.cfg ∧ replyMsg r 0x20 0 0 [] ∈ msgsOf t r.port)) ∧
   (∀ (r : Req) (dg : List Byte) (es : List Edit) (c : Copy) (s : State), Served s r 0x21 → badEdit 36 es = none →
     bootPortWrong s r.port = false → s.md.checking = none → s.md.stage ≠ .pending → s.md.active = some c →
     (copyDigest c ≠ dg → exec (.stagePatchFirst r dg es) s = .next (reply s r 0x21 9 0x25 [])) ∧
     (copyDigest c = dg → ∃ t, exec (.stagePatchFirst r dg es) s = .next t ∧ t.md.shadow = applyEdits c es ∧
       t.md.stage = .staged ∧ t.md.active = some c ∧ replyMsg r 0x21 0 0 [] ∈ msgsOf t r.port)) ∧
   (∀ (r : Req) (es : List Edit) (s : State), Served s r 0x21 → badEdit 4 es = none → bootPortWrong s r.port = false →
     s.md.checking = none → s.md.stage ≠ .pending → s.md.stage ≠ .empty →
     ∃ t, exec (.stagePatch r es) s = .next t ∧ t.md.shadow = applyEdits s.md.shadow es ∧ t.md.stage = .staged ∧
       t.md.active = s.md.active ∧ replyMsg r 0x21 0 0 [] ∈ msgsOf t r.port) ∧
   (∀ (r : Req) (s : State), Served s r 0x24 → s.md.checking = none →
     ∃ t, exec (.discardStaged r) s = .next t ∧ t.md.stage = .empty ∧ t.md.shadow.mem = [] ∧ t.md.couch = none ∧
       t.md.active = s.md.active ∧ replyMsg r 0x24 0 0 [] ∈ msgsOf t r.port ∧
       (∀ c, s.md.couch = some c → t.md.lastStatus = 0x0C))) ∧
  ((∀ (r : Req) (s : State), Served s r 0x22 → s.md.checking = none →
     (s.md.stage = .empty → exec (.checkStaged r) s = .next (reply s r 0x22 0x0A 0 [])) ∧
     (s.md.stage = .loading → exec (.checkStaged r) s = .next (reply s r 0x22 0x0A 1 [])) ∧
     (s.md.stage = .pending → exec (.checkStaged r) s = .next (reply s r 0x22 1 0x23 [])) ∧
     (s.md.stage = .staged ∨ s.md.stage = .checked ∨ s.md.stage = .failed → s.cmd.outst.length < 16 →
       ∃ t, exec (.checkStaged r) s = .next t ∧ t.md.checking = some (some r) ∧ t.md.stage = s.md.stage ∧
         t.cmd.spiQ = s.cmd.spiQ ∧ t.cmd.laneQ = s.cmd.laneQ)) ∧
   (∀ (r : Req) (s : State), s.md.checking = some (some r) →
     ∃ t, exec .mouldCheckComplete s = .next t ∧ t.md.checking = none ∧ t.md.active = s.md.active ∧
       (match checkImage s s.md.shadow with
        | none => t.md.stage = .checked ∧ t.md.check = 0 ∧ replyMsg r 0x22 0 0 [] ∈ msgsOf t r.port
        | some b => t.md.stage = .failed ∧ t.md.check.toNat % 256 = b.rule % 256 ∧
            replyMsg r 0x22 9 b.rule (valueWords 2 t.md.check.toNat) ∈ msgsOf t r.port)) ∧
   (∀ (r : Req) (s : State), Served s r 0x25 → exec (.mouldInfo r) s = .next (reply s r 0x25 0 0
     (valueWords 2 (mdActive s) ++ (List.range 4).flatMap (fun i => valueWords 2 (mdDigest s i)) ++
       valueWords 1 (mdStage s) ++ valueWords 2 (mdCouchState s)))))

/-- R317, R318: a COUCH of a CHECKED image makes it PENDING: the immediate form within 41 deckles and replied later, the others QUEUED
at once; a deckle too near is BAD_PARAM; a time without a known clock is DENIED; the other staging states refuse it.
R319, R320: at its beat a couch whose dynamic rules hold exchanges the two copies, brings the registers of every moulded block to
the new mould's values, clears MODIFIED and reports OK; one whose dynamic rules fail changes no register and no copy, and reports
CHECK_FAILED. -/
def Obligations.Couching : Prop :=
  ((∀ (r : Req) (s : State), Served s r 0x23 → s.md.checking = none →
     (s.md.stage = .empty → exec (.couchImmediate r) s = .next (reply s r 0x23 0x0A 0 [])) ∧
     (s.md.stage = .loading → exec (.couchImmediate r) s = .next (reply s r 0x23 0x0A 1 [])) ∧
     (s.md.stage = .staged → exec (.couchImmediate r) s = .next (reply s r 0x23 8 0 [])) ∧
     (s.md.stage = .failed → exec (.couchImmediate r) s = .next (reply s r 0x23 9 (s.md.check.toNat % 256) [])) ∧
     (s.md.stage = .pending → exec (.couchImmediate r) s = .next (reply s r 0x23 1 0x23 [])) ∧
     (s.md.stage = .checked → isUpgrade s = false → s.cmd.outst.length < 16 →
       ∃ t c, exec (.couchImmediate r) s = .next t ∧ t.md.couch = some c ∧ t.md.stage = .pending ∧ c.form = 0 ∧
         c.req = some r ∧ s.tb.dk < c.due ∧ c.due ≤ s.tb.dk + 41 ∧ t.cmd.spiQ = s.cmd.spiQ ∧ t.cmd.laneQ = s.cmd.laneQ)) ∧
   (∀ (r : Req) (d : Deckle) (s : State), Served s r 0x23 →
     ((deckleAhead (deckle s) d = false ∨ (d - deckle s).toNat < 41) →
       exec (.couchAtDeckle r d) s = .next (reply s r 0x23 6 1 [])) ∧
     (deckleAhead (deckle s) d = true → couchLead s ≤ (d - deckle s).toNat → s.md.checking = none → s.md.stage = .checked →
       ∃ t c, exec (.couchAtDeckle r d) s = .next t ∧ t.md.couch = some c ∧ t.md.stage = .pending ∧ c.form = 1 ∧ c.d = d ∧
         replyMsg r 0x23 2 0 [] ∈ msgsOf t r.port)) ∧
   (∀ (r : Req) (secs : BitVec 48) (ns : BitVec 32) (s : State), Served s r 0x23 → ns.toNat ≤ 999999999 →
     timeAhead s secs.toNat ns.toNat (timeLead s * 1024) = true → s.md.checking = none → s.md.stage = .checked →
     (s.tb.quality ≤ 1 → exec (.couchAtPtpTime r secs ns) s = .next (reply s r 0x23 8 0 [])) ∧
     (2 ≤ s.tb.quality → ∃ t c, exec (.couchAtPtpTime r secs ns) s = .next t ∧ t.md.couch = some c ∧
       t.md.stage = .pending ∧ c.form = 2 ∧ c.secs = secs.toNat ∧ c.ns = ns.toNat ∧
       replyMsg r 0x23 2 0 [] ∈ msgsOf t r.port))) ∧
  (∀ (s : State) (c : Couch) (r : Req), s.md.couch = some c → c.req = some r → atBoundary s = true →
     c.reached.isSome = true → s.modes.cur ≠ .recovery → s.modes.cur ≠ .held → c.upgrade = false →
     (dynamicFail s s.md.shadow (mouldCfg (runVals s.md.shadow)) (serviceMode s.modes.cur) = none →
       ∃ t w, exec .couchBeat s = .next t ∧ t.md.active = some s.md.shadow ∧ t.md.modified = false ∧ t.md.couch = none ∧
         t.mg.sched = mouldSched s.md.shadow ∧ t.md.lastStatus = 0 ∧
         (∀ a, s.md.active = some a → t.md.shadow = a ∧ t.md.stage = (if s.md.modified then .staged else .checked)) ∧
         (∀ id inst, id / 4096 ∈ [1, 3, 4, 5, 6, 7, 8, 10, 11, 12] → inst < 512 →
           reg t id inst = cfgGet (mouldCfg (runVals s.md.shadow)) id inst) ∧
         (if c.form = 0 then replyMsg r 0x23 0 0 w else outcomeMsg r 0x23 0 0 w) ∈ msgsOf t r.port) ∧
     (∀ f, dynamicFail s s.md.shadow (mouldCfg (runVals s.md.shadow)) (serviceMode s.modes.cur) = some f →
       ∃ t w, exec .couchBeat s = .next t ∧ t.md.active = s.md.active ∧ t.md.shadow = s.md.shadow ∧ t.md.couch = none ∧
         t.md.stage = .checked ∧ t.cfg = s.cfg ∧ t.mg = s.mg ∧
         (if c.form = 0 then replyMsg r 0x23 9 f.rule w else outcomeMsg r 0x23 9 f.rule w) ∈ msgsOf t r.port))

/-- R309: four SETs of `MD_KEY` in order fill the slot and make it SET; a LOCK of a SET slot makes it LOCKED; a LOCKED slot takes no key
and keeps REQUIRE; out of CALIBRATION & TEST each is NOT_IN_MODE.
R323, R324: the three steps before an upgrade couch detach the standby with the new microcode, note its self-test and end its
resynchronisation, each in its time; a failed step cancels the couch, and one not complete at the beat cancels it there; at
the beat the standby takes the Hasp and the former owner is detached with the new microcode; it rejoins in lockstep within
200 deckles, or stays detached with a fault. -/
def Obligations.KeysAndMicrocode : Prop :=
  ((∀ (r : Req) (n : BitVec 9) (v : BitVec 64) (s : State), Served s r 0x11 → s.modes.cur = .cal → n.toNat < 4 →
     (s.md.keyState = 2 → exec (.mdKeyWrite r n v) s = .next (reply s r 0x11 8 0 [])) ∧
     (s.md.keyState ≠ 2 → n.toNat = s.md.keyNew.length → n.toNat < 3 →
       ∃ t, exec (.mdKeyWrite r n v) s = .next t ∧ t.md.keyNew = s.md.keyNew ++ [v] ∧ t.md.key = s.md.key ∧
         t.md.keyState = s.md.keyState) ∧
     (s.md.keyState ≠ 2 → n.toNat = s.md.keyNew.length → n.toNat = 3 →
       ∃ t, exec (.mdKeyWrite r n v) s = .next t ∧ t.md.keyState = 1 ∧ t.md.keyNew = [] ∧
         t.md.key = (s.md.keyNew ++ [v]).flatMap fun w => toBytes 8 w.toNat)) ∧
   (∀ (r : Req) (b : Bool) (s : State), Served s r 0x11 → s.modes.cur = .cal →
     (s.md.keyState = 1 → ∃ t, exec (.keyLock r b) s = .next t ∧ t.md.keyState = 2 ∧ t.md.require = b ∧
       t.md.key = s.md.key) ∧
     (s.md.keyState = 2 → s.md.require = true → exec (.keyRequire r false) s = .next (reply s r 0x11 8 0 [])) ∧
     (s.md.keyState ≠ 2 ∨ b = true → ∃ t, exec (.keyRequire r b) s = .next t ∧ t.md.require = b ∧
       t.md.keyState = s.md.keyState ∧ t.md.key = s.md.key)) ∧
   (∀ (r : Req) (n : BitVec 9) (v : BitVec 64) (b : Bool) (s : State), Served s r 0x11 → s.modes.cur ≠ .cal →
     exec (.mdKeyWrite r n v) s = .next (reply s r 0x11 7 (modeByte s) []) ∧
     exec (.keyLock r b) s = .next (reply s r 0x11 7 (modeByte s) []) ∧
     exec (.keyRequire r b) s = .next (reply s r 0x11 7 (modeByte s) []))) ∧
  ((∀ (s : State) (c : Couch), s.md.couch = some c → c.upgrade = true → c.reached = none → atBoundary s = true →
     s.barns.takeover = none → deckleReached (deckle s + 200) (couchDeckle s c) = true →
     (∀ v w : Nat, c.phase = 0 → s.barns.standby = .lockstep → inTime s c 200 = true →
       mouldMicrocode s.md.shadow = some (v, w) →
       ∃ t, exec (.upgradeDetach true) s = .next t ∧ t.md.couch = some { c with phase := 1 } ∧
         t.barns.standby = .detached ∧ t.barns.suspended = true ∧ t.barns.owner = s.barns.owner ∧
         (barn t (otherBarn s.barns.owner)).mc = v ∧ (barn t s.barns.owner).mc = (barn s s.barns.owner).mc) ∧
     (c.phase = 1 → deckleReached (deckle s + 198) (couchDeckle s c) = true → inTime s c 120 = true →
       ∃ t, exec (.upgradeDetach true) s = .next t ∧ t.md.couch = some { c with phase := 2 } ∧
         (barn t (otherBarn s.barns.owner)).passed = true ∧ t.barns.owner = s.barns.owner) ∧
     (c.phase = 2 → inTime s c 8 = true →
       ∃ t, exec (.upgradeDetach true) s = .next t ∧ t.md.couch = some { c with phase := 3 } ∧ t.barns = s.barns) ∧
     (c.phase = 0 ∨ c.phase = 1 ∧ deckleReached (deckle s + 198) (couchDeckle s c) = true ∨ c.phase = 2 →
       ∃ t, exec (.upgradeDetach false) s = .next t ∧ t.md.couch = none ∧ t.md.stage = .checked ∧
         t.md.lastStatus = 0x0C ∧ t.barns.suspended = false ∧ t.barns.owner = s.barns.owner ∧ t.md.active = s.md.active)) ∧
   (∀ (s : State) (c : Couch), s.md.couch = some c → c.upgrade = true → atBoundary s = true → c.reached.isSome = true →
     s.modes.cur ≠ .recovery → s.modes.cur ≠ .held → s.barns.switch = none →
     (c.phase < 3 → ∃ t, exec .couchBeat s = .next t ∧ t.md.couch = none ∧ t.md.stage = .checked ∧ t.md.lastStatus = 0x0C ∧
       t.md.active = s.md.active ∧ t.cfg = s.cfg ∧ t.barns.owner = s.barns.owner) ∧
     (∀ v w : Nat, 3 ≤ c.phase → mouldMicrocode s.md.shadow = some (v, w) →
       dynamicFail s s.md.shadow (mouldCfg (runVals s.md.shadow)) (serviceMode s.modes.cur) = none →
       ∃ t, exec .couchBeat s = .next t ∧ t.md.active = some s.md.shadow ∧ t.md.couch = none ∧
         t.barns.owner = otherBarn s.barns.owner ∧ t.barns.standby = .detached ∧ (barn t s.barns.owner).mc = v)) ∧
   (∀ s : State, s.barns.suspended = true → s.md.couch = none → atBoundary s = true → s.barns.takeover = none →
     barnsRun s = true → s.couchUp + 2048 ≤ s.tb.up →
     (s.barns.xlink = true → s.tb.up ≤ s.couchUp + 204800 →
       ∃ t, exec (.upgradeRejoin true) s = .next t ∧ t.barns.standby = .lockstep ∧ t.barns.suspended = false ∧
         t.barns.owner = s.barns.owner) ∧
     (∀ ok : Bool, ok = false ∨ s.barns.xlink = false ∨ s.couchUp + 204800 < s.tb.up →
       ∃ t, exec (.upgradeRejoin ok) s = .next t ∧ t.barns.standby = s.barns.standby ∧ t.barns.suspended = false ∧
         t.barns.owner = s.barns.owner ∧
         bits (tally t A_FLT_COUNT 11) 15 0 = satAdd 65535 (bits (tally s A_FLT_COUNT 11) 15 0) 1)))

/-- R329: the checks of a packet in their order: byte count, CRC-16, opcode, flags, LENGTH, mode; each failure with its status and
detail. -/
def Obligations.PacketChecks : Prop :=
  ∀ (s : State) (p : Port) (size : Nat) (bs : List Byte), let h := headerWord bs
    let n := bits h 15 7
    let op := bits h 31 24
    (size < 8 ∨ 269 < n ∨ size ≠ 8 + 4 * n ∨ size ≠ bs.length → checkPacket s p size bs = .inr (4, size % 65536)) ∧
    (8 ≤ size → n ≤ 269 → size = 8 + 4 * n → size = bs.length →
      (ofBytes (bs.drop (size - 2)) ≠ crc16 (bs.take (size - 4)) →
        checkPacket s p size bs = .inr (5, crc16 (bs.take (size - 4)))) ∧
      (ofBytes (bs.drop (size - 2)) = crc16 (bs.take (size - 4)) →
        (knownOpcode op = false → checkPacket s p size bs = .inr (3, 0)) ∧
        (knownOpcode op = true →
          (h % 128 ≠ 0 → checkPacket s p size bs = .inr (6, 0xFF)) ∧
          (h % 128 = 0 →
            (lengthOk op n (packetWords bs n) = false → checkPacket s p size bs = .inr (4, size)) ∧
            (lengthOk op n (packetWords bs n) = true → opcodeAllowed op s.modes.cur = false →
              checkPacket s p size bs = .inr (7, modeByte s))))))

/-- R327 to R329, Table 11.8: a packet put together as R327 gives (header, words, trailer with the CRC-16 of the two) spells the command it was
made for, operand for operand, in every mode that accepts it. -/
def Obligations.PacketsAreRead : Prop :=
  ∀ (s : State) (p : Port) (tag : Byte) (packet : Nat → List PWord → List Byte),
    (∀ op ws, packet op ws = toBytes 4 (op * 2 ^ 24 + tag.toNat * 2 ^ 16 + ws.length * 2 ^ 7) ++ wordsBytes ws ++
      toBytes 4 (crc16 (toBytes 4 (op * 2 ^ 24 + tag.toNat * 2 ^ 16 + ws.length * 2 ^ 7) ++ wordsBytes ws))) →
    s.modes.cur ≠ .held → let read := fun bs => checkPacket s p bs.length bs
    (∀ ws, ws.length ≤ 268 → read (packet 0x01 ws) = .inl (.echo { port := p, tag := tag } ws)) ∧
    read (packet 0x02 []) = .inl (.identify { port := p, tag := tag }) ∧
    (∀ (id : BitVec 16) (inst : BitVec 9),
      read (packet 0x10 [BitVec.ofNat 32 (id.toNat * 2 ^ 16 + inst.toNat)]) =
        .inl (.get { port := p, tag := tag } id inst)) ∧
    (∀ (id : BitVec 16) (inst : BitVec 9) (a : Attr) (v : List PWord), addressed id.toNat inst.toNat = some a →
      v.length = wordCount a.width →
      read (packet 0x11 (BitVec.ofNat 32 (id.toNat * 2 ^ 16 + inst.toNat) :: v)) =
        .inl (.set { port := p, tag := tag } id inst v)) ∧
    (∀ (i n : Byte), read (packet 0x31 [BitVec.ofNat 32 (n.toNat * 2 ^ 8 + i.toNat)]) =
      .inl (.readMonitor { port := p, tag := tag } i n)) ∧
    (∀ (k : BitVec 2) (i : Byte), opcodeAllowed 0x50 s.modes.cur = true →
      read (packet 0x50 [BitVec.ofNat 32 (i.toNat * 2 ^ 8 + k.toNat)]) =
        .inl (.fence { port := p, tag := tag } k i)) ∧
    (∀ (off : BitVec 16) (bank : BitVec 1) (n : BitVec 11),
      read (packet 0x44 [BitVec.ofNat 32 (bank.toNat * 2 ^ 16 + off.toNat), BitVec.ofNat 32 n.toNat]) =
        .inl (.seedRead { port := p, tag := tag } bank off n)) ∧
    (∀ (k : BitVec 2), read (packet 0x71 [BitVec.ofNat 32 k.toNat]) =
      .inl (.laneStatus { port := p, tag := tag } k)) ∧
    (∀ (mask : BitVec 64), read (packet 0x53
        [BitVec.ofNat 32 (mask.toNat / 2 ^ 32), BitVec.ofNat 32 (mask.toNat % 2 ^ 32), 0]) =
      .inl (.faultClear { port := p, tag := tag } mask)) ∧
    (∀ (d : Deckle), opcodeAllowed 0x23 s.modes.cur = true →
      read (packet 0x23 [1, BitVec.ofNat 32 (d.toNat / 2 ^ 32), BitVec.ofNat 32 (d.toNat % 2 ^ 32)]) =
        .inl (.couchAtDeckle { port := p, tag := tag } d))

/-- R240, R330, R332, R336, R377: a sound COMMAND frame delivers its packet: one that passes the checks waits for the Granger, one that
fails is replied at once, or waits too while the Grangers stand still, and a full input queue replies BUSY; a frame that is
not sound is discarded and counted.
R241: at a frame boundary the first message that waits for an active uplane leaves on it whole as a REPLY frame; in a take-over none
leaves. -/
def Obligations.CommandAndReplyFrames : Prop :=
  (∀ (d : DlId) (bytes : List Byte) (s : State), padsFree s = true → dlReceives s d.val = true →
     (framePacket bytes = none → exec (.commandFrame d bytes) s = .next (count s A_LK_DL_ERRORS d.val 15 0 1)) ∧
     (∀ (size : Nat) (packet : List Byte) (port : Port) (r : Req), framePacket bytes = some (size, packet) →
       port = (if d.val = 0 then .dl0 else .dl1) →
       r = { port := port, tag := BitVec.ofNat 8 (bits (headerWord packet) 23 16) } →
       (queued s port < 8 →
         (∀ i, checkPacket s port size packet = .inl i →
           ∃ t, exec (.commandFrame d bytes) s = .next t ∧ (s.tb.up, port, Packet.command i) ∈ t.cmd.inq ∧
             t.cmd.inq.length = s.cmd.inq.length + 1 ∧ t.cmd.laneQ = s.cmd.laneQ ∧ t.cmd.spiQ = s.cmd.spiQ) ∧
         (∀ status detail, checkPacket s port size packet = .inr (status, detail) →
           (grangersStopped s = false → ∃ t, exec (.commandFrame d bytes) s = .next t ∧ t.cmd.inq = s.cmd.inq ∧
             t.cmd.laneQ = s.cmd.laneQ ++ [replyMsg r (bits (headerWord packet) 31 24) status detail []]) ∧
           (grangersStopped s = true → ∃ t, exec (.commandFrame d bytes) s = .next t ∧ t.cmd.laneQ = s.cmd.laneQ ∧
             (s.tb.up, port, Packet.failed r (bits (headerWord packet) 31 24) status detail) ∈ t.cmd.inq))) ∧
       (8 ≤ queued s port → ∃ t, exec (.commandFrame d bytes) s = .next t ∧ t.cmd.inq = s.cmd.inq ∧
         t.cmd.laneQ = s.cmd.laneQ ++ [replyMsg r (bits (headerWord packet) 31 24) 1 0xFF []]))) ∧
  (∀ (u : Lane) (m : Msg) (s : State), pendingReply s u.val = some m → powered s = true →
     (s.barns.takeover = none → ∃ t, exec (.replyFrameSend u) s = .next t ∧ t.cmd.laneQ = dropMsg m s.cmd.laneQ ∧
       (lane t u.val).line = packetFrame 0x41 (msgBytes m) ∧ (lane t u.val).st = (lane s u.val).st ∧ t.gran = s.gran) ∧
     (s.barns.takeover.isSome = true → exec (.replyFrameSend u) s = .next s))

/-- R333 to R335: in packet personality a WRITE is taken while fewer than eight SPI packets are open, else refused, and the packet it
delivers waits or is answered; a READ clocks out the oldest message and takes it away only when it was clocked whole; every
transaction begins with the status byte; an unknown one is counted. -/
def Obligations.SpiTransactions : Prop :=
  ∀ s : State, padsFree s = true → powered s = true → s.nl.personality = false →
    (∀ (bytes : List Byte) (i : Instr), s.cmd.spiOpen < 8 → checkPacket s .spi bytes.length bytes = .inl i →
      ∃ t, exec (.spiWrite bytes) s = .next t ∧ (s.tb.up, Port.spi, Packet.command i) ∈ t.cmd.inq ∧
        t.cmd.spiOpen = s.cmd.spiOpen + 1 ∧ t.cmd.refused = false ∧ t.cmd.spiQ = s.cmd.spiQ ∧
        t.cmd.sdo = spiStatusByte s :: List.replicate bytes.length 0) ∧
    (∀ (bytes : List Byte) (status detail : Nat), s.cmd.spiOpen < 8 → grangersStopped s = false →
      checkPacket s .spi bytes.length bytes = .inr (status, detail) →
      ∃ t, exec (.spiWrite bytes) s = .next t ∧ t.cmd.inq = s.cmd.inq ∧ t.cmd.spiQ = s.cmd.spiQ ++
        [replyMsg { port := .spi, tag := BitVec.ofNat 8 (bits (headerWord bytes) 23 16) }
          (bits (headerWord bytes) 31 24) status detail []]) ∧
    (∀ bytes : List Byte, 8 ≤ s.cmd.spiOpen →
      ∃ t, exec (.spiWrite bytes) s = .next t ∧ t.cmd.inq = s.cmd.inq ∧ t.cmd.spiQ = s.cmd.spiQ ∧
        t.cmd.refused = true ∧ t.cmd.spiOpen = s.cmd.spiOpen) ∧
    (∀ (n : Nat) (m : Msg) (rest : List Msg), s.cmd.spiQ = m :: rest →
      (2 + (msgBytes m).length ≤ n → ∃ t, exec (.spiRead n) s = .next t ∧ t.cmd.spiQ = rest ∧
        t.cmd.spiOpen = (if m.reply then s.cmd.spiOpen - 1 else s.cmd.spiOpen) ∧ t.cmd.sdo =
          spiStatusByte s :: toBytes 2 (msgBytes m).length ++ msgBytes m ++ List.replicate (n - 2 - (msgBytes m).length) 0) ∧
      (n < 2 + (msgBytes m).length → ∃ t, exec (.spiRead n) s = .next t ∧ t.cmd.spiQ = s.cmd.spiQ ∧
        t.cmd.spiEv = s.cmd.spiEv ∧ t.cmd.spiOpen = s.cmd.spiOpen)) ∧
    (∀ n : Nat, s.cmd.spiQ = [] → s.cmd.spiEv = [] →
      exec (.spiRead n) s = .next (spiOut s (spiStatusByte s :: List.replicate n 0))) ∧
    exec .spiStatus s = .next (spiOut s [spiStatusByte s]) ∧
    (∀ b : Byte, b ≠ 0xA1 → b ≠ 0xA2 → b ≠ 0xA3 → exec (.spiUnknownTransaction b) s =
      .next (count (spiOut s [spiStatusByte s]) A_CMD_PORT_ERRORS 2 63 48 1))

/-- R22, R343, R344, Table 11.8: NOP, ECHO and IDENTIFY are answered at once, NOP and IDENTIFY also by the held responder; MODE_REQUEST in HELD
takes only START-UP, and elsewhere a legal request becomes the pending one, to be replied when it ends.
Table 11.8: the status commands reply the attributes it lists, in its order, and change nothing. -/
def Obligations.BasicCommands : Prop :=
  ((∀ (r : Req) (s : State), Served s r 0x00 → exec (.nop r) s = .next (reply s r 0x00 0 0 [])) ∧
   (∀ (r : Req) (ws : List PWord) (s : State), Served s r 0x01 → exec (.echo r ws) s = .next (reply s r 0x01 0 0 ws)) ∧
   (∀ (r : Req) (s : State), Served s r 0x02 → exec (.identify r) s = .next (reply s r 0x02 0 0 (identity s))) ∧
   (∀ (r : Req) (m : BitVec 3) (d : Option Deckle) (s : State), Served s r 0x03 → s.modes.cur = .held →
     (6 ≤ m.toNat ∨ d.isSome = true → exec (.modeRequest r m d) s = .next (reply s r 0x03 6 0 [])) ∧
     (m.toNat < 6 → d = none → m.toNat ≠ 1 → exec (.modeRequest r m d) s = .next (reply s r 0x03 7 (modeByte s) [])) ∧
     (m.toNat = 1 → d = none → s.pwr.resetHigh = false ∨ s.pwr.powerGood = false →
       exec (.modeRequest r m d) s = .next (reply s r 0x03 8 0 [])) ∧
     (m.toNat = 1 → d = none → s.pwr.resetHigh = true → s.pwr.powerGood = true → s.modes.pend = none →
       ∃ t, exec (.modeRequest r m d) s = .next t ∧ t.modes.cur = .held ∧ replyMsg r 0x03 0 0 [] ∈ msgsOf t r.port ∧
         ∃ p, t.modes.pend = some p ∧ p.target = .startUp)) ∧
   (∀ (r : Req) (m : BitVec 3) (t' : Mode) (d : Option Deckle) (s : State), Served s r 0x03 → s.modes.cur ≠ .held →
     modeOf m.toNat = some t' → (∀ x, d = some x → deckleAhead (deckle s) x = true) →
     (s.modes.pend.isSome = true → exec (.modeRequest r m d) s = .next (reply s r 0x03 1 3 [])) ∧
     (s.modes.pend = none → legalRequest s t' = false →
       exec (.modeRequest r m d) s = .next (reply s r 0x03 7 (modeByte s) [])) ∧
     (s.modes.pend = none → legalRequest s t' = true → s.cmd.outst.length < 16 →
       (serviceMode t' = true → foregroundRuns s = false) →
       ∃ t, exec (.modeRequest r m d) s = .next t ∧ t.modes = { s.modes with
           pend := some { req := r, target := t', at? := d, acc := s.tb.up } } ∧
         t.cmd.outst = s.cmd.outst ++ [{ req := r, opcode := 3, key := 0 }] ∧ t.cmd.spiQ = s.cmd.spiQ ∧
         t.cmd.laneQ = s.cmd.laneQ))) ∧
  ((∀ (r : Req) (s : State), Served s r 0x70 → exec (.timeStatus r) s = .next (reply s r 0x70 0 0
     (valueWords 2 (valueOf s A_TB_NOW 0) ++ valueWords 1 (valueOf s A_TB_STATUS 0) ++ valueWords 2 (valueOf s A_TB_OFFSET 0) ++
       valueWords 1 (valueOf s A_PTP_STATUS 0 * 256 + valueOf s A_TB_SOURCE 0)))) ∧
   (∀ (r : Req) (u : BitVec 2) (s : State), Served s r 0x71 → exec (.laneStatus r u) s = .next (reply s r 0x71 0 0
     (valueWords 1 (valueOf s A_LK_UL_STATUS u.toNat) ++ valueWords 2 (valueOf s A_LK_QUIRE_STATE u.toNat) ++
       valueWords 2 (valueOf s A_MG_VARIANT 0)))) ∧
   (∀ (r : Req) (s : State), Served s r 0x72 → exec (.granaryStatus r) s = .next (reply s r 0x72 0 0
     (valueWords 2 (valueOf s A_GRANARY_OCC 0) ++ valueWords 1 (valueOf s A_GR_WM_STATE 0) ++
       valueWords 1 (valueOf s A_GR_WM_STATE 1) ++ valueWords 1 (valueOf s A_GR_POOL 0) ++
       (List.range 4).flatMap fun c => valueWords 2 (valueOf s A_GR_CLASS_OCC c)))) ∧
   (∀ (r : Req) (s : State), Served s r 0x74 → exec (.scrubStatus r) s = .next (reply s r 0x74 0 0
     (valueWords 2 (valueOf s A_GR_SCRUB_STATUS 0) ++ valueWords 1 (tallyRead s A_GR_SCRUB_ERRORS 0)))))

/-- R10, R12, R342, R348: GET and GET_BLOCK reply the values in force with WIDTH in DETAIL; a read of a tally returns what it held before this beat and
leaves this beat's events; TALLY_READ takes tallies only and clears them, with PEEK it clears none. -/
def Obligations.AttributeReads : Prop :=
  (∀ (r : Req) (id : BitVec 16) (inst : BitVec 9) (s : State), Served s r 0x10 →
    (addressed id.toNat inst.toNat = none → exec (.get r id inst) s = .next (reply s r 0x10 6 0 [])) ∧
    (∀ a, addressed id.toNat inst.toNat = some a → ∃ t, exec (.get r id inst) s = .next t ∧
      replyMsg r 0x10 0 a.width (valueWords (wordCount a.width) (readValue s a inst.toNat)) ∈ msgsOf t r.port ∧
      t.cfg = s.cfg ∧ t.gran.units = s.gran.units ∧ t.flt = s.flt ∧ t.modes = s.modes ∧
      (a.access ≠ .rc → t.tal = s.tal) ∧
      (a.access = .rc → tally t a.id inst.toNat = pget 0 s.talNew (a.id * 512 + inst.toNat) ∧
        ∀ k, k ≠ a.id * 512 + inst.toNat → pget 0 t.tal k = pget 0 s.tal k))) ∧
  (∀ (r : Req) (id : BitVec 16) (inst n : BitVec 9) (a : Attr) (s : State), Served s r 0x12 →
    addressed id.toNat inst.toNat = some a →
    (blockFits a inst.toNat n.toNat = false → exec (.getBlock r id inst n) s = .next (reply s r 0x12 6 1 [])) ∧
    (blockFits a inst.toNat n.toNat = true → ∃ t, exec (.getBlock r id inst n) s = .next t ∧ t.cfg = s.cfg ∧
      replyMsg r 0x12 0 a.width ((List.range n.toNat).flatMap fun j =>
        valueWords (wordCount a.width) (readValue s a (inst.toNat + j))) ∈ msgsOf t r.port)) ∧
  (∀ (r : Req) (id : BitVec 16) (inst n : BitVec 9) (a : Attr) (s : State), Served s r 0x73 →
    addressed id.toNat inst.toNat = some a →
    (a.access ≠ .rc → exec (.tallyRead r id inst n) s = .next (reply s r 0x73 6 0 []) ∧
      exec (.tallyPeek r id inst n) s = .next (reply s r 0x73 6 0 [])) ∧
    (a.access = .rc → blockFits a inst.toNat n.toNat = true →
      exec (.tallyPeek r id inst n) s = .next (reply s r 0x73 0 a.width ((List.range n.toNat).flatMap fun j =>
        valueWords (wordCount a.width) (tallyRead s a.id (inst.toNat + j)))) ∧
      ∃ t, exec (.tallyRead r id inst n) s = .next t ∧
        replyMsg r 0x73 0 a.width ((List.range n.toNat).flatMap fun j =>
          valueWords (wordCount a.width) (tallyRead s a.id (inst.toNat + j))) ∈ msgsOf t r.port ∧
        ∀ j, j < n.toNat → inst.toNat + j < 512 →
          tally t a.id (inst.toNat + j) = pget 0 s.talNew (a.id * 512 + (inst.toNat + j))))

/-- R11, R13, R329: SET writes an RW attribute in the modes that accept it, after the checks of its value, and replies the value in
force; it is NOT_IN_MODE in the others and DENIED for an attribute that is not writable. -/
def Obligations.AttributeWrites : Prop :=
  ∀ (r : Req) (id : BitVec 16) (inst : BitVec 9) (v : List PWord) (a : Attr) (s : State), Served s r 0x11 →
    addressed id.toNat inst.toNat = some a → v.length = wordCount a.width →
    (reservedSet a (wordsValue v) = true → ∃ k, exec (.set r id inst v) s = .next (reply s r 0x11 6 k [])) ∧
    (∀ k, badValueWord a inst.toNat v.length (wordsValue v) = some k →
      exec (.set r id inst v) s = .next (reply s r 0x11 6 k [])) ∧
    (badValueWord a inst.toNat v.length (wordsValue v) = none →
      (a.access = .ro ∨ a.access = .rs ∨ a.access = .rc → exec (.set r id inst v) s = .next (reply s r 0x11 8 0 [])) ∧
      (a.access = .rw → settable a.id s.modes.cur = false →
        exec (.set r id inst v) s = .next (reply s r 0x11 7 (modeByte s) [])) ∧
      (a.access = .rw → settable a.id s.modes.cur = true → a.id ≠ A_MD_KEY_STATE → a.id ≠ A_TB_SYNC_CTRL →
        ∃ t, exec (.set r id inst v) s = .next t ∧ reg t a.id inst.toNat = wordsValue v ∧
          t.modes.cur = s.modes.cur ∧ t.tb.beat = s.tb.beat ∧
          replyMsg r 0x11 0 a.width (valueWords (wordCount a.width) (wordsValue v)) ∈ msgsOf t r.port) ∧
      (a.access = .w1c → ∃ t, exec (.set r id inst v) s = .next t ∧ t.cfg = s.cfg ∧
        replyMsg r 0x11 0 a.width (valueWords 2 t.flt.word.toNat) ∈ msgsOf t r.port))

/-- R338, R343, R360, R377, Table 11.7: every packet that names a command is answered NOT_IN_MODE, and changes nothing else, in a mode that
does not allow it; while the Grangers stand still or a couch comes first it waits instead, and with the pads held by the
scan cells in service its answer is not specified (R459). -/
def Obligations.PacketGate : Prop :=
  ∀ (i : Instr) (r : Req) (op : Nat) (s : State), packetOf i = some (r, op) →
    (padsFree s = false → exec i s = .fault .scanHoldsPads) ∧
    (padsFree s = true → powered s = true → (s.modes.cur = .held → r.port ≠ .dl1) →
      (grangersStopped s = true ∨ couchFirst s = true → exec i s = .next (enqueuePacket s r.port (.command i))) ∧
      (grangersStopped s = false → couchFirst s = false → opcodeAllowed op s.modes.cur = false →
        exec i s = .next (reply s r op 7 (modeByte s) [])))

/-- R352 to R358, R360: a raise counts in `FLT_COUNT`; one that no running reaction suppresses sets its bit, enters the history with its
instance, context, mask, mode and beat, is the first error when none is held and no reaction runs, asserts ERR_N, interrupts and
traps as its mask says; a suppressed one sets no bit and enters no history. A window that ends takes its reaction away; a
trap ends. -/
def Obligations.FaultRaises : Prop :=
  (∀ (src : BitVec 6) (inst : Byte) (ctx : BitVec 16) (s : State), powered s = true → reservedSource src.toNat = false →
    levelSource src.toNat = false →
    ∃ t, exec (.faultRaise src inst ctx) s = .next t ∧
      bits (tally t A_FLT_COUNT src.toNat) 15 0 = satAdd 65535 (bits (tally s A_FLT_COUNT src.toNat) 15 0) 1 ∧
      (suppressor s src.toNat inst.toNat = none → t.flt.word = s.flt.word ||| BitVec.ofNat 64 (2 ^ src.toNat) ∧
        (s.flt.hist.length < 16 → ∃ f ∈ t.flt.hist, f.src = src.toNat ∧ f.inst = inst.toNat ∧ f.ctx = ctx.toNat ∧
          f.mode = s.modes.cur ∧ f.beat = s.tb.beat ∧ f.mask = bits (reg s A_FLT_REACTION src.toNat) 7 0 ∧
          (f.consequent = true ↔ running s ≠ [])) ∧
        (s.flt.first = none → running s = [] → ∃ f, t.flt.first = some f ∧ f.src = src.toNat ∧ f.inst = inst.toNat) ∧
        (bitAt (reg s A_FLT_REACTION src.toNat) 5 = true → s.flt.errLow = false → s.flt.errHighUntil ≤ s.tb.up + 1 →
          t.flt.errLow = true ∧ t.flt.errUp = s.tb.up + 1) ∧
        (bitAt (reg s A_FLT_REACTION src.toNat) 0 = true → s.modes.cur ≠ .held →
          ∃ f ∈ t.flt.interrupts, f.src = src.toNat ∧ f.inst = inst.toNat) ∧
        (bitAt (reg s A_FLT_REACTION src.toNat) 1 = true → s.modes.cur ≠ .held → s.flt.trap = false →
          t.flt.trap = true ∧ t.flt.trapUp = s.tb.up + 1)) ∧
      (∀ x, suppressor s src.toNat inst.toNat = some x → t.flt.word = s.flt.word ∧ t.flt.queue = s.flt.queue ∧
        t.flt.hist.length = s.flt.hist.length ∧ t.flt.errLow = s.flt.errLow ∧ t.flt.reactions = s.flt.reactions)) ∧
  (∀ s : State, (∀ l ∈ s.flt.levels, l.suppressed = none) →
    exec .reactionWindowEnd s = .next { s with flt := { s.flt with
      reactions := s.flt.reactions.filter fun x => !windowEnded s x } }) ∧
  (∀ s : State, exec .trapResume s = .next { s with flt := { s.flt with trap := false } })

/-- R366: ERRPIN_RELEASE is replied at once when ERR_N is high; else the release waits for the beat after it and for 4 096 beats from
the assertion, and is then replied OK; a PIN raise before that cancels it with ABORTED.
R348, R352, R354, R355, Table 11.8: FAULT_READ replies the error word, the first-error record and the history entries; FAULT_CLEAR
clears the bits of its mask but for conditions present and raises of this beat; with its flags it empties the first-error
record and the history as well. -/
def Obligations.FaultCommands : Prop :=
  ((∀ (r : Req) (s : State), Served s r 0x54 →
     (errNow s = false → exec (.errpinRelease r) s = .next (reply s r 0x54 0 0 [])) ∧
     (errNow s = true → s.cmd.outst.length < 16 → ∃ t, exec (.errpinRelease r) s = .next t ∧
       t.flt = { s.flt with errRel := s.flt.errRel ++ [(r, max (s.tb.up + 1) (s.flt.errUp + 4096))] } ∧
       t.cmd.spiQ = s.cmd.spiQ ∧ t.cmd.laneQ = s.cmd.laneQ)) ∧
   (∀ (q : Req) (due : Nat) (rest : List (Req × Nat)) (s : State), s.flt.errRel = (q, due) :: rest →
     (s.tb.up < due → exec .errpinMinElapsed s = .next s) ∧
     (due ≤ s.tb.up → ∃ t, exec .errpinMinElapsed s = .next t ∧ t.flt.errLow = false ∧ t.flt.errRel = [] ∧
       t.flt.word = s.flt.word ∧ replyMsg q 0x54 0 0 [] ∈ msgsOf t q.port)) ∧
   (∀ s : State, s.flt.errLow = true → (assertErr s).flt.errLow = true ∧ (assertErr s).flt.errRel = [] ∧
     ∀ q ∈ s.flt.errRel, replyMsg q.1 0x54 0x0C 0 [] ∈ msgsOf (assertErr s) q.1.port)) ∧
  ((∀ (r : Req) (a : BitVec 4) (n : BitVec 5) (s : State), Served s r 0x52 → n.toNat ≤ 16 →
     exec (.faultRead r a n) s = .next (reply s r 0x52 0 0 (valueWords 2 s.flt.word.toNat ++
       (match s.flt.first with | some f => faultWords f | none => [0, 0, 0, 0]) ++
       (List.range n.toNat).flatMap fun j =>
         match s.flt.hist[a.toNat + j]? with | some f => faultWords f | none => [0, 0, 0, 0]))) ∧
   (∀ (r : Req) (mask : BitVec 64) (s : State), Served s r 0x53 →
     ∃ w : BitVec 64,
       (∀ k < 64, w.getLsbD k = (s.flt.word.getLsbD k && !(mask.getLsbD k && (s.flt.levels.all fun l => l.src ≠ k) &&
         !s.flt.rose.getLsbD k))) ∧
       (∃ t, exec (.faultClear r mask) s = .next t ∧ t.flt = { s.flt with word := w } ∧
         replyMsg r 0x53 0 0 (valueWords 2 w.toNat) ∈ msgsOf t r.port) ∧
       (∀ h, ∃ t, exec (.faultClearFirst r mask h) s = .next t ∧ t.flt.word = w ∧
         t.flt.first = s.flt.roseFirst ∧
         t.flt.hist = (if h then s.flt.hist.filter fun f => f.up = s.tb.up else s.flt.hist) ∧
         replyMsg r 0x53 0 0 (valueWords 2 w.toNat) ∈ msgsOf t r.port) ∧
       (∃ t, exec (.faultClearHistory r mask) s = .next t ∧ t.flt.word = w ∧ t.flt.first = s.flt.first ∧
         t.flt.hist = s.flt.hist.filter (fun f => f.up = s.tb.up) ∧
         replyMsg r 0x53 0 0 (valueWords 2 w.toNat) ∈ msgsOf t r.port)))

/-- R361, R365, R347: FENCE waits for its boundary, unless it would exceed the policy; there its target is fenced, with a FENCE marker in
P0 and the reply; the fence of a reaction the same, with its source in the marker; UNFENCE releases at a boundary. -/
def Obligations.Fences : Prop :=
  (∀ (r : Req) (k : BitVec 2) (n : Byte) (x : Target) (s : State), Served s r 0x50 →
    fenceTarget k.toNat n.toNat = some x → resetOutstanding s x = false → isFenced s x = false →
    (fenceForbidden s x = true → exec (.fence r k n) s = .next (reply s r 0x50 8 0 [])) ∧
    (fenceForbidden s x = false → s.cmd.outst.length < 16 → ∃ t, exec (.fence r k n) s = .next t ∧
      t.flt = { s.flt with cmds := s.flt.cmds ++ [{ kind := .fence, target := x, src := 0, key := 0, req := some r,
                                                    asked := s.tb.up, begun := none, acted := false }] })) ∧
  (∀ (a : Act) (r : Req) (s : State), atBoundary s = true → s.modes.cur ≠ .held → s.flt.cur = none → s.flt.cmds = [a] →
    a.kind = .fence → a.asked < s.tb.up → a.req = some r → isFenced s a.target = false → fenceable a.target = true →
    fenceForbidden s a.target = false →
    ∃ t, exec .fenceTakesEffect s = .next t ∧ isFenced t a.target = true ∧ t.flt.cmds = [] ∧
      oneSlot 6 0 15 s.tb.beat ((fenceCode a.target).1 * 2 ^ 62 + (fenceCode a.target).2 * 2 ^ 54) ∈ t.gran.dwq ∧
      replyMsg r 0x50 0 0 [] ∈ msgsOf t r.port) ∧
  (∀ (a : Act) (b : Nat) (s : State), atBoundary s = true → s.modes.cur ≠ .held → s.flt.cur = some a → s.flt.cmds = [] →
    a.kind = .fence → a.begun = some b → b < s.tb.up → isFenced s a.target = false → fenceable a.target = true →
    ∃ t, exec .fenceTakesEffect s = .next t ∧ isFenced t a.target = true ∧ t.flt.cur = none ∧
      oneSlot 6 0 15 s.tb.beat ((fenceCode a.target).1 * 2 ^ 62 + (fenceCode a.target).2 * 2 ^ 54 + a.src * 2 ^ 47)
        ∈ t.gran.dwq) ∧
  (∀ (r : Req) (k : BitVec 2) (n : Byte) (x : Target) (s : State), Served s r 0x51 →
    fenceTarget k.toNat n.toNat = some x → resetOutstanding s x = false →
    (ownFence s x = false → exec (.unfence r k n) s = .next (reply s r 0x51 0 0 [])) ∧
    (ownFence s x = true → s.cmd.outst.length < 16 → ∃ t, exec (.unfence r k n) s = .next t ∧
      t.flt = { s.flt with cmds := s.flt.cmds ++ [{ kind := .unfence, target := x, src := 0, key := 0, req := some r,
                                                    asked := s.tb.up, begun := none, acted := false }] })) ∧
  (∀ (a : Act) (r : Req) (s : State), s.modes.cur ≠ .held → s.flt.cmds = [a] → a.kind = .unfence → a.asked < s.tb.up →
    a.req = some r → fenceable a.target = true →
    ownFence (releaseFences s) a.target = false ∧ (releaseFences s).flt.cmds = [] ∧
      oneSlot 6 0 15 s.tb.beat ((fenceCode a.target).1 * 2 ^ 62 + (fenceCode a.target).2 * 2 ^ 54 + 2 ^ 53)
        ∈ (releaseFences s).gran.dwq ∧
      replyMsg r 0x51 0 0 [] ∈ msgsOf (releaseFences s) r.port)

/-- R362, R363: a commanded reset isolates its target with a FENCE marker; passed, it releases the target and is replied OK; failed by its
self-check or not passed within 40 deckles, it is replied TIMEOUT and a fenceable target stays fenced. -/
def Obligations.BlockResets : Prop :=
  (∀ (r : Req) (k : BitVec 3) (n : Byte) (x : Target) (s : State), Served s r 0x55 →
    resetTarget k.toNat n.toNat = some x →
    (resetOutstanding s x = true → exec (.resetBlock r k n) s = .next (reply s r 0x55 1 0x55 [])) ∧
    (resetOutstanding s x = false → isFenced s x = false → s.cmd.outst.length < 16 →
      ∃ t, exec (.resetBlock r k n) s = .next t ∧
        t.flt = { s.flt with cmds := s.flt.cmds ++ [{ kind := .reset, target := x, src := 0, key := 0, req := some r,
                                                      asked := s.tb.up, begun := none, acted := false }] })) ∧
  (∀ (a : Act) (s : State), s.modes.cur ≠ .held → s.flt.cur = none → s.flt.cmds = [a] → a.kind = .reset →
    a.acted = false →
    ∃ t, exec .blockResetStart s = .next t ∧ t.flt.cmds = [{ a with acted := true, begun := some s.tb.up }] ∧
      (fenceable a.target = true →
        oneSlot 6 0 15 s.tb.beat ((fenceCode a.target).1 * 2 ^ 62 + (fenceCode a.target).2 * 2 ^ 54 + a.src * 2 ^ 47)
          ∈ t.gran.dwq)) ∧
  (∀ (a : Act) (r : Req) (b : Nat) (line : Bool) (s : State), s.flt.cur = none → s.flt.cmds = [a] → a.kind = .reset →
    a.acted = true → a.begun = some b → a.req = some r → b < s.tb.up → s.tb.up ≤ b + 40960 → atBoundary s = true →
    (∃ t, exec (.blockResetDecision a.target (some true) false) s = .next t ∧ t.flt.cmds = [] ∧
      isFenced t a.target = isFenced s a.target ∧ replyMsg r 0x55 0 0 [] ∈ msgsOf t r.port) ∧
    (∃ t, exec (.blockResetDecision a.target (some false) line) s = .next t ∧ t.flt.cmds = [] ∧
      (fenceable a.target = true → isFenced t a.target = true) ∧ replyMsg r 0x55 0x0B 1 [] ∈ msgsOf t r.port) ∧
    (s.tb.up < b + 40960 → exec (.blockResetDecision a.target none line) s = .next s)) ∧
  (∀ (a : Act) (r : Req) (b : Nat) (line : Bool) (s : State), s.flt.cur = none → s.flt.cmds = [a] → a.kind = .reset →
    a.acted = true → a.begun = some b → a.req = some r → b + 40960 ≤ s.tb.up →
    ∃ t, exec (.blockResetDecision a.target none line) s = .next t ∧ t.flt.cmds = [] ∧
      (fenceable a.target = true → isFenced t a.target = true) ∧ replyMsg r 0x55 0x0B 0 [] ∈ msgsOf t r.port)

/-- R373, R374, R377 to R381: a mismatch, or an alarm in lockstep, silences the Hasp; the self-test begins at the next boundary; two
boundaries later a verdict gives the Hasp to a Barn that passed, every ACTIVE uplane is rewound with RWG one greater, and the
stream resumes. -/
def Obligations.TakeOver : Prop :=
  (∀ (k : BitVec 4) (w : Barn) (i : Instr) (s : State), barnsRun s = true → s.barns.standby = .lockstep →
    s.barns.suspended = false → s.barns.takeover = none →
    ((i = .lockstepMismatch k ∧ 1 ≤ k.toNat ∧ k.toNat ≤ 4) ∨ i = .barnAlarm w) →
    ∃ t x, exec i s = .next t ∧ t.barns.takeover = some x ∧ x.deckle = deckle s ∧ x.dk = s.tb.dk ∧ x.test = none ∧
      x.cold = false ∧ x.checkpoint = s.barns.checkpoint ∧ t.barns.owner = s.barns.owner ∧ t.gran = s.gran ∧
      grangersStopped t = true) ∧
  (∀ (x : Takeover) (s : State), s.barns.takeover = some x → x.test = none → x.dk < s.tb.dk → atBoundary s = true →
    s.barns.bothFailed = none → barnsRun s = true →
    ∃ t, exec .barnSelftestStart s = .next t ∧ t.barns.takeover = some { x with test := some s.tb.dk }) ∧
  (∀ (x : Takeover) (b : Nat) (a c : BitVec 16) (ga gc : Bool) (s : State), s.barns.takeover = some x → x.test = some b →
    b + 2 ≤ s.tb.dk → atBoundary s = true → barnsRun s = true → x.cold = false → s.modes.cur ≠ .recovery →
    x.alarmA = false → x.alarmB = false → s.barns.owner = .a → s.barns.suspended = false → s.barns.xlink = true →
    (a = 0 → ga = true → c = 0 → gc = true → ∃ t, exec (.barnSelftestVerdict a c ga gc) s = .next t ∧
      t.barns.takeover = none ∧ t.barns.owner = .a ∧ t.barns.standby = .resyncing ∧
      (∀ u < 4, (lane s u).st = .active → (lane t u).rwg = (lane s u).rwg + 1 ∧ (lane t u).qnum = (lane s u).cred)) ∧
    (a ≠ 0 → c = 0 → gc = true → ∃ t, exec (.barnSelftestVerdict a c ga gc) s = .next t ∧
      t.barns.takeover = none ∧ t.barns.owner = .b ∧ t.barns.standby = .failed ∧ t.barns.a.passed = false ∧
      t.barns.a.bits = a.toNat ∧
      (∀ u < 4, (lane s u).st = .active → (lane t u).rwg = (lane s u).rwg + 1 ∧ (lane t u).qnum = (lane s u).cred)) ∧
    (a = 0 → ga = true → c ≠ 0 → ∃ t, exec (.barnSelftestVerdict a c ga gc) s = .next t ∧
      t.barns.takeover = none ∧ t.barns.owner = .a ∧ t.barns.standby = .failed) ∧
    (a ≠ 0 → c ≠ 0 → serviceMode s.modes.cur = true → ∃ t, exec (.barnSelftestVerdict a c ga gc) s = .next t ∧
      t.barns.takeover.isSome = true ∧ t.modes.toRecovery.isSome = true ∧
      bits (tally t A_FLT_COUNT 1) 15 0 = satAdd 65535 (bits (tally s A_FLT_COUNT 1) 15 0) 1))

/-- R376, R383 to R385, R389: a resync goes from snapshot to journal to join, where the standby enters lockstep; 400 deckles without a
join abandon it; a failed Barn that passes its retest is resynchronised; the loss of the cross-link detaches the standby and
its return, up for 40 deckles, starts a resync. -/
def Obligations.ResyncRuns : Prop :=
  (∀ (x : Resync) (s : State), s.barns.resync = some x →
    (x.phase = 1 → ∃ t, exec .resyncSnapshot s = .next t ∧ t.barns = { s.barns with resync := some { x with phase := 2 } }) ∧
    (x.phase = 2 → s.tb.beat.toNat % 1024 ≤ 512 → ∃ t, exec (.resyncJournal true) s = .next t ∧
      t.barns = { s.barns with resync := some { x with phase := 3, bad := 0 } }) ∧
    (x.phase = 2 → 512 < s.tb.beat.toNat % 1024 → ∃ t, exec (.resyncJournal true) s = .next t ∧
      t.barns = { s.barns with resync := some { x with phase := 2, bad := 0 } }) ∧
    (2 ≤ x.phase → x.bad = 0 → ∃ t, exec (.resyncJournal false) s = .next t ∧ (∃ y, t.barns.resync = some y ∧ y.bad = 1) ∧
      bits (tally t A_BN_XLINK 0) 31 16 = satAdd 65535 (bits (tally s A_BN_XLINK 0) 31 16) 1) ∧
    (2 ≤ x.phase → x.bad ≠ 0 → ∃ t, exec (.resyncJournal false) s = .next t ∧ t.barns.resync = none ∧
      t.barns.standby = .detached) ∧
    (x.phase = 3 → atBoundary s = true → ∃ t, exec (.resyncJoin true) s = .next t ∧ t.barns.standby = .lockstep ∧
      t.barns.resync = none ∧ t.barns.owner = s.barns.owner ∧ t.barns.lockSince = s.tb.dk ∧
      (∀ o ∈ s.cmd.outst, o.opcode = 0x62 → replyMsg o.req 0x62 0 0 [] ∈ msgsOf t o.req.port)) ∧
    (x.since + 400 ≤ s.tb.dk → ∃ t, exec .resyncAbandon s = .next t ∧ t.barns.resync = none ∧
      t.barns.standby = .detached ∧
      (∀ o ∈ s.cmd.outst, o.opcode = 0x62 → replyMsg o.req 0x62 0x0B 0 [] ∈ msgsOf t o.req.port))) ∧
  (∀ (b : BitVec 16) (s : State), barnsRun s = true → s.barns.standby = .failed → s.barns.takeover = none →
    (barn s (otherBarn s.barns.owner)).stopped = false →
    (barn s (otherBarn s.barns.owner)).failedAt + bits (reg s A_BN_RETEST 0) 15 0 * 40000 ≤ s.tb.dk →
    (b = 0 → s.barns.xlink = true → s.barns.suspended = false → ∃ t, exec (.barnRetest b) s = .next t ∧
      t.barns.standby = .resyncing ∧ (barn t (otherBarn s.barns.owner)).passed = true) ∧
    (b ≠ 0 → ∃ t, exec (.barnRetest b) s = .next t ∧ t.barns.standby = .failed ∧
      (barn t (otherBarn s.barns.owner)).passed = false ∧ (barn t (otherBarn s.barns.owner)).failedAt = s.tb.dk)) ∧
  (∀ s : State, barnsRun s = true →
    (s.barns.xlink = true → ∃ t, exec .crosslinkLoss s = .next t ∧ t.barns.xlink = false ∧ eligible t = false ∧
      t.barns.owner = s.barns.owner ∧ (s.barns.standby = .lockstep → t.barns.standby = .detached)) ∧
    (s.barns.xlink = true ∨ s.barns.xlost + 40 ≤ s.tb.dk → s.barns.standby = .detached → s.barns.takeover = none →
      s.barns.suspended = false →
      ∃ t, exec .crosslinkRestored s = .next t ∧ t.barns.xlink = true ∧ t.barns.standby = .resyncing) ∧
    (s.barns.xlink = false → s.tb.dk < s.barns.xlost + 40 → exec .crosslinkRestored s = .next s))

/-- R372: the owner is what at least two valid copies of the Hasp hold, and every edge writes the three copies anew: one copy, whatever it
holds, changes nothing; without two valid copies that agree the owner stays, and the fault of the Hasp's source counts
once.
R346, R347, R386, R387: BARN_SWITCH of an eligible standby waits for its boundary, and there the standby owns without a rewind; a
standby that is not eligible is DENIED; a revert that is due gives the Hasp back; BARN_RESYNC of a detached standby starts a
resync; BARN_STATUS replies its word. -/
def Obligations.Ownership : Prop :=
  ((∀ (w : Barn) (k : Nat) (x : HaspCopy), haspVote ((HaspCopy.three w).set k x) = some w) ∧
   (∀ (w : Barn) (s : State), haspVote s.barns.hasp = some w →
     (haspBeat s).barns.owner = w ∧ (haspBeat s).barns.hasp = HaspCopy.three w ∧ (haspBeat s).tal = s.tal) ∧
   (∀ s : State, haspVote s.barns.hasp = none →
     (haspBeat s).barns.owner = s.barns.owner ∧ (haspBeat s).barns.hasp = HaspCopy.three s.barns.owner ∧
     ((∀ l ∈ s.flt.levels, l.src ≠ 2) → bits (tally (haspBeat s) A_FLT_COUNT 2) 15 0 =
       satAdd 65535 (bits (tally s A_FLT_COUNT 2) 15 0) 1))) ∧
  ((∀ (r : Req) (s : State), Served s r 0x60 →
     exec (.barnStatus r) s = .next (reply s r 0x60 0 0 (valueWords 1 (barnStatusWord s)))) ∧
   (∀ (r : Req) (s : State), Served s r 0x61 → outstanding s 0x61 = false → outstanding s 0x62 = false →
     (eligible s = false → exec (.barnSwitch r) s = .next (reply s r 0x61 8 0 [])) ∧
     (eligible s = true → s.cmd.outst.length < 16 → ∃ t, exec (.barnSwitch r) s = .next t ∧
       t.barns = { s.barns with switch := some (r, s.tb.up) } ∧ t.cmd.spiQ = s.cmd.spiQ ∧ t.cmd.laneQ = s.cmd.laneQ)) ∧
   (∀ (r : Req) (b : Nat) (s : State), s.barns.switch = some (r, b) → b < s.tb.up → atBoundary s = true →
     s.barns.takeover = none → couchDue s = false → transitionDue s = false → eligible s = true →
     (makeSwitch s).barns.owner = otherBarn s.barns.owner ∧ (makeSwitch s).barns.switch = none ∧
       (makeSwitch s).lanes = s.lanes ∧ replyMsg r 0x61 0 0 [] ∈ msgsOf (makeSwitch s) r.port) ∧
   (∀ s : State, revertDue s = true → switchDue s = false → couchDue s = false → transitionDue s = false →
     (recentReverts s < bits (reg s A_BN_REVERT 0) 3 1 → ∃ t, exec .revert s = .next t ∧ t.barns.owner = homeBarn s ∧
       t.lanes = s.lanes ∧ bits (tally t A_BN_REVERTS 0) 15 0 = satAdd 65535 (bits (tally s A_BN_REVERTS 0) 15 0) 1) ∧
     (bits (reg s A_BN_REVERT 0) 3 1 ≤ recentReverts s → ∃ t, exec .revert s = .next t ∧
       t.barns.owner = s.barns.owner ∧ t.barns.withheld = true)) ∧
   (∀ (r : Req) (s : State), Served s r 0x62 → outstanding s 0x61 = false → outstanding s 0x62 = false →
     (s.barns.standby = .lockstep → exec (.barnResync r) s = .next (reply s r 0x62 0 0 [])) ∧
     (s.barns.standby = .failed → exec (.barnResync r) s = .next (reply s r 0x62 8 0 [])) ∧
     (s.barns.standby = .detached → s.barns.xlink = true → s.barns.suspended = false → s.cmd.outst.length < 16 →
       ∃ t x, exec (.barnResync r) s = .next t ∧ t.barns.standby = .resyncing ∧ t.barns.resync = some x ∧ x.phase = 1)))

/-- R395 to R397: a fast start ends with the outputs locked, is counted and timed; after the sleep time without a request the PLL stops
and the Barn cores go to domain 0; a loss of lock stops the outputs, moves the Barn cores and the stooks of service off it and
starts it again; a lane PLL that loses lock fails its uplanes (transmitter fault) and unlocks its downlanes. -/
def Obligations.Plls : Prop :=
  (∀ s : State, s.clk.pll = 1 → ∃ t, exec .corePllFastStart s = .next t ∧ t.clk.pll = 2 ∧
    (tally s A_CK_WAKES 0 + 1 < 2 ^ 32 → tally t A_CK_WAKES 0 = tally s A_CK_WAKES 0 + 1) ∧
    t.clk.cores = s.clk.cores ∧ t.stooks = s.stooks ∧ t.gran = s.gran) ∧
  (∀ s : State, atBoundary s = true → serviceMode s.modes.cur = true → s.clk.pll ≠ 0 → pllWanted s = false →
    s.clk.pllUsed = false → reg s A_CK_SLEEP_DECKLES 0 ≤ s.clk.pllIdle →
    ∃ t, exec .corePllStop s = .next t ∧ t.clk.pll = 0 ∧ t.clk.cores = false ∧ t.clk.lcRun = s.clk.lcRun) ∧
  (∀ s : State, pllWanted s = true → exec .corePllStop s = .next s) ∧
  (∀ s : State, s.clk.pll = 2 → ∃ t, exec .corePllLockLoss s = .next t ∧ t.clk.pll = 1 ∧ t.clk.cores = false ∧
    t.clk.pllReq = s.tb.up ∧
    (serviceMode s.modes.cur = true → ∀ k, k < 12 → (stook t k).clock = false ∧
      ((stook s k).clock = true → (stook t k).wake.isSome = true))) ∧
  (∀ (p : Fin 2) (s : State), s.modes.cur ≠ .held → s.clk.lcRun.getLsbD p.val = true → s.clk.lcLock.getLsbD p.val = true →
    ∃ t, exec (.lcPllLockLoss p) s = .next t ∧ t.clk.lcRun.getLsbD p.val = true ∧ t.clk.lcLock.getLsbD p.val = false ∧
      (∀ u, u < 4 → pmaOff (lane s u).st = false → lcOfGen (lane s u).gen = p.val → (lane t u).st = .failed) ∧
      (∀ d, d < 2 → dlEnabled s d = true → lcOfGen (dlGen s d) = p.val → (dlane t d).locked = false))

/-- R66, R68, R398, R399: the first stook edge after a wake comes only with the core PLL running, and is counted; a stook sleeps after its
idle deckles only with empty latches and no sheaf that waits, and the Granary interface only when idle and no scrub burst
owes slots; what is busy stays awake. -/
def Obligations.ClockSleep : Prop :=
  (∀ (k : StookId) (s : State), (stook s k.val).wake.isSome = true → (stook s k.val).clock = false →
    (s.clk.pll = 2 → ∃ t, exec (.stookClockStart k) s = .next t ∧ (stook t k.val).clock = true ∧
      (stook t k.val).fill = (stook s k.val).fill ∧ (stook t k.val).drain = (stook s k.val).drain ∧ t.chs = s.chs ∧
      bits (tally t A_STOOK_WAKES k.val) 31 0 = satAdd (2 ^ 32 - 1) (bits (tally s A_STOOK_WAKES k.val) 31 0) 1) ∧
    (s.clk.pll ≠ 2 → exec (.stookClockStart k) s = .next s)) ∧
  (∀ (k : StookId) (s : State), serviceMode s.modes.cur = true → (stook s k.val).clock = true →
    (stook s k.val).busy = false → (stook s k.val).waitq = [] → bitAt (reg s A_CK_CONFIG 0) 2 = false →
    reg s A_CK_SLEEP_DECKLES 0 ≤ (stook s k.val).idle →
    (latchesEmpty s k.val = true → ∃ t, exec (.stookSleep k) s = .next t ∧ (stook t k.val).clock = false ∧ t.chs = s.chs ∧
      t.gran = s.gran) ∧
    (latchesEmpty s k.val = false → exec (.stookSleep k) s = .next s)) ∧
  (∀ (k : StookId) (s : State), serviceMode s.modes.cur = false ∨ (stook s k.val).waitq ≠ [] ∨
    bitAt (reg s A_CK_CONFIG 0) 2 = true → exec (.stookSleep k) s = .next s) ∧
  (∀ s : State, atBoundary s = true → serviceMode s.modes.cur = true → s.gran.clock = true →
    (s.gran.busy = false → s.gran.bursting = false → reg s A_CK_SLEEP_DECKLES 0 ≤ s.gran.idle →
      ∃ t, exec .granaryInterfaceSleep s = .next t ∧ t.gran.clock = false ∧ t.gran.units = s.gran.units ∧
        t.gran.powered = s.gran.powered) ∧
    (s.gran.busy = true ∨ s.gran.bursting = true → exec .granaryInterfaceSleep s = .next s))

/-- R427, R428, R349: LEGACY_ENTER waits for the next boundary, unless the mould in force has no section 0x0011; there the scan starts with every
pair stale at 0x800, and it is replied OK; LEGACY_LEAVE is replied OK at once when nothing is active, else at the boundary at which
the configuration ends. -/
def Obligations.Nl64Configuration : Prop :=
  (∀ (r : Req) (s : State), Served s r 0x7E →
    (hasCompat s = false → exec (.legacyEnter r) s = .next (reply s r 0x7E 8 0 [])) ∧
    (hasCompat s = true → s.cmd.outst.length < 16 → ∃ t, exec (.legacyEnter r) s = .next t ∧
      t.nl = { s.nl with enter := some r } ∧ t.cmd.outst = s.cmd.outst ++ [{ req := r, opcode := 0x7E, key := 0 }] ∧
      t.cmd.spiQ = s.cmd.spiQ ∧ t.cmd.laneQ = s.cmd.laneQ)) ∧
  (∀ (r : Req) (s : State), Served s r 0x7F →
    (s.nl.active = false → exec (.legacyLeave r) s = .next (reply s r 0x7F 0 0 [])) ∧
    (s.nl.active = true → s.cmd.outst.length < 16 → ∃ t, exec (.legacyLeave r) s = .next t ∧
      t.nl = { s.nl with leave := some r } ∧ t.cmd.spiQ = s.cmd.spiQ ∧ t.cmd.laneQ = s.cmd.laneQ)) ∧
  (∀ (s : State) (d : Deckle) (r : Req), s.nl.active = false → s.nl.enter = some r → s.nl.leave = none →
    (nlDeckle s d).nl.active = true ∧ (nlDeckle s d).nl.pos = 0 ∧ (nlDeckle s d).nl.scan = 0 ∧
    (nlDeckle s d).nl.run = bitAt (reg s A_NL_CONFIG 0) 7 ∧ (nlDeckle s d).nl.autoInc = bitAt (reg s A_NL_CONFIG 0) 8 ∧
    (nlDeckle s d).nl.pointer = nlField (nlSeqCh s 0) ∧
    (∀ c, (nlPair (nlDeckle s d) c).code = 0x800 ∧ (nlPair (nlDeckle s d) c).stale = true) ∧
    replyMsg r 0x7E 0 0 [] ∈ msgsOf (nlDeckle s d) r.port) ∧
  (∀ (s : State) (d : Deckle) (r : Req), s.nl.active = true → s.nl.enter = none → s.nl.leave = some r →
    (nlDeckle s d).nl.active = false ∧ (lane (nlDeckle s d) 3).st = .off ∧ replyMsg r 0x7F 0 0 [] ∈ msgsOf (nlDeckle s d) r.port)

/-- R429 to R431, R437: a slot of a running scan samples its entry's channel and moves on, with the scan count at the end of the sequence;
outside RUN nothing moves; a held or fenced channel gives no sample; two beats later the result stands in its pair, with
OVERRUN when the pairing on its channel is open, and an older OVERRUN stays.
R430, R432: the 12-bit code of a corrected value truncates toward minus infinity and clamps; the channel field inverts bit 5, and is its own
inverse; it is what a result's high half, `NL_RESULT`, the status register and the pointer show. -/
def Obligations.Nl64Scan : Prop :=
  ((∀ (j : Fin 25) (s : State), s.nl.active = true → s.nl.run = true → s.tb.beat.toNat % 1024 = j.val * 1024 / 25 →
     fresh s 6 j.val = true →
     ∃ t, exec (.nl64ScanSlot j) s = .next t ∧ t.nl.pairs = s.nl.pairs ∧ t.gran = s.gran ∧ t.chs = s.chs ∧
       (nlSeqLen s ≤ s.nl.pos + 1 → t.nl.pos = 0 ∧ t.nl.scan = (s.nl.scan + 1) % 2 ^ 16) ∧
       (s.nl.pos + 1 < nlSeqLen s → t.nl.pos = s.nl.pos + 1 ∧ t.nl.scan = s.nl.scan) ∧
       ∃ q, t.nl.due = s.nl.due ++ [(j.val * 64 + nlSeqCh s s.nl.pos, s.tb.up + 2, q)] ∧
         ((chan s (nlSeqCh s s.nl.pos)).held = true ∨ fencedChannel s (nlSeqCh s s.nl.pos) = true →
           q.stale = true ∧ q.code = (nlPair s (nlSeqCh s s.nl.pos)).code) ∧
         (q.stale = false → q.scan = s.nl.scan ∧ q.code ≤ 4095)) ∧
   (∀ (j : Fin 25) (s : State), s.nl.active = false ∨ s.nl.run = false → exec (.nl64ScanSlot j) s = .next s) ∧
   (∀ (s : State) (e : Nat × Nat × NlPair), s.nl.due = [e] →
     (s.tb.up < e.2.1 → exec .nl64ResultUpdate s = .next s) ∧
     (e.2.1 ≤ s.tb.up → ∃ t, exec .nl64ResultUpdate s = .next t ∧ t.nl.due = [] ∧ t.nl.shadow = s.nl.shadow ∧
       nlPair t (e.1 % 64) = { e.2.2 with
         overrun := (nlPair s (e.1 % 64)).overrun || decide (s.nl.pairing = some (e.1 % 64)) } ∧
       ∀ c, c ≠ e.1 % 64 → nlPair t c = nlPair s c))) ∧
  ((∀ y : Int, (y < -131072 → nlCode y = 0) ∧ (131072 ≤ y → nlCode y = 4095) ∧
     (-131072 ≤ y → y < 131072 → (64 * (nlCode y : Int) ≤ y + 131072 ∧ y + 131072 < 64 * (nlCode y : Int) + 64))) ∧
   (∀ c, c < 64 → nlField (nlField c) = c ∧ nlField c < 64 ∧ (c < 32 → nlField c = c + 32) ∧
     (∀ p : NlPair, bits (nlHigh c p) 13 8 = nlField c) ∧
     ∀ s : State, (nlPair s c).code < 4096 → bits (valueOf s A_NL_RESULT c) 29 24 = nlField c) ∧
   ∀ s : State, bits (nlRegister s 2) 13 8 = nlField (nlSeqCh s s.nl.pos) ∧
     (nlStart s).nl.pointer = nlField (nlSeqCh s 0) ∧
     ((nlAdvance s).nl.pointer = s.nl.pointer ∨ ∃ p, (nlAdvance s).nl.pointer = nlField (nlSeqCh s p)))

/-- R435 to R437: the register personality comes into force at a rise of SPI_CS_N with no reply queued, and ends with the configuration; a
RESULT_LO read clears OVERRUN, keeps the high half in the shadow and opens the pairing; a RESULT_HI read returns the shadow and
closes it, or, unpaired, the live half; a read of another register shows it (that a first byte names it so is DESIGN CHOICE,
log entry 53); a write moves the pointer and closes the pairing, sets RUN and AUTO_INC, or is refused. -/
def Obligations.Nl64Registers : Prop :=
  ∀ s : State, padsFree s = true → powered s = true →
    (s.nl.active = true → s.pwr.straps.getLsbD 2 = true → s.cmd.spiQ = [] →
      exec .registerPersonalitySwitch s = .next { s with nl := { s.nl with personality := true } }) ∧
    (s.nl.active = true → s.cmd.spiQ ≠ [] → exec .registerPersonalitySwitch s = .next s) ∧
    (s.nl.active = false →
      exec .registerPersonalitySwitch s = .next { s with nl := { s.nl with personality := false } }) ∧
    (s.nl.personality = true →
      (∃ t, exec .resultLoRead s = .next t ∧ t.nl.sdo.toNat = nlLow (nlPair s (nlPointed s)) % 2 ^ 16 ∧
        t.nl.pairing = some (nlPointed s) ∧ t.nl.shadow.toNat = nlHigh (nlPointed s) (nlPair s (nlPointed s)) % 2 ^ 16 ∧
        nlPair t (nlPointed s) = { nlPair s (nlPointed s) with overrun := false } ∧ t.nl.pointer = s.nl.pointer) ∧
      (∀ c, s.nl.pairing = some c → ∃ t, exec .resultHiRead s = .next t ∧ t.nl.sdo = s.nl.shadow ∧ t.nl.pairing = none ∧
        t.nl.pairs = s.nl.pairs ∧ (s.nl.autoInc = false → t.nl.pointer = s.nl.pointer)) ∧
      (s.nl.pairing = none → ∃ t, exec .resultHiRead s = .next t ∧ t.nl.pointer = s.nl.pointer ∧ t.nl.pairs = s.nl.pairs ∧
        t.nl.sdo = BitVec.ofNat 16 (2 ^ 15 + nlHigh (nlPointed s) (nlPair s (nlPointed s)))) ∧
      (∀ b : Byte, b.getLsbD 7 = true → b ≠ 0x84 → b ≠ 0x85 → ∃ t, exec (.spiUnknownTransaction b) s = .next t ∧
        t.nl.sdo.toNat = nlRegister s (b.toNat % 128) % 2 ^ 16 ∧ t.nl.pairs = s.nl.pairs ∧ t.nl.pointer = s.nl.pointer ∧
        t.nl.pairing = s.nl.pairing) ∧
      (∀ v : BitVec 16, ∃ t, exec (.nlPointerWrite v) s = .next t ∧ t.nl.pointer = v.toNat % 64 ∧ t.nl.pairing = none ∧
        t.nl.pairs = s.nl.pairs) ∧
      (∀ (n : BitVec 7) (v : BitVec 16), ∃ t, exec (.nlRegisterWrite n v) s = .next t ∧ t.nl.pairs = s.nl.pairs ∧
        (n = 1 → t.nl.run = v.getLsbD 0 ∧ t.nl.autoInc = v.getLsbD 1 ∧ t.nl.pointer = s.nl.pointer) ∧
        (n ≠ 1 → n ≠ 3 → t.nl = s.nl ∧ bits (tally t A_NL_SPI_ERRORS 0) 15 0 =
          satAdd 65535 (bits (tally s A_NL_SPI_ERRORS 0) 15 0) 1)))

/-- R457 to R459, Table 17.14, and the value of the IDCODE register: each TAP instruction comes into force with its code and selects its data register; a code that is not
supported acts as BYPASS; Test-Logic-Reset takes IDCODE and ends a hold of the pads; nothing but the TAP changes.
R207, R400, R401, R452, R456: what the pins show: TEST_OUT is high impedance in HELD and follows its source elsewhere; a FECLK output that is off is
low and passes REFCLK in HELD; the drive of an uplane follows `TA_UL_EQ` from the next boundary; the scan cells take the pads
under EXTEST and CLAMP, HIGHZ those that drive, and a pad without supply is off (R409, R457, R459). -/
def Obligations.TestAccess : Prop :=
  (∀ s : State, powered s = true →
     exec .tapExtest s = .next { s with tap := { s.tap with inst := .extest, code := 0x00, dr := 0 } } ∧
     exec .tapSamplePreload s = .next { s with tap :=
       { s.tap with inst := .sample, code := 0x01, dr := 0, sampled := some s.tb.up } } ∧
     exec .tapIdcode s = .next { s with tap := { s.tap with inst := .idcode, code := 0x02, dr := 1 } } ∧
     exec .tapClamp s = .next { s with tap := { s.tap with inst := .clamp, code := 0x03, dr := 2 } } ∧
     exec .tapHighz s = .next { s with tap := { s.tap with inst := .highz, code := 0x04, dr := 2 } } ∧
     (∀ code : BitVec 6, 5 ≤ code.toNat →
       exec (.tapBypass code) s = .next { s with tap := { s.tap with inst := .bypass, code := code, dr := 2 } }) ∧
     exec .tapTestLogicReset s = .next { s with tap := { s.tap with inst := .idcode, code := 0x02, dr := 1 } } ∧
     padsFree { s with tap := { s.tap with inst := .idcode, code := 0x02, dr := 1 } } = true ∧
     bits (valueOf s A_TA_IDCODE 0) 31 28 = Config.revision % 16 ∧ bits (valueOf s A_TA_IDCODE 0) 27 12 = 0x0192 ∧
     bits (valueOf s A_TA_IDCODE 0) 11 1 = 0x63D ∧ bits (valueOf s A_TA_IDCODE 0) 0 0 = 1 ∧
     (Config.revision = 1 → valueOf s A_TA_IDCODE 0 = 0x10192C7B)) ∧
  ((∀ s : State, s.modes.cur = .held → testOut s = none) ∧
   (∀ s : State, powered s = true → s.modes.cur ≠ .held →
     (bits (reg s A_TA_TEST_OUT 0) 4 0 = 1 → testOut s = some false) ∧
     (bits (reg s A_TA_TEST_OUT 0) 4 0 = 2 → testOut s = some true) ∧
     (bits (reg s A_TA_TEST_OUT 0) 4 0 = 3 → (testOut s = some true ↔ s.tb.beat.toNat % 8 < 4)) ∧
     (bits (reg s A_TA_TEST_OUT 0) 4 0 = 4 → (testOut s = some true ↔ s.tb.beat.toNat % 1024 = 0)) ∧
     (bits (reg s A_TA_TEST_OUT 0) 4 0 = 5 → (testOut s = some true ↔ s.tb.beat.toNat % 40960000 < 409600))) ∧
   (∀ (s : State) (k e : Nat), powered s = true → (bits (reg s A_CK_FECLK k) 2 0 = 4 → feclk s k e = some false) ∧
     (s.modes.cur = .held → bits (reg s A_CK_FECLK k) 2 0 < 4 → feclk s k e = none)) ∧
   (∀ (s : State) (x : Signal), powered s = false ∨ isGood s (padSupply x) = false → pad s x = .off) ∧
   (∀ (s : State) (x : Signal), powered s = true → isGood s (padSupply x) = true →
     (scanned x = true → s.tap.inst = .extest ∨ s.tap.inst = .clamp → pad s x = .scan) ∧
     (drives x = true → s.tap.inst = .highz → pad s x = .highZ) ∧
     (s.tap.inst = .idcode ∨ s.tap.inst = .bypass ∨ s.tap.inst = .sample →
       (x = .errN → pad s x = if errNow s then .level false else .released) ∧
       (∀ k : Fin 2, x = .flow k → pad s x = .level (!flowLow s k.val)) ∧
       (x = .tgOut → pad s x = .word (tgOutNow s)) ∧ (x = .spiSdo → pad s x = .highZ))) ∧
   (∀ (s : State) (u : Nat), u < 4 → pget 0x46 (tapDeckle s).tap.ulEq u = reg s A_TA_UL_EQ u))
end

