-- ==== Sys2Proof/Laws/CoreData.lean ====
section
/-!
SUPPORT. What the operations leave as it was: the queue, the TAP's instruction, the Seed Store banks and the working registers
(`core`), or all but the registers (its first part): the shared operations, the operands, the front end, the Granary, the couches and the Winnower.
-/
open Sys2Proof Sys2Proof.Machine
namespace Sys2Proof.Laws
set_option linter.all false

/-! ## Ops -/

/-- What almost no operation touches: the queue, the TAP's instruction, the Seed Store banks and the working registers. -/
def core (s : State) :
    ((List Instr × TapInst × BitVec 6 × Nat) × (List Host.Cell × List Host.Cell)) × PMap Nat :=
  (((s.pending, s.tap.inst, s.tap.code, s.tap.dr), (s.cal.bank0, s.cal.bank1)), s.cfg)
theorem core_mk (pending cmd modes pwr flt barns chs stooks gran thr tb lanes dls mg mon cal md clk nl tap cfg cfgPrev couchUp tal talOld talNew once free) : core (State.mk pending cmd modes pwr flt barns chs stooks gran thr tb lanes dls mg mon cal md clk nl tap cfg cfgPrev couchUp tal talOld talNew once free) =
  (((pending, tap.inst, tap.code, tap.dr), (cal.bank0, cal.bank1)), cfg) := (rfl)
theorem core_eta (s : State) :
    (((s.pending, s.tap.inst, s.tap.code, s.tap.dr), (s.cal.bank0, s.cal.bank1)), s.cfg) = core s := (rfl)
theorem base_eta (s : State) :
    ((s.pending, s.tap.inst, s.tap.code, s.tap.dr), (s.cal.bank0, s.cal.bank1)) = (core s).1 := (rfl)
theorem queue_eta (s : State) : (s.pending, s.tap.inst, s.tap.code, s.tap.dr) = (core s).1.1 := (rfl)
theorem base_ite (c : Prop) [Decidable c] (a b : State) :
    (core (if c then a else b)).1 = if c then (core a).1 else (core b).1 := by split <;> rfl
theorem queue_ite (c : Prop) [Decidable c] (a b : State) :
    (core (if c then a else b)).1.1 = if c then (core a).1.1 else (core b).1.1 := by split <;> rfl
theorem base_forNat (n : Nat) (f : Nat → State → State) (s : State) (h : ∀ k x, (core (f k x)).1 = (core x).1) :
    (core (forNat n f s)).1 = (core s).1 := by
  induction n with
  | zero => rfl
  | succ n ih => rw [forNat, h, ih]
theorem base_foldl {α : Type} (l : List α) (f : State → α → State) (s : State)
    (h : ∀ x a, (core (f x a)).1 = (core x).1) : (core (l.foldl f s)).1 = (core s).1 := by
  induction l generalizing s with
  | nil => rfl
  | cons a l ih => rw [List.foldl_cons, ih, h]
theorem core_ite (c : Prop) [Decidable c] (a b : State) : core (if c then a else b) = if c then core a else core b := by
  split <;> rfl
theorem core_forNat (n : Nat) (f : Nat → State → State) (s : State) (h : ∀ k x, core (f k x) = core x) :
    core (forNat n f s) = core s := by
  induction n with
  | zero => rfl
  | succ n ih => rw [forNat, h, ih]
theorem core_foldl {α : Type} (l : List α) (f : State → α → State) (s : State) (h : ∀ x a, core (f x a) = core x) :
    core (l.foldl f s) = core s := by
  induction l generalizing s with
  | nil => rfl
  | cons a l ih => rw [List.foldl_cons, ih, h]
theorem snd_ite {α : Type} (c : Prop) [Decidable c] (a b : α × State) :
    (if c then a else b).2 = if c then a.2 else b.2 := by split <;> rfl
/-- Where an outcome leads: a fault or a refusal leaves the state d. -/
def after (d : State) : Res → State
  | .next t => t
  | .fault _ => d
  | .refused _ => d
theorem after_next (d t : State) : after d (.next t) = t := rfl
theorem after_fault (d : State) (f : Fault) : after d (.fault f) = d := rfl
theorem after_refused (d : State) (r : Refusal) : after d (.refused r) = d := rfl
theorem after_ite (d : State) (c : Prop) [Decidable c] (a b : Res) :
    after d (if c then a else b) = if c then after d a else after d b := by
  split <;> rfl
theorem base_setReg (s : State) (id inst v : Nat) : (core (setReg s id inst v)).1 = (core s).1 := by
  unfold setReg
  repeat' (first | simp only [↓base_eta, ↓base_ite, ↓base_forNat, ↓base_foldl, ↓snd_ite, ↓core_mk, ↓core_eta, ↓core_ite, ite_self, implies_true] | split | with_reducible refine (base_forNat _ _ _ fun k x => ?_).trans ?_ | with_reducible refine (base_foldl _ _ _ fun x a => ?_).trans ?_ | with_reducible refine (base_granger _ _ _ _ _ fun _ => ?_).trans ?_)
theorem core_count (s : State) (id inst hi lo n : Nat) : core (count s id inst hi lo n) = core s := by
  unfold count
  repeat' (first | simp only [↓snd_ite, ↓core_mk, ↓core_eta, ↓core_ite, ite_self, implies_true] | split)
theorem core_countMax (s : State) (id inst hi lo n : Nat) : core (countMax s id inst hi lo n) = core s := by
  unfold countMax
  repeat' (first | simp only [↓snd_ite, ↓core_mk, ↓core_eta, ↓core_ite, ite_self, implies_true] | split)
theorem core_clearTally (s : State) (id inst : Nat) : core (clearTally s id inst) = core s := by
  unfold clearTally
  repeat' (first | simp only [↓snd_ite, ↓core_mk, ↓core_eta, ↓core_ite, ite_self, implies_true] | split)
theorem core_setChan (s : State) (c : Nat) (x : Channel) : core (setChan s c x) = core s := by
  unfold setChan
  repeat' (first | simp only [↓snd_ite, ↓core_mk, ↓core_eta, ↓core_ite, ite_self, implies_true] | split)
theorem core_setStook (s : State) (k : Nat) (x : Stook) : core (setStook s k x) = core s := by
  unfold setStook
  repeat' (first | simp only [↓snd_ite, ↓core_mk, ↓core_eta, ↓core_ite, ite_self, implies_true] | split)
theorem core_setLane (s : State) (u : Nat) (x : Uplane) : core (setLane s u x) = core s := by
  unfold setLane
  repeat' (first | simp only [↓snd_ite, ↓core_mk, ↓core_eta, ↓core_ite, ite_self, implies_true] | split)
theorem core_setDlane (s : State) (d : Nat) (x : Downlane) : core (setDlane s d x) = core s := by
  unfold setDlane
  repeat' (first | simp only [↓snd_ite, ↓core_mk, ↓core_eta, ↓core_ite, ite_self, implies_true] | split)
theorem core_setMc (s : State) (k : Nat) (x : Mc) : core (setMc s k x) = core s := by
  unfold setMc
  repeat' (first | simp only [↓snd_ite, ↓core_mk, ↓core_eta, ↓core_ite, ite_self, implies_true] | split)
theorem core_setMonRec (s : State) (i : Nat) (x : MonRec) : core (setMonRec s i x) = core s := by
  unfold setMonRec
  repeat' (first | simp only [↓snd_ite, ↓core_mk, ↓core_eta, ↓core_ite, ite_self, implies_true] | split)
theorem core_setTdac (s : State) (k : Nat) (x : Tdac) : core (setTdac s k x) = core s := by
  unfold setTdac
  repeat' (first | simp only [↓snd_ite, ↓core_mk, ↓core_eta, ↓core_ite, ite_self, implies_true] | split)
theorem core_atPads (s k : State) : core (after s (atPads s k)) = if padsFree s then core k else core s := by
  unfold atPads; split <;> rfl
theorem core_noteDone (s : State) (kind u : Nat) : core (noteDone s kind u) = core s := by
  unfold noteDone
  repeat' (first | simp only [↓snd_ite, ↓core_mk, ↓core_eta, ↓core_ite, ite_self, implies_true] | split)
theorem core_pllRequest (s : State) : core (pllRequest s) = core s := by
  unfold pllRequest
  repeat' (first | simp only [↓snd_ite, ↓core_mk, ↓core_eta, ↓core_ite, ite_self, implies_true] | split)
theorem core_wakeGranary (s : State) : core (wakeGranary s) = core s := by
  unfold wakeGranary
  repeat' (first | simp only [↓snd_ite, ↓core_mk, ↓core_eta, ↓core_ite, ite_self, implies_true, ↓core_pllRequest] | split)
theorem core_useGranary (s : State) : core (useGranary s) = core s := by
  unfold useGranary
  repeat' (first | simp only [↓snd_ite, ↓core_mk, ↓core_eta, ↓core_ite, ite_self, implies_true, ↓core_wakeGranary] | split)
theorem core_send (s : State) (m : Msg) : core (send s m) = core s := by
  unfold send
  repeat' (first | simp only [↓snd_ite, ↓core_mk, ↓core_eta, ↓core_ite, ite_self, implies_true, ↓core_count] | split)
theorem core_reply (s : State) (r : Req) (op status detail : Nat) (data : List PWord) : core (reply s r op status detail data) = core s := by
  unfold reply
  repeat' (first | simp only [↓snd_ite, ↓core_mk, ↓core_eta, ↓core_ite, ite_self, implies_true, ↓core_send] | split)
theorem core_outcome (s : State) (r : Req) (op status detail : Nat) (data : List PWord) : core (outcome s r op status detail data) = core s := by
  unfold outcome
  repeat' (first | simp only [↓snd_ite, ↓core_mk, ↓core_eta, ↓core_ite, ite_self, implies_true, ↓core_reply, ↓core_send] | split)
theorem core_event (s : State) (kind status : Nat) (data : List PWord) : core (event s kind status data) = core s := by
  unfold event
  repeat' (first | simp only [↓snd_ite, ↓core_mk, ↓core_eta, ↓core_ite, ite_self, implies_true, ↓core_reply, ↓core_send] | split)
theorem core_openCmd (s : State) (r : Req) (op key : Nat) : core (openCmd s r op key) = core s := by
  unfold openCmd
  repeat' (first | simp only [↓snd_ite, ↓core_mk, ↓core_eta, ↓core_ite, ite_self, implies_true] | split)
theorem core_closeCmd (s : State) (r : Req) (op status detail : Nat) (data : List PWord) : core (closeCmd s r op status detail data) = core s := by
  unfold closeCmd
  repeat' (first | simp only [↓snd_ite, ↓core_mk, ↓core_eta, ↓core_ite, ite_self, implies_true, ↓core_reply] | split)
theorem core_pushSheaf (s : State) (x : Sheaf) : core (pushSheaf s x) = core s := by
  unfold pushSheaf
  repeat' (first | simp only [↓snd_ite, ↓core_mk, ↓core_eta, ↓core_ite, ite_self, implies_true] | split)
theorem core_fenceMarker (s : State) (kind index : Nat) (release : Bool) (src : Nat) : core (fenceMarker s kind index release src) = core s := by
  unfold fenceMarker
  repeat' (first | simp only [↓snd_ite, ↓core_mk, ↓core_eta, ↓core_ite, ite_self, implies_true, ↓core_pushSheaf] | split)
theorem core_resumeMarker (s : State) (cause : Nat) (checkpoint : Deckle) : core (resumeMarker s cause checkpoint) = core s := by
  unfold resumeMarker
  repeat' (first | simp only [↓snd_ite, ↓core_mk, ↓core_eta, ↓core_ite, ite_self, implies_true, ↓core_pushSheaf] | split)
theorem core_controlMode (s : State) (new old : Mode) (cause : Nat) : core (controlMode s new old cause) = core s := by
  unfold controlMode
  repeat' (first | simp only [↓snd_ite, ↓core_mk, ↓core_eta, ↓core_ite, ite_self, implies_true, ↓core_pushSheaf] | split)
theorem core_controlLoss (s : State) (finder src seq : Nat) (unknown : Bool) : core (controlLoss s finder src seq unknown) = core s := by
  unfold controlLoss
  repeat' (first | simp only [↓snd_ite, ↓core_mk, ↓core_eta, ↓core_ite, ite_self, implies_true, ↓core_pushSheaf] | split)
theorem core_epochCause (s : State) (bit : Nat) : core (epochCause s bit) = core s := by
  unfold epochCause
  repeat' (first | simp only [↓snd_ite, ↓core_mk, ↓core_eta, ↓core_ite, ite_self, implies_true] | split)
theorem core_editRec (s : State) (key : Nat) (f : FaultRec → FaultRec) : core (editRec s key f) = core s := by
  unfold editRec
  repeat' (first | simp only [↓snd_ite, ↓core_mk, ↓core_eta, ↓core_ite, ite_self, implies_true] | split)
theorem core_addConsequent (s : State) (key : Nat) : core (addConsequent s key) = core s := by
  unfold addConsequent
  repeat' (first | simp only [↓snd_ite, ↓core_mk, ↓core_eta, ↓core_ite, ite_self, implies_true, ↓core_editRec] | split)
theorem core_assertErr (s : State) : core (assertErr s) = core s := by
  unfold assertErr
  repeat' (first | simp only [↓snd_ite, ↓core_mk, ↓core_eta, ↓core_ite, ite_self, implies_true, ↓core_foldl, ↓core_closeCmd] | split | with_reducible refine (core_forNat _ _ _ fun k x => ?_).trans ?_ | with_reducible refine (core_foldl _ _ _ fun x a => ?_).trans ?_)
theorem core_trapFrom (s : State) (b : Nat) : core (trapFrom s b) = core s := by
  unfold trapFrom
  repeat' (first | simp only [↓snd_ite, ↓core_mk, ↓core_eta, ↓core_ite, ite_self, implies_true] | split)
theorem core_sendInterrupts (s : State) : core (sendInterrupts s) = core s := by
  unfold sendInterrupts
  repeat' (first | simp only [↓snd_ite, ↓core_mk, ↓core_eta, ↓core_ite, ite_self, implies_true, ↓core_foldl, ↓core_event] | split | with_reducible refine (core_forNat _ _ _ fun k x => ?_).trans ?_ | with_reducible refine (core_foldl _ _ _ fun x a => ?_).trans ?_)
theorem core_endTrap (s : State) : core (endTrap s) = core s := by
  unfold endTrap
  repeat' (first | simp only [↓snd_ite, ↓core_mk, ↓core_eta, ↓core_ite, ite_self, implies_true] | split)
theorem core_checkRunEnds (s : State) (kind status : Nat) : core (checkRunEnds s kind status) = core s := by
  unfold checkRunEnds
  repeat' (first | simp only [↓snd_ite, ↓core_mk, ↓core_eta, ↓core_ite, ite_self, implies_true, ↓core_count, ↓core_pushSheaf] | split)
theorem core_checkRunFails (s : State) (kind : Nat) : core (checkRunFails s kind) = core s := by
  unfold checkRunFails
  repeat' (first | simp only [↓snd_ite, ↓core_mk, ↓core_eta, ↓core_ite, ite_self, implies_true, ↓core_checkRunEnds] | split)
theorem core_recoveryFail (s : State) : core (recoveryFail s) = core s := by
  unfold recoveryFail
  repeat' (first | simp only [↓snd_ite, ↓core_mk, ↓core_eta, ↓core_ite, ite_self, implies_true] | split)
theorem core_causeRecovery (s : State) (code : Byte) : core (causeRecovery s code) = core s := by
  unfold causeRecovery
  repeat' (first | simp only [↓snd_ite, ↓core_mk, ↓core_eta, ↓core_ite, ite_self, implies_true] | split)
theorem core_escalateBeyond (s : State) (key : Nat) : core (escalateBeyond s key) = core s := by
  unfold escalateBeyond
  repeat' (first | simp only [↓snd_ite, ↓core_mk, ↓core_eta, ↓core_ite, ite_self, implies_true, ↓core_assertErr, ↓core_causeRecovery, ↓core_count, ↓core_editRec, ↓core_recoveryFail] | split)
theorem core_endActions (s : State) (key : Nat) : core (endActions s key) = core s := by
  unfold endActions
  repeat' (first | simp only [↓snd_ite, ↓core_mk, ↓core_eta, ↓core_ite, ite_self, implies_true] | split)
theorem core_queueAct (s : State) (a : Act) : core (queueAct s a) = core s := by
  unfold queueAct
  repeat' (first | simp only [↓snd_ite, ↓core_mk, ↓core_eta, ↓core_ite, ite_self, implies_true, ↓core_count, ↓core_endActions, ↓core_escalateBeyond] | split)
theorem core_react (s : State) (f : FaultRec) : core (react s f) = core s := by
  unfold react
  repeat' (first | simp only [↓snd_ite, ↓core_mk, ↓core_eta, ↓core_ite, ite_self, implies_true, ↓core_assertErr, ↓core_queueAct, ↓core_trapFrom] | split)
theorem core_logRaise (s : State) (f : FaultRec) : core (logRaise s f) = core s := by
  unfold logRaise
  repeat' (first | simp only [↓snd_ite, ↓core_mk, ↓core_eta, ↓core_ite, ite_self, implies_true, ↓core_count] | split)
theorem core_raise (s : State) (src inst ctx : Nat) : core (raise s src inst ctx) = core s := by
  unfold raise
  repeat' (first | simp only [↓snd_ite, ↓core_mk, ↓core_eta, ↓core_ite, ite_self, implies_true, ↓core_addConsequent, ↓core_count, ↓core_logRaise, ↓core_react] | split)
theorem core_levelBegin (s : State) (src inst ctx : Nat) : core (levelBegin s src inst ctx) = core s := by
  unfold levelBegin
  repeat' (first | simp only [↓snd_ite, ↓core_mk, ↓core_eta, ↓core_ite, ite_self, implies_true, ↓core_raise] | split)
theorem core_levelEnd (s : State) (src inst : Nat) : core (levelEnd s src inst) = core s := by
  unfold levelEnd
  repeat' (first | simp only [↓snd_ite, ↓core_mk, ↓core_eta, ↓core_ite, ite_self, implies_true] | split)

/-! ## Couches -/

theorem core_couchMessage (s : State) (c : Couch) (status detail : Nat) : core (couchMessage s c status detail) = core s := by
  unfold couchMessage
  repeat' (first | simp only [↓snd_ite, ↓core_mk, ↓core_eta, ↓core_ite, ite_self, implies_true, ↓core_closeCmd, ↓core_outcome] | split)
theorem core_endCouch (s : State) (c : Couch) (status : Nat) (late : Bool) : core (endCouch s c status late) = core s := by
  unfold endCouch
  repeat' (first | simp only [↓snd_ite, ↓core_mk, ↓core_eta, ↓core_ite, ite_self, implies_true] | split)
theorem core_failCouch (s : State) (c : Couch) (status detail : Nat) (st : Staging) (late : Bool) : core (failCouch s c status detail st late) = core s := by
  unfold failCouch
  repeat' (first | simp only [↓snd_ite, ↓core_mk, ↓core_eta, ↓core_ite, ite_self, implies_true, ↓core_couchMessage, ↓core_count, ↓core_endCouch, ↓core_raise] | split)
theorem core_cancelCouch (s : State) (p : Couch → Bool) : core (cancelCouch s p) = core s := by
  unfold cancelCouch
  repeat' (first | simp only [↓snd_ite, ↓core_mk, ↓core_eta, ↓core_ite, ite_self, implies_true, ↓core_failCouch] | split)
theorem core_couchBoundary (s : State) : core (couchBoundary s) = core s := by
  unfold couchBoundary
  repeat' (first | simp only [↓snd_ite, ↓core_mk, ↓core_eta, ↓core_ite, ite_self, implies_true] | split)

/-! ## Operands -/

theorem core_replyOk (s : State) (r : Req) (op : Nat) (data : List PWord) : core (replyOk s r op data) = core s := by
  unfold replyOk
  repeat' (first | simp only [↓snd_ite, ↓core_mk, ↓core_eta, ↓core_ite, ite_self, implies_true, ↓core_reply] | split)
theorem core_replyBad (s : State) (r : Req) (op word : Nat) : core (replyBad s r op word) = core s := by
  unfold replyBad
  repeat' (first | simp only [↓snd_ite, ↓core_mk, ↓core_eta, ↓core_ite, ite_self, implies_true, ↓core_reply] | split)
theorem core_replyBusy (s : State) (r : Req) (op holder : Nat) : core (replyBusy s r op holder) = core s := by
  unfold replyBusy
  repeat' (first | simp only [↓snd_ite, ↓core_mk, ↓core_eta, ↓core_ite, ite_self, implies_true, ↓core_reply] | split)
theorem core_replyDenied (s : State) (r : Req) (op : Nat) : core (replyDenied s r op) = core s := by
  unfold replyDenied
  repeat' (first | simp only [↓snd_ite, ↓core_mk, ↓core_eta, ↓core_ite, ite_self, implies_true, ↓core_reply] | split)
theorem core_replyNotInMode (s : State) (r : Req) (op : Nat) : core (replyNotInMode s r op) = core s := by
  unfold replyNotInMode
  repeat' (first | simp only [↓snd_ite, ↓core_mk, ↓core_eta, ↓core_ite, ite_self, implies_true, ↓core_reply] | split)
theorem core_replyLength (s : State) (r : Req) (op len : Nat) : core (replyLength s r op len) = core s := by
  unfold replyLength
  repeat' (first | simp only [↓snd_ite, ↓core_mk, ↓core_eta, ↓core_ite, ite_self, implies_true, ↓core_count, ↓core_reply] | split)
theorem core_enqueuePacket (s : State) (p : Port) (i : Packet) : core (enqueuePacket s p i) = core s := by
  unfold enqueuePacket
  repeat' (first | simp only [↓snd_ite, ↓core_mk, ↓core_eta, ↓core_ite, ite_self, implies_true] | split)
theorem core_granger (s : State) (r : Req) (i : Instr) (op : Nat) (body : State → State)
    (h : ∀ y, core (body y) = core y) : core (after s (granger s r i op body)) = core s := by
  unfold granger
  repeat' (first | simp only [↓snd_ite, ↓core_mk, ↓core_eta, ↓core_ite, ite_self, implies_true, ↓core_atPads, ↓core_enqueuePacket, ↓core_replyNotInMode, ↓after_next, ↓after_fault, ↓after_refused, ↓after_ite, h, ↓after_ite] | split)
theorem base_granger (s : State) (r : Req) (i : Instr) (op : Nat) (body : State → State)
    (h : ∀ y, (core (body y)).1 = (core y).1) : (core (after s (granger s r i op body))).1 = (core s).1 := by
  unfold granger
  rw [core_atPads]
  repeat' (first | simp only [↓base_ite, ↓snd_ite, ↓core_mk, ↓core_eta, ↓core_ite, ite_self, implies_true, ↓core_atPads, ↓core_enqueuePacket, ↓core_replyNotInMode, ↓after_next, ↓after_fault, ↓after_refused, ↓after_ite, h, ↓after_ite] | split)
theorem core_opening (s : State) (r : Req) (op key : Nat) (k : State → State) (h_k : ∀ y0, core (k y0) = core y0) : core (opening s r op key k) = core s := by
  unfold opening
  repeat' (first | simp only [↓snd_ite, ↓core_mk, ↓core_eta, ↓core_ite, ite_self, implies_true, ↓core_openCmd, ↓core_replyBusy, h_k] | split)

/-! ## FrontEnd -/

theorem core_tryAna (s : State) (c : Nat) : core (tryAna s c) = core s := by
  unfold tryAna
  repeat' (first | simp only [↓snd_ite, ↓core_mk, ↓core_eta, ↓core_ite, ite_self, implies_true, ↓core_setChan] | split)
theorem core_refreshChannel (s : State) (c : Nat) : core (refreshChannel s c) = core s := by
  unfold refreshChannel
  repeat' (first | simp only [↓snd_ite, ↓core_mk, ↓core_eta, ↓core_ite, ite_self, implies_true, ↓core_setChan, ↓core_tryAna] | split)
theorem core_wakeStook (s : State) (st : Nat) : core (wakeStook s st) = core s := by
  unfold wakeStook
  repeat' (first | simp only [↓snd_ite, ↓core_mk, ↓core_eta, ↓core_ite, ite_self, implies_true, ↓core_pllRequest, ↓core_setStook] | split)
theorem core_acceptedEdge (s : State) (c fine lag inFlight : Nat) (forced : Bool) : core (acceptedEdge s c fine lag inFlight forced) = core s := by
  unfold acceptedEdge
  repeat' (first | simp only [↓snd_ite, ↓core_mk, ↓core_eta, ↓core_ite, ite_self, implies_true, ↓core_count, ↓core_setChan, ↓core_wakeStook] | split)
theorem core_hitEdge (s : State) (c fine lag inFlight : Nat) (forced : Bool) : core (hitEdge s c fine lag inFlight forced) = core s := by
  unfold hitEdge
  repeat' (first | simp only [↓snd_ite, ↓core_mk, ↓core_eta, ↓core_ite, ite_self, implies_true, ↓core_acceptedEdge, ↓core_count, ↓core_setChan] | split)
theorem core_execHitEdge (c : Chan) (level : Int) (fine lag : BitVec 13) (inFlight : Fin 4) (s : State) : core (after s (execHitEdge c level fine lag inFlight s)) = core s := by
  unfold execHitEdge
  repeat' (first | simp only [↓snd_ite, ↓core_mk, ↓core_eta, ↓core_ite, ite_self, implies_true, ↓core_atPads, ↓core_hitEdge, ↓after_next, ↓after_fault, ↓after_refused, ↓after_ite] | split)
theorem core_execDiscriminatorRelease (c : Chan) (level : Int) (s : State) : core (after s (execDiscriminatorRelease c level s)) = core s := by
  unfold execDiscriminatorRelease
  repeat' (first | simp only [↓snd_ite, ↓core_mk, ↓core_eta, ↓core_ite, ite_self, implies_true, ↓core_atPads, ↓core_setChan, ↓after_next, ↓after_fault, ↓after_refused, ↓after_ite] | split)
theorem core_execSampleConverted (c : Chan) (code : BitVec 14) (s : State) : core (after s (execSampleConverted c code s)) = core s := by
  unfold execSampleConverted
  repeat' (first | simp only [↓snd_ite, ↓core_mk, ↓core_eta, ↓core_ite, ite_self, implies_true, ↓core_atPads, ↓core_setChan, ↓core_tryAna, ↓after_next, ↓after_fault, ↓after_refused, ↓after_ite] | split)
theorem core_execTdcStop (c : Chan) (raw : BitVec 24) (s : State) : core (after s (execTdcStop c raw s)) = core s := by
  unfold execTdcStop
  repeat' (first | simp only [↓snd_ite, ↓core_mk, ↓core_eta, ↓core_ite, ite_self, implies_true, ↓core_atPads, ↓core_setChan, ↓after_next, ↓after_fault, ↓after_refused, ↓after_ite] | split)
theorem core_execEntryComplete (c : Chan) (s : State) : core (after s (execEntryComplete c s)) = core s := by
  unfold execEntryComplete
  repeat' (first | simp only [↓snd_ite, ↓core_mk, ↓core_eta, ↓core_ite, ite_self, implies_true, ↓core_atPads, ↓core_setChan, ↓after_next, ↓after_fault, ↓after_refused, ↓after_ite] | split)
theorem core_stuckEpisode (s : State) (c : Nat) : core (stuckEpisode s c) = core s := by
  unfold stuckEpisode
  repeat' (first | simp only [↓snd_ite, ↓core_mk, ↓core_eta, ↓core_ite, ite_self, implies_true, ↓core_count, ↓core_raise, ↓core_setChan] | split)
theorem core_stuckEntry (s : State) (c : Nat) : core (stuckEntry s c).2 = core s := by
  unfold stuckEntry
  repeat' (first | simp only [↓snd_ite, ↓core_mk, ↓core_eta, ↓core_ite, ite_self, implies_true, ↓snd_ite] | split)
theorem core_stuckExpiry (s : State) (c : Nat) : core (stuckExpiry s c) = core s := by
  unfold stuckExpiry
  repeat' (first | simp only [↓snd_ite, ↓core_mk, ↓core_eta, ↓core_ite, ite_self, implies_true, ↓core_setChan, ↓core_stuckEntry, ↓core_stuckEpisode, ↓core_wakeStook] | split)
theorem core_execStuckLimitExpiry (c : Chan) (s : State) : core (after s (execStuckLimitExpiry c s)) = core s := by
  unfold execStuckLimitExpiry
  repeat' (first | simp only [↓snd_ite, ↓core_mk, ↓core_eta, ↓core_ite, ite_self, implies_true, ↓core_stuckExpiry, ↓after_next, ↓after_fault, ↓after_refused, ↓after_ite] | split)
theorem core_execStuckBackoffEnd (c : Chan) (s : State) : core (after s (execStuckBackoffEnd c s)) = core s := by
  unfold execStuckBackoffEnd
  repeat' (first | simp only [↓snd_ite, ↓core_mk, ↓core_eta, ↓core_ite, ite_self, implies_true, ↓core_setChan, ↓core_stuckEpisode, ↓after_next, ↓after_fault, ↓after_refused, ↓after_ite] | split)
theorem core_execStuckBackoffReset (c : Chan) (s : State) : core (after s (execStuckBackoffReset c s)) = core s := by
  unfold execStuckBackoffReset
  repeat' (first | simp only [↓snd_ite, ↓core_mk, ↓core_eta, ↓core_ite, ite_self, implies_true, ↓core_setChan, ↓after_next, ↓after_fault, ↓after_refused, ↓after_ite] | split)
theorem core_channelDeckle (s : State) (c : Nat) : core (channelDeckle s c) = core s := by
  unfold channelDeckle
  repeat' (first | simp only [↓snd_ite, ↓core_mk, ↓core_eta, ↓core_ite, ite_self, implies_true, ↓core_raise, ↓core_setChan] | split)
theorem core_channelsDeckle (s : State) : core (channelsDeckle s) = core s := by
  unfold channelsDeckle
  repeat' (first | simp only [↓snd_ite, ↓core_mk, ↓core_eta, ↓core_ite, ite_self, implies_true, ↓core_foldl, ↓core_channelDeckle] | split | with_reducible refine (core_forNat _ _ _ fun k x => ?_).trans ?_ | with_reducible refine (core_foldl _ _ _ fun x a => ?_).trans ?_)
theorem core_channelHeld (s : State) (c : Nat) : core (channelHeld s c) = core s := by
  unfold channelHeld
  repeat' (first | simp only [↓snd_ite, ↓core_mk, ↓core_eta, ↓core_ite, ite_self, implies_true, ↓core_count, ↓core_setChan, ↓core_tryAna] | split)
theorem core_channelRestart (s : State) (c : Nat) : core (channelRestart s c) = core s := by
  unfold channelRestart
  repeat' (first | simp only [↓snd_ite, ↓core_mk, ↓core_eta, ↓core_ite, ite_self, implies_true, ↓core_hitEdge, ↓core_setChan] | split)
theorem core_discardLatch (s : State) (c : Nat) : core (discardLatch s c) = core s := by
  unfold discardLatch
  repeat' (first | simp only [↓snd_ite, ↓core_mk, ↓core_eta, ↓core_ite, ite_self, implies_true, ↓core_forNat, ↓core_count, ↓core_raise, ↓core_setChan] | split | with_reducible refine (core_forNat _ _ _ fun k x => ?_).trans ?_ | with_reducible refine (core_foldl _ _ _ fun x a => ?_).trans ?_)

/-! ## Granary -/

theorem core_mapUnits (s : State) (f : GUnit → GUnit) : core (mapUnits s f) = core s := by
  unfold mapUnits
  repeat' (first | simp only [↓snd_ite, ↓core_mk, ↓core_eta, ↓core_ite, ite_self, implies_true] | split)
theorem core_keepUnits (s : State) (p : GUnit → Bool) : core (keepUnits s p) = core s := by
  unfold keepUnits
  repeat' (first | simp only [↓snd_ite, ↓core_mk, ↓core_eta, ↓core_ite, ite_self, implies_true] | split)
theorem core_touchBanks (s : State) (slots : List Nat) : core (touchBanks s slots) = core s := by
  unfold touchBanks
  repeat' (first | simp only [↓snd_ite, ↓core_mk, ↓core_eta, ↓core_ite, ite_self, implies_true] | split)
theorem core_powerBanks (n : Nat) (s : State) : core (powerBanks n s) = core s := by
  induction n generalizing s with
  | zero => rfl
  | succ n ih => simp only [powerBanks, ↓snd_ite, ↓core_mk, ↓core_eta, ↓core_ite, ite_self, implies_true, ih] <;> repeat' (first | split | simp only [↓snd_ite, ↓core_mk, ↓core_eta, ↓core_ite, ite_self, implies_true, ih])
theorem core_lost (s : State) (src cls : Nat) : core (lost s src cls) = core s := by
  unfold lost
  repeat' (first | simp only [↓snd_ite, ↓core_mk, ↓core_eta, ↓core_ite, ite_self, implies_true, ↓core_count] | split)
theorem core_guardLost (s : State) (finder src seq : Nat) (unknown : Bool) : core (guardLost s finder src seq unknown) = core s := by
  unfold guardLost
  repeat' (first | simp only [↓snd_ite, ↓core_mk, ↓core_eta, ↓core_ite, ite_self, implies_true, ↓core_controlLoss, ↓core_count, ↓core_raise] | split)
theorem core_bumpSeq (s : State) (src : Nat) : core (bumpSeq s src) = core s := by
  unfold bumpSeq
  repeat' (first | simp only [↓snd_ite, ↓core_mk, ↓core_eta, ↓core_ite, ite_self, implies_true] | split)
theorem core_number (s : State) (x : Sheaf) : core (number s x).2 = core s := by
  unfold number
  repeat' (first | simp only [↓snd_ite, ↓core_mk, ↓core_eta, ↓core_ite, ite_self, implies_true, ↓core_bumpSeq, ↓snd_ite] | split)
theorem core_markUnits (s : State) : core (markUnits s) = core s := by
  unfold markUnits
  repeat' (first | simp only [↓snd_ite, ↓core_mk, ↓core_eta, ↓core_ite, ite_self, implies_true, ↓core_foldl, ↓core_count, ↓core_mapUnits] | split | with_reducible refine (core_forNat _ _ _ fun k x => ?_).trans ?_ | with_reducible refine (core_foldl _ _ _ fun x a => ?_).trans ?_)
theorem core_chaffUnits (s : State) (p : GUnit → Bool) : core (chaffUnits s p) = core s := by
  unfold chaffUnits
  repeat' (first | simp only [↓snd_ite, ↓core_mk, ↓core_eta, ↓core_ite, ite_self, implies_true, ↓core_foldl, ↓core_count, ↓core_keepUnits] | split | with_reducible refine (core_forNat _ _ _ fun k x => ?_).trans ?_ | with_reducible refine (core_foldl _ _ _ fun x a => ?_).trans ?_)
theorem core_expireUnits (s : State) : core (expireUnits s) = core s := by
  unfold expireUnits
  repeat' (first | simp only [↓snd_ite, ↓core_mk, ↓core_eta, ↓core_ite, ite_self, implies_true, ↓core_chaffUnits, ↓core_markUnits] | split)
theorem core_sweepBroadcast (s : State) : core (sweepBroadcast s) = core s := by
  unfold sweepBroadcast
  repeat' (first | simp only [↓snd_ite, ↓core_mk, ↓core_eta, ↓core_ite, ite_self, implies_true, ↓core_keepUnits] | split)
theorem core_placeUnit (s : State) (u : GUnit) (slots : List Nat) : core (placeUnit s u slots) = core s := by
  unfold placeUnit
  repeat' (first | simp only [↓snd_ite, ↓core_mk, ↓core_eta, ↓core_ite, ite_self, implies_true, ↓core_powerBanks, ↓core_sweepBroadcast, ↓core_touchBanks, ↓core_useGranary] | split)
theorem core_loseUnits (s : State) (gone : List GUnit) : core (loseUnits s gone) = core s := by
  unfold loseUnits
  repeat' (first | simp only [↓snd_ite, ↓core_mk, ↓core_eta, ↓core_ite, ite_self, implies_true, ↓core_foldl, ↓core_keepUnits, ↓core_lost] | split | with_reducible refine (core_forNat _ _ _ fun k x => ?_).trans ?_ | with_reducible refine (core_foldl _ _ _ fun x a => ?_).trans ?_)
theorem core_bumpArrival (s : State) : core (bumpArrival s) = core s := by
  unfold bumpArrival
  repeat' (first | simp only [↓snd_ite, ↓core_mk, ↓core_eta, ↓core_ite, ite_self, implies_true] | split)
theorem core_extendOpen (s : State) (c : Nat) (h : Beat) (t : State) (e : extendOpen s c h = some t) : core t = core s := by
  unfold extendOpen at e
  dsimp only at e
  split at e
  · cases e; rfl
  · cases e; rfl
  · cases e
theorem core_markerTransfer (s : State) : core (markerTransfer s) = core s := by
  unfold markerTransfer
  repeat' (first | simp only [↓snd_ite, ↓core_mk, ↓core_eta, ↓core_ite, ite_self, implies_true] | split)
theorem core_evict (s : State) (v u : GUnit) : core (evict s v u).1 = core s := by
  have h0 : core (count (loseUnits s [v]) A_GR_EVICT 0 31 0 1) = core s := by simp only [↓snd_ite, ↓core_mk, ↓core_eta, ↓core_ite, ite_self, implies_true, ↓core_bumpArrival, ↓core_count, ↓core_extendOpen, ↓core_loseUnits, ↓core_markerTransfer, ↓core_number, ↓core_placeUnit, ↓core_raise]
  unfold evict
  dsimp only
  rw [core_raise]
  split
  · exact h0
  split
  · exact h0
  split
  · rename_i e
    exact (core_extendOpen _ _ _ _ e).trans h0
  · simp only [↓snd_ite, ↓core_mk, ↓core_eta, ↓core_ite, ite_self, implies_true, ↓core_bumpArrival, ↓core_count, ↓core_extendOpen, ↓core_loseUnits, ↓core_markerTransfer, ↓core_number, ↓core_placeUnit, ↓core_raise]
theorem core_placeP0 (n : Nat) (s : State) (u : GUnit) : core (placeP0 n s u).1 = core s := by
  induction n generalizing s u with
  | zero => rfl
  | succ n ih =>
    unfold placeP0
    dsimp only
    split
    · simp only [↓snd_ite, ↓core_mk, ↓core_eta, ↓core_ite, ite_self, implies_true, ↓core_evict, ↓core_loseUnits, ↓core_placeUnit]
    split
    · simp only [↓snd_ite, ↓core_mk, ↓core_eta, ↓core_ite, ite_self, implies_true, ↓core_evict, ↓core_loseUnits, ↓core_placeUnit]
    split
    · exact (ih _ _).trans (core_evict ..)
    · rfl
theorem core_flushHold (n : Nat) (s : State) : core (flushHold n s) = core s := by
  induction n generalizing s with
  | zero => rfl
  | succ n ih =>
    unfold flushHold
    split
    · rfl
    split
    · rfl
    split
    · rename_i u rest _ _ _ t e
      have h := core_placeP0 (evictFuel s) { s with gran := { s.gran with hold := rest } } { u with ready := s.tb.up + 1 }
      rw [e] at h
      rw [ih]
      split
      · exact (core_levelEnd ..).trans h
      · exact h
    · rename_i u rest _ _ _ t v e
      have h := core_placeP0 (evictFuel s) { s with gran := { s.gran with hold := rest } } { u with ready := s.tb.up + 1 }
      rw [e] at h
      exact h
theorem core_writeP0 (s : State) (x : Numbered) : core (writeP0 s x) = core s := by
  have h := core_placeP0 (evictFuel s) (bumpArrival s) (unitOf s x (s.tb.up + 1))
  unfold writeP0
  split
  · rename_i t e
    rw [e] at h
    exact h
  · rename_i t u e
    rw [e] at h
    exact (core_levelBegin ..).trans h
theorem core_recordDrop (s : State) (x : Numbered) : core (recordDrop s x) = core s := by
  have h0 : core (markerTransfer (lost s x.sheaf.src 1)) = core s := by simp only [↓snd_ite, ↓core_mk, ↓core_eta, ↓core_ite, ite_self, implies_true, ↓core_extendOpen, ↓core_lost, ↓core_markerTransfer, ↓core_number, ↓core_writeP0]
  unfold recordDrop
  dsimp only
  split
  · simp only [↓snd_ite, ↓core_mk, ↓core_eta, ↓core_ite, ite_self, implies_true, ↓core_extendOpen, ↓core_lost, ↓core_markerTransfer, ↓core_number, ↓core_writeP0]
  split
  · exact (core_extendOpen _ _ _ _ ‹_›).trans h0
  · exact (core_writeP0 ..).trans h0
theorem getD_ite {α : Type} (c : Prop) [Decidable c] (a b : Option α) (d : α) :
    (if c then a else b).getD d = if c then a.getD d else b.getD d := by split <;> rfl
theorem core_resolveWrite (s : State) (x : Numbered) (ready : Nat) (t : State) (h : resolveWrite s x ready = some t) :
    core t = core s := by
  have g : core ((resolveWrite s x ready).getD s) = core s := by
    simp only [resolveWrite, ↓snd_ite, ↓core_mk, ↓core_eta, ↓core_ite, ite_self, implies_true, ↓core_bumpArrival, ↓core_count, ↓core_flushHold, ↓core_loseUnits, ↓core_lost, ↓core_placeUnit, ↓core_powerBanks, ↓core_recordDrop, ↓core_writeP0, ↓getD_ite, Option.getD_some, Option.getD_none] <;>
      repeat' (first | split | simp only [↓snd_ite, ↓core_mk, ↓core_eta, ↓core_ite, ite_self, implies_true, ↓core_bumpArrival, ↓core_count, ↓core_flushHold, ↓core_loseUnits, ↓core_lost, ↓core_placeUnit, ↓core_powerBanks, ↓core_recordDrop, ↓core_writeP0, ↓getD_ite, Option.getD_some, Option.getD_none])
  rwa [h] at g
theorem core_takeUnit (s : State) (u arr : Nat) : core (takeUnit s u arr) = core s := by
  unfold takeUnit
  repeat' (first | simp only [↓snd_ite, ↓core_mk, ↓core_eta, ↓core_ite, ite_self, implies_true, ↓core_mapUnits, ↓core_touchBanks, ↓core_useGranary] | split)
theorem core_discardPoisoned (s : State) (x : GUnit) : core (discardPoisoned s x) = core s := by
  unfold discardPoisoned
  repeat' (first | simp only [↓snd_ite, ↓core_mk, ↓core_eta, ↓core_ite, ite_self, implies_true, ↓core_guardLost, ↓core_keepUnits] | split)
theorem core_dropPoisoned (s : State) : core (dropPoisoned s) = core s := by
  unfold dropPoisoned
  repeat' (first | simp only [↓snd_ite, ↓core_mk, ↓core_eta, ↓core_ite, ite_self, implies_true, ↓core_foldl, ↓core_discardPoisoned] | split | with_reducible refine (core_forNat _ _ _ fun k x => ?_).trans ?_ | with_reducible refine (core_foldl _ _ _ fun x a => ?_).trans ?_)
theorem core_releaseUnit (s : State) (u arr : Nat) : core (releaseUnit s u arr) = core s := by
  unfold releaseUnit
  repeat' (first | simp only [↓snd_ite, ↓core_mk, ↓core_eta, ↓core_ite, ite_self, implies_true, ↓core_discardPoisoned, ↓core_dropPoisoned, ↓core_keepUnits, ↓core_mapUnits, ↓core_sweepBroadcast, ↓core_useGranary] | split)
theorem core_returnUnit (s : State) (u : Nat) (failed : Bool) (arr : Nat) : core (returnUnit s u failed arr) = core s := by
  unfold returnUnit
  repeat' (first | simp only [↓snd_ite, ↓core_mk, ↓core_eta, ↓core_ite, ite_self, implies_true, ↓core_dropPoisoned, ↓core_mapUnits, ↓core_sweepBroadcast] | split)
theorem core_mapHeld (s : State) (f : GUnit → GUnit) : core (mapHeld s f) = core s := by
  unfold mapHeld
  repeat' (first | simp only [↓snd_ite, ↓core_mk, ↓core_eta, ↓core_ite, ite_self, implies_true, ↓core_mapUnits] | split)
theorem core_oweLane (s : State) (u : Nat) : core (oweLane s u) = core s := by
  unfold oweLane
  repeat' (first | simp only [↓snd_ite, ↓core_mk, ↓core_eta, ↓core_ite, ite_self, implies_true, ↓core_mapHeld] | split)
theorem core_disownLane (s : State) (u : Nat) : core (disownLane s u) = core s := by
  unfold disownLane
  repeat' (first | simp only [↓snd_ite, ↓core_mk, ↓core_eta, ↓core_ite, ite_self, implies_true, ↓core_dropPoisoned, ↓core_mapHeld, ↓core_sweepBroadcast] | split)
theorem core_applyReturns (s : State) : core (applyReturns s) = core s := by
  unfold applyReturns
  repeat' (first | simp only [↓snd_ite, ↓core_mk, ↓core_eta, ↓core_ite, ite_self, implies_true, ↓core_foldl, ↓core_disownLane, ↓core_returnUnit] | split | with_reducible refine (core_forNat _ _ _ fun k x => ?_).trans ?_ | with_reducible refine (core_foldl _ _ _ fun x a => ?_).trans ?_)
theorem core_closeGap (s : State) (c : Nat) : core (closeGap s c) = core s := by
  unfold closeGap
  repeat' (first | simp only [↓snd_ite, ↓core_mk, ↓core_eta, ↓core_ite, ite_self, implies_true] | split)
theorem core_countCross (s : State) (pair : Nat) (hi lo : Bool) : core (countCross s pair hi lo) = core s := by
  unfold countCross
  repeat' (first | simp only [↓snd_ite, ↓core_mk, ↓core_eta, ↓core_ite, ite_self, implies_true, ↓core_count] | split)
theorem core_granEdge (s : State) : core (granEdge s) = core s := by
  unfold granEdge
  repeat' (first | simp only [↓snd_ite, ↓core_mk, ↓core_eta, ↓core_ite, ite_self, implies_true] | split)
theorem core_granEnd (s : State) : core (granEnd s) = core s := by
  unfold granEnd
  repeat' (first | simp only [↓snd_ite, ↓core_mk, ↓core_eta, ↓core_ite, ite_self, implies_true, ↓core_countCross] | split)
theorem core_swapStaging (s : State) (st : Nat) : core (swapStaging s st) = core s := by
  unfold swapStaging
  repeat' (first | simp only [↓snd_ite, ↓core_mk, ↓core_eta, ↓core_ite, ite_self, implies_true, ↓core_count, ↓core_setStook, ↓core_useGranary] | split)
theorem core_wholeUnit (s : State) (x : Numbered) : core (wholeUnit s x) = core s := by
  unfold wholeUnit
  repeat' (first | simp only [↓snd_ite, ↓core_mk, ↓core_eta, ↓core_ite, ite_self, implies_true, ↓core_mapUnits] | split)
theorem core_drainLoop (n st : Nat) (s : State) (room : Nat) : core (drainLoop n st s room) = core s := by
  induction n generalizing s room with
  | zero => rfl
  | succ n ih =>
    simp only [drainLoop, ↓snd_ite, ↓core_mk, ↓core_eta, ↓core_ite, ite_self, implies_true, ↓core_resolveWrite, ↓core_setStook, ↓core_wholeUnit, ih] <;> repeat' (first | split | simp only [↓snd_ite, ↓core_mk, ↓core_eta, ↓core_ite, ite_self, implies_true, ↓core_resolveWrite, ↓core_setStook, ↓core_wholeUnit, ih])
    all_goals exact core_resolveWrite _ _ _ _ ‹_›
theorem core_drainStaging (s : State) (st : Nat) (g : Guard) : core (drainStaging s st g) = core s := by
  unfold drainStaging
  repeat' (first | simp only [↓snd_ite, ↓core_mk, ↓core_eta, ↓core_ite, ite_self, implies_true, ↓core_count, ↓core_drainLoop, ↓core_guardLost, ↓core_keepUnits, ↓core_setStook] | split)
theorem core_directWrite (s : State) (pick : List Sheaf → Option Sheaf) : core (directWrite s pick) = core s := by
  simp only [directWrite, ↓snd_ite, ↓core_mk, ↓core_eta, ↓core_ite, ite_self, implies_true, ↓core_bumpSeq, ↓core_resolveWrite] <;> repeat' (first | split | simp only [↓snd_ite, ↓core_mk, ↓core_eta, ↓core_ite, ite_self, implies_true, ↓core_bumpSeq, ↓core_resolveWrite])
  all_goals exact (core_resolveWrite _ _ _ _ ‹_›).trans (core_bumpSeq ..)
theorem core_execStagingSwap (st : StookId) (s : State) : core (after s (execStagingSwap st s)) = core s := by
  unfold execStagingSwap
  repeat' (first | simp only [↓snd_ite, ↓core_mk, ↓core_eta, ↓core_ite, ite_self, implies_true, ↓core_swapStaging, ↓after_next, ↓after_fault, ↓after_refused, ↓after_ite] | split)
theorem core_execBankPowerOff (b : Fin 64) (s : State) : core (after s (execBankPowerOff b s)) = core s := by
  unfold execBankPowerOff
  repeat' (first | simp only [↓snd_ite, ↓core_mk, ↓core_eta, ↓core_ite, ite_self, implies_true, ↓after_next, ↓after_fault, ↓after_refused, ↓after_ite] | split)
theorem core_bankDeckle (s : State) : core (bankDeckle s) = core s := by
  unfold bankDeckle
  repeat' (first | simp only [↓snd_ite, ↓core_mk, ↓core_eta, ↓core_ite, ite_self, implies_true, ↓core_forNat] | split | with_reducible refine (core_forNat _ _ _ fun k x => ?_).trans ?_ | with_reducible refine (core_foldl _ _ _ fun x a => ?_).trans ?_)
theorem core_passEnd (s : State) : core (passEnd s) = core s := by
  unfold passEnd
  repeat' (first | simp only [↓snd_ite, ↓core_mk, ↓core_eta, ↓core_ite, ite_self, implies_true, ↓core_pushSheaf] | split)
theorem core_scrubOne (s : State) (g : Guard) : core (scrubOne s g) = core s := by
  unfold scrubOne
  repeat' (first | simp only [↓snd_ite, ↓core_mk, ↓core_eta, ↓core_ite, ite_self, implies_true, ↓core_count, ↓core_guardLost, ↓core_keepUnits, ↓core_mapUnits, ↓core_passEnd, ↓core_touchBanks, ↓core_useGranary] | split)
theorem core_execScrubSlot (g : Guard) (s : State) : core (after s (execScrubSlot g s)) = core s := by
  unfold execScrubSlot
  repeat' (first | simp only [↓snd_ite, ↓core_mk, ↓core_eta, ↓core_ite, ite_self, implies_true, ↓core_scrubOne, ↓after_next, ↓after_fault, ↓after_refused, ↓after_ite] | split)
theorem core_scrubMany (n : Nat) (gs : List Guard) (s : State) : core (scrubMany n gs s) = core s := by
  induction n generalizing gs s with
  | zero => rfl
  | succ n ih => simp only [scrubMany, ↓snd_ite, ↓core_mk, ↓core_eta, ↓core_ite, ite_self, implies_true, ↓core_scrubOne, ih, ite_self]
theorem core_beginBurst (s : State) : core (beginBurst s) = core s := by
  unfold beginBurst
  repeat' (first | simp only [↓snd_ite, ↓core_mk, ↓core_eta, ↓core_ite, ite_self, implies_true, ↓core_useGranary] | split)
theorem core_execScrubBurst (found : List Guard) (s : State) : core (after s (execScrubBurst found s)) = core s := by
  unfold execScrubBurst
  repeat' (first | simp only [↓snd_ite, ↓core_mk, ↓core_eta, ↓core_ite, ite_self, implies_true, ↓core_beginBurst, ↓core_scrubMany, ↓after_next, ↓after_fault, ↓after_refused, ↓after_ite] | split)
theorem core_execGranaryReport (s : State) : core (after s (execGranaryReport s)) = core s := by
  unfold execGranaryReport
  repeat' (first | simp only [↓snd_ite, ↓core_mk, ↓core_eta, ↓core_ite, ite_self, implies_true, ↓core_foldl, ↓core_noteDone, ↓core_pushSheaf, ↓after_next, ↓after_fault, ↓after_refused, ↓after_ite] | split | with_reducible refine (core_forNat _ _ _ fun k x => ?_).trans ?_ | with_reducible refine (core_foldl _ _ _ fun x a => ?_).trans ?_)
theorem core_commitPointer (s : State) : core (commitPointer s) = core s := by
  unfold commitPointer
  repeat' (first | simp only [↓snd_ite, ↓core_mk, ↓core_eta, ↓core_ite, ite_self, implies_true] | split)
theorem core_granDeckle (s : State) : core (granDeckle s) = core s := by
  unfold granDeckle
  repeat' (first | simp only [↓snd_ite, ↓core_mk, ↓core_eta, ↓core_ite, ite_self, implies_true, ↓core_forNat, ↓core_bankDeckle, ↓core_commitPointer, ↓core_setStook] | split | with_reducible refine (core_forNat _ _ _ fun k x => ?_).trans ?_ | with_reducible refine (core_foldl _ _ _ fun x a => ?_).trans ?_)

/-! ## Winnower -/

theorem core_refillQueue (s : State) (st : Nat) : core (refillQueue s st) = core s := by
  unfold refillQueue
  repeat' (first | simp only [↓snd_ite, ↓core_mk, ↓core_eta, ↓core_ite, ite_self, implies_true, ↓core_setStook] | split)
theorem core_refillQueues (s : State) : core (refillQueues s) = core s := by
  unfold refillQueues
  repeat' (first | simp only [↓snd_ite, ↓core_mk, ↓core_eta, ↓core_ite, ite_self, implies_true, ↓core_foldl, ↓core_refillQueue] | split | with_reducible refine (core_forNat _ _ _ fun k x => ?_).trans ?_ | with_reducible refine (core_foldl _ _ _ fun x a => ?_).trans ?_)
theorem core_outQueue (s : State) (st : Nat) (x : Sheaf) : core (outQueue s st x) = core s := by
  unfold outQueue
  repeat' (first | simp only [↓snd_ite, ↓core_mk, ↓core_eta, ↓core_ite, ite_self, implies_true, ↓core_setStook] | split)
theorem core_outLater (s : State) (st due : Nat) (x : Sheaf) : core (outLater s st due x) = core s := by
  unfold outLater
  repeat' (first | simp only [↓snd_ite, ↓core_mk, ↓core_eta, ↓core_ite, ite_self, implies_true, ↓core_refillQueue, ↓core_setStook] | split)
theorem core_wakeEnds (s : State) (st : Nat) : core (wakeEnds s st) = core s := by
  unfold wakeEnds
  repeat' (first | simp only [↓snd_ite, ↓core_mk, ↓core_eta, ↓core_ite, ite_self, implies_true, ↓core_countMax, ↓core_setStook] | split)
theorem core_popLatch (s : State) (c : Nat) : core (popLatch s c) = core s := by
  unfold popLatch
  repeat' (first | simp only [↓snd_ite, ↓core_mk, ↓core_eta, ↓core_ite, ite_self, implies_true, ↓core_setChan, ↓core_tryAna, ↓core_wakeEnds] | split)
theorem core_processEntry (s : State) (c : Nat) (e : Entry) : core (processEntry s c e) = core s := by
  unfold processEntry
  repeat' (first | simp only [↓snd_ite, ↓core_mk, ↓core_eta, ↓core_ite, ite_self, implies_true, ↓core_count, ↓core_outQueue, ↓core_popLatch, ↓core_setChan] | split)
theorem core_execWinnowerReadEntry (c : Chan) (g : Guard) (s : State) : core (after s (execWinnowerReadEntry c g s)) = core s := by
  unfold execWinnowerReadEntry
  repeat' (first | simp only [↓snd_ite, ↓core_mk, ↓core_eta, ↓core_ite, ite_self, implies_true, ↓core_count, ↓core_noteDone, ↓core_popLatch, ↓core_processEntry, ↓core_raise, ↓core_setChan, ↓after_next, ↓after_fault, ↓after_refused, ↓after_ite] | split)
theorem core_execSheafToStaging (st : StookId) (s : State) : core (after s (execSheafToStaging st s)) = core s := by
  unfold execSheafToStaging
  repeat' (first | simp only [↓snd_ite, ↓core_mk, ↓core_eta, ↓core_ite, ite_self, implies_true, ↓core_number, ↓core_refillQueue, ↓core_setStook, ↓after_next, ↓after_fault, ↓after_refused, ↓after_ite] | split)
theorem core_execTallyReport (c : Chan) (s : State) : core (after s (execTallyReport c s)) = core s := by
  unfold execTallyReport
  repeat' (first | simp only [↓snd_ite, ↓core_mk, ↓core_eta, ↓core_ite, ite_self, implies_true, ↓core_noteDone, ↓core_outLater, ↓core_setChan, ↓core_wakeStook, ↓after_next, ↓after_fault, ↓after_refused, ↓after_ite] | split)
theorem core_blindMarker (s : State) (c : Nat) (first : Beat) (reason : Nat) : core (blindMarker s c first reason) = core s := by
  unfold blindMarker
  repeat' (first | simp only [↓snd_ite, ↓core_mk, ↓core_eta, ↓core_ite, ite_self, implies_true, ↓core_outLater, ↓core_setStook, ↓core_wakeStook] | split)

end Sys2Proof.Laws
end

