-- ==== Sys2Proof/Laws/CoreLinks.lean ====
section
/-!
SUPPORT. What the operations leave as it was: the queue, the TAP's instruction, the Seed Store banks and the working registers
(`core`), or all but the registers (its first part): the Granary writers, the time base, the trigger port, the links and the monitor path.
-/
open Sys2Proof Sys2Proof.Machine
namespace Sys2Proof.Laws
set_option linter.all false

/-! ## Links -/

theorem core_enterLane (s : State) (u : Nat) (st : LState) (x : Uplane) : core (enterLane s u st x) = core s := by
  unfold enterLane
  repeat' (first | simp only [↓snd_ite, ↓core_mk, ↓core_eta, ↓core_ite, ite_self, implies_true, ↓core_pushSheaf, ↓core_setLane] | split)
theorem core_emptyQuires (s : State) (u : Nat) : core (emptyQuires s u) = core s := by
  unfold emptyQuires
  repeat' (first | simp only [↓snd_ite, ↓core_mk, ↓core_eta, ↓core_ite, ite_self, implies_true, ↓core_count, ↓core_setLane] | split)
theorem core_returnUnits (s : State) (u : Nat) : core (returnUnits s u) = core s := by
  unfold returnUnits
  repeat' (first | simp only [↓snd_ite, ↓core_mk, ↓core_eta, ↓core_ite, ite_self, implies_true, ↓core_foldl, ↓core_emptyQuires, ↓core_returnUnit] | split | with_reducible refine (core_forNat _ _ _ fun k x => ?_).trans ?_ | with_reducible refine (core_foldl _ _ _ fun x a => ?_).trans ?_)
theorem core_returnLater (s : State) (u : Nat) : core (returnLater s u) = core s := by
  unfold returnLater
  repeat' (first | simp only [↓snd_ite, ↓core_mk, ↓core_eta, ↓core_ite, ite_self, implies_true, ↓core_emptyQuires] | split)
theorem core_failLane (s : State) (u ctx : Nat) : core (failLane s u ctx) = core s := by
  unfold failLane
  repeat' (first | simp only [↓snd_ite, ↓core_mk, ↓core_eta, ↓core_ite, ite_self, implies_true, ↓core_count, ↓core_enterLane, ↓core_raise, ↓core_returnLater] | split)
theorem core_negotiate (s : State) (u : Nat) : core (negotiate s u) = core s := by
  unfold negotiate
  repeat' (first | simp only [↓snd_ite, ↓core_mk, ↓core_eta, ↓core_ite, ite_self, implies_true, ↓core_enterLane, ↓core_levelEnd] | split)
theorem core_startTraining (s : State) (u gen : Nat) (mark : Bool) : core (startTraining s u gen mark) = core s := by
  unfold startTraining
  repeat' (first | simp only [↓snd_ite, ↓core_mk, ↓core_eta, ↓core_ite, ite_self, implies_true, ↓core_enterLane, ↓core_setLane] | split)
theorem core_startDraining (s : State) (u : Nat) (d : Drain) : core (startDraining s u d) = core s := by
  unfold startDraining
  repeat' (first | simp only [↓snd_ite, ↓core_mk, ↓core_eta, ↓core_ite, ite_self, implies_true, ↓core_enterLane] | split)
theorem core_activate (s : State) (u : Nat) : core (activate s u) = core s := by
  unfold activate
  repeat' (first | simp only [↓snd_ite, ↓core_mk, ↓core_eta, ↓core_ite, ite_self, implies_true, ↓core_enterLane, ↓core_oweLane] | split)
theorem core_fenceLane (s : State) (u : Nat) : core (fenceLane s u) = core s := by
  unfold fenceLane
  repeat' (first | simp only [↓snd_ite, ↓core_mk, ↓core_eta, ↓core_ite, ite_self, implies_true, ↓core_enterLane, ↓core_returnLater] | split)
theorem core_chooseVariant (s : State) : core (chooseVariant s) = core s := by
  unfold chooseVariant
  repeat' (first | simp only [↓snd_ite, ↓core_mk, ↓core_eta, ↓core_ite, ite_self, implies_true, ↓core_pushSheaf] | split)
theorem core_variantAtBoundary (s : State) : core (variantAtBoundary s) = core s := by
  unfold variantAtBoundary
  repeat' (first | simp only [↓snd_ite, ↓core_mk, ↓core_eta, ↓core_ite, ite_self, implies_true, ↓core_chooseVariant] | split)
theorem core_dlDiscard (s : State) (d : Nat) : core (dlDiscard s d) = core s := by
  unfold dlDiscard
  repeat' (first | simp only [↓snd_ite, ↓core_mk, ↓core_eta, ↓core_ite, ite_self, implies_true, ↓core_count] | split)
theorem core_execDownlaneLock (d : DlId) (s : State) : core (after s (execDownlaneLock d s)) = core s := by
  unfold execDownlaneLock
  repeat' (first | simp only [↓snd_ite, ↓core_mk, ↓core_eta, ↓core_ite, ite_self, implies_true, ↓core_atPads, ↓core_levelEnd, ↓core_lost, ↓core_setDlane, ↓after_next, ↓after_fault, ↓after_refused, ↓after_ite] | split)
theorem core_loseDownlane (s : State) (d : Nat) : core (loseDownlane s d) = core s := by
  unfold loseDownlane
  repeat' (first | simp only [↓snd_ite, ↓core_mk, ↓core_eta, ↓core_ite, ite_self, implies_true, ↓core_count, ↓core_levelBegin, ↓core_lost, ↓core_setDlane] | split)
theorem core_execDownlaneLockLoss (d : DlId) (s : State) : core (after s (execDownlaneLockLoss d s)) = core s := by
  unfold execDownlaneLockLoss
  repeat' (first | simp only [↓snd_ite, ↓core_mk, ↓core_eta, ↓core_ite, ite_self, implies_true, ↓core_atPads, ↓core_loseDownlane, ↓after_next, ↓after_fault, ↓after_refused, ↓after_ite] | split)
theorem core_takeAnnounce (s : State) (u v : Nat) : core (takeAnnounce s u v) = core s := by
  unfold takeAnnounce
  repeat' (first | simp only [↓snd_ite, ↓core_mk, ↓core_eta, ↓core_ite, ite_self, implies_true, ↓core_count, ↓core_levelBegin, ↓core_levelEnd, ↓core_setLane, ↓core_startTraining] | split)
theorem core_execAggAnnounceFrame (d : DlId) (bytes : List Byte) (s : State) : core (after s (execAggAnnounceFrame d bytes s)) = core s := by
  unfold execAggAnnounceFrame
  repeat' (first | simp only [↓snd_ite, ↓core_mk, ↓core_eta, ↓core_ite, ite_self, implies_true, ↓core_atPads, ↓core_dlDiscard, ↓core_takeAnnounce, ↓after_next, ↓after_fault, ↓after_refused, ↓after_ite] | split)
theorem core_execNegotiationTimeout (u : Lane) (s : State) : core (after s (execNegotiationTimeout u s)) = core s := by
  unfold execNegotiationTimeout
  repeat' (first | simp only [↓snd_ite, ↓core_mk, ↓core_eta, ↓core_ite, ite_self, implies_true, ↓core_failLane, ↓after_next, ↓after_fault, ↓after_refused, ↓after_ite] | split)
theorem core_execTrainingEnd (u : Lane) (s : State) : core (after s (execTrainingEnd u s)) = core s := by
  unfold execTrainingEnd
  repeat' (first | simp only [↓snd_ite, ↓core_mk, ↓core_eta, ↓core_ite, ite_self, implies_true, ↓core_setLane, ↓after_next, ↓after_fault, ↓after_refused, ↓after_ite] | split)
theorem core_execLaneActivate (u : Lane) (s : State) : core (after s (execLaneActivate u s)) = core s := by
  unfold execLaneActivate
  repeat' (first | simp only [↓snd_ite, ↓core_mk, ↓core_eta, ↓core_ite, ite_self, implies_true, ↓core_activate, ↓core_variantAtBoundary, ↓after_next, ↓after_fault, ↓after_refused, ↓after_ite] | split)
theorem core_execTrainingConfirmTimeout (u : Lane) (s : State) : core (after s (execTrainingConfirmTimeout u s)) = core s := by
  unfold execTrainingConfirmTimeout
  repeat' (first | simp only [↓snd_ite, ↓core_mk, ↓core_eta, ↓core_ite, ite_self, implies_true, ↓core_failLane, ↓after_next, ↓after_fault, ↓after_refused, ↓after_ite] | split)
theorem core_execCreditTimeout (u : Lane) (s : State) : core (after s (execCreditTimeout u s)) = core s := by
  unfold execCreditTimeout
  repeat' (first | simp only [↓snd_ite, ↓core_mk, ↓core_eta, ↓core_ite, ite_self, implies_true, ↓core_failLane, ↓core_variantAtBoundary, ↓after_next, ↓after_fault, ↓after_refused, ↓after_ite] | split)
theorem core_execLaneTransmitterFault (u : Lane) (s : State) : core (after s (execLaneTransmitterFault u s)) = core s := by
  unfold execLaneTransmitterFault
  repeat' (first | simp only [↓snd_ite, ↓core_mk, ↓core_eta, ↓core_ite, ite_self, implies_true, ↓core_failLane, ↓after_next, ↓after_fault, ↓after_refused, ↓after_ite] | split)
theorem core_execLaneFailedRetry (u : Lane) (s : State) : core (after s (execLaneFailedRetry u s)) = core s := by
  unfold execLaneFailedRetry
  repeat' (first | simp only [↓snd_ite, ↓core_mk, ↓core_eta, ↓core_ite, ite_self, implies_true, ↓core_negotiate, ↓after_next, ↓after_fault, ↓after_refused, ↓after_ite] | split)
theorem core_closeQuire (s : State) (u : Nat) : core (closeQuire s u) = core s := by
  unfold closeQuire
  repeat' (first | simp only [↓snd_ite, ↓core_mk, ↓core_eta, ↓core_ite, ite_self, implies_true, ↓core_setLane] | split)
theorem core_discardRead (s : State) (u : Nat) (x : GUnit) (builder unknown : Bool) : core (discardRead s u x builder unknown) = core s := by
  unfold discardRead
  repeat' (first | simp only [↓snd_ite, ↓core_mk, ↓core_eta, ↓core_ite, ite_self, implies_true, ↓core_guardLost, ↓core_keepUnits, ↓core_mapUnits] | split)
theorem core_mergeLoop (n u scope room moved : Nat) (g : Guard) (builder : Bool) (s : State) :
    core (mergeLoop n u scope room moved g builder s).2 = core s := by
  induction n generalizing room moved g builder s with
  | zero => rfl
  | succ n ih => simp only [mergeLoop, ↓snd_ite, ↓core_mk, ↓core_eta, ↓core_ite, ite_self, implies_true, ↓core_closeQuire, ↓core_count, ↓core_discardRead, ↓core_setLane, ↓core_takeUnit, ih] <;> repeat' (first | split | simp only [↓snd_ite, ↓core_mk, ↓core_eta, ↓core_ite, ite_self, implies_true, ↓core_closeQuire, ↓core_count, ↓core_discardRead, ↓core_setLane, ↓core_takeUnit, ih])
theorem core_mergeEntry (s : State) (u scope : Nat) (g : Guard) (builder : Bool) : core (mergeEntry s u scope g builder) = core s := by
  unfold mergeEntry
  repeat' (first | simp only [↓snd_ite, ↓core_mk, ↓core_eta, ↓core_ite, ite_self, implies_true, ↓core_count, ↓core_mergeLoop] | split)
theorem core_execMergeScheduleEntry (k : BitVec 12) (found : Guard) (builder : Bool) (s : State) : core (after s (execMergeScheduleEntry k found builder s)) = core s := by
  unfold execMergeScheduleEntry
  repeat' (first | simp only [↓snd_ite, ↓core_mk, ↓core_eta, ↓core_ite, ite_self, implies_true, ↓core_mergeEntry, ↓core_noteDone, ↓after_next, ↓after_fault, ↓after_refused, ↓after_ite] | split)
theorem core_drainRequests (s : State) : core (drainRequests s) = core s := by
  unfold drainRequests
  repeat' (first | simp only [↓snd_ite, ↓core_mk, ↓core_eta, ↓core_ite, ite_self, implies_true, ↓core_forNat, ↓core_mergeLoop] | split | with_reducible refine (core_forNat _ _ _ fun k x => ?_).trans ?_ | with_reducible refine (core_foldl _ _ _ fun x a => ?_).trans ?_)
theorem core_settleRequests (s : State) : core (settleRequests s) = core s := by
  unfold settleRequests
  repeat' (first | simp only [↓snd_ite, ↓core_mk, ↓core_eta, ↓core_ite, ite_self, implies_true, ↓core_drainRequests] | split)
theorem core_execQuireClose (u : Lane) (s : State) : core (after s (execQuireClose u s)) = core s := by
  unfold execQuireClose
  repeat' (first | simp only [↓snd_ite, ↓core_mk, ↓core_eta, ↓core_ite, ite_self, implies_true, ↓core_closeQuire, ↓core_setLane, ↓core_settleRequests, ↓after_next, ↓after_fault, ↓after_refused, ↓after_ite] | split)
theorem core_execReplyFrameSend (u : Lane) (s : State) : core (after s (execReplyFrameSend u s)) = core s := by
  unfold execReplyFrameSend
  repeat' (first | simp only [↓snd_ite, ↓core_mk, ↓core_eta, ↓core_ite, ite_self, implies_true, ↓core_count, ↓core_setLane, ↓after_next, ↓after_fault, ↓after_refused, ↓after_ite] | split)
theorem core_execQuireSend (u : Lane) (s : State) : core (after s (execQuireSend u s)) = core s := by
  unfold execQuireSend
  repeat' (first | simp only [↓snd_ite, ↓core_mk, ↓core_eta, ↓core_ite, ite_self, implies_true, ↓core_count, ↓core_mapUnits, ↓core_setLane, ↓after_next, ↓after_fault, ↓after_refused, ↓after_ite] | split)
theorem core_rewindLane (s : State) (u : Nat) (c : BitVec 32) (rwg : BitVec 2) (prev : Option (BitVec 2)) : core (rewindLane s u c rwg prev) = core s := by
  unfold rewindLane
  repeat' (first | simp only [↓snd_ite, ↓core_mk, ↓core_eta, ↓core_ite, ite_self, implies_true, ↓core_returnUnits, ↓core_setLane] | split)
theorem core_creditTo (s : State) (u : Nat) (c : BitVec 32) : core (creditTo s u c) = core s := by
  unfold creditTo
  repeat' (first | simp only [↓snd_ite, ↓core_mk, ↓core_eta, ↓core_ite, ite_self, implies_true, ↓core_foldl, ↓core_releaseUnit, ↓core_setLane] | split | with_reducible refine (core_forNat _ _ _ fun k x => ?_).trans ?_ | with_reducible refine (core_foldl _ _ _ fun x a => ?_).trans ?_)
theorem core_ignoreCredit (s : State) (u : Nat) : core (ignoreCredit s u) = core s := by
  unfold ignoreCredit
  repeat' (first | simp only [↓snd_ite, ↓core_mk, ↓core_eta, ↓core_ite, ite_self, implies_true, ↓core_count] | split)
theorem core_creditLane (s : State) (u v : Nat) : core (creditLane s u v) = core s := by
  unfold creditLane
  repeat' (first | simp only [↓snd_ite, ↓core_mk, ↓core_eta, ↓core_ite, ite_self, implies_true, ↓core_count, ↓core_creditTo, ↓core_ignoreCredit, ↓core_rewindLane, ↓core_setLane] | split)
theorem core_takeCredit (s : State) (v : Nat) : core (takeCredit s v) = core s := by
  unfold takeCredit
  repeat' (first | simp only [↓snd_ite, ↓core_mk, ↓core_eta, ↓core_ite, ite_self, implies_true, ↓core_creditLane, ↓core_failLane, ↓core_setLane, ↓core_wakeGranary] | split)
theorem core_execCreditFrame (d : DlId) (bytes : List Byte) (s : State) : core (after s (execCreditFrame d bytes s)) = core s := by
  unfold execCreditFrame
  repeat' (first | simp only [↓snd_ite, ↓core_mk, ↓core_eta, ↓core_ite, ite_self, implies_true, ↓core_atPads, ↓core_dlDiscard, ↓core_takeCredit, ↓after_next, ↓after_fault, ↓after_refused, ↓after_ite] | split)
theorem core_sleepLanes (s : State) : core (sleepLanes s) = core s := by
  unfold sleepLanes
  repeat' (first | simp only [↓snd_ite, ↓core_mk, ↓core_eta, ↓core_ite, ite_self, implies_true, ↓core_forNat, ↓core_startDraining] | split | with_reducible refine (core_forNat _ _ _ fun k x => ?_).trans ?_ | with_reducible refine (core_foldl _ _ _ fun x a => ?_).trans ?_)
theorem core_execLaneSleepEntry (s : State) : core (after s (execLaneSleepEntry s)) = core s := by
  unfold execLaneSleepEntry
  repeat' (first | simp only [↓snd_ite, ↓core_mk, ↓core_eta, ↓core_ite, ite_self, implies_true, ↓core_sleepLanes, ↓core_variantAtBoundary, ↓after_next, ↓after_fault, ↓after_refused, ↓after_ite] | split)
theorem core_wakeLanes (s : State) : core (wakeLanes s) = core s := by
  unfold wakeLanes
  repeat' (first | simp only [↓snd_ite, ↓core_mk, ↓core_eta, ↓core_ite, ite_self, implies_true, ↓core_forNat, ↓core_startDraining, ↓core_startTraining] | split | with_reducible refine (core_forNat _ _ _ fun k x => ?_).trans ?_ | with_reducible refine (core_foldl _ _ _ fun x a => ?_).trans ?_)
theorem core_execDrainComplete (u : Lane) (s : State) : core (after s (execDrainComplete u s)) = core s := by
  unfold execDrainComplete
  repeat' (first | simp only [↓snd_ite, ↓core_mk, ↓core_eta, ↓core_ite, ite_self, implies_true, ↓core_enterLane, ↓core_negotiate, ↓core_startTraining, ↓after_next, ↓after_fault, ↓after_refused, ↓after_ite] | split)
theorem core_lanesAllOn (s : State) (recovery : Bool) : core (lanesAllOn s recovery) = core s := by
  unfold lanesAllOn
  repeat' (first | simp only [↓snd_ite, ↓core_mk, ↓core_eta, ↓core_ite, ite_self, implies_true, ↓core_forNat, ↓core_activate, ↓core_startTraining, ↓core_variantAtBoundary] | split | with_reducible refine (core_forNat _ _ _ fun k x => ?_).trans ?_ | with_reducible refine (core_foldl _ _ _ fun x a => ?_).trans ?_)
theorem core_raiseLanes (s : State) : core (raiseLanes s) = core s := by
  unfold raiseLanes
  repeat' (first | simp only [↓snd_ite, ↓core_mk, ↓core_eta, ↓core_ite, ite_self, implies_true, ↓core_forNat, ↓core_startDraining] | split | with_reducible refine (core_forNat _ _ _ fun k x => ?_).trans ?_ | with_reducible refine (core_foldl _ _ _ fun x a => ?_).trans ?_)
theorem core_replanLane (s : State) (u : Nat) : core (replanLane s u) = core s := by
  unfold replanLane
  repeat' (first | simp only [↓snd_ite, ↓core_mk, ↓core_eta, ↓core_ite, ite_self, implies_true, ↓core_negotiate, ↓core_setLane, ↓core_startDraining] | split)
theorem core_lanesDeckle (s : State) : core (lanesDeckle s) = core s := by
  unfold lanesDeckle
  repeat' (first | simp only [↓snd_ite, ↓core_mk, ↓core_eta, ↓core_ite, ite_self, implies_true, ↓core_forNat, ↓core_raiseLanes, ↓core_setLane, ↓core_variantAtBoundary, ↓core_wakeLanes] | split | with_reducible refine (core_forNat _ _ _ fun k x => ?_).trans ?_ | with_reducible refine (core_foldl _ _ _ fun x a => ?_).trans ?_)
theorem core_ownerRewind (s : State) : core (ownerRewind s) = core s := by
  unfold ownerRewind
  repeat' (first | simp only [↓snd_ite, ↓core_mk, ↓core_eta, ↓core_ite, ite_self, implies_true, ↓core_forNat, ↓core_count, ↓core_rewindLane] | split | with_reducible refine (core_forNat _ _ _ fun k x => ?_).trans ?_ | with_reducible refine (core_foldl _ _ _ fun x a => ?_).trans ?_)
theorem core_renegotiateAll (s : State) : core (renegotiateAll s) = core s := by
  unfold renegotiateAll
  repeat' (first | simp only [↓snd_ite, ↓core_mk, ↓core_eta, ↓core_ite, ite_self, implies_true, ↓core_forNat, ↓core_negotiate, ↓core_returnUnits] | split | with_reducible refine (core_forNat _ _ _ fun k x => ?_).trans ?_ | with_reducible refine (core_foldl _ _ _ fun x a => ?_).trans ?_)
theorem core_pauseCredit (s : State) (n : Nat) : core (pauseCredit s n) = core s := by
  unfold pauseCredit
  repeat' (first | simp only [↓snd_ite, ↓core_mk, ↓core_eta, ↓core_ite, ite_self, implies_true, ↓core_forNat, ↓core_setLane] | split | with_reducible refine (core_forNat _ _ _ fun k x => ?_).trans ?_ | with_reducible refine (core_foldl _ _ _ fun x a => ?_).trans ?_)
theorem core_pauseTraining (s : State) (n : Nat) : core (pauseTraining s n) = core s := by
  unfold pauseTraining
  repeat' (first | simp only [↓snd_ite, ↓core_mk, ↓core_eta, ↓core_ite, ite_self, implies_true, ↓core_forNat, ↓core_setLane] | split | with_reducible refine (core_forNat _ _ _ fun k x => ?_).trans ?_ | with_reducible refine (core_foldl _ _ _ fun x a => ?_).trans ?_)
theorem core_execLinkReport (s : State) : core (after s (execLinkReport s)) = core s := by
  unfold execLinkReport
  repeat' (first | simp only [↓snd_ite, ↓core_mk, ↓core_eta, ↓core_ite, ite_self, implies_true, ↓core_forNat, ↓core_noteDone, ↓core_pushSheaf, ↓core_setLane, ↓after_next, ↓after_fault, ↓after_refused, ↓after_ite] | split | with_reducible refine (core_forNat _ _ _ fun k x => ?_).trans ?_ | with_reducible refine (core_foldl _ _ _ fun x a => ?_).trans ?_)

/-! ## Writes -/

theorem core_writeRow (s : State) (f : State → State) (h_f : ∀ y0, core (f y0) = core y0) : core (after s (writeRow s f)) = core s := by
  unfold writeRow
  repeat' (first | simp only [↓snd_ite, ↓core_mk, ↓core_eta, ↓core_ite, ite_self, implies_true, ↓core_settleRequests, h_f, ↓after_next, ↓after_fault, ↓after_refused, ↓after_ite] | split)
theorem core_execGranaryWrite (s : State) : core (after s (execGranaryWrite s)) = core s := by
  unfold execGranaryWrite
  repeat' (first | simp only [↓snd_ite, ↓core_mk, ↓core_eta, ↓core_ite, ite_self, implies_true, ↓core_directWrite, ↓core_writeRow, ↓after_next, ↓after_fault, ↓after_refused, ↓after_ite] | split | with_reducible refine (core_writeRow _ _ (fun _ => ?_)).trans ?_)
theorem core_execP0HoldWrite (s : State) : core (after s (execP0HoldWrite s)) = core s := by
  unfold execP0HoldWrite
  repeat' (first | simp only [↓snd_ite, ↓core_mk, ↓core_eta, ↓core_ite, ite_self, implies_true, ↓core_flushHold, ↓core_writeRow, ↓after_next, ↓after_fault, ↓after_refused, ↓after_ite] | split | with_reducible refine (core_writeRow _ _ (fun _ => ?_)).trans ?_)
theorem core_execDeferredP0Write (s : State) : core (after s (execDeferredP0Write s)) = core s := by
  unfold execDeferredP0Write
  repeat' (first | simp only [↓snd_ite, ↓core_mk, ↓core_eta, ↓core_ite, ite_self, implies_true, ↓core_directWrite, ↓core_writeRow, ↓after_next, ↓after_fault, ↓after_refused, ↓after_ite] | split | with_reducible refine (core_writeRow _ _ (fun _ => ?_)).trans ?_)
theorem core_execStagingDrain (st : StookId) (g : Guard) (s : State) : core (after s (execStagingDrain st g s)) = core s := by
  unfold execStagingDrain
  repeat' (first | simp only [↓snd_ite, ↓core_mk, ↓core_eta, ↓core_ite, ite_self, implies_true, ↓core_drainStaging, ↓core_writeRow, ↓after_next, ↓after_fault, ↓after_refused, ↓after_ite] | split | with_reducible refine (core_writeRow _ _ (fun _ => ?_)).trans ?_)

/-! ## TimeBase -/

theorem core_settleTime (s : State) : core (settleTime s) = core s := by
  unfold settleTime
  repeat' (first | simp only [↓snd_ite, ↓core_mk, ↓core_eta, ↓core_ite, ite_self, implies_true, ↓core_cancelCouch, ↓core_epochCause] | split)
theorem core_portFaulty (s : State) : core (portFaulty s) = core s := by
  unfold portFaulty
  repeat' (first | simp only [↓snd_ite, ↓core_mk, ↓core_eta, ↓core_ite, ite_self, implies_true, ↓core_levelBegin] | split)
theorem base_refreshTiming (s : State) : (core (refreshTiming s)).1 = (core s).1 := by
  unfold refreshTiming
  repeat' (first | simp only [↓base_eta, ↓base_ite, ↓base_forNat, ↓base_foldl, ↓snd_ite, ↓core_mk, ↓core_eta, ↓core_ite, ite_self, implies_true, ↓core_levelEnd, ↓core_portFaulty, ↓core_settleTime, ↓base_setReg] | split | with_reducible refine (base_forNat _ _ _ fun k x => ?_).trans ?_ | with_reducible refine (base_foldl _ _ _ fun x a => ?_).trans ?_ | with_reducible refine (base_granger _ _ _ _ _ fun _ => ?_).trans ?_)
theorem core_execRefclkLoss (s : State) : core (after s (execRefclkLoss s)) = core s := by
  unfold execRefclkLoss
  repeat' (first | simp only [↓snd_ite, ↓core_mk, ↓core_eta, ↓core_ite, ite_self, implies_true, ↓core_atPads, ↓core_levelBegin, ↓core_settleTime, ↓after_next, ↓after_fault, ↓after_refused, ↓after_ite] | split)
theorem core_execRefclkReturn (s : State) : core (after s (execRefclkReturn s)) = core s := by
  unfold execRefclkReturn
  repeat' (first | simp only [↓snd_ite, ↓core_mk, ↓core_eta, ↓core_ite, ite_self, implies_true, ↓core_atPads, ↓core_levelEnd, ↓core_settleTime, ↓after_next, ↓after_fault, ↓after_refused, ↓after_ite] | split)
theorem core_syncMismatch (s : State) : core (syncMismatch s) = core s := by
  unfold syncMismatch
  repeat' (first | simp only [↓snd_ite, ↓core_mk, ↓core_eta, ↓core_ite, ite_self, implies_true, ↓core_count] | split)
theorem core_queueSync (s : State) (w : Option Beat) : core (queueSync s w) = core s := by
  unfold queueSync
  repeat' (first | simp only [↓snd_ite, ↓core_mk, ↓core_eta, ↓core_ite, ite_self, implies_true] | split)
theorem core_execSyncInPulse (s : State) : core (after s (execSyncInPulse s)) = core s := by
  unfold execSyncInPulse
  repeat' (first | simp only [↓snd_ite, ↓core_mk, ↓core_eta, ↓core_ite, ite_self, implies_true, ↓core_atPads, ↓core_queueSync, ↓after_next, ↓after_fault, ↓after_refused, ↓after_ite] | split)
theorem core_syncByte (s : State) (i : Nat) (b : Byte) : core (syncByte s i b) = core s := by
  unfold syncByte
  repeat' (first | simp only [↓snd_ite, ↓core_mk, ↓core_eta, ↓core_ite, ite_self, implies_true, ↓core_syncMismatch] | split)
theorem core_syncLoad (s : State) (low : Nat) : core (syncLoad s low) = core s := by
  unfold syncLoad
  repeat' (first | simp only [↓snd_ite, ↓core_mk, ↓core_eta, ↓core_ite, ite_self, implies_true, ↓core_queueSync, ↓core_raise, ↓core_syncMismatch] | split)
theorem core_execEpochPeriodic (s : State) : core (after s (execEpochPeriodic s)) = core s := by
  unfold execEpochPeriodic
  repeat' (first | simp only [↓snd_ite, ↓core_mk, ↓core_eta, ↓core_ite, ite_self, implies_true, ↓core_epochCause, ↓after_next, ↓after_fault, ↓after_refused, ↓after_ite] | split)
theorem core_selectMaster (s : State) : core (selectMaster s) = core s := by
  unfold selectMaster
  repeat' (first | simp only [↓snd_ite, ↓core_mk, ↓core_eta, ↓core_ite, ite_self, implies_true, ↓core_settleTime] | split)
theorem core_ptpCount (s : State) (i : Nat) : core (ptpCount s i) = core s := by
  unfold ptpCount
  repeat' (first | simp only [↓snd_ite, ↓core_mk, ↓core_eta, ↓core_ite, ite_self, implies_true, ↓core_count] | split)
theorem core_editForeign (s : State) (id : BitVec 80) (f : Foreign → Foreign) : core (editForeign s id f) = core s := by
  unfold editForeign
  repeat' (first | simp only [↓snd_ite, ↓core_mk, ↓core_eta, ↓core_ite, ite_self, implies_true] | split)
theorem core_loseMaster (s : State) (next : Servo) : core (loseMaster s next) = core s := by
  unfold loseMaster
  repeat' (first | simp only [↓snd_ite, ↓core_mk, ↓core_eta, ↓core_ite, ite_self, implies_true, ↓core_editForeign, ↓core_levelEnd, ↓core_settleTime] | split)
theorem core_settleMaster (s : State) (id : BitVec 80) : core (settleMaster s id) = core s := by
  unfold settleMaster
  repeat' (first | simp only [↓snd_ite, ↓core_mk, ↓core_eta, ↓core_ite, ite_self, implies_true, ↓core_loseMaster, ↓core_selectMaster] | split)
theorem core_execPtpAnnounce (h : PtpHeader) (interval : Int) (ptpTimescale : Bool) (ds : PtpDataset) (s : State) : core (after s (execPtpAnnounce h interval ptpTimescale ds s)) = core s := by
  unfold execPtpAnnounce
  repeat' (first | simp only [↓snd_ite, ↓core_mk, ↓core_eta, ↓core_ite, ite_self, implies_true, ↓core_atPads, ↓core_ptpCount, ↓core_settleMaster, ↓after_next, ↓after_fault, ↓after_refused, ↓after_ite] | split)
theorem core_execPtpDiscardedMessage (wrongDomain : Bool) (s : State) : core (after s (execPtpDiscardedMessage wrongDomain s)) = core s := by
  unfold execPtpDiscardedMessage
  repeat' (first | simp only [↓snd_ite, ↓core_mk, ↓core_eta, ↓core_ite, ite_self, implies_true, ↓core_atPads, ↓core_ptpCount, ↓after_next, ↓after_fault, ↓after_refused, ↓after_ite] | split)
theorem core_servoStep (s : State) (o : Int) : core (servoStep s o) = core s := by
  unfold servoStep
  repeat' (first | simp only [↓snd_ite, ↓core_mk, ↓core_eta, ↓core_ite, ite_self, implies_true] | split)
theorem core_slewOffset (s : State) (o move : Int) : core (slewOffset s o move) = core s := by
  unfold slewOffset
  repeat' (first | simp only [↓snd_ite, ↓core_mk, ↓core_eta, ↓core_ite, ite_self, implies_true, ↓core_levelBegin, ↓core_levelEnd] | split)
theorem core_actOnOffset (s : State) (x move : Int) : core (actOnOffset s x move) = core s := by
  unfold actOnOffset
  repeat' (first | simp only [↓snd_ite, ↓core_mk, ↓core_eta, ↓core_ite, ite_self, implies_true, ↓core_servoStep, ↓core_slewOffset] | split)
theorem core_steerFrequency (s : State) : core (steerFrequency s) = core s := by
  unfold steerFrequency
  repeat' (first | simp only [↓snd_ite, ↓core_mk, ↓core_eta, ↓core_ite, ite_self, implies_true] | split)
theorem core_servoOffset (s : State) (o : Int) : core (servoOffset s o) = core s := by
  unfold servoOffset
  repeat' (first | simp only [↓snd_ite, ↓core_mk, ↓core_eta, ↓core_ite, ite_self, implies_true, ↓core_actOnOffset, ↓core_settleTime, ↓core_steerFrequency] | split)
theorem core_formOffset (s : State) (t1 t2 corr : Int) : core (formOffset s t1 t2 corr) = core s := by
  unfold formOffset
  repeat' (first | simp only [↓snd_ite, ↓core_mk, ↓core_eta, ↓core_ite, ite_self, implies_true, ↓core_servoOffset] | split)
theorem core_execPtpSync (h : PtpHeader) (interval : Int) (t1 : Option Int) (t2 : Int) (s : State) : core (after s (execPtpSync h interval t1 t2 s)) = core s := by
  unfold execPtpSync
  repeat' (first | simp only [↓snd_ite, ↓core_mk, ↓core_eta, ↓core_ite, ite_self, implies_true, ↓core_atPads, ↓core_editForeign, ↓core_formOffset, ↓core_ptpCount, ↓core_settleMaster, ↓after_next, ↓after_fault, ↓after_refused, ↓after_ite] | split)
theorem core_execPtpFollowUp (h : PtpHeader) (t1 : Int) (s : State) : core (after s (execPtpFollowUp h t1 s)) = core s := by
  unfold execPtpFollowUp
  repeat' (first | simp only [↓snd_ite, ↓core_mk, ↓core_eta, ↓core_ite, ite_self, implies_true, ↓core_atPads, ↓core_formOffset, ↓core_ptpCount, ↓after_next, ↓after_fault, ↓after_refused, ↓after_ite] | split)
theorem core_execPtpDelayResp (h : PtpHeader) (requester : BitVec 80) (interval : Int) (t4 : Int) (s : State) : core (after s (execPtpDelayResp h requester interval t4 s)) = core s := by
  unfold execPtpDelayResp
  repeat' (first | simp only [↓snd_ite, ↓core_mk, ↓core_eta, ↓core_ite, ite_self, implies_true, ↓core_atPads, ↓core_ptpCount, ↓after_next, ↓after_fault, ↓after_refused, ↓after_ite] | split)
theorem core_execDelayReqSend (t3 : Int) (s : State) : core (after s (execDelayReqSend t3 s)) = core s := by
  unfold execDelayReqSend
  repeat' (first | simp only [↓snd_ite, ↓core_mk, ↓core_eta, ↓core_ite, ite_self, implies_true, ↓core_atPads, ↓core_ptpCount, ↓after_next, ↓after_fault, ↓after_refused, ↓after_ite] | split)
theorem core_execMasterLoss (s : State) : core (after s (execMasterLoss s)) = core s := by
  unfold execMasterLoss
  repeat' (first | simp only [↓snd_ite, ↓core_mk, ↓core_eta, ↓core_ite, ite_self, implies_true, ↓core_atPads, ↓core_loseMaster, ↓after_next, ↓after_fault, ↓after_refused, ↓after_ite] | split)
theorem core_execHoldoverExpiry (s : State) : core (after s (execHoldoverExpiry s)) = core s := by
  unfold execHoldoverExpiry
  repeat' (first | simp only [↓snd_ite, ↓core_mk, ↓core_eta, ↓core_ite, ite_self, implies_true, ↓core_settleTime, ↓after_next, ↓after_fault, ↓after_refused, ↓after_ite] | split)
theorem core_execTpLinkDown (s : State) : core (after s (execTpLinkDown s)) = core s := by
  unfold execTpLinkDown
  repeat' (first | simp only [↓snd_ite, ↓core_mk, ↓core_eta, ↓core_ite, ite_self, implies_true, ↓core_atPads, ↓core_loseMaster, ↓core_portFaulty, ↓core_settleTime, ↓after_next, ↓after_fault, ↓after_refused, ↓after_ite] | split)
theorem core_execTpLinkUp (s : State) : core (after s (execTpLinkUp s)) = core s := by
  unfold execTpLinkUp
  repeat' (first | simp only [↓snd_ite, ↓core_mk, ↓core_eta, ↓core_ite, ite_self, implies_true, ↓core_atPads, ↓core_levelEnd, ↓core_settleTime, ↓after_next, ↓after_fault, ↓after_refused, ↓after_ite] | split)
theorem core_replicaMeasured (s : State) (st p : Nat) : core (replicaMeasured s st p) = core s := by
  unfold replicaMeasured
  repeat' (first | simp only [↓snd_ite, ↓core_mk, ↓core_eta, ↓core_ite, ite_self, implies_true, ↓core_raise, ↓core_setStook] | split)
theorem core_execReplicaMeasureAsleep (st : StookId) (period : BitVec 32) (s : State) : core (after s (execReplicaMeasureAsleep st period s)) = core s := by
  unfold execReplicaMeasureAsleep
  repeat' (first | simp only [↓snd_ite, ↓core_mk, ↓core_eta, ↓core_ite, ite_self, implies_true, ↓core_replicaMeasured, ↓after_next, ↓after_fault, ↓after_refused, ↓after_ite] | split)
theorem core_slewBeat (s : State) : core (slewBeat s) = core s := by
  unfold slewBeat
  repeat' (first | simp only [↓snd_ite, ↓core_mk, ↓core_eta, ↓core_ite, ite_self, implies_true] | split)
theorem core_timeDeckle (s : State) : core (timeDeckle s) = core s := by
  unfold timeDeckle
  repeat' (first | simp only [↓snd_ite, ↓core_mk, ↓core_eta, ↓core_ite, ite_self, implies_true] | split)

/-! ## Trigger -/

theorem core_countAnswer (s : State) (op cls : Nat) : core (countAnswer s op cls) = core s := by
  unfold countAnswer
  repeat' (first | simp only [↓snd_ite, ↓core_mk, ↓core_eta, ↓core_ite, ite_self, implies_true, ↓core_count] | split)
theorem core_answerWord (s : State) (op cls : Nat) : core (answerWord s op cls) = core s := by
  unfold answerWord
  repeat' (first | simp only [↓snd_ite, ↓core_mk, ↓core_eta, ↓core_ite, ite_self, implies_true, ↓core_countAnswer] | split)
theorem core_settleWord (s : State) : core (settleWord s) = core s := by
  unfold settleWord
  repeat' (first | simp only [↓snd_ite, ↓core_mk, ↓core_eta, ↓core_ite, ite_self, implies_true, ↓core_countAnswer] | split)
theorem core_tgWord (s : State) (op cls : Nat) (k : Nat → State → State) (h_k : ∀ y0 y1, core (k y0 y1) = core y1) : core (after s (tgWord s op cls k)) = core s := by
  unfold tgWord
  repeat' (first | simp only [↓snd_ite, ↓core_mk, ↓core_eta, ↓core_ite, ite_self, implies_true, ↓core_answerWord, ↓core_atPads, h_k, ↓after_next, ↓after_fault, ↓after_refused, ↓after_ite] | split)
theorem core_execTgIdle (cls : BitVec 1) (_operand : BitVec 12) (s : State) : core (after s (execTgIdle cls _operand s)) = core s := by
  unfold execTgIdle
  repeat' (first | simp only [↓snd_ite, ↓core_mk, ↓core_eta, ↓core_ite, ite_self, implies_true, ↓core_tgWord, ↓after_next, ↓after_fault, ↓after_refused, ↓after_ite] | split | with_reducible refine (core_tgWord _ _ _ _ (fun _ _ => ?_)).trans ?_)
theorem core_execTgPing (cls : BitVec 1) (_operand : BitVec 12) (s : State) : core (after s (execTgPing cls _operand s)) = core s := by
  unfold execTgPing
  repeat' (first | simp only [↓snd_ite, ↓core_mk, ↓core_eta, ↓core_ite, ite_self, implies_true, ↓core_tgWord, ↓after_next, ↓after_fault, ↓after_refused, ↓after_ite] | split | with_reducible refine (core_tgWord _ _ _ _ (fun _ _ => ?_)).trans ?_)
theorem core_execTgReservedOpcode (op : Fin 3) (cls : BitVec 1) (_operand : BitVec 12) (s : State) : core (after s (execTgReservedOpcode op cls _operand s)) = core s := by
  unfold execTgReservedOpcode
  repeat' (first | simp only [↓snd_ite, ↓core_mk, ↓core_eta, ↓core_ite, ite_self, implies_true, ↓core_tgWord, ↓after_next, ↓after_fault, ↓after_refused, ↓after_ite] | split | with_reducible refine (core_tgWord _ _ _ _ (fun _ _ => ?_)).trans ?_)
theorem core_execTgSyncByteWord (cls : BitVec 1) (index : BitVec 3) (byte : Byte) (s : State) : core (after s (execTgSyncByteWord cls index byte s)) = core s := by
  unfold execTgSyncByteWord
  repeat' (first | simp only [↓snd_ite, ↓core_mk, ↓core_eta, ↓core_ite, ite_self, implies_true, ↓core_syncByte, ↓core_tgWord, ↓after_next, ↓after_fault, ↓after_refused, ↓after_ite] | split | with_reducible refine (core_tgWord _ _ _ _ (fun _ _ => ?_)).trans ?_)
theorem core_execTgSyncLoadWord (cls : BitVec 1) (low : BitVec 11) (s : State) : core (after s (execTgSyncLoadWord cls low s)) = core s := by
  unfold execTgSyncLoadWord
  repeat' (first | simp only [↓snd_ite, ↓core_mk, ↓core_eta, ↓core_ite, ite_self, implies_true, ↓core_syncLoad, ↓core_tgWord, ↓after_next, ↓after_fault, ↓after_refused, ↓after_ite] | split | with_reducible refine (core_tgWord _ _ _ _ (fun _ _ => ?_)).trans ?_)
theorem core_execTgAccept (cls : BitVec 1) (type offset : BitVec 6) (s : State) : core (after s (execTgAccept cls type offset s)) = core s := by
  unfold execTgAccept
  repeat' (first | simp only [↓snd_ite, ↓core_mk, ↓core_eta, ↓core_ite, ite_self, implies_true, ↓core_count, ↓core_raise, ↓core_tgWord, ↓after_next, ↓after_fault, ↓after_refused, ↓after_ite] | split | with_reducible refine (core_tgWord _ _ _ _ (fun _ _ => ?_)).trans ?_)
theorem core_enterWindow (s : State) (w : Window) : core (enterWindow s w) = core s := by
  unfold enterWindow
  repeat' (first | simp only [↓snd_ite, ↓core_mk, ↓core_eta, ↓core_ite, ite_self, implies_true, ↓core_count, ↓core_markUnits, ↓core_raise] | split)
theorem core_enterDue (s : State) : core (enterDue s) = core s := by
  unfold enterDue
  repeat' (first | simp only [↓snd_ite, ↓core_mk, ↓core_eta, ↓core_ite, ite_self, implies_true, ↓core_foldl, ↓core_enterWindow] | split | with_reducible refine (core_forNat _ _ _ fun k x => ?_).trans ?_ | with_reducible refine (core_foldl _ _ _ fun x a => ?_).trans ?_)
theorem core_execWindowComesIntoForce (s : State) : core (after s (execWindowComesIntoForce s)) = core s := by
  unfold execWindowComesIntoForce
  repeat' (first | simp only [↓snd_ite, ↓core_mk, ↓core_eta, ↓core_ite, ite_self, implies_true, ↓core_enterDue, ↓after_next, ↓after_fault, ↓after_refused, ↓after_ite] | split)
theorem core_execWindowLeavesStore (s : State) : core (after s (execWindowLeavesStore s)) = core s := by
  unfold execWindowLeavesStore
  repeat' (first | simp only [↓snd_ite, ↓core_mk, ↓core_eta, ↓core_ite, ite_self, implies_true, ↓after_next, ↓after_fault, ↓after_refused, ↓after_ite] | split)
theorem core_execTgDiscard (cls : BitVec 1) (age : BitVec 12) (s : State) : core (after s (execTgDiscard cls age s)) = core s := by
  unfold execTgDiscard
  repeat' (first | simp only [↓snd_ite, ↓core_mk, ↓core_eta, ↓core_ite, ite_self, implies_true, ↓core_tgWord, ↓after_next, ↓after_fault, ↓after_refused, ↓after_ite] | split | with_reducible refine (core_tgWord _ _ _ _ (fun _ _ => ?_)).trans ?_)
theorem core_execEarlyExpiry (s : State) : core (after s (execEarlyExpiry s)) = core s := by
  unfold execEarlyExpiry
  repeat' (first | simp only [↓snd_ite, ↓core_mk, ↓core_eta, ↓core_ite, ite_self, implies_true, ↓core_foldl, ↓core_chaffUnits, ↓core_enterDue, ↓core_markUnits, ↓after_next, ↓after_fault, ↓after_refused, ↓after_ite] | split | with_reducible refine (core_forNat _ _ _ fun k x => ?_).trans ?_ | with_reducible refine (core_foldl _ _ _ fun x a => ?_).trans ?_)
theorem core_execPendingExpiry (s : State) : core (after s (execPendingExpiry s)) = core s := by
  unfold execPendingExpiry
  repeat' (first | simp only [↓snd_ite, ↓core_mk, ↓core_eta, ↓core_ite, ite_self, implies_true, ↓core_enterDue, ↓core_expireUnits, ↓after_next, ↓after_fault, ↓after_refused, ↓after_ite] | split)
theorem core_execTgLossOfSignal (s : State) : core (after s (execTgLossOfSignal s)) = core s := by
  unfold execTgLossOfSignal
  repeat' (first | simp only [↓snd_ite, ↓core_mk, ↓core_eta, ↓core_ite, ite_self, implies_true, ↓core_atPads, ↓core_raise, ↓after_next, ↓after_fault, ↓after_refused, ↓after_ite] | split)
theorem core_execTgSignalReturn (s : State) : core (after s (execTgSignalReturn s)) = core s := by
  unfold execTgSignalReturn
  repeat' (first | simp only [↓snd_ite, ↓core_mk, ↓core_eta, ↓core_ite, ite_self, implies_true, ↓core_atPads, ↓after_next, ↓after_fault, ↓after_refused, ↓after_ite] | split)

/-! ## Monitor -/

theorem core_nextConversion (s : State) (k : Nat) : core (nextConversion s k) = core s := by
  unfold nextConversion
  repeat' (first | simp only [↓snd_ite, ↓core_mk, ↓core_eta, ↓core_ite, ite_self, implies_true, ↓core_setMc] | split)
theorem core_staleInput (s : State) (i : Nat) : core (staleInput s i) = core s := by
  unfold staleInput
  repeat' (first | simp only [↓snd_ite, ↓core_mk, ↓core_eta, ↓core_ite, ite_self, implies_true, ↓core_setMonRec] | split)
theorem core_spoilTap (s : State) (c : Nat) : core (spoilTap s c) = core s := by
  unfold spoilTap
  repeat' (first | simp only [↓snd_ite, ↓core_mk, ↓core_eta, ↓core_ite, ite_self, implies_true, ↓core_setMc] | split)
theorem core_endTapHold (s : State) (c : Nat) : core (endTapHold s c) = core s := by
  unfold endTapHold
  repeat' (first | simp only [↓snd_ite, ↓core_mk, ↓core_eta, ↓core_ite, ite_self, implies_true, ↓core_setChan, ↓core_setMc] | split)
theorem core_monReport (s : State) (i : Nat) (b : Beat) (m : MonRec) (injected : Bool) : core (monReport s i b m injected) = core s := by
  unfold monReport
  repeat' (first | simp only [↓snd_ite, ↓core_mk, ↓core_eta, ↓core_ite, ite_self, implies_true, ↓core_pushSheaf] | split)
theorem core_forInputs (s : State) (k : Nat) (f : Nat → State → State) (h_f : ∀ y0 y1, core (f y0 y1) = core y1) : core (forInputs s k f) = core s := by
  unfold forInputs
  repeat' (first | simp only [↓snd_ite, ↓core_mk, ↓core_eta, ↓core_ite, ite_self, implies_true, ↓core_forNat, h_f] | split | with_reducible refine (core_forNat _ _ _ fun k x => ?_).trans ?_ | with_reducible refine (core_foldl _ _ _ fun x a => ?_).trans ?_)
theorem core_claimConverter (s : State) (k : Nat) : core (claimConverter s k) = core s := by
  unfold claimConverter
  repeat' (first | simp only [↓snd_ite, ↓core_mk, ↓core_eta, ↓core_ite, ite_self, implies_true, ↓core_forInputs, ↓core_setMc, ↓core_staleInput] | split | with_reducible refine (core_forInputs _ _ _ (fun _ _ => ?_)).trans ?_)
theorem core_requestClaim (s : State) (k : Nat) : core (requestClaim s k) = core s := by
  unfold requestClaim
  repeat' (first | simp only [↓snd_ite, ↓core_mk, ↓core_eta, ↓core_ite, ite_self, implies_true, ↓core_claimConverter, ↓core_setMc] | split)
theorem core_releaseClaim (s : State) (k : Nat) : core (releaseClaim s k) = core s := by
  unfold releaseClaim
  repeat' (first | simp only [↓snd_ite, ↓core_mk, ↓core_eta, ↓core_ite, ite_self, implies_true, ↓core_nextConversion, ↓core_setMc] | split)
theorem core_abortInjected (s : State) (k : Nat) : core (abortInjected s k) = core s := by
  unfold abortInjected
  repeat' (first | simp only [↓snd_ite, ↓core_mk, ↓core_eta, ↓core_ite, ite_self, implies_true, ↓core_foldl, ↓core_closeCmd, ↓core_setMc] | split | with_reducible refine (core_forNat _ _ _ fun k x => ?_).trans ?_ | with_reducible refine (core_foldl _ _ _ fun x a => ?_).trans ?_)
theorem core_stopConverter (s : State) (k : Nat) : core (stopConverter s k) = core s := by
  unfold stopConverter
  repeat' (first | simp only [↓snd_ite, ↓core_mk, ↓core_eta, ↓core_ite, ite_self, implies_true, ↓core_abortInjected, ↓core_forInputs, ↓core_monReport, ↓core_setMc, ↓core_setMonRec] | split | with_reducible refine (core_forInputs _ _ _ (fun _ _ => ?_)).trans ?_)
theorem core_resumeConverter (s : State) (k : Nat) : core (resumeConverter s k) = core s := by
  unfold resumeConverter
  repeat' (first | simp only [↓snd_ite, ↓core_mk, ↓core_eta, ↓core_ite, ite_self, implies_true, ↓core_forInputs, ↓core_nextConversion, ↓core_setMonRec] | split | with_reducible refine (core_forInputs _ _ _ (fun _ _ => ?_)).trans ?_)
theorem core_monHeld (s : State) : core (monHeld s) = core s := by
  unfold monHeld
  repeat' (first | simp only [↓snd_ite, ↓core_mk, ↓core_eta, ↓core_ite, ite_self, implies_true, ↓core_forNat, ↓core_monReport] | split | with_reducible refine (core_forNat _ _ _ fun k x => ?_).trans ?_ | with_reducible refine (core_foldl _ _ _ fun x a => ?_).trans ?_)
theorem core_monStart (s : State) : core (monStart s) = core s := by
  unfold monStart
  repeat' (first | simp only [↓snd_ite, ↓core_mk, ↓core_eta, ↓core_ite, ite_self, implies_true, ↓core_forNat, ↓core_nextConversion] | split | with_reducible refine (core_forNat _ _ _ fun k x => ?_).trans ?_ | with_reducible refine (core_foldl _ _ _ fun x a => ?_).trans ?_)
theorem core_kickConverter (s : State) (k : Nat) : core (kickConverter s k) = core s := by
  unfold kickConverter
  repeat' (first | simp only [↓snd_ite, ↓core_mk, ↓core_eta, ↓core_ite, ite_self, implies_true, ↓core_nextConversion] | split)
theorem core_clearTarget (s : State) (c : Nat) : core (clearTarget s c) = core s := by
  unfold clearTarget
  repeat' (first | simp only [↓snd_ite, ↓core_mk, ↓core_eta, ↓core_ite, ite_self, implies_true, ↓core_setChan] | split)
theorem core_monCouch (s : State) : core (monCouch s) = core s := by
  unfold monCouch
  repeat' (first | simp only [↓snd_ite, ↓core_mk, ↓core_eta, ↓core_ite, ite_self, implies_true, ↓core_forNat, ↓core_clearTarget, ↓core_kickConverter, ↓core_setMc] | split | with_reducible refine (core_forNat _ _ _ fun k x => ?_).trans ?_ | with_reducible refine (core_foldl _ _ _ fun x a => ?_).trans ?_)
theorem core_execMonitorWindowEnd (k : Conv) (raw : Int) (s : State) : core (after s (execMonitorWindowEnd k raw s)) = core s := by
  unfold execMonitorWindowEnd
  repeat' (first | simp only [↓snd_ite, ↓core_mk, ↓core_eta, ↓core_ite, ite_self, implies_true, ↓core_nextConversion, ↓core_setMc, ↓after_next, ↓after_fault, ↓after_refused, ↓after_ite] | split)
theorem core_execInjectAbortEdge (k : Conv) (s : State) : core (after s (execInjectAbortEdge k s)) = core s := by
  unfold execInjectAbortEdge
  repeat' (first | simp only [↓snd_ite, ↓core_mk, ↓core_eta, ↓core_ite, ite_self, implies_true, ↓core_count, ↓core_nextConversion, ↓core_setMc, ↓after_next, ↓after_fault, ↓after_refused, ↓after_ite] | split)
theorem core_checkTemp (s : State) : core (checkTemp s) = core s := by
  unfold checkTemp
  repeat' (first | simp only [↓snd_ite, ↓core_mk, ↓core_eta, ↓core_ite, ite_self, implies_true, ↓core_raise] | split)
theorem core_checkLimits (s : State) (p : Nat) (v : Int) : core (checkLimits s p v) = core s := by
  unfold checkLimits
  repeat' (first | simp only [↓snd_ite, ↓core_mk, ↓core_eta, ↓core_ite, ite_self, implies_true, ↓core_count, ↓core_levelBegin, ↓core_levelEnd] | split)
theorem core_feedBaseline (s : State) (c : Nat) (m : MonRec) : core (feedBaseline s c m) = core s := by
  unfold feedBaseline
  repeat' (first | simp only [↓snd_ite, ↓core_mk, ↓core_eta, ↓core_ite, ite_self, implies_true, ↓core_setChan] | split)
theorem core_deliverScan (s : State) (k : Nat) (r : ConvResult) : core (deliverScan s k r) = core s := by
  unfold deliverScan
  repeat' (first | simp only [↓snd_ite, ↓core_mk, ↓core_eta, ↓core_ite, ite_self, implies_true, ↓core_checkLimits, ↓core_checkTemp, ↓core_feedBaseline, ↓core_monReport, ↓core_setMonRec, ↓core_staleInput] | split)
theorem core_deliverInjected (s : State) (k : Nat) (r : ConvResult) (q : Req) : core (deliverInjected s k r q) = core s := by
  unfold deliverInjected
  repeat' (first | simp only [↓snd_ite, ↓core_mk, ↓core_eta, ↓core_ite, ite_self, implies_true, ↓core_closeCmd, ↓core_count, ↓core_monReport] | split)
theorem core_execMonitorResultDelivered (k : Conv) (s : State) : core (after s (execMonitorResultDelivered k s)) = core s := by
  unfold execMonitorResultDelivered
  repeat' (first | simp only [↓snd_ite, ↓core_mk, ↓core_eta, ↓core_ite, ite_self, implies_true, ↓core_deliverInjected, ↓core_deliverScan, ↓core_setMc, ↓after_next, ↓after_fault, ↓after_refused, ↓after_ite] | split)
theorem core_execInjectConversion (r : Req) (input : Byte) (five : Bool) (s : State) : core (after s (execInjectConversion r input five s)) = core s := by
  unfold execInjectConversion
  repeat' (first | simp only [↓snd_ite, ↓core_mk, ↓core_eta, ↓core_ite, ite_self, implies_true, ↓core_granger, ↓core_opening, ↓core_replyBad, ↓core_replyBusy, ↓core_replyDenied, ↓core_setMc, ↓after_next, ↓after_fault, ↓after_refused, ↓after_ite] | split | with_reducible refine (core_granger _ _ _ _ _ (fun _ => ?_)).trans ?_ | with_reducible refine (core_opening _ _ _ _ _ (fun _ => ?_)).trans ?_)
theorem core_execReadMonitor (r : Req) (first count : Byte) (s : State) : core (after s (execReadMonitor r first count s)) = core s := by
  unfold execReadMonitor
  repeat' (first | simp only [↓snd_ite, ↓core_mk, ↓core_eta, ↓core_ite, ite_self, implies_true, ↓core_count, ↓core_granger, ↓core_replyBad, ↓core_replyOk, ↓after_next, ↓after_fault, ↓after_refused, ↓after_ite] | split | with_reducible refine (core_granger _ _ _ _ _ (fun _ => ?_)).trans ?_)
theorem core_execBaselineSlewStep (s : State) : core (after s (execBaselineSlewStep s)) = core s := by
  unfold execBaselineSlewStep
  repeat' (first | simp only [↓snd_ite, ↓core_mk, ↓core_eta, ↓core_ite, ite_self, implies_true, ↓core_forNat, ↓core_setChan, ↓after_next, ↓after_fault, ↓after_refused, ↓after_ite] | split | with_reducible refine (core_forNat _ _ _ fun k x => ?_).trans ?_ | with_reducible refine (core_foldl _ _ _ fun x a => ?_).trans ?_)
theorem core_execTapHoldRelease (c : Chan) (s : State) : core (after s (execTapHoldRelease c s)) = core s := by
  unfold execTapHoldRelease
  repeat' (first | simp only [↓snd_ite, ↓core_mk, ↓core_eta, ↓core_ite, ite_self, implies_true, ↓core_endTapHold, ↓after_next, ↓after_fault, ↓after_refused, ↓after_ite] | split)
theorem core_holdChannel (s : State) (c : Nat) : core (holdChannel s c) = core s := by
  unfold holdChannel
  repeat' (first | simp only [↓snd_ite, ↓core_mk, ↓core_eta, ↓core_ite, ite_self, implies_true, ↓core_setChan, ↓core_spoilTap, ↓core_staleInput] | split)
theorem core_releaseChannel (s : State) (c reason : Nat) : core (releaseChannel s c reason) = core s := by
  unfold releaseChannel
  repeat' (first | simp only [↓snd_ite, ↓core_mk, ↓core_eta, ↓core_ite, ite_self, implies_true, ↓core_blindMarker, ↓core_setChan] | split)
theorem core_setDac (s : State) (k : Nat) (h : DacHolder) (ch : Nat) (low : Bool) (code : BitVec 12) : core (setDac s k h ch low code) = core s := by
  unfold setDac
  repeat' (first | simp only [↓snd_ite, ↓core_mk, ↓core_eta, ↓core_ite, ite_self, implies_true, ↓core_setTdac] | split)
theorem core_driveDac (s : State) (k : Nat) (r : Req) (ch : Nat) (low : Bool) (code : BitVec 12) : core (driveDac s k r ch low code) = core s := by
  unfold driveDac
  repeat' (first | simp only [↓snd_ite, ↓core_mk, ↓core_eta, ↓core_ite, ite_self, implies_true, ↓core_setDac, ↓core_setTdac] | split)
theorem core_beginCheck (s : State) : core (beginCheck s) = core s := by
  unfold beginCheck
  repeat' (first | simp only [↓snd_ite, ↓core_mk, ↓core_eta, ↓core_ite, ite_self, implies_true, ↓core_holdChannel, ↓core_setTdac] | split)
theorem core_startCheck (s : State) : core (startCheck s) = core s := by
  unfold startCheck
  repeat' (first | simp only [↓snd_ite, ↓core_mk, ↓core_eta, ↓core_ite, ite_self, implies_true, ↓core_beginCheck, ↓core_setTdac] | split)
theorem core_serveDac (l : List DacClaim) (s : State) (k : Nat) : core (serveDac s k l) = core s := by
  induction l generalizing s with
  | nil => rfl
  | cons a l ih =>
    cases a <;> simp only [serveDac, ↓snd_ite, ↓core_mk, ↓core_eta, ↓core_ite, ite_self, implies_true, ↓core_beginCheck, ↓core_driveDac, ↓core_setTdac, ih] <;> repeat' (first | split | simp only [↓snd_ite, ↓core_mk, ↓core_eta, ↓core_ite, ite_self, implies_true, ↓core_beginCheck, ↓core_driveDac, ↓core_setTdac, ih])
theorem core_freeDac (s : State) (k : Nat) : core (freeDac s k) = core s := by
  unfold freeDac
  repeat' (first | simp only [↓snd_ite, ↓core_mk, ↓core_eta, ↓core_ite, ite_self, implies_true, ↓core_serveDac, ↓core_setTdac] | split)
theorem core_execTestDacConnect (r : Req) (st ch : BitVec 4) (low : Bool) (code : BitVec 12) (s : State) : core (after s (execTestDacConnect r st ch low code s)) = core s := by
  unfold execTestDacConnect
  repeat' (first | simp only [↓snd_ite, ↓core_mk, ↓core_eta, ↓core_ite, ite_self, implies_true, ↓core_driveDac, ↓core_granger, ↓core_opening, ↓core_replyBad, ↓core_replyBusy, ↓core_setTdac, ↓after_next, ↓after_fault, ↓after_refused, ↓after_ite] | split | with_reducible refine (core_granger _ _ _ _ _ (fun _ => ?_)).trans ?_ | with_reducible refine (core_opening _ _ _ _ _ (fun _ => ?_)).trans ?_)
theorem core_execTestDacRelease (r : Req) (st : BitVec 4) (s : State) : core (after s (execTestDacRelease r st s)) = core s := by
  unfold execTestDacRelease
  repeat' (first | simp only [↓snd_ite, ↓core_mk, ↓core_eta, ↓core_ite, ite_self, implies_true, ↓core_foldl, ↓core_closeCmd, ↓core_freeDac, ↓core_granger, ↓core_replyBad, ↓core_replyBusy, ↓core_replyOk, ↓core_setTdac, ↓after_next, ↓after_fault, ↓after_refused, ↓after_ite] | split | with_reducible refine (core_forNat _ _ _ fun k x => ?_).trans ?_ | with_reducible refine (core_foldl _ _ _ fun x a => ?_).trans ?_ | with_reducible refine (core_granger _ _ _ _ _ (fun _ => ?_)).trans ?_)
theorem core_execTestDacSettled (st : StookId) (s : State) : core (after s (execTestDacSettled st s)) = core s := by
  unfold execTestDacSettled
  repeat' (first | simp only [↓snd_ite, ↓core_mk, ↓core_eta, ↓core_ite, ite_self, implies_true, ↓core_foldl, ↓core_closeCmd, ↓core_setTdac, ↓after_next, ↓after_fault, ↓after_refused, ↓after_ite] | split | with_reducible refine (core_forNat _ _ _ fun k x => ?_).trans ?_ | with_reducible refine (core_foldl _ _ _ fun x a => ?_).trans ?_)
theorem core_execInputPathCheck (r : Req) (ch : Byte) (s : State) : core (after s (execInputPathCheck r ch s)) = core s := by
  unfold execInputPathCheck
  repeat' (first | simp only [↓snd_ite, ↓core_mk, ↓core_eta, ↓core_ite, ite_self, implies_true, ↓core_granger, ↓core_opening, ↓core_replyBad, ↓core_replyBusy, ↓core_startCheck, ↓after_next, ↓after_fault, ↓after_refused, ↓after_ite] | split | with_reducible refine (core_granger _ _ _ _ _ (fun _ => ?_)).trans ?_ | with_reducible refine (core_opening _ _ _ _ _ (fun _ => ?_)).trans ?_)
theorem core_endCheck (s : State) (p : Ipc) : core (endCheck s p) = core s := by
  unfold endCheck
  repeat' (first | simp only [↓snd_ite, ↓core_mk, ↓core_eta, ↓core_ite, ite_self, implies_true, ↓core_freeDac, ↓core_releaseChannel, ↓core_setTdac] | split)
theorem core_closeCheck (s : State) (p : Ipc) (v : Nat) (f : CheckFound) : core (closeCheck s p v f) = core s := by
  unfold closeCheck
  repeat' (first | simp only [↓snd_ite, ↓core_mk, ↓core_eta, ↓core_ite, ite_self, implies_true, ↓core_closeCmd, ↓core_count, ↓core_endCheck, ↓core_pushSheaf] | split)
theorem core_checkStep (s : State) (p : Ipc) (n : Nat) : core (checkStep s p n) = core s := by
  unfold checkStep
  repeat' (first | simp only [↓snd_ite, ↓core_mk, ↓core_eta, ↓core_ite, ite_self, implies_true, ↓core_setDac, ↓core_setTdac] | split)
theorem core_checkMeasured (s : State) (p : Ipc) (m : CheckMeas) : core (checkMeasured s p m) = core s := by
  unfold checkMeasured
  repeat' (first | simp only [↓snd_ite, ↓core_mk, ↓core_eta, ↓core_ite, ite_self, implies_true, ↓core_checkStep, ↓core_closeCheck] | split)
theorem core_execInputPathCheckEnd (m : CheckMeas) (s : State) : core (after s (execInputPathCheckEnd m s)) = core s := by
  unfold execInputPathCheckEnd
  repeat' (first | simp only [↓snd_ite, ↓core_mk, ↓core_eta, ↓core_ite, ite_self, implies_true, ↓core_checkMeasured, ↓core_closeCheck, ↓after_next, ↓after_fault, ↓after_refused, ↓after_ite] | split)
theorem core_monLeave (s : State) (new : Mode) : core (monLeave s new) = core s := by
  unfold monLeave
  repeat' (first | simp only [↓snd_ite, ↓core_mk, ↓core_eta, ↓core_ite, ite_self, implies_true, ↓core_forNat, ↓core_endCheck, ↓core_freeDac, ↓core_setTdac] | split | with_reducible refine (core_forNat _ _ _ fun k x => ?_).trans ?_ | with_reducible refine (core_foldl _ _ _ fun x a => ?_).trans ?_)

end Sys2Proof.Laws
end

