-- ==== Sys2Proof/Laws/CoreBlocks.lean ====
section
/-!
SUPPORT. What the operations leave as it was: the queue, the TAP's instruction, the Seed Store banks and the working registers
(`core`), or all but the registers (its first part): calibration, the Seed Store, faults, Barns, steps, SPI and the NL64 emulation.
-/
open Sys2Proof Sys2Proof.Machine
namespace Sys2Proof.Laws
set_option linter.all false

/-! ## Calibration -/

theorem core_setRun (s : State) (x : Option Run) : core (setRun s x) = core s := by
  unfold setRun
  repeat' (first | simp only [↓snd_ite, ↓core_mk, ↓core_eta, ↓core_ite, ite_self, implies_true] | split)
theorem core_noteQuiet (s : State) (c : Nat) : core (noteQuiet s c) = core s := by
  unfold noteQuiet
  repeat' (first | simp only [↓snd_ite, ↓core_mk, ↓core_eta, ↓core_ite, ite_self, implies_true, ↓core_setChan] | split)
theorem core_beginMeasurement (s : State) : core (beginMeasurement s) = core s := by
  unfold beginMeasurement
  repeat' (first | simp only [↓snd_ite, ↓core_mk, ↓core_eta, ↓core_ite, ite_self, implies_true, ↓core_foldl, ↓core_noteQuiet, ↓core_setRun] | split | with_reducible refine (core_forNat _ _ _ fun k x => ?_).trans ?_ | with_reducible refine (core_foldl _ _ _ fun x a => ?_).trans ?_)
theorem core_execCalibrationMeasurement (saturated : List Nat) (fired : List (Nat × Nat)) (values : List (CalKey × Int)) (elements : List ElemMeas) (s : State) : core (after s (execCalibrationMeasurement saturated fired values elements s)) = core s := by
  unfold execCalibrationMeasurement
  repeat' (first | simp only [↓snd_ite, ↓core_mk, ↓core_eta, ↓core_ite, ite_self, implies_true, ↓core_beginMeasurement, ↓core_setRun, ↓after_next, ↓after_fault, ↓after_refused, ↓after_ite] | split)
theorem core_setImage (s : State) (m : Memory) : core (setImage s m) = core s := by
  unfold setImage
  repeat' (first | simp only [↓snd_ite, ↓core_mk, ↓core_eta, ↓core_ite, ite_self, implies_true] | split)
theorem core_setFlag (s : State) (at? : Option Nat) (bit : Nat) (v : Bool) : core (setFlag s at? bit v) = core s := by
  unfold setFlag
  repeat' (first | simp only [↓snd_ite, ↓core_mk, ↓core_eta, ↓core_ite, ite_self, implies_true, ↓core_setImage] | split)
theorem core_acceptValue (now : Bool) (s : State) (e : CalKey × Int) : core (acceptValue now s e) = core s := by
  unfold acceptValue
  repeat' (first | simp only [↓snd_ite, ↓core_mk, ↓core_eta, ↓core_ite, ite_self, implies_true, ↓core_setFlag] | split)
theorem core_slewDeckle (s : State) : core (slewDeckle s) = core s := by
  unfold slewDeckle
  repeat' (first | simp only [↓snd_ite, ↓core_mk, ↓core_eta, ↓core_ite, ite_self, implies_true, ↓core_beginMeasurement] | split)
theorem core_setQuality (s : State) (f : Residual) : core (setQuality s f) = core s := by
  unfold setQuality
  repeat' (first | simp only [↓snd_ite, ↓core_mk, ↓core_eta, ↓core_ite, ite_self, implies_true] | split)
theorem core_releaseUnits (x : Run) (aborted : Bool) (s : State) (u : Nat) : core (releaseUnits x aborted s u) = core s := by
  unfold releaseUnits
  repeat' (first | simp only [↓snd_ite, ↓core_mk, ↓core_eta, ↓core_ite, ite_self, implies_true, ↓core_pushSheaf, ↓core_releaseChannel, ↓core_releaseClaim] | split)
theorem core_runFaults (x : Run) (choices : List (CalKey × Int × Bool)) (s : State) : core (runFaults x choices s) = core s := by
  unfold runFaults
  repeat' (first | simp only [↓snd_ite, ↓core_mk, ↓core_eta, ↓core_ite, ite_self, implies_true, ↓core_foldl, ↓core_raise] | split | with_reducible refine (core_forNat _ _ _ fun k x => ?_).trans ?_ | with_reducible refine (core_foldl _ _ _ fun x a => ?_).trans ?_)
theorem core_acceptValues (x : Run) (s : State) : core (acceptValues x s) = core s := by
  unfold acceptValues
  repeat' (first | simp only [↓snd_ite, ↓core_mk, ↓core_eta, ↓core_ite, ite_self, implies_true, ↓core_foldl, ↓core_acceptValue] | split | with_reducible refine (core_forNat _ _ _ fun k x => ?_).trans ?_ | with_reducible refine (core_foldl _ _ _ fun x a => ?_).trans ?_)
theorem core_acceptChoice (s : State) (e : CalKey × Int × Bool) : core (acceptChoice s e) = core s := by
  unfold acceptChoice
  repeat' (first | simp only [↓snd_ite, ↓core_mk, ↓core_eta, ↓core_ite, ite_self, implies_true, ↓core_acceptValue, ↓core_setFlag] | split)
theorem core_acceptRun (x : Run) (found : List Residual) (s : State) : core (acceptRun x found s) = core s := by
  unfold acceptRun
  repeat' (first | simp only [↓snd_ite, ↓core_mk, ↓core_eta, ↓core_ite, ite_self, implies_true, ↓core_foldl, ↓core_acceptChoice, ↓core_acceptValues, ↓core_setFlag, ↓core_setQuality] | split | with_reducible refine (core_forNat _ _ _ fun k x => ?_).trans ?_ | with_reducible refine (core_foldl _ _ _ fun x a => ?_).trans ?_)
theorem core_calOutcome (s : State) (r : Option Req) (st : Nat × Nat) : core (calOutcome s r st) = core s := by
  unfold calOutcome
  repeat' (first | simp only [↓snd_ite, ↓core_mk, ↓core_eta, ↓core_ite, ite_self, implies_true, ↓core_outcome] | split)
theorem core_startCommit (s : State) (r : Option Req) : core (startCommit s r) = core s := by
  unfold startCommit
  repeat' (first | simp only [↓snd_ite, ↓core_mk, ↓core_eta, ↓core_ite, ite_self, implies_true] | split)
theorem core_endSweep (s : State) : core (endSweep s) = core s := by
  unfold endSweep
  repeat' (first | simp only [↓snd_ite, ↓core_mk, ↓core_eta, ↓core_ite, ite_self, implies_true, ↓core_calOutcome, ↓core_startCommit] | split)
theorem core_sweepOn (s : State) (x : Run) (st : Nat × Nat) : core (sweepOn s x st) = core s := by
  unfold sweepOn
  repeat' (first | simp only [↓snd_ite, ↓core_mk, ↓core_eta, ↓core_ite, ite_self, implies_true, ↓core_calOutcome, ↓core_endSweep] | split)
theorem core_freeDacs (s : State) : core (freeDacs s) = core s := by
  unfold freeDacs
  repeat' (first | simp only [↓snd_ite, ↓core_mk, ↓core_eta, ↓core_ite, ite_self, implies_true, ↓core_forNat, ↓core_freeDac] | split | with_reducible refine (core_forNat _ _ _ fun k x => ?_).trans ?_ | with_reducible refine (core_foldl _ _ _ fun x a => ?_).trans ?_)
theorem core_endRun (s : State) (aborted : Bool) (found : List Residual) : core (endRun s aborted found) = core s := by
  unfold endRun
  repeat' (first | simp only [↓snd_ite, ↓core_mk, ↓core_eta, ↓core_ite, ite_self, implies_true, ↓core_foldl, ↓core_acceptRun, ↓core_calOutcome, ↓core_count, ↓core_freeDacs, ↓core_pushSheaf, ↓core_releaseUnits, ↓core_runFaults, ↓core_setRun, ↓core_sweepOn] | split | with_reducible refine (core_forNat _ _ _ fun k x => ?_).trans ?_ | with_reducible refine (core_foldl _ _ _ fun x a => ?_).trans ?_)
theorem core_execCalibrationRelease (found : List Residual) (s : State) : core (after s (execCalibrationRelease found s)) = core s := by
  unfold execCalibrationRelease
  repeat' (first | simp only [↓snd_ite, ↓core_mk, ↓core_eta, ↓core_ite, ite_self, implies_true, ↓core_endRun, ↓after_next, ↓after_fault, ↓after_refused, ↓after_ite] | split)
theorem core_execForegroundRunEnd (found : List Residual) (s : State) : core (after s (execForegroundRunEnd found s)) = core s := by
  unfold execForegroundRunEnd
  repeat' (first | simp only [↓snd_ite, ↓core_mk, ↓core_eta, ↓core_ite, ite_self, implies_true, ↓core_endRun, ↓after_next, ↓after_fault, ↓after_refused, ↓after_ite] | split)
theorem core_takeConverter (s : State) (k : Nat) : core (takeConverter s k) = core s := by
  unfold takeConverter
  repeat' (first | simp only [↓snd_ite, ↓core_mk, ↓core_eta, ↓core_ite, ite_self, implies_true, ↓core_beginMeasurement, ↓core_claimConverter] | split)
theorem core_beginForeground (s : State) (x : Run) : core (beginForeground s x) = core s := by
  unfold beginForeground
  repeat' (first | simp only [↓snd_ite, ↓core_mk, ↓core_eta, ↓core_ite, ite_self, implies_true, ↓core_forNat, ↓core_foldl, ↓core_beginMeasurement, ↓core_holdChannel, ↓core_requestClaim] | split | with_reducible refine (core_forNat _ _ _ fun k x => ?_).trans ?_ | with_reducible refine (core_foldl _ _ _ fun x a => ?_).trans ?_)
theorem core_claimDacs (s : State) : core (claimDacs s) = core s := by
  unfold claimDacs
  repeat' (first | simp only [↓snd_ite, ↓core_mk, ↓core_eta, ↓core_ite, ite_self, implies_true, ↓core_forNat, ↓core_setTdac] | split | with_reducible refine (core_forNat _ _ _ fun k x => ?_).trans ?_ | with_reducible refine (core_foldl _ _ _ fun x a => ?_).trans ?_)
theorem core_execCalClaimTakesEffect (k : Conv) (s : State) : core (after s (execCalClaimTakesEffect k s)) = core s := by
  unfold execCalClaimTakesEffect
  repeat' (first | simp only [↓snd_ite, ↓core_mk, ↓core_eta, ↓core_ite, ite_self, implies_true, ↓core_beginForeground, ↓core_takeConverter, ↓after_next, ↓after_fault, ↓after_refused, ↓after_ite] | split)
theorem core_execCalStartForeground (r : Req) (mask : BitVec 12) (s : State) : core (after s (execCalStartForeground r mask s)) = core s := by
  unfold execCalStartForeground
  repeat' (first | simp only [↓snd_ite, ↓core_mk, ↓core_eta, ↓core_ite, ite_self, implies_true, ↓core_forNat, ↓core_beginForeground, ↓core_claimDacs, ↓core_granger, ↓core_reply, ↓core_replyBad, ↓core_replyBusy, ↓core_replyNotInMode, ↓core_replyOk, ↓core_requestClaim, ↓after_next, ↓after_fault, ↓after_refused, ↓after_ite] | split | with_reducible refine (core_forNat _ _ _ fun k x => ?_).trans ?_ | with_reducible refine (core_foldl _ _ _ fun x a => ?_).trans ?_ | with_reducible refine (core_granger _ _ _ _ _ (fun _ => ?_)).trans ?_)
theorem core_execCalStartGleanChannel (r : Req) (ch : Byte) (mask : BitVec 12) (s : State) : core (after s (execCalStartGleanChannel r ch mask s)) = core s := by
  unfold execCalStartGleanChannel
  repeat' (first | simp only [↓snd_ite, ↓core_mk, ↓core_eta, ↓core_ite, ite_self, implies_true, ↓core_granger, ↓core_replyBad, ↓core_replyBusy, ↓core_replyNotInMode, ↓core_replyOk, ↓after_next, ↓after_fault, ↓after_refused, ↓after_ite] | split | with_reducible refine (core_granger _ _ _ _ _ (fun _ => ?_)).trans ?_)
theorem core_execCalStartGleanSweep (r : Req) (mask : BitVec 12) (s : State) : core (after s (execCalStartGleanSweep r mask s)) = core s := by
  unfold execCalStartGleanSweep
  repeat' (first | simp only [↓snd_ite, ↓core_mk, ↓core_eta, ↓core_ite, ite_self, implies_true, ↓core_granger, ↓core_replyBad, ↓core_replyBusy, ↓core_replyNotInMode, ↓core_replyOk, ↓core_setRun, ↓after_next, ↓after_fault, ↓after_refused, ↓after_ite] | split | with_reducible refine (core_granger _ _ _ _ _ (fun _ => ?_)).trans ?_)
theorem core_execGleanSweepStart (s : State) : core (after s (execGleanSweepStart s)) = core s := by
  unfold execGleanSweepStart
  repeat' (first | simp only [↓snd_ite, ↓core_mk, ↓core_eta, ↓core_ite, ite_self, implies_true, ↓after_next, ↓after_fault, ↓after_refused, ↓after_ite] | split)
theorem core_beginGlean (s : State) (x : Run) : core (beginGlean s x) = core s := by
  unfold beginGlean
  repeat' (first | simp only [↓snd_ite, ↓core_mk, ↓core_eta, ↓core_ite, ite_self, implies_true, ↓core_holdChannel, ↓core_setRun, ↓core_setTdac] | split)
theorem core_execGleanRunStart (s : State) : core (after s (execGleanRunStart s)) = core s := by
  unfold execGleanRunStart
  repeat' (first | simp only [↓snd_ite, ↓core_mk, ↓core_eta, ↓core_ite, ite_self, implies_true, ↓core_beginGlean, ↓core_beginMeasurement, ↓core_calOutcome, ↓core_endSweep, ↓core_requestClaim, ↓core_setRun, ↓after_next, ↓after_fault, ↓after_refused, ↓after_ite] | split)
theorem core_dropQueued (s : State) : core (dropQueued s) = core s := by
  unfold dropQueued
  repeat' (first | simp only [↓snd_ite, ↓core_mk, ↓core_eta, ↓core_ite, ite_self, implies_true, ↓core_forNat, ↓core_calOutcome, ↓core_freeDacs, ↓core_releaseClaim] | split | with_reducible refine (core_forNat _ _ _ fun k x => ?_).trans ?_ | with_reducible refine (core_foldl _ _ _ fun x a => ?_).trans ?_)
theorem core_execCalAbort (r : Req) (s : State) : core (after s (execCalAbort r s)) = core s := by
  unfold execCalAbort
  repeat' (first | simp only [↓snd_ite, ↓core_mk, ↓core_eta, ↓core_ite, ite_self, implies_true, ↓core_calOutcome, ↓core_dropQueued, ↓core_granger, ↓core_replyOk, ↓core_setRun, ↓after_next, ↓after_fault, ↓after_refused, ↓after_ite] | split | with_reducible refine (core_granger _ _ _ _ _ (fun _ => ?_)).trans ?_)
theorem core_calLeave (s : State) (new : Mode) : core (calLeave s new) = core s := by
  unfold calLeave
  repeat' (first | simp only [↓snd_ite, ↓core_mk, ↓core_eta, ↓core_ite, ite_self, implies_true, ↓core_calOutcome, ↓core_dropQueued, ↓core_endRun] | split)
theorem core_calDrop (s : State) (hit : Nat → Bool) : core (calDrop s hit) = core s := by
  unfold calDrop
  repeat' (first | simp only [↓snd_ite, ↓core_mk, ↓core_eta, ↓core_ite, ite_self, implies_true, ↓core_foldl, ↓core_endRun, ↓core_releaseUnits, ↓core_setRun] | split | with_reducible refine (core_forNat _ _ _ fun k x => ?_).trans ?_ | with_reducible refine (core_foldl _ _ _ fun x a => ?_).trans ?_)
theorem core_execCalStatus (r : Req) (s : State) : core (after s (execCalStatus r s)) = core s := by
  unfold execCalStatus
  repeat' (first | simp only [↓snd_ite, ↓core_mk, ↓core_eta, ↓core_ite, ite_self, implies_true, ↓core_granger, ↓core_replyOk, ↓after_next, ↓after_fault, ↓after_refused, ↓after_ite] | split | with_reducible refine (core_granger _ _ _ _ _ (fun _ => ?_)).trans ?_)

/-! ## SeedStore -/

theorem core_setSeedWord (s : State) (w : BitVec 64) : core (setSeedWord s w) = core s := by
  unfold setSeedWord
  repeat' (first | simp only [↓snd_ite, ↓core_mk, ↓core_eta, ↓core_ite, ite_self, implies_true] | split)
theorem core_seedReport (s : State) (status : Nat) : core (seedReport s status) = core s := by
  unfold seedReport
  repeat' (first | simp only [↓snd_ite, ↓core_mk, ↓core_eta, ↓core_ite, ite_self, implies_true, ↓core_pushSheaf] | split)
theorem core_execCalCommit (r : Req) (s : State) : core (after s (execCalCommit r s)) = core s := by
  unfold execCalCommit
  repeat' (first | simp only [↓snd_ite, ↓core_mk, ↓core_eta, ↓core_ite, ite_self, implies_true, ↓core_granger, ↓core_opening, ↓core_replyBusy, ↓core_replyDenied, ↓core_startCommit, ↓after_next, ↓after_fault, ↓after_refused, ↓after_ite] | split | with_reducible refine (core_granger _ _ _ _ _ (fun _ => ?_)).trans ?_ | with_reducible refine (core_opening _ _ _ _ _ (fun _ => ?_)).trans ?_)
theorem core_dropCommit (s : State) : core (dropCommit s) = core s := by
  unfold dropCommit
  repeat' (first | simp only [↓snd_ite, ↓core_mk, ↓core_eta, ↓core_ite, ite_self, implies_true, ↓core_setSeedWord] | split)
theorem core_execSeedRead (r : Req) (bank : BitVec 1) (offset : BitVec 16) (count : BitVec 11) (s : State) : core (after s (execSeedRead r bank offset count s)) = core s := by
  unfold execSeedRead
  repeat' (first | simp only [↓snd_ite, ↓core_mk, ↓core_eta, ↓core_ite, ite_self, implies_true, ↓core_count, ↓core_granger, ↓core_replyBad, ↓core_replyOk, ↓after_next, ↓after_fault, ↓after_refused, ↓after_ite] | split | with_reducible refine (core_granger _ _ _ _ _ (fun _ => ?_)).trans ?_)
theorem core_loadIdentity (s : State) (used : Option Nat) : core (loadIdentity s used) = core s := by
  unfold loadIdentity
  repeat' (first | simp only [↓snd_ite, ↓core_mk, ↓core_eta, ↓core_ite, ite_self, implies_true] | split)
theorem core_loadRecords (s : State) (b : Nat) : core (loadRecords s b) = core s := by
  unfold loadRecords
  repeat' (first | simp only [↓snd_ite, ↓core_mk, ↓core_eta, ↓core_ite, ite_self, implies_true] | split)
theorem core_seedLoad (s : State) : core (seedLoad s).2 = core s := by
  unfold seedLoad
  repeat' (first | simp only [↓snd_ite, ↓core_mk, ↓core_eta, ↓core_ite, ite_self, implies_true, ↓core_loadIdentity, ↓core_loadRecords, ↓core_raise, ↓core_seedReport, ↓core_setSeedWord, ↓snd_ite] | split)

/-! ## Faults -/

theorem core_setFence (s : State) (t : Target) (v : Bool) : core (setFence s t v) = core s := by
  unfold setFence
  repeat' (first | simp only [↓snd_ite, ↓core_mk, ↓core_eta, ↓core_ite, ite_self, implies_true] | split)
theorem core_isolateChannel (s : State) (c : Nat) : core (isolateChannel s c) = core s := by
  unfold isolateChannel
  repeat' (first | simp only [↓snd_ite, ↓core_mk, ↓core_eta, ↓core_ite, ite_self, implies_true, ↓core_calDrop, ↓core_setChan] | split)
theorem core_freeChannel (s : State) (c : Nat) : core (freeChannel s c) = core s := by
  unfold freeChannel
  repeat' (first | simp only [↓snd_ite, ↓core_mk, ↓core_eta, ↓core_ite, ite_self, implies_true, ↓core_setChan] | split)
theorem core_isolate (s : State) (t : Target) : core (isolate s t) = core s := by
  unfold isolate
  repeat' (first | simp only [↓snd_ite, ↓core_mk, ↓core_eta, ↓core_ite, ite_self, implies_true, ↓core_forNat, ↓core_calDrop, ↓core_fenceLane, ↓core_isolateChannel, ↓core_stopConverter, ↓core_variantAtBoundary] | split | with_reducible refine (core_forNat _ _ _ fun k x => ?_).trans ?_ | with_reducible refine (core_foldl _ _ _ fun x a => ?_).trans ?_)
theorem core_unisolate (s : State) (t : Target) : core (unisolate s t) = core s := by
  cases t with
  | channel c => exact core_freeChannel ..
  | stook k =>
    unfold unisolate; dsimp only; split
    · rfl
    · exact core_forNat _ _ _ fun _ _ => core_freeChannel ..
  | uplane u => unfold unisolate; dsimp only; simp only [↓core_ite, ↓core_negotiate, ite_self]
  | converter k => unfold unisolate; dsimp only; simp only [↓core_ite, ↓core_resumeConverter, ite_self]
  | _ => rfl
theorem core_markFence (s : State) (t : Target) (release : Bool) (src : Nat) : core (markFence s t release src) = core s := by
  unfold markFence
  repeat' (first | simp only [↓snd_ite, ↓core_mk, ↓core_eta, ↓core_ite, ite_self, implies_true, ↓core_fenceMarker] | split)
theorem core_promoteAct (s : State) (b : Nat) : core (promoteAct s b) = core s := by
  unfold promoteAct
  repeat' (first | simp only [↓snd_ite, ↓core_mk, ↓core_eta, ↓core_ite, ite_self, implies_true, ↓core_foldl, ↓core_endActions] | split | with_reducible refine (core_forNat _ _ _ fun k x => ?_).trans ?_ | with_reducible refine (core_foldl _ _ _ fun x a => ?_).trans ?_)
theorem core_endCur (s : State) (a : Act) : core (endCur s a) = core s := by
  unfold endCur
  repeat' (first | simp only [↓snd_ite, ↓core_mk, ↓core_eta, ↓core_ite, ite_self, implies_true, ↓core_endActions] | split)
theorem core_fenceNow (s : State) (a : Act) : core (fenceNow s a) = core s := by
  unfold fenceNow
  repeat' (first | simp only [↓snd_ite, ↓core_mk, ↓core_eta, ↓core_ite, ite_self, implies_true, ↓core_endCur, ↓core_escalateBeyond, ↓core_isolate, ↓core_markFence, ↓core_setFence] | split)
theorem core_endCommand (s : State) (a : Act) (status detail : Nat) : core (endCommand s a status detail) = core s := by
  unfold endCommand
  repeat' (first | simp only [↓snd_ite, ↓core_mk, ↓core_eta, ↓core_ite, ite_self, implies_true, ↓core_closeCmd] | split)
theorem core_fenceCommand (s : State) (a : Act) : core (fenceCommand s a) = core s := by
  unfold fenceCommand
  repeat' (first | simp only [↓snd_ite, ↓core_mk, ↓core_eta, ↓core_ite, ite_self, implies_true, ↓core_endCommand, ↓core_isolate, ↓core_markFence, ↓core_setFence] | split)
theorem core_execFenceTakesEffect (s : State) : core (after s (execFenceTakesEffect s)) = core s := by
  unfold execFenceTakesEffect
  repeat' (first | simp only [↓snd_ite, ↓core_mk, ↓core_eta, ↓core_ite, ite_self, implies_true, ↓core_foldl, ↓core_fenceCommand, ↓core_fenceNow, ↓after_next, ↓after_fault, ↓after_refused, ↓after_ite] | split | with_reducible refine (core_forNat _ _ _ fun k x => ?_).trans ?_ | with_reducible refine (core_foldl _ _ _ fun x a => ?_).trans ?_)
theorem core_releaseFences (s : State) : core (releaseFences s) = core s := by
  unfold releaseFences
  repeat' (first | simp only [↓snd_ite, ↓core_mk, ↓core_eta, ↓core_ite, ite_self, implies_true, ↓core_foldl, ↓core_endCommand, ↓core_markFence, ↓core_setFence, ↓core_unisolate] | split | with_reducible refine (core_forNat _ _ _ fun k x => ?_).trans ?_ | with_reducible refine (core_foldl _ _ _ fun x a => ?_).trans ?_)
theorem core_addCommand (s : State) (k : ActKind) (t : Target) (r : Req) : core (addCommand s k t r) = core s := by
  unfold addCommand
  repeat' (first | simp only [↓snd_ite, ↓core_mk, ↓core_eta, ↓core_ite, ite_self, implies_true] | split)
theorem core_execFence (r : Req) (kind : BitVec 2) (index : Byte) (s : State) : core (after s (execFence r kind index s)) = core s := by
  unfold execFence
  repeat' (first | simp only [↓snd_ite, ↓core_mk, ↓core_eta, ↓core_ite, ite_self, implies_true, ↓core_addCommand, ↓core_granger, ↓core_opening, ↓core_replyBad, ↓core_replyBusy, ↓core_replyDenied, ↓core_replyOk, ↓after_next, ↓after_fault, ↓after_refused, ↓after_ite] | split | with_reducible refine (core_granger _ _ _ _ _ (fun _ => ?_)).trans ?_ | with_reducible refine (core_opening _ _ _ _ _ (fun _ => ?_)).trans ?_)
theorem core_execUnfence (r : Req) (kind : BitVec 2) (index : Byte) (s : State) : core (after s (execUnfence r kind index s)) = core s := by
  unfold execUnfence
  repeat' (first | simp only [↓snd_ite, ↓core_mk, ↓core_eta, ↓core_ite, ite_self, implies_true, ↓core_addCommand, ↓core_granger, ↓core_opening, ↓core_replyBad, ↓core_replyBusy, ↓core_replyOk, ↓after_next, ↓after_fault, ↓after_refused, ↓after_ite] | split | with_reducible refine (core_granger _ _ _ _ _ (fun _ => ?_)).trans ?_ | with_reducible refine (core_opening _ _ _ _ _ (fun _ => ?_)).trans ?_)
theorem core_resetChannel (s : State) (c : Nat) : core (resetChannel s c) = core s := by
  unfold resetChannel
  repeat' (first | simp only [↓snd_ite, ↓core_mk, ↓core_eta, ↓core_ite, ite_self, implies_true, ↓core_discardLatch, ↓core_setChan] | split)
theorem core_resetLogic (s : State) (t : Target) : core (resetLogic s t) = core s := by
  unfold resetLogic
  repeat' (first | simp only [↓snd_ite, ↓core_mk, ↓core_eta, ↓core_ite, ite_self, implies_true, ↓core_forNat, ↓core_portFaulty, ↓core_resetChannel, ↓core_setDlane, ↓core_setMc, ↓core_setStook, ↓core_settleTime] | split | with_reducible refine (core_forNat _ _ _ fun k x => ?_).trans ?_ | with_reducible refine (core_foldl _ _ _ fun x a => ?_).trans ?_)
theorem core_beginReset (s : State) (a : Act) : core (beginReset s a) = core s := by
  unfold beginReset
  repeat' (first | simp only [↓snd_ite, ↓core_mk, ↓core_eta, ↓core_ite, ite_self, implies_true, ↓core_isolate, ↓core_markFence, ↓core_resetLogic] | split)
theorem core_beginCur (s : State) : core (beginCur s) = core s := by
  unfold beginCur
  repeat' (first | simp only [↓snd_ite, ↓core_mk, ↓core_eta, ↓core_ite, ite_self, implies_true, ↓core_beginReset, ↓core_endCur] | split)
theorem core_beginCommanded (s : State) (a : Act) : core (beginCommanded s a) = core s := by
  unfold beginCommanded
  repeat' (first | simp only [↓snd_ite, ↓core_mk, ↓core_eta, ↓core_ite, ite_self, implies_true, ↓core_beginReset] | split)
theorem core_execBlockResetStart (s : State) : core (after s (execBlockResetStart s)) = core s := by
  unfold execBlockResetStart
  repeat' (first | simp only [↓snd_ite, ↓core_mk, ↓core_eta, ↓core_ite, ite_self, implies_true, ↓core_foldl, ↓core_beginCommanded, ↓core_beginCur, ↓after_next, ↓after_fault, ↓after_refused, ↓after_ite] | split | with_reducible refine (core_forNat _ _ _ fun k x => ?_).trans ?_ | with_reducible refine (core_foldl _ _ _ fun x a => ?_).trans ?_)
theorem core_resetReleased (s : State) (a : Act) : core (resetReleased s a) = core s := by
  unfold resetReleased
  repeat' (first | simp only [↓snd_ite, ↓core_mk, ↓core_eta, ↓core_ite, ite_self, implies_true, ↓core_markFence, ↓core_unisolate] | split)
theorem core_raiseReset (s : State) (t : Target) : core (raiseReset s t) = core s := by
  unfold raiseReset
  repeat' (first | simp only [↓snd_ite, ↓core_mk, ↓core_eta, ↓core_ite, ite_self, implies_true, ↓core_levelBegin, ↓core_raise] | split)
theorem core_resetEscalates (s : State) (a : Act) : core (resetEscalates s a) = core s := by
  unfold resetEscalates
  repeat' (first | simp only [↓snd_ite, ↓core_mk, ↓core_eta, ↓core_ite, ite_self, implies_true, ↓core_assertErr, ↓core_count, ↓core_editRec, ↓core_endActions, ↓core_escalateBeyond, ↓core_setFence, ↓core_unisolate] | split)
theorem core_resetCommandFails (s : State) (a : Act) (selfCheck : Bool) : core (resetCommandFails s a selfCheck) = core s := by
  unfold resetCommandFails
  repeat' (first | simp only [↓snd_ite, ↓core_mk, ↓core_eta, ↓core_ite, ite_self, implies_true, ↓core_endCommand, ↓core_raiseReset, ↓core_setFence, ↓core_unisolate] | split)
theorem core_endReset (s : State) (a : Act) (reaction ok selfCheck : Bool) : core (endReset s a reaction ok selfCheck) = core s := by
  unfold endReset
  repeat' (first | simp only [↓snd_ite, ↓core_mk, ↓core_eta, ↓core_ite, ite_self, implies_true, ↓core_endCommand, ↓core_endCur, ↓core_resetCommandFails, ↓core_resetEscalates, ↓core_resetReleased] | split)
theorem core_execBlockResetDecision (t : Target) (selfCheck : Option Bool) (lineActive : Bool) (s : State) : core (after s (execBlockResetDecision t selfCheck lineActive s)) = core s := by
  unfold execBlockResetDecision
  repeat' (first | simp only [↓snd_ite, ↓core_mk, ↓core_eta, ↓core_ite, ite_self, implies_true, ↓core_endReset, ↓after_next, ↓after_fault, ↓after_refused, ↓after_ite] | split)
theorem core_execResetBlock (r : Req) (target : BitVec 3) (index : Byte) (s : State) : core (after s (execResetBlock r target index s)) = core s := by
  unfold execResetBlock
  repeat' (first | simp only [↓snd_ite, ↓core_mk, ↓core_eta, ↓core_ite, ite_self, implies_true, ↓core_addCommand, ↓core_granger, ↓core_opening, ↓core_replyBad, ↓core_replyBusy, ↓core_replyOk, ↓after_next, ↓after_fault, ↓after_refused, ↓after_ite] | split | with_reducible refine (core_granger _ _ _ _ _ (fun _ => ?_)).trans ?_ | with_reducible refine (core_opening _ _ _ _ _ (fun _ => ?_)).trans ?_)
theorem core_execFaultRaise (src : BitVec 6) (inst : Byte) (ctx : BitVec 16) (s : State) : core (after s (execFaultRaise src inst ctx s)) = core s := by
  unfold execFaultRaise
  repeat' (first | simp only [↓snd_ite, ↓core_mk, ↓core_eta, ↓core_ite, ite_self, implies_true, ↓core_count, ↓core_levelBegin, ↓core_levelEnd, ↓core_loseMaster, ↓core_raise, ↓after_next, ↓after_fault, ↓after_refused, ↓after_ite] | split)
theorem core_execTrapResume (s : State) : core (after s (execTrapResume s)) = core s := by
  unfold execTrapResume
  repeat' (first | simp only [↓snd_ite, ↓core_mk, ↓core_eta, ↓core_ite, ite_self, implies_true, ↓after_next, ↓after_fault, ↓after_refused, ↓after_ite] | split)
theorem core_execReactionWindowEnd (s : State) : core (after s (execReactionWindowEnd s)) = core s := by
  unfold execReactionWindowEnd
  repeat' (first | simp only [↓snd_ite, ↓core_mk, ↓core_eta, ↓core_ite, ite_self, implies_true, ↓core_foldl, ↓core_raise, ↓after_next, ↓after_fault, ↓after_refused, ↓after_ite] | split | with_reducible refine (core_forNat _ _ _ fun k x => ?_).trans ?_ | with_reducible refine (core_foldl _ _ _ fun x a => ?_).trans ?_)
theorem core_execErrpinRelease (r : Req) (s : State) : core (after s (execErrpinRelease r s)) = core s := by
  unfold execErrpinRelease
  repeat' (first | simp only [↓snd_ite, ↓core_mk, ↓core_eta, ↓core_ite, ite_self, implies_true, ↓core_granger, ↓core_opening, ↓core_replyOk, ↓after_next, ↓after_fault, ↓after_refused, ↓after_ite] | split | with_reducible refine (core_granger _ _ _ _ _ (fun _ => ?_)).trans ?_ | with_reducible refine (core_opening _ _ _ _ _ (fun _ => ?_)).trans ?_)
theorem core_execErrpinMinElapsed (s : State) : core (after s (execErrpinMinElapsed s)) = core s := by
  unfold execErrpinMinElapsed
  repeat' (first | simp only [↓snd_ite, ↓core_mk, ↓core_eta, ↓core_ite, ite_self, implies_true, ↓core_foldl, ↓core_closeCmd, ↓after_next, ↓after_fault, ↓after_refused, ↓after_ite] | split | with_reducible refine (core_forNat _ _ _ fun k x => ?_).trans ?_ | with_reducible refine (core_foldl _ _ _ fun x a => ?_).trans ?_)
theorem core_errAgain (s : State) : core (errAgain s) = core s := by
  unfold errAgain
  repeat' (first | simp only [↓snd_ite, ↓core_mk, ↓core_eta, ↓core_ite, ite_self, implies_true] | split)
theorem core_execFaultRead (r : Req) (first : BitVec 4) (count : BitVec 5) (s : State) : core (after s (execFaultRead r first count s)) = core s := by
  unfold execFaultRead
  repeat' (first | simp only [↓snd_ite, ↓core_mk, ↓core_eta, ↓core_ite, ite_self, implies_true, ↓core_count, ↓core_granger, ↓core_replyBad, ↓core_replyOk, ↓after_next, ↓after_fault, ↓after_refused, ↓after_ite] | split | with_reducible refine (core_granger _ _ _ _ _ (fun _ => ?_)).trans ?_)
theorem core_clearWord (s : State) (mask : BitVec 64) : core (clearWord s mask) = core s := by
  unfold clearWord
  repeat' (first | simp only [↓snd_ite, ↓core_mk, ↓core_eta, ↓core_ite, ite_self, implies_true, ↓core_foldl] | split | with_reducible refine (core_forNat _ _ _ fun k x => ?_).trans ?_ | with_reducible refine (core_foldl _ _ _ fun x a => ?_).trans ?_)
theorem core_clearFirst (s : State) : core (clearFirst s) = core s := by
  unfold clearFirst
  repeat' (first | simp only [↓snd_ite, ↓core_mk, ↓core_eta, ↓core_ite, ite_self, implies_true] | split)
theorem core_clearHistory (s : State) : core (clearHistory s) = core s := by
  unfold clearHistory
  repeat' (first | simp only [↓snd_ite, ↓core_mk, ↓core_eta, ↓core_ite, ite_self, implies_true] | split)
theorem core_clearReply (s : State) (r : Req) : core (clearReply s r) = core s := by
  unfold clearReply
  repeat' (first | simp only [↓snd_ite, ↓core_mk, ↓core_eta, ↓core_ite, ite_self, implies_true, ↓core_replyOk] | split)
theorem core_execFaultClear (r : Req) (mask : BitVec 64) (s : State) : core (after s (execFaultClear r mask s)) = core s := by
  unfold execFaultClear
  repeat' (first | simp only [↓snd_ite, ↓core_mk, ↓core_eta, ↓core_ite, ite_self, implies_true, ↓core_clearReply, ↓core_clearWord, ↓core_granger, ↓after_next, ↓after_fault, ↓after_refused, ↓after_ite] | split | with_reducible refine (core_granger _ _ _ _ _ (fun _ => ?_)).trans ?_)
theorem core_execFaultClearFirst (r : Req) (mask : BitVec 64) (history : Bool) (s : State) : core (after s (execFaultClearFirst r mask history s)) = core s := by
  unfold execFaultClearFirst
  repeat' (first | simp only [↓snd_ite, ↓core_mk, ↓core_eta, ↓core_ite, ite_self, implies_true, ↓core_clearFirst, ↓core_clearHistory, ↓core_clearReply, ↓core_clearWord, ↓core_granger, ↓after_next, ↓after_fault, ↓after_refused, ↓after_ite] | split | with_reducible refine (core_granger _ _ _ _ _ (fun _ => ?_)).trans ?_)
theorem core_execFaultClearHistory (r : Req) (mask : BitVec 64) (s : State) : core (after s (execFaultClearHistory r mask s)) = core s := by
  unfold execFaultClearHistory
  repeat' (first | simp only [↓snd_ite, ↓core_mk, ↓core_eta, ↓core_ite, ite_self, implies_true, ↓core_clearHistory, ↓core_clearReply, ↓core_clearWord, ↓core_granger, ↓after_next, ↓after_fault, ↓after_refused, ↓after_ite] | split | with_reducible refine (core_granger _ _ _ _ _ (fun _ => ?_)).trans ?_)
theorem core_abortAct (s : State) (a : Act) : core (abortAct s a) = core s := by
  unfold abortAct
  repeat' (first | simp only [↓snd_ite, ↓core_mk, ↓core_eta, ↓core_ite, ite_self, implies_true, ↓core_markFence, ↓core_unisolate] | split)
theorem core_faultLeave (s : State) (new : Mode) : core (faultLeave s new) = core s := by
  unfold faultLeave
  repeat' (first | simp only [↓snd_ite, ↓core_mk, ↓core_eta, ↓core_ite, ite_self, implies_true, ↓core_foldl, ↓core_abortAct] | split | with_reducible refine (core_forNat _ _ _ fun k x => ?_).trans ?_ | with_reducible refine (core_foldl _ _ _ fun x a => ?_).trans ?_)
theorem core_faultHeld (s : State) : core (faultHeld s) = core s := by
  unfold faultHeld
  repeat' (first | simp only [↓snd_ite, ↓core_mk, ↓core_eta, ↓core_ite, ite_self, implies_true] | split)
theorem core_faultStart (s : State) : core (faultStart s) = core s := by
  unfold faultStart
  repeat' (first | simp only [↓snd_ite, ↓core_mk, ↓core_eta, ↓core_ite, ite_self, implies_true] | split)

/-! ## Barns -/

theorem core_setBarn (s : State) (w : Barn) (x : BarnRec) : core (setBarn s w x) = core s := by
  unfold setBarn
  repeat' (first | simp only [↓snd_ite, ↓core_mk, ↓core_eta, ↓core_ite, ite_self, implies_true] | split)
theorem core_latchOwner (s : State) (w : Barn) : core (latchOwner s w) = core s := by
  unfold latchOwner
  repeat' (first | simp only [↓snd_ite, ↓core_mk, ↓core_eta, ↓core_ite, ite_self, implies_true] | split)
theorem core_haspBeat (s : State) : core (haspBeat s) = core s := by
  unfold haspBeat
  repeat' (first | simp only [↓snd_ite, ↓core_mk, ↓core_eta, ↓core_ite, ite_self, implies_true, ↓core_latchOwner, ↓core_levelBegin, ↓core_levelEnd] | split)
theorem core_closeAll (s : State) (op status : Nat) : core (closeAll s op status) = core s := by
  unfold closeAll
  repeat' (first | simp only [↓snd_ite, ↓core_mk, ↓core_eta, ↓core_ite, ite_self, implies_true, ↓core_foldl, ↓core_closeCmd] | split | with_reducible refine (core_forNat _ _ _ fun k x => ?_).trans ?_ | with_reducible refine (core_foldl _ _ _ fun x a => ?_).trans ?_)
theorem core_startResync (s : State) : core (startResync s) = core s := by
  unfold startResync
  repeat' (first | simp only [↓snd_ite, ↓core_mk, ↓core_eta, ↓core_ite, ite_self, implies_true] | split)
theorem core_abandonResync (s : State) (status : Nat) : core (abandonResync s status) = core s := by
  unfold abandonResync
  repeat' (first | simp only [↓snd_ite, ↓core_mk, ↓core_eta, ↓core_ite, ite_self, implies_true, ↓core_closeAll, ↓core_count, ↓core_raise] | split)
theorem core_enterLockstep (s : State) : core (enterLockstep s) = core s := by
  unfold enterLockstep
  repeat' (first | simp only [↓snd_ite, ↓core_mk, ↓core_eta, ↓core_ite, ite_self, implies_true] | split)
theorem core_execResyncSnapshot (s : State) : core (after s (execResyncSnapshot s)) = core s := by
  unfold execResyncSnapshot
  repeat' (first | simp only [↓snd_ite, ↓core_mk, ↓core_eta, ↓core_ite, ite_self, implies_true, ↓after_next, ↓after_fault, ↓after_refused, ↓after_ite] | split)
theorem core_execResyncJournal (signatureOk : Bool) (s : State) : core (after s (execResyncJournal signatureOk s)) = core s := by
  unfold execResyncJournal
  repeat' (first | simp only [↓snd_ite, ↓core_mk, ↓core_eta, ↓core_ite, ite_self, implies_true, ↓core_abandonResync, ↓core_count, ↓after_next, ↓after_fault, ↓after_refused, ↓after_ite] | split)
theorem core_execResyncJoin (signatureOk : Bool) (s : State) : core (after s (execResyncJoin signatureOk s)) = core s := by
  unfold execResyncJoin
  repeat' (first | simp only [↓snd_ite, ↓core_mk, ↓core_eta, ↓core_ite, ite_self, implies_true, ↓core_closeAll, ↓core_count, ↓core_enterLockstep, ↓core_startResync, ↓after_next, ↓after_fault, ↓after_refused, ↓after_ite] | split)
theorem core_execResyncAbandon (s : State) : core (after s (execResyncAbandon s)) = core s := by
  unfold execResyncAbandon
  repeat' (first | simp only [↓snd_ite, ↓core_mk, ↓core_eta, ↓core_ite, ite_self, implies_true, ↓core_abandonResync, ↓after_next, ↓after_fault, ↓after_refused, ↓after_ite] | split)
theorem core_execBarnResync (r : Req) (s : State) : core (after s (execBarnResync r s)) = core s := by
  unfold execBarnResync
  repeat' (first | simp only [↓snd_ite, ↓core_mk, ↓core_eta, ↓core_ite, ite_self, implies_true, ↓core_granger, ↓core_opening, ↓core_replyBusy, ↓core_replyDenied, ↓core_replyOk, ↓core_startResync, ↓after_next, ↓after_fault, ↓after_refused, ↓after_ite] | split | with_reducible refine (core_granger _ _ _ _ _ (fun _ => ?_)).trans ?_ | with_reducible refine (core_opening _ _ _ _ _ (fun _ => ?_)).trans ?_)
theorem core_silence (s : State) (t : Takeover) : core (silence s t) = core s := by
  unfold silence
  repeat' (first | simp only [↓snd_ite, ↓core_mk, ↓core_eta, ↓core_ite, ite_self, implies_true, ↓core_forNat, ↓core_setLane] | split | with_reducible refine (core_forNat _ _ _ fun k x => ?_).trans ?_ | with_reducible refine (core_foldl _ _ _ fun x a => ?_).trans ?_)
theorem core_endSuspension (s : State) : core (endSuspension s) = core s := by
  unfold endSuspension
  repeat' (first | simp only [↓snd_ite, ↓core_mk, ↓core_eta, ↓core_ite, ite_self, implies_true] | split)
theorem core_cancelUpgrade (s : State) : core (cancelUpgrade s) = core s := by
  unfold cancelUpgrade
  repeat' (first | simp only [↓snd_ite, ↓core_mk, ↓core_eta, ↓core_ite, ite_self, implies_true, ↓core_cancelCouch, ↓core_endSuspension] | split)
theorem core_reloadStandby (s : State) : core (reloadStandby s) = core s := by
  unfold reloadStandby
  repeat' (first | simp only [↓snd_ite, ↓core_mk, ↓core_eta, ↓core_ite, ite_self, implies_true, ↓core_setBarn, ↓core_startResync] | split)
theorem core_failUpgrade (s : State) : core (failUpgrade s) = core s := by
  unfold failUpgrade
  repeat' (first | simp only [↓snd_ite, ↓core_mk, ↓core_eta, ↓core_ite, ite_self, implies_true, ↓core_cancelCouch, ↓core_endSuspension, ↓core_reloadStandby] | split)
theorem core_doubleFault (s : State) : core (doubleFault s) = core s := by
  unfold doubleFault
  repeat' (first | simp only [↓snd_ite, ↓core_mk, ↓core_eta, ↓core_ite, ite_self, implies_true, ↓core_abandonResync, ↓core_cancelUpgrade, ↓core_causeRecovery, ↓core_raise, ↓core_recoveryFail, ↓core_silence] | split)
theorem core_mismatch (s : State) (kind : Nat) (alarm : Option Barn) : core (mismatch s kind alarm) = core s := by
  unfold mismatch
  repeat' (first | simp only [↓snd_ite, ↓core_mk, ↓core_eta, ↓core_ite, ite_self, implies_true, ↓core_silence] | split)
theorem core_execLockstepMismatch (kind : BitVec 4) (s : State) : core (after s (execLockstepMismatch kind s)) = core s := by
  unfold execLockstepMismatch
  repeat' (first | simp only [↓snd_ite, ↓core_mk, ↓core_eta, ↓core_ite, ite_self, implies_true, ↓core_mismatch, ↓after_next, ↓after_fault, ↓after_refused, ↓after_ite] | split)
theorem core_failStandby (s : State) : core (failStandby s) = core s := by
  unfold failStandby
  repeat' (first | simp only [↓snd_ite, ↓core_mk, ↓core_eta, ↓core_ite, ite_self, implies_true, ↓core_abandonResync, ↓core_cancelUpgrade, ↓core_raise, ↓core_setBarn] | split)
theorem core_noteAlarm (s : State) (t : Takeover) (w : Barn) : core (noteAlarm s t w) = core s := by
  unfold noteAlarm
  repeat' (first | simp only [↓snd_ite, ↓core_mk, ↓core_eta, ↓core_ite, ite_self, implies_true] | split)
theorem core_execBarnAlarm (w : Barn) (s : State) : core (after s (execBarnAlarm w s)) = core s := by
  unfold execBarnAlarm
  repeat' (first | simp only [↓snd_ite, ↓core_mk, ↓core_eta, ↓core_ite, ite_self, implies_true, ↓core_doubleFault, ↓core_failStandby, ↓core_mismatch, ↓core_noteAlarm, ↓after_next, ↓after_fault, ↓after_refused, ↓after_ite] | split)
theorem core_execBarnSelftestStart (s : State) : core (after s (execBarnSelftestStart s)) = core s := by
  unfold execBarnSelftestStart
  repeat' (first | simp only [↓snd_ite, ↓core_mk, ↓core_eta, ↓core_ite, ite_self, implies_true, ↓after_next, ↓after_fault, ↓after_refused, ↓after_ite] | split)
theorem core_recordTest (s : State) (w : Barn) (bitsOff : Nat) (ok : Bool) : core (recordTest s w bitsOff ok) = core s := by
  unfold recordTest
  repeat' (first | simp only [↓snd_ite, ↓core_mk, ↓core_eta, ↓core_ite, ite_self, implies_true, ↓core_setBarn] | split)
theorem core_pauseResets (s : State) (n : Nat) : core (pauseResets s n) = core s := by
  unfold pauseResets
  repeat' (first | simp only [↓snd_ite, ↓core_mk, ↓core_eta, ↓core_ite, ite_self, implies_true] | split)
theorem core_resumeStream (s : State) (t : Takeover) : core (resumeStream s t) = core s := by
  unfold resumeStream
  repeat' (first | simp only [↓snd_ite, ↓core_mk, ↓core_eta, ↓core_ite, ite_self, implies_true, ↓core_closeAll, ↓core_ownerRewind, ↓core_pauseCredit, ↓core_pauseResets, ↓core_pauseTraining, ↓core_resumeMarker] | split)
theorem core_giveHasp (s : State) (w : Barn) (st : Standby) : core (giveHasp s w st) = core s := by
  unfold giveHasp
  repeat' (first | simp only [↓snd_ite, ↓core_mk, ↓core_eta, ↓core_ite, ite_self, implies_true, ↓core_latchOwner] | split)
theorem core_verdict (s : State) (t : Takeover) (bitsA bitsB : Nat) (okA okB : Bool) : core (verdict s t bitsA bitsB okA okB) = core s := by
  unfold verdict
  repeat' (first | simp only [↓snd_ite, ↓core_mk, ↓core_eta, ↓core_ite, ite_self, implies_true, ↓core_count, ↓core_doubleFault, ↓core_giveHasp, ↓core_raise, ↓core_resumeStream, ↓core_startResync] | split)
theorem core_coldRebuild (s : State) : core (coldRebuild s) = core s := by
  unfold coldRebuild
  repeat' (first | simp only [↓snd_ite, ↓core_mk, ↓core_eta, ↓core_ite, ite_self, implies_true, ↓core_dropPoisoned, ↓core_keepUnits, ↓core_mapUnits, ↓core_renegotiateAll] | split)
theorem core_settleStandby (s : State) (o : Barn) : core (settleStandby s o) = core s := by
  unfold settleStandby
  repeat' (first | simp only [↓snd_ite, ↓core_mk, ↓core_eta, ↓core_ite, ite_self, implies_true, ↓core_giveHasp, ↓core_startResync] | split)
theorem core_abortOutstanding (s : State) : core (abortOutstanding s) = core s := by
  unfold abortOutstanding
  repeat' (first | simp only [↓snd_ite, ↓core_mk, ↓core_eta, ↓core_ite, ite_self, implies_true, ↓core_foldl, ↓core_closeCmd] | split | with_reducible refine (core_forNat _ _ _ fun k x => ?_).trans ?_ | with_reducible refine (core_foldl _ _ _ fun x a => ?_).trans ?_)
theorem core_coldVerdict (s : State) (t : Takeover) : core (coldVerdict s t) = core s := by
  unfold coldVerdict
  repeat' (first | simp only [↓snd_ite, ↓core_mk, ↓core_eta, ↓core_ite, ite_self, implies_true, ↓core_abortOutstanding, ↓core_coldRebuild, ↓core_resumeMarker, ↓core_settleStandby] | split)
theorem core_execBarnSelftestVerdict (bitsA bitsB : BitVec 16) (stateA stateB : Bool) (s : State) : core (after s (execBarnSelftestVerdict bitsA bitsB stateA stateB s)) = core s := by
  unfold execBarnSelftestVerdict
  repeat' (first | simp only [↓snd_ite, ↓core_mk, ↓core_eta, ↓core_ite, ite_self, implies_true, ↓core_coldVerdict, ↓core_recordTest, ↓core_verdict, ↓after_next, ↓after_fault, ↓after_refused, ↓after_ite] | split)
theorem core_execBarnRetest (bits' : BitVec 16) (s : State) : core (after s (execBarnRetest bits' s)) = core s := by
  unfold execBarnRetest
  repeat' (first | simp only [↓snd_ite, ↓core_mk, ↓core_eta, ↓core_ite, ite_self, implies_true, ↓core_raise, ↓core_recordTest, ↓core_reloadStandby, ↓core_setBarn, ↓after_next, ↓after_fault, ↓after_refused, ↓after_ite] | split)
theorem core_detachStandby (s : State) : core (detachStandby s) = core s := by
  unfold detachStandby
  repeat' (first | simp only [↓snd_ite, ↓core_mk, ↓core_eta, ↓core_ite, ite_self, implies_true] | split)
theorem core_execCrosslinkLoss (s : State) : core (after s (execCrosslinkLoss s)) = core s := by
  unfold execCrosslinkLoss
  repeat' (first | simp only [↓snd_ite, ↓core_mk, ↓core_eta, ↓core_ite, ite_self, implies_true, ↓core_abandonResync, ↓core_count, ↓core_detachStandby, ↓core_failUpgrade, ↓core_levelBegin, ↓after_next, ↓after_fault, ↓after_refused, ↓after_ite] | split)
theorem core_execCrosslinkRestored (s : State) : core (after s (execCrosslinkRestored s)) = core s := by
  unfold execCrosslinkRestored
  repeat' (first | simp only [↓snd_ite, ↓core_mk, ↓core_eta, ↓core_ite, ite_self, implies_true, ↓core_levelEnd, ↓core_startResync, ↓after_next, ↓after_fault, ↓after_refused, ↓after_ite] | split)
theorem core_changeOwner (s : State) (cause : Nat) (st : Standby) : core (changeOwner s cause st) = core s := by
  unfold changeOwner
  repeat' (first | simp only [↓snd_ite, ↓core_mk, ↓core_eta, ↓core_ite, ite_self, implies_true, ↓core_latchOwner, ↓core_raise, ↓core_resumeMarker] | split)
theorem core_makeSwitch (s : State) : core (makeSwitch s) = core s := by
  unfold makeSwitch
  repeat' (first | simp only [↓snd_ite, ↓core_mk, ↓core_eta, ↓core_ite, ite_self, implies_true, ↓core_changeOwner, ↓core_closeCmd] | split)
theorem core_execBarnSwitch (r : Req) (s : State) : core (after s (execBarnSwitch r s)) = core s := by
  unfold execBarnSwitch
  repeat' (first | simp only [↓snd_ite, ↓core_mk, ↓core_eta, ↓core_ite, ite_self, implies_true, ↓core_granger, ↓core_opening, ↓core_replyBusy, ↓core_replyDenied, ↓after_next, ↓after_fault, ↓after_refused, ↓after_ite] | split | with_reducible refine (core_granger _ _ _ _ _ (fun _ => ?_)).trans ?_ | with_reducible refine (core_opening _ _ _ _ _ (fun _ => ?_)).trans ?_)
theorem core_execRevert (s : State) : core (after s (execRevert s)) = core s := by
  unfold execRevert
  repeat' (first | simp only [↓snd_ite, ↓core_mk, ↓core_eta, ↓core_ite, ite_self, implies_true, ↓core_changeOwner, ↓core_count, ↓after_next, ↓after_fault, ↓after_refused, ↓after_ite] | split)
theorem core_execBarnStatus (r : Req) (s : State) : core (after s (execBarnStatus r s)) = core s := by
  unfold execBarnStatus
  repeat' (first | simp only [↓snd_ite, ↓core_mk, ↓core_eta, ↓core_ite, ite_self, implies_true, ↓core_granger, ↓core_replyOk, ↓after_next, ↓after_fault, ↓after_refused, ↓after_ite] | split | with_reducible refine (core_granger _ _ _ _ _ (fun _ => ?_)).trans ?_)
theorem core_barnsDeckle (s : State) : core (barnsDeckle s) = core s := by
  unfold barnsDeckle
  repeat' (first | simp only [↓snd_ite, ↓core_mk, ↓core_eta, ↓core_ite, ite_self, implies_true, ↓core_makeSwitch] | split)
theorem core_barnsHeld (s : State) : core (barnsHeld s) = core s := by
  unfold barnsHeld
  repeat' (first | simp only [↓snd_ite, ↓core_mk, ↓core_eta, ↓core_ite, ite_self, implies_true, ↓core_levelEnd] | split)
theorem core_retestsAllowed (s : State) : core (retestsAllowed s) = core s := by
  unfold retestsAllowed
  repeat' (first | simp only [↓snd_ite, ↓core_mk, ↓core_eta, ↓core_ite, ite_self, implies_true] | split)
theorem core_barnsStart (s : State) : core (barnsStart s) = core s := by
  unfold barnsStart
  repeat' (first | simp only [↓snd_ite, ↓core_mk, ↓core_eta, ↓core_ite, ite_self, implies_true, ↓core_enterLockstep, ↓core_latchOwner] | split)

/-! ## Steps -/

theorem core_cancelFarRequest (s : State) : core (cancelFarRequest s) = core s := by
  unfold cancelFarRequest
  repeat' (first | simp only [↓snd_ite, ↓core_mk, ↓core_eta, ↓core_ite, ite_self, implies_true, ↓core_closeCmd] | split)
theorem core_stepRecord (s : State) (disp : Beat) : core (stepRecord s disp) = core s := by
  unfold stepRecord
  repeat' (first | simp only [↓snd_ite, ↓core_mk, ↓core_eta, ↓core_ite, ite_self, implies_true, ↓core_cancelCouch, ↓core_cancelFarRequest, ↓core_count, ↓core_epochCause] | split)
theorem core_setEpoch (s : State) (e : Nat) : core (setEpoch s e) = core s := by
  unfold setEpoch
  repeat' (first | simp only [↓snd_ite, ↓core_mk, ↓core_eta, ↓core_ite, ite_self, implies_true, ↓core_stepRecord] | split)

/-! ## Spi -/

theorem core_spiOut (s : State) (bs : List Byte) : core (spiOut s bs) = core s := by
  unfold spiOut
  repeat' (first | simp only [↓snd_ite, ↓core_mk, ↓core_eta, ↓core_ite, ite_self, implies_true] | split)
theorem core_spiError (s : State) : core (spiError s) = core s := by
  unfold spiError
  repeat' (first | simp only [↓snd_ite, ↓core_mk, ↓core_eta, ↓core_ite, ite_self, implies_true, ↓core_count] | split)
theorem core_spiUnknown (s : State) (len : Nat) : core (spiUnknown s len) = core s := by
  unfold spiUnknown
  repeat' (first | simp only [↓snd_ite, ↓core_mk, ↓core_eta, ↓core_ite, ite_self, implies_true, ↓core_spiError, ↓core_spiOut] | split)
theorem core_nlOther (s : State) (len : Nat) : core (nlOther s len) = core s := by
  unfold nlOther
  repeat' (first | simp only [↓snd_ite, ↓core_mk, ↓core_eta, ↓core_ite, ite_self, implies_true, ↓core_count, ↓core_spiOut] | split)
theorem core_spiTransaction (s : State) (len : Nat) (body : State → State) (h_body : ∀ y0, core (body y0) = core y0) : core (after s (spiTransaction s len body)) = core s := by
  unfold spiTransaction
  repeat' (first | simp only [↓snd_ite, ↓core_mk, ↓core_eta, ↓core_ite, ite_self, implies_true, ↓core_atPads, ↓core_nlOther, h_body, ↓after_next, ↓after_fault, ↓after_refused, ↓after_ite] | split)

/-! ## Nl64 -/

theorem core_setNlPair (s : State) (c : Nat) (p : NlPair) : core (setNlPair s c p) = core s := by
  unfold setNlPair
  repeat' (first | simp only [↓snd_ite, ↓core_mk, ↓core_eta, ↓core_ite, ite_self, implies_true] | split)
theorem core_nlStart (s : State) : core (nlStart s) = core s := by
  unfold nlStart
  repeat' (first | simp only [↓snd_ite, ↓core_mk, ↓core_eta, ↓core_ite, ite_self, implies_true, ↓core_setLane] | split)
theorem core_nlEnd (s : State) : core (nlEnd s) = core s := by
  unfold nlEnd
  repeat' (first | simp only [↓snd_ite, ↓core_mk, ↓core_eta, ↓core_ite, ite_self, implies_true, ↓core_setLane] | split)
theorem core_execLegacyEnter (r : Req) (s : State) : core (after s (execLegacyEnter r s)) = core s := by
  unfold execLegacyEnter
  repeat' (first | simp only [↓snd_ite, ↓core_mk, ↓core_eta, ↓core_ite, ite_self, implies_true, ↓core_granger, ↓core_opening, ↓core_replyDenied, ↓after_next, ↓after_fault, ↓after_refused, ↓after_ite] | split | with_reducible refine (core_granger _ _ _ _ _ (fun _ => ?_)).trans ?_ | with_reducible refine (core_opening _ _ _ _ _ (fun _ => ?_)).trans ?_)
theorem core_execLegacyLeave (r : Req) (s : State) : core (after s (execLegacyLeave r s)) = core s := by
  unfold execLegacyLeave
  repeat' (first | simp only [↓snd_ite, ↓core_mk, ↓core_eta, ↓core_ite, ite_self, implies_true, ↓core_granger, ↓core_opening, ↓core_replyOk, ↓after_next, ↓after_fault, ↓after_refused, ↓after_ite] | split | with_reducible refine (core_granger _ _ _ _ _ (fun _ => ?_)).trans ?_ | with_reducible refine (core_opening _ _ _ _ _ (fun _ => ?_)).trans ?_)
theorem core_nlSample (s : State) (c : Nat) (r : NlPair × State) (h : nlSample s c = some r) : core r.2 = core s := by
  have g : core ((nlSample s c).getD (r.1, s)).2 = core s := by
    simp only [nlSample, ↓snd_ite, ↓core_mk, ↓core_eta, ↓core_ite, ite_self, implies_true, ↓getD_ite, Option.getD_some, Option.getD_none] <;>
      repeat' (first | split | simp only [↓snd_ite, ↓core_mk, ↓core_eta, ↓core_ite, ite_self, implies_true, ↓getD_ite, Option.getD_some, Option.getD_none])
  rwa [h] at g
theorem core_execNl64ScanSlot (slot : Fin 25) (s : State) : core (after s (execNl64ScanSlot slot s)) = core s := by
  unfold execNl64ScanSlot
  repeat' (first | simp only [↓snd_ite, ↓core_mk, ↓core_eta, ↓core_ite, ite_self, implies_true, ↓core_nlSample, ↓core_noteDone, ↓after_next, ↓after_fault, ↓after_refused, ↓after_ite] | split)
  exact (core_nlSample _ _ _ ‹_›).trans (core_noteDone ..)
theorem core_nlResult (s : State) (e : Nat × Nat × NlPair) : core (nlResult s e) = core s := by
  unfold nlResult
  repeat' (first | simp only [↓snd_ite, ↓core_mk, ↓core_eta, ↓core_ite, ite_self, implies_true, ↓core_setNlPair] | split)
theorem core_nlResults (s : State) (all : Bool) : core (nlResults s all) = core s := by
  unfold nlResults
  repeat' (first | simp only [↓snd_ite, ↓core_mk, ↓core_eta, ↓core_ite, ite_self, implies_true, ↓core_foldl, ↓core_nlResult] | split | with_reducible refine (core_forNat _ _ _ fun k x => ?_).trans ?_ | with_reducible refine (core_foldl _ _ _ fun x a => ?_).trans ?_)
theorem core_execNl64ResultUpdate (s : State) : core (after s (execNl64ResultUpdate s)) = core s := by
  unfold execNl64ResultUpdate
  repeat' (first | simp only [↓snd_ite, ↓core_mk, ↓core_eta, ↓core_ite, ite_self, implies_true, ↓core_nlResults, ↓after_next, ↓after_fault, ↓after_refused, ↓after_ite] | split)
theorem core_nlFrame (s : State) (ended : Deckle) : core (nlFrame s ended) = core s := by
  unfold nlFrame
  repeat' (first | simp only [↓snd_ite, ↓core_mk, ↓core_eta, ↓core_ite, ite_self, implies_true, ↓core_count, ↓core_nlResults, ↓core_setLane] | split)
theorem core_nlDeckle (s : State) (ended : Deckle) : core (nlDeckle s ended) = core s := by
  unfold nlDeckle
  repeat' (first | simp only [↓snd_ite, ↓core_mk, ↓core_eta, ↓core_ite, ite_self, implies_true, ↓core_closeCmd, ↓core_nlEnd, ↓core_nlFrame, ↓core_nlStart] | split)
theorem core_nlCouch (s : State) (same : Bool) : core (nlCouch s same) = core s := by
  unfold nlCouch
  repeat' (first | simp only [↓snd_ite, ↓core_mk, ↓core_eta, ↓core_ite, ite_self, implies_true, ↓core_negotiate, ↓core_nlEnd] | split)
theorem core_execRegisterPersonalitySwitch (s : State) : core (after s (execRegisterPersonalitySwitch s)) = core s := by
  unfold execRegisterPersonalitySwitch
  repeat' (first | simp only [↓snd_ite, ↓core_mk, ↓core_eta, ↓core_ite, ite_self, implies_true, ↓core_atPads, ↓after_next, ↓after_fault, ↓after_refused, ↓after_ite] | split)
theorem core_nlTransaction (s : State) (body : State → State) (h_body : ∀ y0, core (body y0) = core y0) : core (after s (nlTransaction s body)) = core s := by
  unfold nlTransaction
  repeat' (first | simp only [↓snd_ite, ↓core_mk, ↓core_eta, ↓core_ite, ite_self, implies_true, ↓core_atPads, ↓core_spiUnknown, h_body, ↓after_next, ↓after_fault, ↓after_refused, ↓after_ite] | split)
theorem core_nlReadOut (s : State) (v : Nat) : core (nlReadOut s v) = core s := by
  unfold nlReadOut
  repeat' (first | simp only [↓snd_ite, ↓core_mk, ↓core_eta, ↓core_ite, ite_self, implies_true, ↓core_spiOut] | split)
theorem core_nlReadLow (s : State) : core (nlReadLow s) = core s := by
  unfold nlReadLow
  repeat' (first | simp only [↓snd_ite, ↓core_mk, ↓core_eta, ↓core_ite, ite_self, implies_true, ↓core_count, ↓core_nlReadOut, ↓core_setNlPair] | split)
theorem core_execResultLoRead (s : State) : core (after s (execResultLoRead s)) = core s := by
  unfold execResultLoRead
  repeat' (first | simp only [↓snd_ite, ↓core_mk, ↓core_eta, ↓core_ite, ite_self, implies_true, ↓core_nlReadLow, ↓core_nlTransaction, ↓after_next, ↓after_fault, ↓after_refused, ↓after_ite] | split | with_reducible refine (core_nlTransaction _ _ (fun _ => ?_)).trans ?_)
theorem core_nlAdvance (s : State) : core (nlAdvance s) = core s := by
  unfold nlAdvance
  repeat' (first | simp only [↓snd_ite, ↓core_mk, ↓core_eta, ↓core_ite, ite_self, implies_true] | split)
theorem core_nlReadHigh (s : State) : core (nlReadHigh s) = core s := by
  unfold nlReadHigh
  repeat' (first | simp only [↓snd_ite, ↓core_mk, ↓core_eta, ↓core_ite, ite_self, implies_true, ↓core_nlAdvance, ↓core_nlReadOut] | split)
theorem core_execResultHiRead (s : State) : core (after s (execResultHiRead s)) = core s := by
  unfold execResultHiRead
  repeat' (first | simp only [↓snd_ite, ↓core_mk, ↓core_eta, ↓core_ite, ite_self, implies_true, ↓core_nlReadHigh, ↓core_nlTransaction, ↓after_next, ↓after_fault, ↓after_refused, ↓after_ite] | split | with_reducible refine (core_nlTransaction _ _ (fun _ => ?_)).trans ?_)
theorem core_nlRead (s : State) (addr : Nat) : core (nlRead s addr) = core s := by
  unfold nlRead
  repeat' (first | simp only [↓snd_ite, ↓core_mk, ↓core_eta, ↓core_ite, ite_self, implies_true, ↓core_nlReadHigh, ↓core_nlReadLow, ↓core_nlReadOut] | split)
theorem core_nlWriteOut (s : State) : core (nlWriteOut s) = core s := by
  unfold nlWriteOut
  repeat' (first | simp only [↓snd_ite, ↓core_mk, ↓core_eta, ↓core_ite, ite_self, implies_true, ↓core_spiOut] | split)
theorem core_nlPoint (s : State) (v : Nat) : core (nlPoint s v) = core s := by
  unfold nlPoint
  repeat' (first | simp only [↓snd_ite, ↓core_mk, ↓core_eta, ↓core_ite, ite_self, implies_true, ↓core_nlWriteOut] | split)
theorem core_execNlPointerWrite (v : BitVec 16) (s : State) : core (after s (execNlPointerWrite v s)) = core s := by
  unfold execNlPointerWrite
  repeat' (first | simp only [↓snd_ite, ↓core_mk, ↓core_eta, ↓core_ite, ite_self, implies_true, ↓core_nlPoint, ↓core_nlTransaction, ↓after_next, ↓after_fault, ↓after_refused, ↓after_ite] | split | with_reducible refine (core_nlTransaction _ _ (fun _ => ?_)).trans ?_)
theorem core_execNlRegisterWrite (addr : BitVec 7) (v : BitVec 16) (s : State) : core (after s (execNlRegisterWrite addr v s)) = core s := by
  unfold execNlRegisterWrite
  repeat' (first | simp only [↓snd_ite, ↓core_mk, ↓core_eta, ↓core_ite, ite_self, implies_true, ↓core_count, ↓core_nlPoint, ↓core_nlTransaction, ↓core_nlWriteOut, ↓after_next, ↓after_fault, ↓after_refused, ↓after_ite] | split | with_reducible refine (core_nlTransaction _ _ (fun _ => ?_)).trans ?_)

end Sys2Proof.Laws
end

