-- ==== Sys2Proof/Laws/CoreModes.lean ====
section
/-!
SUPPORT. What the operations leave as it was: the queue, the TAP's instruction, the Seed Store banks and the working registers
(`core`), or all but the registers (its first part): moulds, clocks, modes, START-UP and power.
-/
open Sys2Proof Sys2Proof.Machine
namespace Sys2Proof.Laws
set_option linter.all false

/-! ## Mould -/

theorem core_execMouldInfo (r : Req) (s : State) : core (after s (execMouldInfo r s)) = core s := by
  unfold execMouldInfo
  repeat' (first | simp only [↓snd_ite, ↓core_mk, ↓core_eta, ↓core_ite, ite_self, implies_true, ↓core_granger, ↓core_replyOk, ↓after_next, ↓after_fault, ↓after_refused, ↓after_ite] | split | with_reducible refine (core_granger _ _ _ _ _ (fun _ => ?_)).trans ?_)
theorem core_shadowEmpty (s : State) : core (shadowEmpty s) = core s := by
  unfold shadowEmpty
  repeat' (first | simp only [↓snd_ite, ↓core_mk, ↓core_eta, ↓core_ite, ite_self, implies_true] | split)
theorem core_stagingHeld (s : State) (r : Req) (op : Nat) (first : Bool) (k : State → State) (h_k : ∀ y0, core (k y0) = core y0) : core (stagingHeld s r op first k) = core s := by
  unfold stagingHeld
  repeat' (first | simp only [↓snd_ite, ↓core_mk, ↓core_eta, ↓core_ite, ite_self, implies_true, ↓core_reply, ↓core_replyBusy, ↓core_replyDenied, h_k] | split)
theorem core_restaged (s : State) (c : Copy) (st : Staging) : core (restaged s c st) = core s := by
  unfold restaged
  repeat' (first | simp only [↓snd_ite, ↓core_mk, ↓core_eta, ↓core_ite, ite_self, implies_true] | split)
theorem core_autoCheck (s : State) : core (autoCheck s) = core s := by
  unfold autoCheck
  repeat' (first | simp only [↓snd_ite, ↓core_mk, ↓core_eta, ↓core_ite, ite_self, implies_true] | split)
theorem core_stageBytes (s : State) (r : Req) (first : Bool) (offset : Nat) (bytes : List Byte) : core (stageBytes s r first offset bytes) = core s := by
  unfold stageBytes
  repeat' (first | simp only [↓snd_ite, ↓core_mk, ↓core_eta, ↓core_ite, ite_self, implies_true, ↓core_autoCheck, ↓core_replyBad, ↓core_replyOk, ↓core_restaged, ↓core_stagingHeld] | split | with_reducible refine (core_stagingHeld _ _ _ _ _ (fun _ => ?_)).trans ?_)
theorem core_execStageMould (r : Req) (offset : BitVec 20) (bytes : List Byte) (s : State) : core (after s (execStageMould r offset bytes s)) = core s := by
  unfold execStageMould
  repeat' (first | simp only [↓snd_ite, ↓core_mk, ↓core_eta, ↓core_ite, ite_self, implies_true, ↓core_granger, ↓core_stageBytes, ↓after_next, ↓after_fault, ↓after_refused, ↓after_ite] | split | with_reducible refine (core_granger _ _ _ _ _ (fun _ => ?_)).trans ?_)
theorem core_execStageMouldFirst (r : Req) (offset : BitVec 20) (bytes : List Byte) (s : State) : core (after s (execStageMouldFirst r offset bytes s)) = core s := by
  unfold execStageMouldFirst
  repeat' (first | simp only [↓snd_ite, ↓core_mk, ↓core_eta, ↓core_ite, ite_self, implies_true, ↓core_granger, ↓core_stageBytes, ↓after_next, ↓after_fault, ↓after_refused, ↓after_ite] | split | with_reducible refine (core_granger _ _ _ _ _ (fun _ => ?_)).trans ?_)
theorem core_execStagePatch (r : Req) (edits : List Edit) (s : State) : core (after s (execStagePatch r edits s)) = core s := by
  unfold execStagePatch
  repeat' (first | simp only [↓snd_ite, ↓core_mk, ↓core_eta, ↓core_ite, ite_self, implies_true, ↓core_autoCheck, ↓core_granger, ↓core_replyBad, ↓core_replyOk, ↓core_restaged, ↓core_stagingHeld, ↓after_next, ↓after_fault, ↓after_refused, ↓after_ite] | split | with_reducible refine (core_granger _ _ _ _ _ (fun _ => ?_)).trans ?_ | with_reducible refine (core_stagingHeld _ _ _ _ _ (fun _ => ?_)).trans ?_)
theorem core_execStagePatchFirst (r : Req) (digest : List Byte) (edits : List Edit) (s : State) : core (after s (execStagePatchFirst r digest edits s)) = core s := by
  unfold execStagePatchFirst
  repeat' (first | simp only [↓snd_ite, ↓core_mk, ↓core_eta, ↓core_ite, ite_self, implies_true, ↓core_autoCheck, ↓core_granger, ↓core_reply, ↓core_replyBad, ↓core_replyOk, ↓core_restaged, ↓core_stagingHeld, ↓after_next, ↓after_fault, ↓after_refused, ↓after_ite] | split | with_reducible refine (core_granger _ _ _ _ _ (fun _ => ?_)).trans ?_ | with_reducible refine (core_stagingHeld _ _ _ _ _ (fun _ => ?_)).trans ?_)
theorem core_execDiscardStaged (r : Req) (s : State) : core (after s (execDiscardStaged r s)) = core s := by
  unfold execDiscardStaged
  repeat' (first | simp only [↓snd_ite, ↓core_mk, ↓core_eta, ↓core_ite, ite_self, implies_true, ↓core_endSuspension, ↓core_failCouch, ↓core_granger, ↓core_replyBusy, ↓core_replyOk, ↓core_shadowEmpty, ↓after_next, ↓after_fault, ↓after_refused, ↓after_ite] | split | with_reducible refine (core_granger _ _ _ _ _ (fun _ => ?_)).trans ?_)
theorem core_execCheckStaged (r : Req) (s : State) : core (after s (execCheckStaged r s)) = core s := by
  unfold execCheckStaged
  repeat' (first | simp only [↓snd_ite, ↓core_mk, ↓core_eta, ↓core_ite, ite_self, implies_true, ↓core_granger, ↓core_opening, ↓core_reply, ↓core_replyBusy, ↓after_next, ↓after_fault, ↓after_refused, ↓after_ite] | split | with_reducible refine (core_granger _ _ _ _ _ (fun _ => ?_)).trans ?_ | with_reducible refine (core_opening _ _ _ _ _ (fun _ => ?_)).trans ?_)
theorem core_execMouldCheckComplete (s : State) : core (after s (execMouldCheckComplete s)) = core s := by
  unfold execMouldCheckComplete
  repeat' (first | simp only [↓snd_ite, ↓core_mk, ↓core_eta, ↓core_ite, ite_self, implies_true, ↓core_closeCmd, ↓after_next, ↓after_fault, ↓after_refused, ↓after_ite] | split)
theorem core_dropCheck (s : State) : core (dropCheck s) = core s := by
  unfold dropCheck
  repeat' (first | simp only [↓snd_ite, ↓core_mk, ↓core_eta, ↓core_ite, ite_self, implies_true] | split)
theorem core_couchHeld (s : State) (r : Req) (k : State → State) (h_k : ∀ y0, core (k y0) = core y0) : core (couchHeld s r k) = core s := by
  unfold couchHeld
  repeat' (first | simp only [↓snd_ite, ↓core_mk, ↓core_eta, ↓core_ite, ite_self, implies_true, ↓core_reply, ↓core_replyBusy, ↓core_replyDenied, h_k] | split)
theorem core_setCouch (s : State) (c : Couch) : core (setCouch s c) = core s := by
  unfold setCouch
  repeat' (first | simp only [↓snd_ite, ↓core_mk, ↓core_eta, ↓core_ite, ite_self, implies_true] | split)
theorem core_execCouchImmediate (r : Req) (s : State) : core (after s (execCouchImmediate r s)) = core s := by
  unfold execCouchImmediate
  repeat' (first | simp only [↓snd_ite, ↓core_mk, ↓core_eta, ↓core_ite, ite_self, implies_true, ↓core_couchHeld, ↓core_granger, ↓core_opening, ↓core_setCouch, ↓after_next, ↓after_fault, ↓after_refused, ↓after_ite] | split | with_reducible refine (core_granger _ _ _ _ _ (fun _ => ?_)).trans ?_ | with_reducible refine (core_opening _ _ _ _ _ (fun _ => ?_)).trans ?_ | with_reducible refine (core_couchHeld _ _ _ (fun _ => ?_)).trans ?_)
theorem core_execCouchAtDeckle (r : Req) (d : Deckle) (s : State) : core (after s (execCouchAtDeckle r d s)) = core s := by
  unfold execCouchAtDeckle
  repeat' (first | simp only [↓snd_ite, ↓core_mk, ↓core_eta, ↓core_ite, ite_self, implies_true, ↓core_couchHeld, ↓core_granger, ↓core_reply, ↓core_replyBad, ↓core_setCouch, ↓after_next, ↓after_fault, ↓after_refused, ↓after_ite] | split | with_reducible refine (core_granger _ _ _ _ _ (fun _ => ?_)).trans ?_ | with_reducible refine (core_couchHeld _ _ _ (fun _ => ?_)).trans ?_)
theorem core_execCouchAtPtpTime (r : Req) (secs : BitVec 48) (ns : BitVec 32) (s : State) : core (after s (execCouchAtPtpTime r secs ns s)) = core s := by
  unfold execCouchAtPtpTime
  repeat' (first | simp only [↓snd_ite, ↓core_mk, ↓core_eta, ↓core_ite, ite_self, implies_true, ↓core_couchHeld, ↓core_granger, ↓core_reply, ↓core_replyBad, ↓core_replyDenied, ↓core_setCouch, ↓after_next, ↓after_fault, ↓after_refused, ↓after_ite] | split | with_reducible refine (core_granger _ _ _ _ _ (fun _ => ?_)).trans ?_ | with_reducible refine (core_couchHeld _ _ _ (fun _ => ?_)).trans ?_)
theorem core_newMarks (s : State) : core (newMarks s) = core s := by
  unfold newMarks
  repeat' (first | simp only [↓snd_ite, ↓core_mk, ↓core_eta, ↓core_ite, ite_self, implies_true] | split)
theorem base_blocksTake (s : State) (old : PMap Nat) : (core (blocksTake s old)).1 = (core s).1 := by
  unfold blocksTake
  repeat' (first | simp only [↓base_eta, ↓base_ite, ↓base_forNat, ↓base_foldl, ↓snd_ite, ↓core_mk, ↓core_eta, ↓core_ite, ite_self, implies_true, ↓core_forNat, ↓core_calDrop, ↓core_closeGap, ↓core_monCouch, ↓core_newMarks, ↓core_refreshChannel, ↓core_replanLane, ↓base_refreshTiming] | split | with_reducible refine (base_forNat _ _ _ fun k x => ?_).trans ?_ | with_reducible refine (base_foldl _ _ _ fun x a => ?_).trans ?_ | with_reducible refine (base_granger _ _ _ _ _ fun _ => ?_).trans ?_)
theorem core_swapCopies (s : State) : core (swapCopies s) = core s := by
  unfold swapCopies
  repeat' (first | simp only [↓snd_ite, ↓core_mk, ↓core_eta, ↓core_ite, ite_self, implies_true] | split)
theorem core_controlCouch (s : State) : core (controlCouch s) = core s := by
  unfold controlCouch
  repeat' (first | simp only [↓snd_ite, ↓core_mk, ↓core_eta, ↓core_ite, ite_self, implies_true, ↓core_pushSheaf] | split)
theorem base_takeMould (s : State) : (core (takeMould s)).1 = (core s).1 := by
  unfold takeMould
  repeat' (first | simp only [↓base_eta, ↓base_ite, ↓base_forNat, ↓base_foldl, ↓snd_ite, ↓core_mk, ↓core_eta, ↓core_ite, ite_self, implies_true, ↓core_controlCouch, ↓core_nlCouch, ↓core_setEpoch, ↓core_swapCopies, ↓core_variantAtBoundary, ↓base_blocksTake] | split | with_reducible refine (base_forNat _ _ _ fun k x => ?_).trans ?_ | with_reducible refine (base_foldl _ _ _ fun x a => ?_).trans ?_ | with_reducible refine (base_granger _ _ _ _ _ fun _ => ?_).trans ?_)
theorem core_upgradeHasp (s : State) : core (upgradeHasp s) = core s := by
  unfold upgradeHasp
  repeat' (first | simp only [↓snd_ite, ↓core_mk, ↓core_eta, ↓core_ite, ite_self, implies_true, ↓core_changeOwner, ↓core_setBarn] | split)
theorem base_applyCouch (s : State) (c : Couch) (late : Bool) : (core (applyCouch s c late)).1 = (core s).1 := by
  unfold applyCouch
  repeat' (first | simp only [↓base_eta, ↓base_ite, ↓base_forNat, ↓base_foldl, ↓snd_ite, ↓core_mk, ↓core_eta, ↓core_ite, ite_self, implies_true, ↓core_couchMessage, ↓core_count, ↓core_endCouch, ↓core_endSuspension, ↓core_failCouch, ↓core_reloadStandby, ↓core_upgradeHasp, ↓base_takeMould] | split | with_reducible refine (base_forNat _ _ _ fun k x => ?_).trans ?_ | with_reducible refine (base_foldl _ _ _ fun x a => ?_).trans ?_ | with_reducible refine (base_granger _ _ _ _ _ fun _ => ?_).trans ?_)
theorem base_settleCouch (s : State) (c : Couch) (late : Bool) : (core (settleCouch s c late)).1 = (core s).1 := by
  unfold settleCouch
  repeat' (first | simp only [↓base_eta, ↓base_ite, ↓base_forNat, ↓base_foldl, ↓snd_ite, ↓core_mk, ↓core_eta, ↓core_ite, ite_self, implies_true, ↓core_failUpgrade, ↓base_applyCouch] | split | with_reducible refine (base_forNat _ _ _ fun k x => ?_).trans ?_ | with_reducible refine (base_foldl _ _ _ fun x a => ?_).trans ?_ | with_reducible refine (base_granger _ _ _ _ _ fun _ => ?_).trans ?_)
theorem base_execCouchBeat (s : State) : (core (after s (execCouchBeat s))).1 = (core s).1 := by
  unfold execCouchBeat
  repeat' (first | simp only [↓base_eta, ↓base_ite, ↓base_forNat, ↓base_foldl, ↓snd_ite, ↓core_mk, ↓core_eta, ↓core_ite, ite_self, implies_true, ↓core_makeSwitch, ↓after_next, ↓after_fault, ↓after_refused, ↓after_ite, ↓base_settleCouch] | split | with_reducible refine (base_forNat _ _ _ fun k x => ?_).trans ?_ | with_reducible refine (base_foldl _ _ _ fun x a => ?_).trans ?_ | with_reducible refine (base_granger _ _ _ _ _ fun _ => ?_).trans ?_)
theorem core_passPhase (s : State) (c : Couch) : core (passPhase s c) = core s := by
  unfold passPhase
  repeat' (first | simp only [↓snd_ite, ↓core_mk, ↓core_eta, ↓core_ite, ite_self, implies_true] | split)
theorem core_detachForUpgrade (s : State) (c : Couch) : core (detachForUpgrade s c) = core s := by
  unfold detachForUpgrade
  repeat' (first | simp only [↓snd_ite, ↓core_mk, ↓core_eta, ↓core_ite, ite_self, implies_true, ↓core_passPhase, ↓core_setBarn] | split)
theorem core_execUpgradeDetach (ok : Bool) (s : State) : core (after s (execUpgradeDetach ok s)) = core s := by
  unfold execUpgradeDetach
  repeat' (first | simp only [↓snd_ite, ↓core_mk, ↓core_eta, ↓core_ite, ite_self, implies_true, ↓core_detachForUpgrade, ↓core_failUpgrade, ↓core_passPhase, ↓core_setBarn, ↓after_next, ↓after_fault, ↓after_refused, ↓after_ite] | split)
theorem core_execUpgradeRejoin (ok : Bool) (s : State) : core (after s (execUpgradeRejoin ok s)) = core s := by
  unfold execUpgradeRejoin
  repeat' (first | simp only [↓snd_ite, ↓core_mk, ↓core_eta, ↓core_ite, ite_self, implies_true, ↓core_closeAll, ↓core_endSuspension, ↓core_enterLockstep, ↓core_raise, ↓after_next, ↓after_fault, ↓after_refused, ↓after_ite] | split)
theorem core_keySet (s : State) (r : Req) (i : Instr) (body : State → State) (h_body : ∀ y0, core (body y0) = core y0) : core (after s (keySet s r i body)) = core s := by
  unfold keySet
  repeat' (first | simp only [↓snd_ite, ↓core_mk, ↓core_eta, ↓core_ite, ite_self, implies_true, ↓core_granger, ↓core_replyNotInMode, h_body, ↓after_next, ↓after_fault, ↓after_refused, ↓after_ite] | split | with_reducible refine (core_granger _ _ _ _ _ (fun _ => ?_)).trans ?_)
theorem core_keyWrite (s : State) (r : Req) (inst : Nat) (value : BitVec 64) : core (keyWrite s r inst value) = core s := by
  unfold keyWrite
  repeat' (first | simp only [↓snd_ite, ↓core_mk, ↓core_eta, ↓core_ite, ite_self, implies_true, ↓core_reply, ↓core_replyBad, ↓core_replyDenied] | split)
theorem core_execMdKeyWrite (r : Req) (inst : BitVec 9) (value : BitVec 64) (s : State) : core (after s (execMdKeyWrite r inst value s)) = core s := by
  unfold execMdKeyWrite
  repeat' (first | simp only [↓snd_ite, ↓core_mk, ↓core_eta, ↓core_ite, ite_self, implies_true, ↓core_keySet, ↓core_keyWrite, ↓after_next, ↓after_fault, ↓after_refused, ↓after_ite] | split | with_reducible refine (core_keySet _ _ _ _ (fun _ => ?_)).trans ?_)
theorem core_keyReply (s : State) (r : Req) : core (keyReply s r) = core s := by
  unfold keyReply
  repeat' (first | simp only [↓snd_ite, ↓core_mk, ↓core_eta, ↓core_ite, ite_self, implies_true, ↓core_reply] | split)
theorem core_setRequire (s : State) (v : Bool) (t : State) (h : setRequire s v = some t) : core t = core s := by
  have g : core ((setRequire s v).getD s) = core s := by
    simp only [setRequire, ↓snd_ite, ↓core_mk, ↓core_eta, ↓core_ite, ite_self, implies_true, ↓getD_ite, Option.getD_some, Option.getD_none] <;>
      repeat' (first | split | simp only [↓snd_ite, ↓core_mk, ↓core_eta, ↓core_ite, ite_self, implies_true, ↓getD_ite, Option.getD_some, Option.getD_none])
  rwa [h] at g
theorem core_keyLock (s : State) (r : Req) (require : Bool) : core (keyLock s r require) = core s := by
  unfold keyLock
  repeat' (first | simp only [↓snd_ite, ↓core_mk, ↓core_eta, ↓core_ite, ite_self, implies_true, ↓core_keyReply, ↓core_replyDenied, ↓core_setRequire] | split)
  exact core_setRequire _ _ _ ‹_›
theorem core_keyRequire (s : State) (r : Req) (value : Bool) : core (keyRequire s r value) = core s := by
  unfold keyRequire
  repeat' (first | simp only [↓snd_ite, ↓core_mk, ↓core_eta, ↓core_ite, ite_self, implies_true, ↓core_keyReply, ↓core_replyDenied, ↓core_setRequire] | split)
  exact core_setRequire _ _ _ ‹_›
theorem core_execKeyLock (r : Req) (require : Bool) (s : State) : core (after s (execKeyLock r require s)) = core s := by
  unfold execKeyLock
  repeat' (first | simp only [↓snd_ite, ↓core_mk, ↓core_eta, ↓core_ite, ite_self, implies_true, ↓core_keyLock, ↓core_keySet, ↓after_next, ↓after_fault, ↓after_refused, ↓after_ite] | split | with_reducible refine (core_keySet _ _ _ _ (fun _ => ?_)).trans ?_)
theorem core_execKeyRequire (r : Req) (value : Bool) (s : State) : core (after s (execKeyRequire r value s)) = core s := by
  unfold execKeyRequire
  repeat' (first | simp only [↓snd_ite, ↓core_mk, ↓core_eta, ↓core_ite, ite_self, implies_true, ↓core_keyRequire, ↓core_keySet, ↓after_next, ↓after_fault, ↓after_refused, ↓after_ite] | split | with_reducible refine (core_keySet _ _ _ _ (fun _ => ?_)).trans ?_)
theorem base_writeMoulded (s : State) (a : Attr) (inst v : Nat) : (core (writeMoulded s a inst v)).1 = (core s).1 := by
  unfold writeMoulded
  repeat' (first | simp only [↓base_eta, ↓base_ite, ↓base_forNat, ↓base_foldl, ↓snd_ite, ↓core_mk, ↓core_eta, ↓core_ite, ite_self, implies_true, ↓base_setReg] | split | with_reducible refine (base_forNat _ _ _ fun k x => ?_).trans ?_ | with_reducible refine (base_foldl _ _ _ fun x a => ?_).trans ?_ | with_reducible refine (base_granger _ _ _ _ _ fun _ => ?_).trans ?_)

/-! ## Clocks -/

theorem core_execCorePllFastStart (s : State) : core (after s (execCorePllFastStart s)) = core s := by
  unfold execCorePllFastStart
  repeat' (first | simp only [↓snd_ite, ↓core_mk, ↓core_eta, ↓core_ite, ite_self, implies_true, ↓core_count, ↓core_countMax, ↓core_levelEnd, ↓after_next, ↓after_fault, ↓after_refused, ↓after_ite] | split)
theorem core_execCorePllStop (s : State) : core (after s (execCorePllStop s)) = core s := by
  unfold execCorePllStop
  repeat' (first | simp only [↓snd_ite, ↓core_mk, ↓core_eta, ↓core_ite, ite_self, implies_true, ↓after_next, ↓after_fault, ↓after_refused, ↓after_ite] | split)
theorem core_stopStooks (s : State) : core (stopStooks s) = core s := by
  unfold stopStooks
  repeat' (first | simp only [↓snd_ite, ↓core_mk, ↓core_eta, ↓core_ite, ite_self, implies_true, ↓core_forNat, ↓core_setStook] | split | with_reducible refine (core_forNat _ _ _ fun k x => ?_).trans ?_ | with_reducible refine (core_foldl _ _ _ fun x a => ?_).trans ?_)
theorem core_execCorePllLockLoss (s : State) : core (after s (execCorePllLockLoss s)) = core s := by
  unfold execCorePllLockLoss
  repeat' (first | simp only [↓snd_ite, ↓core_mk, ↓core_eta, ↓core_ite, ite_self, implies_true, ↓core_levelBegin, ↓core_stopStooks, ↓after_next, ↓after_fault, ↓after_refused, ↓after_ite] | split)
theorem core_setLc (s : State) (p : Nat) (run lock idle : Bool) : core (setLc s p run lock idle) = core s := by
  unfold setLc
  repeat' (first | simp only [↓snd_ite, ↓core_mk, ↓core_eta, ↓core_ite, ite_self, implies_true] | split)
theorem core_lcDeckle (s : State) (p : Nat) : core (lcDeckle s p) = core s := by
  unfold lcDeckle
  repeat' (first | simp only [↓snd_ite, ↓core_mk, ↓core_eta, ↓core_ite, ite_self, implies_true, ↓core_levelEnd, ↓core_setLc] | split)
theorem core_execLcPllLockLoss (p : Fin 2) (s : State) : core (after s (execLcPllLockLoss p s)) = core s := by
  unfold execLcPllLockLoss
  repeat' (first | simp only [↓snd_ite, ↓core_mk, ↓core_eta, ↓core_ite, ite_self, implies_true, ↓core_forNat, ↓core_failLane, ↓core_levelBegin, ↓core_setDlane, ↓core_setLc, ↓core_variantAtBoundary, ↓after_next, ↓after_fault, ↓after_refused, ↓after_ite] | split | with_reducible refine (core_forNat _ _ _ fun k x => ?_).trans ?_ | with_reducible refine (core_foldl _ _ _ fun x a => ?_).trans ?_)
theorem core_execStookClockStart (st : StookId) (s : State) : core (after s (execStookClockStart st s)) = core s := by
  unfold execStookClockStart
  repeat' (first | simp only [↓snd_ite, ↓core_mk, ↓core_eta, ↓core_ite, ite_self, implies_true, ↓core_count, ↓core_setStook, ↓after_next, ↓after_fault, ↓after_refused, ↓after_ite] | split)
theorem core_execStookSleep (st : StookId) (s : State) : core (after s (execStookSleep st s)) = core s := by
  unfold execStookSleep
  repeat' (first | simp only [↓snd_ite, ↓core_mk, ↓core_eta, ↓core_ite, ite_self, implies_true, ↓core_setStook, ↓after_next, ↓after_fault, ↓after_refused, ↓after_ite] | split)
theorem core_execGranaryInterfaceSleep (s : State) : core (after s (execGranaryInterfaceSleep s)) = core s := by
  unfold execGranaryInterfaceSleep
  repeat' (first | simp only [↓snd_ite, ↓core_mk, ↓core_eta, ↓core_ite, ite_self, implies_true, ↓after_next, ↓after_fault, ↓after_refused, ↓after_ite] | split)
theorem core_clocksBeat (s : State) : core (clocksBeat s) = core s := by
  unfold clocksBeat
  repeat' (first | simp only [↓snd_ite, ↓core_mk, ↓core_eta, ↓core_ite, ite_self, implies_true] | split)
theorem core_stookIdle (s : State) (k : Nat) : core (stookIdle s k) = core s := by
  unfold stookIdle
  repeat' (first | simp only [↓snd_ite, ↓core_mk, ↓core_eta, ↓core_ite, ite_self, implies_true, ↓core_setStook] | split)
theorem core_heldAwake (s : State) : core (heldAwake s) = core s := by
  unfold heldAwake
  repeat' (first | simp only [↓snd_ite, ↓core_mk, ↓core_eta, ↓core_ite, ite_self, implies_true, ↓core_forNat, ↓core_pllRequest, ↓core_setStook] | split | with_reducible refine (core_forNat _ _ _ fun k x => ?_).trans ?_ | with_reducible refine (core_foldl _ _ _ fun x a => ?_).trans ?_)
theorem core_clocksDeckle (s : State) : core (clocksDeckle s) = core s := by
  unfold clocksDeckle
  repeat' (first | simp only [↓snd_ite, ↓core_mk, ↓core_eta, ↓core_ite, ite_self, implies_true, ↓core_forNat, ↓core_clocksBeat, ↓core_count, ↓core_heldAwake, ↓core_lcDeckle, ↓core_stookIdle] | split | with_reducible refine (core_forNat _ _ _ fun k x => ?_).trans ?_ | with_reducible refine (core_foldl _ _ _ fun x a => ?_).trans ?_)
theorem core_clocksAllOn (s : State) : core (clocksAllOn s) = core s := by
  unfold clocksAllOn
  repeat' (first | simp only [↓snd_ite, ↓core_mk, ↓core_eta, ↓core_ite, ite_self, implies_true, ↓core_forNat, ↓core_pllRequest, ↓core_setStook] | split | with_reducible refine (core_forNat _ _ _ fun k x => ?_).trans ?_ | with_reducible refine (core_foldl _ _ _ fun x a => ?_).trans ?_)
theorem core_clocksHeld (s : State) : core (clocksHeld s) = core s := by
  unfold clocksHeld
  repeat' (first | simp only [↓snd_ite, ↓core_mk, ↓core_eta, ↓core_ite, ite_self, implies_true, ↓core_forNat, ↓core_levelEnd, ↓core_setStook] | split | with_reducible refine (core_forNat _ _ _ fun k x => ?_).trans ?_ | with_reducible refine (core_foldl _ _ _ fun x a => ?_).trans ?_)

/-! ## Modes -/

theorem core_abortForMode (s : State) (new : Mode) : core (abortForMode s new) = core s := by
  unfold abortForMode
  repeat' (first | simp only [↓snd_ite, ↓core_mk, ↓core_eta, ↓core_ite, ite_self, implies_true, ↓core_foldl, ↓core_closeCmd] | split | with_reducible refine (core_forNat _ _ _ fun k x => ?_).trans ?_ | with_reducible refine (core_foldl _ _ _ fun x a => ?_).trans ?_)
theorem core_endForMode (s : State) (new : Mode) : core (endForMode s new) = core s := by
  unfold endForMode
  repeat' (first | simp only [↓snd_ite, ↓core_mk, ↓core_eta, ↓core_ite, ite_self, implies_true, ↓core_calLeave, ↓core_dropCommit, ↓core_faultLeave, ↓core_monLeave, ↓core_nlEnd] | split)
theorem core_leaveFor (s : State) (new : Mode) : core (leaveFor s new) = core s := by
  unfold leaveFor
  repeat' (first | simp only [↓snd_ite, ↓core_mk, ↓core_eta, ↓core_ite, ite_self, implies_true, ↓core_abortForMode, ↓core_endForMode] | split)
theorem core_noteMode (s : State) (new : Mode) (cause : Byte) : core (noteMode s new cause) = core s := by
  unfold noteMode
  repeat' (first | simp only [↓snd_ite, ↓core_mk, ↓core_eta, ↓core_ite, ite_self, implies_true, ↓core_count] | split)
theorem core_allBanks (s : State) : core (allBanks s) = core s := by
  unfold allBanks
  repeat' (first | simp only [↓snd_ite, ↓core_mk, ↓core_eta, ↓core_ite, ite_self, implies_true] | split)
theorem core_blocksForMode (s : State) (new : Mode) : core (blocksForMode s new) = core s := by
  unfold blocksForMode
  repeat' (first | simp only [↓snd_ite, ↓core_mk, ↓core_eta, ↓core_ite, ite_self, implies_true, ↓core_forNat, ↓core_allBanks, ↓core_clocksAllOn, ↓core_lanesAllOn, ↓core_setStook] | split | with_reducible refine (core_forNat _ _ _ fun k x => ?_).trans ?_ | with_reducible refine (core_foldl _ _ _ fun x a => ?_).trans ?_)
theorem core_announceMode (s : State) (old : Mode) (requested : Bool) : core (announceMode s old requested) = core s := by
  unfold announceMode
  repeat' (first | simp only [↓snd_ite, ↓core_mk, ↓core_eta, ↓core_ite, ite_self, implies_true, ↓core_controlMode, ↓core_epochCause, ↓core_event] | split)
theorem core_changeMode (s : State) (new : Mode) (cause : Byte) (requested : Bool) : core (changeMode s new cause requested) = core s := by
  unfold changeMode
  repeat' (first | simp only [↓snd_ite, ↓core_mk, ↓core_eta, ↓core_ite, ite_self, implies_true, ↓core_announceMode, ↓core_blocksForMode, ↓core_leaveFor, ↓core_noteMode] | split)
theorem core_lostSheaf (s : State) (x : Sheaf) : core (lostSheaf s x) = core s := by
  unfold lostSheaf
  repeat' (first | simp only [↓snd_ite, ↓core_mk, ↓core_eta, ↓core_ite, ite_self, implies_true, ↓core_lost] | split)
theorem core_loseStook (s : State) (k : Nat) : core (loseStook s k) = core s := by
  unfold loseStook
  repeat' (first | simp only [↓snd_ite, ↓core_mk, ↓core_eta, ↓core_ite, ite_self, implies_true, ↓core_foldl, ↓core_lostSheaf, ↓core_setStook] | split | with_reducible refine (core_forNat _ _ _ fun k x => ?_).trans ?_ | with_reducible refine (core_foldl _ _ _ fun x a => ?_).trans ?_)
theorem core_keepBank0 (s : State) : core (keepBank0 s) = core s := by
  unfold keepBank0
  repeat' (first | simp only [↓snd_ite, ↓core_mk, ↓core_eta, ↓core_ite, ite_self, implies_true, ↓core_forNat, ↓core_foldl, ↓core_dropPoisoned, ↓core_loseStook, ↓core_lost, ↓core_lostSheaf] | split | with_reducible refine (core_forNat _ _ _ fun k x => ?_).trans ?_ | with_reducible refine (core_foldl _ _ _ fun x a => ?_).trans ?_)
theorem core_heldIdle (s : State) : core (heldIdle s) = core s := by
  unfold heldIdle
  repeat' (first | simp only [↓snd_ite, ↓core_mk, ↓core_eta, ↓core_ite, ite_self, implies_true, ↓core_setLane] | split)
theorem core_linksHeld (s : State) : core (linksHeld s) = core s := by
  unfold linksHeld
  repeat' (first | simp only [↓snd_ite, ↓core_mk, ↓core_eta, ↓core_ite, ite_self, implies_true, ↓core_heldIdle] | split)
theorem core_calHeld (s : State) : core (calHeld s) = core s := by
  unfold calHeld
  repeat' (first | simp only [↓snd_ite, ↓core_mk, ↓core_eta, ↓core_ite, ite_self, implies_true, ↓core_dropCommit] | split)
theorem core_mdHeld (s : State) : core (mdHeld s) = core s := by
  unfold mdHeld
  repeat' (first | simp only [↓snd_ite, ↓core_mk, ↓core_eta, ↓core_ite, ite_self, implies_true, ↓core_dropCheck, ↓core_failCouch, ↓core_shadowEmpty] | split)
theorem core_cmdHeld (s : State) : core (cmdHeld s) = core s := by
  unfold cmdHeld
  repeat' (first | simp only [↓snd_ite, ↓core_mk, ↓core_eta, ↓core_ite, ite_self, implies_true] | split)
theorem core_levelsHeld (s : State) : core (levelsHeld s) = core s := by
  unfold levelsHeld
  repeat' (first | simp only [↓snd_ite, ↓core_mk, ↓core_eta, ↓core_ite, ite_self, implies_true] | split)
theorem core_thrHeld (s : State) : core (thrHeld s) = core s := by
  unfold thrHeld
  repeat' (first | simp only [↓snd_ite, ↓core_mk, ↓core_eta, ↓core_ite, ite_self, implies_true] | split)
theorem core_stepsHeld (s : State) : core (stepsHeld s) = core s := by
  unfold stepsHeld
  repeat' (first | simp only [↓snd_ite, ↓core_mk, ↓core_eta, ↓core_ite, ite_self, implies_true] | split)
theorem core_frontHeld (s : State) : core (frontHeld s) = core s := by
  unfold frontHeld
  repeat' (first | simp only [↓snd_ite, ↓core_mk, ↓core_eta, ↓core_ite, ite_self, implies_true, ↓core_foldl, ↓core_calHeld, ↓core_channelHeld, ↓core_keepBank0, ↓core_monHeld] | split | with_reducible refine (core_forNat _ _ _ fun k x => ?_).trans ?_ | with_reducible refine (core_foldl _ _ _ fun x a => ?_).trans ?_)
theorem base_goHeld (s : State) (cause : Byte) : (core (goHeld s cause)).1 = (core s).1 := by
  unfold goHeld
  repeat' (first | simp only [↓base_eta, ↓base_ite, ↓base_forNat, ↓base_foldl, ↓snd_ite, ↓core_mk, ↓core_eta, ↓core_ite, ite_self, implies_true, ↓core_barnsHeld, ↓core_clocksHeld, ↓core_cmdHeld, ↓core_faultHeld, ↓core_frontHeld, ↓core_levelsHeld, ↓core_linksHeld, ↓core_mdHeld, ↓core_nlEnd, ↓core_noteMode, ↓core_stepsHeld, ↓core_thrHeld, ↓base_refreshTiming] | split | with_reducible refine (base_forNat _ _ _ fun k x => ?_).trans ?_ | with_reducible refine (base_foldl _ _ _ fun x a => ?_).trans ?_ | with_reducible refine (base_granger _ _ _ _ _ fun _ => ?_).trans ?_)
theorem base_enterHeld (s : State) (cause : Byte) : (core (enterHeld s cause)).1 = (core s).1 := by
  unfold enterHeld
  repeat' (first | simp only [↓base_eta, ↓base_ite, ↓base_forNat, ↓base_foldl, ↓snd_ite, ↓core_mk, ↓core_eta, ↓core_ite, ite_self, implies_true, ↓base_goHeld] | split | with_reducible refine (base_forNat _ _ _ fun k x => ?_).trans ?_ | with_reducible refine (base_foldl _ _ _ fun x a => ?_).trans ?_ | with_reducible refine (base_granger _ _ _ _ _ fun _ => ?_).trans ?_)
theorem core_displaceRequest (s : State) : core (displaceRequest s) = core s := by
  unfold displaceRequest
  repeat' (first | simp only [↓snd_ite, ↓core_mk, ↓core_eta, ↓core_ite, ite_self, implies_true, ↓core_closeCmd] | split)
theorem base_beginRecovery (s : State) (cause : Byte) (requested : Bool) : (core (beginRecovery s cause requested)).1 = (core s).1 := by
  unfold beginRecovery
  repeat' (first | simp only [↓base_eta, ↓base_ite, ↓base_forNat, ↓base_foldl, ↓snd_ite, ↓core_mk, ↓core_eta, ↓core_ite, ite_self, implies_true, ↓core_changeMode, ↓core_raise, ↓core_retestsAllowed, ↓base_goHeld] | split | with_reducible refine (base_forNat _ _ _ fun k x => ?_).trans ?_ | with_reducible refine (base_foldl _ _ _ fun x a => ?_).trans ?_ | with_reducible refine (base_granger _ _ _ _ _ fun _ => ?_).trans ?_)
theorem base_recoveryNow (s : State) : (core (recoveryNow s)).1 = (core s).1 := by
  unfold recoveryNow
  repeat' (first | simp only [↓base_eta, ↓base_ite, ↓base_forNat, ↓base_foldl, ↓snd_ite, ↓core_mk, ↓core_eta, ↓core_ite, ite_self, implies_true, ↓core_displaceRequest, ↓base_beginRecovery] | split | with_reducible refine (base_forNat _ _ _ fun k x => ?_).trans ?_ | with_reducible refine (base_foldl _ _ _ fun x a => ?_).trans ?_ | with_reducible refine (base_granger _ _ _ _ _ fun _ => ?_).trans ?_)
theorem base_execRecoveryEntry (s : State) : (core (after s (execRecoveryEntry s))).1 = (core s).1 := by
  unfold execRecoveryEntry
  repeat' (first | simp only [↓base_eta, ↓base_ite, ↓base_forNat, ↓base_foldl, ↓snd_ite, ↓core_mk, ↓core_eta, ↓core_ite, ite_self, implies_true, ↓after_next, ↓after_fault, ↓after_refused, ↓after_ite, ↓base_recoveryNow] | split | with_reducible refine (base_forNat _ _ _ fun k x => ?_).trans ?_ | with_reducible refine (base_foldl _ _ _ fun x a => ?_).trans ?_ | with_reducible refine (base_granger _ _ _ _ _ fun _ => ?_).trans ?_)
theorem core_recoverResync (s : State) : core (recoverResync s) = core s := by
  unfold recoverResync
  repeat' (first | simp only [↓snd_ite, ↓core_mk, ↓core_eta, ↓core_ite, ite_self, implies_true, ↓core_settleStandby] | split)
theorem core_recoverCold (s : State) : core (recoverCold s) = core s := by
  unfold recoverCold
  repeat' (first | simp only [↓snd_ite, ↓core_mk, ↓core_eta, ↓core_ite, ite_self, implies_true, ↓core_coldRebuild, ↓core_settleStandby] | split)
theorem core_integrityPassed (s : State) : core (integrityPassed s) = core s := by
  unfold integrityPassed
  repeat' (first | simp only [↓snd_ite, ↓core_mk, ↓core_eta, ↓core_ite, ite_self, implies_true, ↓core_checkRunEnds] | split)
theorem core_execRecoveryStepComplete (ok resync : Bool) (s : State) : core (after s (execRecoveryStepComplete ok resync s)) = core s := by
  unfold execRecoveryStepComplete
  repeat' (first | simp only [↓snd_ite, ↓core_mk, ↓core_eta, ↓core_ite, ite_self, implies_true, ↓core_checkRunFails, ↓core_integrityPassed, ↓core_recoverCold, ↓core_recoverResync, ↓core_recoveryFail, ↓after_next, ↓after_fault, ↓after_refused, ↓after_ite] | split)
theorem core_markPending (s : State) : core (markPending s) = core s := by
  unfold markPending
  repeat' (first | simp only [↓snd_ite, ↓core_mk, ↓core_eta, ↓core_ite, ite_self, implies_true, ↓core_foldl, ↓core_count, ↓core_mapUnits] | split | with_reducible refine (core_forNat _ _ _ fun k x => ?_).trans ?_ | with_reducible refine (core_foldl _ _ _ fun x a => ?_).trans ?_)
theorem base_lateCouch (s : State) : (core (lateCouch s)).1 = (core s).1 := by
  unfold lateCouch
  repeat' (first | simp only [↓base_eta, ↓base_ite, ↓base_forNat, ↓base_foldl, ↓snd_ite, ↓core_mk, ↓core_eta, ↓core_ite, ite_self, implies_true, ↓base_settleCouch] | split | with_reducible refine (base_forNat _ _ _ fun k x => ?_).trans ?_ | with_reducible refine (base_foldl _ _ _ fun x a => ?_).trans ?_ | with_reducible refine (base_granger _ _ _ _ _ fun _ => ?_).trans ?_)
theorem core_resumeRecovery (s : State) (entry : Deckle) (cold : Bool) : core (resumeRecovery s entry cold) = core s := by
  unfold resumeRecovery
  repeat' (first | simp only [↓snd_ite, ↓core_mk, ↓core_eta, ↓core_ite, ite_self, implies_true, ↓core_abortOutstanding, ↓core_enterDue, ↓core_expireUnits, ↓core_markPending, ↓core_ownerRewind, ↓core_pauseCredit, ↓core_resumeMarker] | split)
theorem base_execRecoveryReturn (s : State) : (core (after s (execRecoveryReturn s))).1 = (core s).1 := by
  unfold execRecoveryReturn
  repeat' (first | simp only [↓base_eta, ↓base_ite, ↓base_forNat, ↓base_foldl, ↓snd_ite, ↓core_mk, ↓core_eta, ↓core_ite, ite_self, implies_true, ↓core_changeMode, ↓core_makeSwitch, ↓core_resumeRecovery, ↓after_next, ↓after_fault, ↓after_refused, ↓after_ite, ↓base_lateCouch] | split | with_reducible refine (base_forNat _ _ _ fun k x => ?_).trans ?_ | with_reducible refine (base_foldl _ _ _ fun x a => ?_).trans ?_ | with_reducible refine (base_granger _ _ _ _ _ fun _ => ?_).trans ?_)
theorem core_execRecoveryWindowExpiry (s : State) : core (after s (execRecoveryWindowExpiry s)) = core s := by
  unfold execRecoveryWindowExpiry
  repeat' (first | simp only [↓snd_ite, ↓core_mk, ↓core_eta, ↓core_ite, ite_self, implies_true, ↓after_next, ↓after_fault, ↓after_refused, ↓after_ite] | split)

/-! ## StartUp -/

theorem core_startSeq14 (s : State) : core (startSeq14 s) = core s := by
  unfold startSeq14
  repeat' (first | simp only [↓snd_ite, ↓core_mk, ↓core_eta, ↓core_ite, ite_self, implies_true] | split)
theorem core_clearStaging (s : State) : core (clearStaging s) = core s := by
  unfold clearStaging
  repeat' (first | simp only [↓snd_ite, ↓core_mk, ↓core_eta, ↓core_ite, ite_self, implies_true, ↓core_cancelCouch, ↓core_closeCmd, ↓core_dropCheck, ↓core_shadowEmpty] | split)
theorem core_startSteps (s : State) (port : Option Port) : core (startSteps s port) = core s := by
  unfold startSteps
  repeat' (first | simp only [↓snd_ite, ↓core_mk, ↓core_eta, ↓core_ite, ite_self, implies_true] | split)
theorem core_startBlocks (s : State) : core (startBlocks s) = core s := by
  unfold startBlocks
  repeat' (first | simp only [↓snd_ite, ↓core_mk, ↓core_eta, ↓core_ite, ite_self, implies_true, ↓core_forNat, ↓core_foldl, ↓core_blocksForMode, ↓core_channelRestart, ↓core_faultStart, ↓core_monStart, ↓core_negotiate, ↓core_retestsAllowed] | split | with_reducible refine (core_forNat _ _ _ fun k x => ?_).trans ?_ | with_reducible refine (core_foldl _ _ _ fun x a => ?_).trans ?_)
theorem base_beginStartUp (s : State) (port : Option Port) (requested : Bool) : (core (beginStartUp s port requested)).1 = (core s).1 := by
  unfold beginStartUp
  repeat' (first | simp only [↓base_eta, ↓base_ite, ↓base_forNat, ↓base_foldl, ↓snd_ite, ↓core_mk, ↓core_eta, ↓core_ite, ite_self, implies_true, ↓core_announceMode, ↓core_clearStaging, ↓core_epochCause, ↓core_leaveFor, ↓core_noteMode, ↓core_startBlocks, ↓core_startSeq14, ↓core_startSteps, ↓base_refreshTiming] | split | with_reducible refine (base_forNat _ _ _ fun k x => ?_).trans ?_ | with_reducible refine (base_foldl _ _ _ fun x a => ?_).trans ?_ | with_reducible refine (base_granger _ _ _ _ _ fun _ => ?_).trans ?_)
theorem base_execAutoStart (s : State) : (core (after s (execAutoStart s))).1 = (core s).1 := by
  unfold execAutoStart
  repeat' (first | simp only [↓base_eta, ↓base_ite, ↓base_forNat, ↓base_foldl, ↓snd_ite, ↓core_mk, ↓core_eta, ↓core_ite, ite_self, implies_true, ↓after_next, ↓after_fault, ↓after_refused, ↓after_ite, ↓base_beginStartUp] | split | with_reducible refine (base_forNat _ _ _ fun k x => ?_).trans ?_ | with_reducible refine (base_foldl _ _ _ fun x a => ?_).trans ?_ | with_reducible refine (base_granger _ _ _ _ _ fun _ => ?_).trans ?_)
theorem core_passStep (s : State) (k : Nat) : core (passStep s k) = core s := by
  unfold passStep
  repeat' (first | simp only [↓snd_ite, ↓core_mk, ↓core_eta, ↓core_ite, ite_self, implies_true, ↓core_autoCheck] | split)
theorem core_haltStep (s : State) (k : Nat) : core (haltStep s k) = core s := by
  unfold haltStep
  repeat' (first | simp only [↓snd_ite, ↓core_mk, ↓core_eta, ↓core_ite, ite_self, implies_true] | split)
theorem core_loadBarns (s : State) (mc : Nat × Nat) : core (loadBarns s mc) = core s := by
  unfold loadBarns
  repeat' (first | simp only [↓snd_ite, ↓core_mk, ↓core_eta, ↓core_ite, ite_self, implies_true] | split)
theorem core_step1 (s : State) (ok : Bool) (block : Nat) (boot : List Byte) : core (step1 s ok block boot) = core s := by
  unfold step1
  repeat' (first | simp only [↓snd_ite, ↓core_mk, ↓core_eta, ↓core_ite, ite_self, implies_true, ↓core_haltStep, ↓core_loadBarns, ↓core_passStep, ↓core_raise] | split)
theorem core_step4 (s : State) (ok : Bool) : core (step4 s ok) = core s := by
  unfold step4
  repeat' (first | simp only [↓snd_ite, ↓core_mk, ↓core_eta, ↓core_ite, ite_self, implies_true, ↓core_haltStep, ↓core_passStep, ↓core_seedLoad] | split)
theorem core_mouldLoaded (s : State) (f : Option Broken) : core (mouldLoaded s f) = core s := by
  unfold mouldLoaded
  repeat' (first | simp only [↓snd_ite, ↓core_mk, ↓core_eta, ↓core_ite, ite_self, implies_true, ↓core_haltStep, ↓core_passStep, ↓core_raise] | split)
theorem core_step5 (s : State) (boot : List Byte) : core (step5 s boot) = core s := by
  unfold step5
  repeat' (first | simp only [↓snd_ite, ↓core_mk, ↓core_eta, ↓core_ite, ite_self, implies_true, ↓core_haltStep, ↓core_mouldLoaded, ↓core_passStep, ↓core_raise, ↓core_restaged] | split)
theorem base_step6 (s : State) (ok : Bool) : (core (step6 s ok)).1 = (core s).1 := by
  unfold step6
  repeat' (first | simp only [↓base_eta, ↓base_ite, ↓base_forNat, ↓base_foldl, ↓snd_ite, ↓core_mk, ↓core_eta, ↓core_ite, ite_self, implies_true, ↓core_haltStep, ↓core_loadBarns, ↓core_passStep, ↓core_setCouch, ↓base_applyCouch] | split | with_reducible refine (base_forNat _ _ _ fun k x => ?_).trans ?_ | with_reducible refine (base_foldl _ _ _ fun x a => ?_).trans ?_ | with_reducible refine (base_granger _ _ _ _ _ fun _ => ?_).trans ?_)
theorem core_step7 (s : State) (ok : Bool) (found : List Residual) : core (step7 s ok found) = core s := by
  unfold step7
  repeat' (first | simp only [↓snd_ite, ↓core_mk, ↓core_eta, ↓core_ite, ite_self, implies_true, ↓core_foldl, ↓core_checkRunEnds, ↓core_checkRunFails, ↓core_haltStep, ↓core_passStep, ↓core_raise, ↓core_setQuality] | split | with_reducible refine (core_forNat _ _ _ fun k x => ?_).trans ?_ | with_reducible refine (core_foldl _ _ _ fun x a => ?_).trans ?_)
theorem base_execStartupStepComplete (ok : Bool) (block : BitVec 16) (boot : List Byte) (found : List Residual) (s : State) : (core (after s (execStartupStepComplete ok block boot found s))).1 = (core s).1 := by
  unfold execStartupStepComplete
  repeat' (first | simp only [↓base_eta, ↓base_ite, ↓base_forNat, ↓base_foldl, ↓snd_ite, ↓core_mk, ↓core_eta, ↓core_ite, ite_self, implies_true, ↓core_barnsStart, ↓core_haltStep, ↓core_passStep, ↓core_raise, ↓core_step1, ↓core_step4, ↓core_step5, ↓core_step7, ↓after_next, ↓after_fault, ↓after_refused, ↓after_ite, ↓base_step6] | split | with_reducible refine (base_forNat _ _ _ fun k x => ?_).trans ?_ | with_reducible refine (base_foldl _ _ _ fun x a => ?_).trans ?_ | with_reducible refine (base_granger _ _ _ _ _ fun _ => ?_).trans ?_)
theorem core_execBootStagingTimeout (s : State) : core (after s (execBootStagingTimeout s)) = core s := by
  unfold execBootStagingTimeout
  repeat' (first | simp only [↓snd_ite, ↓core_mk, ↓core_eta, ↓core_ite, ite_self, implies_true, ↓core_haltStep, ↓core_raise, ↓after_next, ↓after_fault, ↓after_refused, ↓after_ite] | split)
theorem core_execStartupStepTimeout (read : BitVec 32) (s : State) : core (after s (execStartupStepTimeout read s)) = core s := by
  unfold execStartupStepTimeout
  repeat' (first | simp only [↓snd_ite, ↓core_mk, ↓core_eta, ↓core_ite, ite_self, implies_true, ↓core_checkRunFails, ↓core_haltStep, ↓after_next, ↓after_fault, ↓after_refused, ↓after_ite] | split)
theorem core_execStartupComplete (s : State) : core (after s (execStartupComplete s)) = core s := by
  unfold execStartupComplete
  repeat' (first | simp only [↓snd_ite, ↓core_mk, ↓core_eta, ↓core_ite, ite_self, implies_true, ↓core_changeMode, ↓after_next, ↓after_fault, ↓after_refused, ↓after_ite] | split)
theorem base_requestNow (s : State) (p : ModePend) : (core (requestNow s p)).1 = (core s).1 := by
  unfold requestNow
  repeat' (first | simp only [↓base_eta, ↓base_ite, ↓base_forNat, ↓base_foldl, ↓snd_ite, ↓core_mk, ↓core_eta, ↓core_ite, ite_self, implies_true, ↓core_changeMode, ↓core_closeCmd, ↓base_beginRecovery, ↓base_beginStartUp, ↓base_goHeld] | split | with_reducible refine (base_forNat _ _ _ fun k x => ?_).trans ?_ | with_reducible refine (base_foldl _ _ _ fun x a => ?_).trans ?_ | with_reducible refine (base_granger _ _ _ _ _ fun _ => ?_).trans ?_)
theorem base_recoveryFailed (s : State) : (core (recoveryFailed s)).1 = (core s).1 := by
  unfold recoveryFailed
  repeat' (first | simp only [↓base_eta, ↓base_ite, ↓base_forNat, ↓base_foldl, ↓snd_ite, ↓core_mk, ↓core_eta, ↓core_ite, ite_self, implies_true, ↓core_raise, ↓base_goHeld] | split | with_reducible refine (base_forNat _ _ _ fun k x => ?_).trans ?_ | with_reducible refine (base_foldl _ _ _ fun x a => ?_).trans ?_ | with_reducible refine (base_granger _ _ _ _ _ fun _ => ?_).trans ?_)
theorem base_chipReset (s : State) : (core (chipReset s)).1 = (core s).1 := by
  unfold chipReset
  repeat' (first | simp only [↓base_eta, ↓base_ite, ↓base_forNat, ↓base_foldl, ↓snd_ite, ↓core_mk, ↓core_eta, ↓core_ite, ite_self, implies_true, ↓base_goHeld] | split | with_reducible refine (base_forNat _ _ _ fun k x => ?_).trans ?_ | with_reducible refine (base_foldl _ _ _ fun x a => ?_).trans ?_ | with_reducible refine (base_granger _ _ _ _ _ fun _ => ?_).trans ?_)
theorem base_execModeTransition (s : State) : (core (after s (execModeTransition s))).1 = (core s).1 := by
  unfold execModeTransition
  repeat' (first | simp only [↓base_eta, ↓base_ite, ↓base_forNat, ↓base_foldl, ↓snd_ite, ↓core_mk, ↓core_eta, ↓core_ite, ite_self, implies_true, ↓core_makeSwitch, ↓after_next, ↓after_fault, ↓after_refused, ↓after_ite, ↓base_beginStartUp, ↓base_chipReset, ↓base_recoveryFailed, ↓base_recoveryNow, ↓base_requestNow] | split | with_reducible refine (base_forNat _ _ _ fun k x => ?_).trans ?_ | with_reducible refine (base_foldl _ _ _ fun x a => ?_).trans ?_ | with_reducible refine (base_granger _ _ _ _ _ fun _ => ?_).trans ?_)
theorem base_execHeldEntry (s : State) : (core (after s (execHeldEntry s))).1 = (core s).1 := by
  unfold execHeldEntry
  repeat' (first | simp only [↓base_eta, ↓base_ite, ↓base_forNat, ↓base_foldl, ↓snd_ite, ↓core_mk, ↓core_eta, ↓core_ite, ite_self, implies_true, ↓after_next, ↓after_fault, ↓after_refused, ↓after_ite, ↓base_chipReset, ↓base_recoveryFailed, ↓base_requestNow] | split | with_reducible refine (base_forNat _ _ _ fun k x => ?_).trans ?_ | with_reducible refine (base_foldl _ _ _ fun x a => ?_).trans ?_ | with_reducible refine (base_granger _ _ _ _ _ fun _ => ?_).trans ?_)
theorem core_heldRequest (s : State) (r : Req) (target : Nat) (at? : Option Deckle) : core (heldRequest s r target at?) = core s := by
  unfold heldRequest
  repeat' (first | simp only [↓snd_ite, ↓core_mk, ↓core_eta, ↓core_ite, ite_self, implies_true, ↓core_replyBad, ↓core_replyBusy, ↓core_replyDenied, ↓core_replyNotInMode, ↓core_replyOk] | split)
theorem core_modeRequest (s : State) (r : Req) (target : Nat) (at? : Option Deckle) : core (modeRequest s r target at?) = core s := by
  unfold modeRequest
  repeat' (first | simp only [↓snd_ite, ↓core_mk, ↓core_eta, ↓core_ite, ite_self, implies_true, ↓core_opening, ↓core_replyBad, ↓core_replyBusy, ↓core_replyNotInMode] | split | with_reducible refine (core_opening _ _ _ _ _ (fun _ => ?_)).trans ?_)
theorem core_execModeRequest (r : Req) (target : BitVec 3) (at? : Option Deckle) (s : State) : core (after s (execModeRequest r target at? s)) = core s := by
  unfold execModeRequest
  repeat' (first | simp only [↓snd_ite, ↓core_mk, ↓core_eta, ↓core_ite, ite_self, implies_true, ↓core_granger, ↓core_heldRequest, ↓core_modeRequest, ↓after_next, ↓after_fault, ↓after_refused, ↓after_ite] | split | with_reducible refine (core_granger _ _ _ _ _ (fun _ => ?_)).trans ?_)

/-! ## Power -/

theorem core_padsFollow (s : State) : core (padsFollow s) = core s := by
  unfold padsFollow
  repeat' (first | simp only [↓snd_ite, ↓core_mk, ↓core_eta, ↓core_ite, ite_self, implies_true, ↓core_heldIdle] | split)
theorem core_countBank0 (s : State) : core (countBank0 s) = core s := by
  unfold countBank0
  repeat' (first | simp only [↓snd_ite, ↓core_mk, ↓core_eta, ↓core_ite, ite_self, implies_true, ↓core_foldl, ↓core_lost] | split | with_reducible refine (core_forNat _ _ _ fun k x => ?_).trans ?_ | with_reducible refine (core_foldl _ _ _ fun x a => ?_).trans ?_)
theorem core_execSupplyGood (sup : Supply) (s : State) : core (after s (execSupplyGood sup s)) = core s := by
  unfold execSupplyGood
  repeat' (first | simp only [↓snd_ite, ↓core_mk, ↓core_eta, ↓core_ite, ite_self, implies_true, ↓core_countBank0, ↓core_padsFollow, ↓after_next, ↓after_fault, ↓after_refused, ↓after_ite] | split)
theorem core_execSupplyFail (sup : Supply) (s : State) : core (after s (execSupplyFail sup s)) = core s := by
  unfold execSupplyFail
  repeat' (first | simp only [↓snd_ite, ↓core_mk, ↓core_eta, ↓core_ite, ite_self, implies_true, ↓core_padsFollow, ↓after_next, ↓after_fault, ↓after_refused, ↓after_ite] | split)
theorem base_withdraw (s : State) : (core (withdraw s)).1 = (core s).1 := by
  unfold withdraw
  repeat' (first | simp only [↓base_eta, ↓base_ite, ↓base_forNat, ↓base_foldl, ↓snd_ite, ↓core_mk, ↓core_eta, ↓core_ite, ite_self, implies_true, ↓base_enterHeld] | split | with_reducible refine (base_forNat _ _ _ fun k x => ?_).trans ?_ | with_reducible refine (base_foldl _ _ _ fun x a => ?_).trans ?_ | with_reducible refine (base_granger _ _ _ _ _ fun _ => ?_).trans ?_)
theorem base_execPowerGoodWithdraw (s : State) : (core (after s (execPowerGoodWithdraw s))).1 = (core s).1 := by
  unfold execPowerGoodWithdraw
  repeat' (first | simp only [↓base_eta, ↓base_ite, ↓base_forNat, ↓base_foldl, ↓snd_ite, ↓core_mk, ↓core_eta, ↓core_ite, ite_self, implies_true, ↓after_next, ↓after_fault, ↓after_refused, ↓after_ite, ↓base_withdraw] | split | with_reducible refine (base_forNat _ _ _ fun k x => ?_).trans ?_ | with_reducible refine (base_foldl _ _ _ fun x a => ?_).trans ?_ | with_reducible refine (base_granger _ _ _ _ _ fun _ => ?_).trans ?_)
theorem base_execVddioLoss (s : State) : (core (after s (execVddioLoss s))).1 = (core s).1 := by
  unfold execVddioLoss
  repeat' (first | simp only [↓base_eta, ↓base_ite, ↓base_forNat, ↓base_foldl, ↓snd_ite, ↓core_mk, ↓core_eta, ↓core_ite, ite_self, implies_true, ↓after_next, ↓after_fault, ↓after_refused, ↓after_ite, ↓base_withdraw] | split | with_reducible refine (base_forNat _ _ _ fun k x => ?_).trans ?_ | with_reducible refine (base_foldl _ _ _ fun x a => ?_).trans ?_ | with_reducible refine (base_granger _ _ _ _ _ fun _ => ?_).trans ?_)
theorem base_execVddMemLoss (s : State) : (core (after s (execVddMemLoss s))).1 = (core s).1 := by
  unfold execVddMemLoss
  repeat' (first | simp only [↓base_eta, ↓base_ite, ↓base_forNat, ↓base_foldl, ↓snd_ite, ↓core_mk, ↓core_eta, ↓core_ite, ite_self, implies_true, ↓after_next, ↓after_fault, ↓after_refused, ↓after_ite, ↓base_withdraw] | split | with_reducible refine (base_forNat _ _ _ fun k x => ?_).trans ?_ | with_reducible refine (base_foldl _ _ _ fun x a => ?_).trans ?_ | with_reducible refine (base_granger _ _ _ _ _ fun _ => ?_).trans ?_)
theorem core_sampleStraps (s : State) (straps : Byte) : core (sampleStraps s straps) = core s := by
  unfold sampleStraps
  repeat' (first | simp only [↓snd_ite, ↓core_mk, ↓core_eta, ↓core_ite, ite_self, implies_true] | split)
theorem core_execPowerGoodAssert (straps : Byte) (s : State) : core (after s (execPowerGoodAssert straps s)) = core s := by
  unfold execPowerGoodAssert
  repeat' (first | simp only [↓snd_ite, ↓core_mk, ↓core_eta, ↓core_ite, ite_self, implies_true, ↓core_sampleStraps, ↓after_next, ↓after_fault, ↓after_refused, ↓after_ite] | split)
theorem base_execResetNLow (s : State) : (core (after s (execResetNLow s))).1 = (core s).1 := by
  unfold execResetNLow
  repeat' (first | simp only [↓base_eta, ↓base_ite, ↓base_forNat, ↓base_foldl, ↓snd_ite, ↓core_mk, ↓core_eta, ↓core_ite, ite_self, implies_true, ↓after_next, ↓after_fault, ↓after_refused, ↓after_ite, ↓base_enterHeld] | split | with_reducible refine (base_forNat _ _ _ fun k x => ?_).trans ?_ | with_reducible refine (base_foldl _ _ _ fun x a => ?_).trans ?_ | with_reducible refine (base_granger _ _ _ _ _ fun _ => ?_).trans ?_)
theorem core_execResetNRise (straps : Byte) (s : State) : core (after s (execResetNRise straps s)) = core s := by
  unfold execResetNRise
  repeat' (first | simp only [↓snd_ite, ↓core_mk, ↓core_eta, ↓core_ite, ite_self, implies_true, ↓core_sampleStraps, ↓after_next, ↓after_fault, ↓after_refused, ↓after_ite] | split)
theorem core_execLanerefReturn (s : State) : core (after s (execLanerefReturn s)) = core s := by
  unfold execLanerefReturn
  repeat' (first | simp only [↓snd_ite, ↓core_mk, ↓core_eta, ↓core_ite, ite_self, implies_true, ↓core_padsFollow, ↓after_next, ↓after_fault, ↓after_refused, ↓after_ite] | split)
theorem core_powerOn_eq (s : State) :
    core (powerOn s) = (((s.pending, .idcode, 2, 1), (s.cal.bank0, s.cal.bank1)), []) := (rfl)

end Sys2Proof.Laws
end

