-- ==== Sys2Proof/Laws/CoreHost.lean ====
section
/-!
SUPPORT. What the operations leave as it was: the queue, the TAP's instruction, the Seed Store banks and the working registers
(`core`), or all but the registers (its first part): test access, attributes, commands, transports, the Granger and the boundaries.
-/
open Sys2Proof Sys2Proof.Machine
namespace Sys2Proof.Laws
set_option linter.all false

/-! ## Tap -/

theorem core_tapDeckle (s : State) : core (tapDeckle s) = core s := by
  unfold tapDeckle
  repeat' (first | simp only [↓snd_ite, ↓core_mk, ↓core_eta, ↓core_ite, ite_self, implies_true] | split)

/-! ## Attrs -/

theorem core_restartMax (s : State) (id : Nat) : core (restartMax s id) = core s := by
  unfold restartMax
  repeat' (first | simp only [↓snd_ite, ↓core_mk, ↓core_eta, ↓core_ite, ite_self, implies_true] | split)
theorem core_afterRead (s : State) (a : Attr) (inst : Nat) : core (afterRead s a inst) = core s := by
  unfold afterRead
  repeat' (first | simp only [↓snd_ite, ↓core_mk, ↓core_eta, ↓core_ite, ite_self, implies_true, ↓core_clearTally, ↓core_restartMax] | split)
theorem core_execGet (r : Req) (id : BitVec 16) (inst : BitVec 9) (s : State) : core (after s (execGet r id inst s)) = core s := by
  unfold execGet
  repeat' (first | simp only [↓snd_ite, ↓core_mk, ↓core_eta, ↓core_ite, ite_self, implies_true, ↓core_afterRead, ↓core_granger, ↓core_reply, ↓core_replyBad, ↓after_next, ↓after_fault, ↓after_refused, ↓after_ite] | split | with_reducible refine (core_granger _ _ _ _ _ (fun _ => ?_)).trans ?_)
theorem core_readBlock (s : State) (r : Req) (op : Nat) (id inst count : Nat) (rcOnly : Bool) (after : State → Attr → Nat → State) (h_after : ∀ y0 y1 y2, core (after y0 y1 y2) = core y0) : core (readBlock s r op id inst count rcOnly after) = core s := by
  unfold readBlock
  repeat' (first | simp only [↓snd_ite, ↓core_mk, ↓core_eta, ↓core_ite, ite_self, implies_true, ↓core_forNat, ↓core_count, ↓core_reply, ↓core_replyBad, h_after] | split | with_reducible refine (core_forNat _ _ _ fun k x => ?_).trans ?_ | with_reducible refine (core_foldl _ _ _ fun x a => ?_).trans ?_)
theorem core_execGetBlock (r : Req) (id : BitVec 16) (inst count : BitVec 9) (s : State) : core (after s (execGetBlock r id inst count s)) = core s := by
  unfold execGetBlock
  repeat' (first | simp only [↓snd_ite, ↓core_mk, ↓core_eta, ↓core_ite, ite_self, implies_true, ↓core_afterRead, ↓core_count, ↓core_granger, ↓core_readBlock, ↓after_next, ↓after_fault, ↓after_refused, ↓after_ite] | split | with_reducible refine (core_granger _ _ _ _ _ (fun _ => ?_)).trans ?_ | with_reducible refine (core_readBlock _ _ _ _ _ _ _ _ (fun _ _ _ => ?_)).trans ?_)
theorem core_execTallyRead (r : Req) (id : BitVec 16) (inst count : BitVec 9) (s : State) : core (after s (execTallyRead r id inst count s)) = core s := by
  unfold execTallyRead
  repeat' (first | simp only [↓snd_ite, ↓core_mk, ↓core_eta, ↓core_ite, ite_self, implies_true, ↓core_afterRead, ↓core_count, ↓core_granger, ↓core_readBlock, ↓after_next, ↓after_fault, ↓after_refused, ↓after_ite] | split | with_reducible refine (core_granger _ _ _ _ _ (fun _ => ?_)).trans ?_ | with_reducible refine (core_readBlock _ _ _ _ _ _ _ _ (fun _ _ _ => ?_)).trans ?_)
theorem core_execTallyPeek (r : Req) (id : BitVec 16) (inst count : BitVec 9) (s : State) : core (after s (execTallyPeek r id inst count s)) = core s := by
  unfold execTallyPeek
  repeat' (first | simp only [↓snd_ite, ↓core_mk, ↓core_eta, ↓core_ite, ite_self, implies_true, ↓core_count, ↓core_granger, ↓core_readBlock, ↓after_next, ↓after_fault, ↓after_refused, ↓after_ite] | split | with_reducible refine (core_granger _ _ _ _ _ (fun _ => ?_)).trans ?_ | with_reducible refine (core_readBlock _ _ _ _ _ _ _ _ (fun _ _ _ => ?_)).trans ?_)
theorem core_execTimeStatus (r : Req) (s : State) : core (after s (execTimeStatus r s)) = core s := by
  unfold execTimeStatus
  repeat' (first | simp only [↓snd_ite, ↓core_mk, ↓core_eta, ↓core_ite, ite_self, implies_true, ↓core_granger, ↓core_replyOk, ↓after_next, ↓after_fault, ↓after_refused, ↓after_ite] | split | with_reducible refine (core_granger _ _ _ _ _ (fun _ => ?_)).trans ?_)
theorem core_execLaneStatus (r : Req) (u : BitVec 2) (s : State) : core (after s (execLaneStatus r u s)) = core s := by
  unfold execLaneStatus
  repeat' (first | simp only [↓snd_ite, ↓core_mk, ↓core_eta, ↓core_ite, ite_self, implies_true, ↓core_granger, ↓core_replyOk, ↓after_next, ↓after_fault, ↓after_refused, ↓after_ite] | split | with_reducible refine (core_granger _ _ _ _ _ (fun _ => ?_)).trans ?_)
theorem core_execGranaryStatus (r : Req) (s : State) : core (after s (execGranaryStatus r s)) = core s := by
  unfold execGranaryStatus
  repeat' (first | simp only [↓snd_ite, ↓core_mk, ↓core_eta, ↓core_ite, ite_self, implies_true, ↓core_granger, ↓core_replyOk, ↓after_next, ↓after_fault, ↓after_refused, ↓after_ite] | split | with_reducible refine (core_granger _ _ _ _ _ (fun _ => ?_)).trans ?_)
theorem core_execScrubStatus (r : Req) (s : State) : core (after s (execScrubStatus r s)) = core s := by
  unfold execScrubStatus
  repeat' (first | simp only [↓snd_ite, ↓core_mk, ↓core_eta, ↓core_ite, ite_self, implies_true, ↓core_granger, ↓core_replyOk, ↓after_next, ↓after_fault, ↓after_refused, ↓after_ite] | split | with_reducible refine (core_granger _ _ _ _ _ (fun _ => ?_)).trans ?_)
theorem base_setEffect (s : State) (id inst old : Nat) : (core (setEffect s id inst old)).1 = (core s).1 := by
  unfold setEffect
  repeat' (first | simp only [↓base_eta, ↓base_ite, ↓base_forNat, ↓base_foldl, ↓snd_ite, ↓core_mk, ↓core_eta, ↓core_ite, ite_self, implies_true, ↓core_clearTarget, ↓core_closeGap, ↓core_kickConverter, ↓core_refreshChannel, ↓core_replanLane, ↓base_refreshTiming] | split | with_reducible refine (base_forNat _ _ _ fun k x => ?_).trans ?_ | with_reducible refine (base_foldl _ _ _ fun x a => ?_).trans ?_ | with_reducible refine (base_granger _ _ _ _ _ fun _ => ?_).trans ?_)
theorem base_setRw (s : State) (r : Req) (a : Attr) (inst v : Nat) : (core (setRw s r a inst v)).1 = (core s).1 := by
  unfold setRw
  repeat' (first | simp only [↓base_eta, ↓base_ite, ↓base_forNat, ↓base_foldl, ↓snd_ite, ↓core_mk, ↓core_eta, ↓core_ite, ite_self, implies_true, ↓core_reply, ↓base_setEffect, ↓base_setReg, ↓base_writeMoulded] | split | with_reducible refine (base_forNat _ _ _ fun k x => ?_).trans ?_ | with_reducible refine (base_foldl _ _ _ fun x a => ?_).trans ?_ | with_reducible refine (base_granger _ _ _ _ _ fun _ => ?_).trans ?_)
theorem base_setAttr (s : State) (r : Req) (a : Attr) (inst v : Nat) : (core (setAttr s r a inst v)).1 = (core s).1 := by
  unfold setAttr
  repeat' (first | simp only [↓base_eta, ↓base_ite, ↓base_forNat, ↓base_foldl, ↓snd_ite, ↓core_mk, ↓core_eta, ↓core_ite, ite_self, implies_true, ↓core_clearWord, ↓core_keyLock, ↓core_keyRequire, ↓core_keyWrite, ↓core_reply, ↓core_replyDenied, ↓core_replyNotInMode, ↓base_setRw] | split | with_reducible refine (base_forNat _ _ _ fun k x => ?_).trans ?_ | with_reducible refine (base_foldl _ _ _ fun x a => ?_).trans ?_ | with_reducible refine (base_granger _ _ _ _ _ fun _ => ?_).trans ?_)
theorem base_execSet (r : Req) (id : BitVec 16) (inst : BitVec 9) (value : List PWord) (s : State) : (core (after s (execSet r id inst value s))).1 = (core s).1 := by
  unfold execSet
  repeat' (first | simp only [↓base_eta, ↓base_ite, ↓base_forNat, ↓base_foldl, ↓snd_ite, ↓core_mk, ↓core_eta, ↓core_ite, ite_self, implies_true, ↓core_granger, ↓core_replyBad, ↓core_replyLength, ↓after_next, ↓after_fault, ↓after_refused, ↓after_ite, ↓base_setAttr] | split | with_reducible refine (base_forNat _ _ _ fun k x => ?_).trans ?_ | with_reducible refine (base_foldl _ _ _ fun x a => ?_).trans ?_ | with_reducible refine (base_granger _ _ _ _ _ fun _ => ?_).trans ?_)

/-! ## Commands -/

theorem core_execNop (r : Req) (s : State) : core (after s (execNop r s)) = core s := by
  unfold execNop
  repeat' (first | simp only [↓snd_ite, ↓core_mk, ↓core_eta, ↓core_ite, ite_self, implies_true, ↓core_granger, ↓core_replyOk, ↓after_next, ↓after_fault, ↓after_refused, ↓after_ite] | split | with_reducible refine (core_granger _ _ _ _ _ (fun _ => ?_)).trans ?_)
theorem core_execEcho (r : Req) (words : List PWord) (s : State) : core (after s (execEcho r words s)) = core s := by
  unfold execEcho
  repeat' (first | simp only [↓snd_ite, ↓core_mk, ↓core_eta, ↓core_ite, ite_self, implies_true, ↓core_granger, ↓core_replyOk, ↓after_next, ↓after_fault, ↓after_refused, ↓after_ite] | split | with_reducible refine (core_granger _ _ _ _ _ (fun _ => ?_)).trans ?_)
theorem core_execIdentify (r : Req) (s : State) : core (after s (execIdentify r s)) = core s := by
  unfold execIdentify
  repeat' (first | simp only [↓snd_ite, ↓core_mk, ↓core_eta, ↓core_ite, ite_self, implies_true, ↓core_granger, ↓core_replyOk, ↓after_next, ↓after_fault, ↓after_refused, ↓after_ite] | split | with_reducible refine (core_granger _ _ _ _ _ (fun _ => ?_)).trans ?_)

/-! ## Frames -/

theorem core_noteBad (s : State) (p : Port) (status h : Nat) : core (noteBad s p status h) = core s := by
  unfold noteBad
  repeat' (first | simp only [↓snd_ite, ↓core_mk, ↓core_eta, ↓core_ite, ite_self, implies_true, ↓core_count] | split)
theorem core_receivePacket (s : State) (p : Port) (size : Nat) (bs : List Byte) : core (receivePacket s p size bs) = core s := by
  unfold receivePacket
  repeat' (first | simp only [↓snd_ite, ↓core_mk, ↓core_eta, ↓core_ite, ite_self, implies_true, ↓core_enqueuePacket, ↓core_noteBad, ↓core_reply] | split)
theorem core_downlanePacket (s : State) (p : Port) (size : Nat) (bs : List Byte) : core (downlanePacket s p size bs) = core s := by
  unfold downlanePacket
  repeat' (first | simp only [↓snd_ite, ↓core_mk, ↓core_eta, ↓core_ite, ite_self, implies_true, ↓core_count, ↓core_receivePacket, ↓core_reply] | split)
theorem core_execCommandFrame (d : DlId) (bytes : List Byte) (s : State) : core (after s (execCommandFrame d bytes s)) = core s := by
  unfold execCommandFrame
  repeat' (first | simp only [↓snd_ite, ↓core_mk, ↓core_eta, ↓core_ite, ite_self, implies_true, ↓core_atPads, ↓core_count, ↓core_dlDiscard, ↓core_downlanePacket, ↓after_next, ↓after_fault, ↓after_refused, ↓after_ite] | split)
theorem core_spiWriteBytes (s : State) (bytes : List Byte) : core (spiWriteBytes s bytes) = core s := by
  unfold spiWriteBytes
  repeat' (first | simp only [↓snd_ite, ↓core_mk, ↓core_eta, ↓core_ite, ite_self, implies_true, ↓core_count, ↓core_receivePacket, ↓core_spiError, ↓core_spiOut] | split)
theorem core_execSpiWrite (bytes : List Byte) (s : State) : core (after s (execSpiWrite bytes s)) = core s := by
  unfold execSpiWrite
  repeat' (first | simp only [↓snd_ite, ↓core_mk, ↓core_eta, ↓core_ite, ite_self, implies_true, ↓core_spiTransaction, ↓core_spiWriteBytes, ↓after_next, ↓after_fault, ↓after_refused, ↓after_ite] | split | with_reducible refine (core_spiTransaction _ _ _ (fun _ => ?_)).trans ?_)
theorem core_popReply (s : State) : core (popReply s) = core s := by
  unfold popReply
  repeat' (first | simp only [↓snd_ite, ↓core_mk, ↓core_eta, ↓core_ite, ite_self, implies_true, ↓core_count] | split)
theorem core_spiReadBytes (s : State) (clocked : Nat) : core (spiReadBytes s clocked) = core s := by
  unfold spiReadBytes
  repeat' (first | simp only [↓snd_ite, ↓core_mk, ↓core_eta, ↓core_ite, ite_self, implies_true, ↓core_popReply, ↓core_spiOut] | split)
theorem core_execSpiRead (clocked : Nat) (s : State) : core (after s (execSpiRead clocked s)) = core s := by
  unfold execSpiRead
  repeat' (first | simp only [↓snd_ite, ↓core_mk, ↓core_eta, ↓core_ite, ite_self, implies_true, ↓core_spiReadBytes, ↓core_spiTransaction, ↓after_next, ↓after_fault, ↓after_refused, ↓after_ite] | split | with_reducible refine (core_spiTransaction _ _ _ (fun _ => ?_)).trans ?_)
theorem core_execSpiStatus (s : State) : core (after s (execSpiStatus s)) = core s := by
  unfold execSpiStatus
  repeat' (first | simp only [↓snd_ite, ↓core_mk, ↓core_eta, ↓core_ite, ite_self, implies_true, ↓core_spiOut, ↓core_spiTransaction, ↓after_next, ↓after_fault, ↓after_refused, ↓after_ite] | split | with_reducible refine (core_spiTransaction _ _ _ (fun _ => ?_)).trans ?_)
theorem core_execSpiUnknownTransaction (first : Byte) (s : State) : core (after s (execSpiUnknownTransaction first s)) = core s := by
  unfold execSpiUnknownTransaction
  repeat' (first | simp only [↓snd_ite, ↓core_mk, ↓core_eta, ↓core_ite, ite_self, implies_true, ↓core_atPads, ↓core_nlRead, ↓core_spiOut, ↓core_spiReadBytes, ↓core_spiTransaction, ↓core_spiUnknown, ↓core_spiWriteBytes, ↓after_next, ↓after_fault, ↓after_refused, ↓after_ite] | split | with_reducible refine (core_spiTransaction _ _ _ (fun _ => ?_)).trans ?_)

/-! ## Granger -/

theorem base_runPacket (i : Instr) (s : State) : (core (after s (runPacket i s))).1 = (core s).1 := by
  unfold runPacket
  repeat' (first | simp only [↓base_eta, ↓base_ite, ↓base_forNat, ↓base_foldl, ↓snd_ite, ↓core_mk, ↓core_eta, ↓core_ite, ite_self, implies_true, ↓core_execBarnResync, ↓core_execBarnStatus, ↓core_execBarnSwitch, ↓core_execCalAbort, ↓core_execCalCommit, ↓core_execCalStartForeground, ↓core_execCalStartGleanChannel, ↓core_execCalStartGleanSweep, ↓core_execCalStatus, ↓core_execCheckStaged, ↓core_execCouchAtDeckle, ↓core_execCouchAtPtpTime, ↓core_execCouchImmediate, ↓core_execDiscardStaged, ↓core_execEcho, ↓core_execErrpinRelease, ↓core_execFaultClear, ↓core_execFaultClearFirst, ↓core_execFaultClearHistory, ↓core_execFaultRead, ↓core_execFence, ↓core_execGet, ↓core_execGetBlock, ↓core_execGranaryStatus, ↓core_execIdentify, ↓core_execInjectConversion, ↓core_execInputPathCheck, ↓core_execKeyLock, ↓core_execKeyRequire, ↓core_execLaneStatus, ↓core_execLegacyEnter, ↓core_execLegacyLeave, ↓core_execMdKeyWrite, ↓core_execModeRequest, ↓core_execMouldInfo, ↓core_execNop, ↓core_execReadMonitor, ↓core_execResetBlock, ↓core_execScrubStatus, ↓core_execSeedRead, ↓core_execStageMould, ↓core_execStageMouldFirst, ↓core_execStagePatch, ↓core_execStagePatchFirst, ↓core_execTallyPeek, ↓core_execTallyRead, ↓core_execTestDacConnect, ↓core_execTestDacRelease, ↓core_execTimeStatus, ↓core_execUnfence, ↓after_next, ↓after_fault, ↓after_refused, ↓after_ite, ↓base_execSet] | split | with_reducible refine (base_forNat _ _ _ fun k x => ?_).trans ?_ | with_reducible refine (base_foldl _ _ _ fun x a => ?_).trans ?_ | with_reducible refine (base_granger _ _ _ _ _ fun _ => ?_).trans ?_)
theorem base_servePacket (p : Packet) (s : State) : (core (after s (servePacket p s))).1 = (core s).1 := by
  unfold servePacket
  repeat' (first | simp only [↓base_eta, ↓base_ite, ↓base_forNat, ↓base_foldl, ↓snd_ite, ↓core_mk, ↓core_eta, ↓core_ite, ite_self, implies_true, ↓core_reply, ↓after_next, ↓after_fault, ↓after_refused, ↓after_ite, ↓base_runPacket] | split | with_reducible refine (base_forNat _ _ _ fun k x => ?_).trans ?_ | with_reducible refine (base_foldl _ _ _ fun x a => ?_).trans ?_ | with_reducible refine (base_granger _ _ _ _ _ fun _ => ?_).trans ?_)
theorem base_takePackets (n : Nat) (s : State) : (core (takePackets n s)).1 = (core s).1 := by
  induction n generalizing s with
  | zero => rfl
  | succ n ih =>
    unfold takePackets
    split
    · rfl
    split
    · rfl
    split
    · rename_i e rest _ _ _ s' h
      have g := base_servePacket e.2.2 { s with cmd := { s.cmd with inq := rest } }
      rw [h, after_next] at g
      rw [ih, g]
      rfl
    · rfl
theorem base_grangerBeat (s : State) : (core (grangerBeat s)).1 = (core s).1 := by
  unfold grangerBeat
  repeat' (first | simp only [↓base_eta, ↓base_ite, ↓base_forNat, ↓base_foldl, ↓snd_ite, ↓core_mk, ↓core_eta, ↓core_ite, ite_self, implies_true, ↓base_takePackets] | split | with_reducible refine (base_forNat _ _ _ fun k x => ?_).trans ?_ | with_reducible refine (base_foldl _ _ _ fun x a => ?_).trans ?_ | with_reducible refine (base_granger _ _ _ _ _ fun _ => ?_).trans ?_)

/-! ## Boundary -/

theorem core_endBeat (s : State) : core (endBeat s) = core s := by
  unfold endBeat
  repeat' (first | simp only [↓snd_ite, ↓core_mk, ↓core_eta, ↓core_ite, ite_self, implies_true, ↓core_clocksBeat, ↓core_granEnd, ↓core_settleRequests, ↓core_settleWord, ↓core_slewBeat] | split)
theorem core_setBeat (s : State) (b : Beat) : core (setBeat s b) = core s := by
  unfold setBeat
  repeat' (first | simp only [↓snd_ite, ↓core_mk, ↓core_eta, ↓core_ite, ite_self, implies_true] | split)
theorem core_startBeat (s : State) : core (startBeat s) = core s := by
  unfold startBeat
  repeat' (first | simp only [↓snd_ite, ↓core_mk, ↓core_eta, ↓core_ite, ite_self, implies_true, ↓core_applyReturns, ↓core_endTrap, ↓core_errAgain, ↓core_granEdge, ↓core_haspBeat, ↓core_promoteAct, ↓core_refillQueues, ↓core_sendInterrupts] | split)
theorem core_phaseDeckle (s : State) : core (phaseDeckle s) = core s := by
  unfold phaseDeckle
  repeat' (first | simp only [↓snd_ite, ↓core_mk, ↓core_eta, ↓core_ite, ite_self, implies_true] | split)
theorem core_replicasDeckle (s : State) (replica : List (StookId × BitVec 32)) : core (replicasDeckle s replica) = core s := by
  unfold replicasDeckle
  repeat' (first | simp only [↓snd_ite, ↓core_mk, ↓core_eta, ↓core_ite, ite_self, implies_true, ↓core_forNat, ↓core_foldl, ↓core_replicaMeasured, ↓core_setStook] | split | with_reducible refine (core_forNat _ _ _ fun k x => ?_).trans ?_ | with_reducible refine (core_foldl _ _ _ fun x a => ?_).trans ?_)
theorem core_errorsDeckle (s : State) (dlErrors : List (DlId × Nat)) : core (errorsDeckle s dlErrors) = core s := by
  unfold errorsDeckle
  repeat' (first | simp only [↓snd_ite, ↓core_mk, ↓core_eta, ↓core_ite, ite_self, implies_true, ↓core_foldl, ↓core_count] | split | with_reducible refine (core_forNat _ _ _ fun k x => ?_).trans ?_ | with_reducible refine (core_foldl _ _ _ fun x a => ?_).trans ?_)
theorem base_disarm (s : State) : (core (disarm s)).1 = (core s).1 := by
  unfold disarm
  repeat' (first | simp only [↓base_eta, ↓base_ite, ↓base_forNat, ↓base_foldl, ↓snd_ite, ↓core_mk, ↓core_eta, ↓core_ite, ite_self, implies_true, ↓base_setReg] | split | with_reducible refine (base_forNat _ _ _ fun k x => ?_).trans ?_ | with_reducible refine (base_foldl _ _ _ fun x a => ?_).trans ?_ | with_reducible refine (base_granger _ _ _ _ _ fun _ => ?_).trans ?_)
theorem core_checkCount (s : State) (d : SyncDue) : core (checkCount s d) = core s := by
  unfold checkCount
  repeat' (first | simp only [↓snd_ite, ↓core_mk, ↓core_eta, ↓core_ite, ite_self, implies_true, ↓core_count, ↓core_raise, ↓core_settleTime, ↓core_syncMismatch] | split)
theorem core_execEpochChange (s : State) : core (after s (execEpochChange s)) = core s := by
  unfold execEpochChange
  repeat' (first | simp only [↓snd_ite, ↓core_mk, ↓core_eta, ↓core_ite, ite_self, implies_true, ↓core_setEpoch, ↓after_next, ↓after_fault, ↓after_refused, ↓after_ite] | split)

end Sys2Proof.Laws
end

