-- ==== Sys2Proof/Laws/Tables.lean ====
section
/-!
SUPPORT. Sparse tables and byte memories: what a read gives after a write, and that every operation keeps the canonical form.
-/
open Sys2Proof Sys2Proof.Machine
namespace Sys2Proof.Laws
variable {α : Type}

theorem pget_nil (d : α) (k : Nat) : pget d [] k = d := rfl
theorem pget_append (d : α) (l m : PMap α) (k : Nat) (h : ∀ e ∈ l, e.1 ≠ k) : pget d (l ++ m) k = pget d m k := by
  induction l with
  | nil => rfl
  | cons e l ih =>
    simp only [List.cons_append, pget]
    rw [if_neg (h e (by simp)), ih fun x hx => h x (by simp [hx])]
/-- An entry that a filter leaves out is not read. -/
theorem pget_filter_keep (d : α) (m : PMap α) (p : Nat × α → Bool) (k : Nat) (h : ∀ v, p (k, v) = true) :
    pget d (m.filter p) k = pget d m k := by
  induction m with
  | nil => rfl
  | cons e m ih =>
    obtain ⟨a, v⟩ := e
    simp only [List.filter_cons, pget]
    split
    · simp only [pget, ih]
    · next hp =>
      rw [ih, if_neg]
      rintro rfl
      exact hp (h v)
theorem pget_filter_drop (d : α) (m : PMap α) (p : Nat × α → Bool) (k : Nat) (h : ∀ v, p (k, v) = false) :
    pget d (m.filter p) k = d := by
  induction m with
  | nil => rfl
  | cons e m ih =>
    obtain ⟨a, v⟩ := e
    simp only [List.filter_cons]
    split
    · next hp =>
      simp only [pget]
      rw [if_neg, ih]
      rintro rfl
      simp [h v] at hp
    · exact ih
@[simp] theorem pget_pdel_same (d : α) (m : PMap α) (k : Nat) : pget d (pdel m k) k = d :=
  pget_filter_drop d m _ k fun _ => by simp
theorem pget_pdel_other (d : α) (m : PMap α) {j k : Nat} (h : j ≠ k) : pget d (pdel m k) j = pget d m j :=
  pget_filter_keep d m _ j fun _ => by simp [h]
@[simp] theorem pget_pins_same (d : α) (m : PMap α) (k : Nat) (v : α) : pget d (pins m k v) k = v := by
  unfold pins
  rw [pget_append _ _ _ _ fun e he => by simp at he; omega]
  simp [pget]
theorem pget_pins_other (d : α) (m : PMap α) {j k : Nat} (v : α) (h : j ≠ k) : pget d (pins m k v) j = pget d m j := by
  unfold pins
  by_cases hj : j < k
  · have h1 : pget d (m.filter (fun e => e.1 < k)) j = pget d m j := pget_filter_keep d m _ j fun _ => by simp [hj]
    rw [← h1]
    generalize hl : m.filter (fun e => e.1 < k) = l
    have h2 : pget d ((k, v) :: m.filter (fun e => k < e.1)) j = d := by
      simp only [pget]
      rw [if_neg (Ne.symm h)]
      exact pget_filter_drop d m _ j fun _ => by simp; omega
    clear hl h1
    induction l with
    | nil => simpa [pget] using h2
    | cons e l ih => simp only [List.cons_append, pget, ih]
  · rw [pget_append _ _ _ _ fun e he => by simp at he; omega]
    simp only [pget]
    rw [if_neg (Ne.symm h)]
    exact pget_filter_keep d m _ j fun _ => by simp; omega
/-- A read after a write to the same key. -/
@[simp] theorem pget_pset_same [DecidableEq α] (d : α) (m : PMap α) (k : Nat) (v : α) : pget d (pset d m k v) k = v := by
  unfold pset
  split
  · next h => simp [h]
  · simp
/-- A write leaves every other key alone. -/
theorem pget_pset_other [DecidableEq α] (d : α) (m : PMap α) {j k : Nat} (v : α) (h : j ≠ k) :
    pget d (pset d m k v) j = pget d m j := by
  unfold pset
  split
  · exact pget_pdel_other d m h
  · exact pget_pins_other d m v h
/-- A read after a write, whichever the key. -/
theorem pget_pset [DecidableEq α] (d : α) (m : PMap α) (j k : Nat) (v : α) :
    pget d (pset d m k v) j = if j = k then v else pget d m j := by
  split
  · next h => subst h; exact pget_pset_same ..
  · next h => exact pget_pset_other d m v h

/-! ## Canonical form -/

theorem pwf_nil [DecidableEq α] (d : α) : PWf d ([] : PMap α) := by simp [PWf]
theorem pwf_filter [DecidableEq α] (d : α) (m : PMap α) (p : Nat × α → Bool) (h : PWf d m) : PWf d (m.filter p) :=
  ⟨h.1.filter p, fun e he => h.2 e (List.mem_of_mem_filter he)⟩
theorem pwf_pins [DecidableEq α] (d : α) (m : PMap α) (k : Nat) (v : α) (hv : v ≠ d) (h : PWf d m) : PWf d (pins m k v) := by
  refine ⟨?_, ?_⟩
  · refine List.pairwise_append.2 ⟨h.1.filter _, List.pairwise_cons.2 ⟨?_, h.1.filter _⟩, ?_⟩
    · intro e he
      simpa using (List.mem_filter.1 he).2
    · intro a ha b hb
      have h1 : a.1 < k := by simpa using (List.mem_filter.1 ha).2
      rcases List.mem_cons.1 hb with rfl | hb
      · exact h1
      · have h2 : k < b.1 := by simpa using (List.mem_filter.1 hb).2
        exact Nat.lt_trans h1 h2
  · intro e he
    rcases List.mem_append.1 he with he | he
    · exact h.2 e (List.mem_of_mem_filter he)
    · rcases List.mem_cons.1 he with rfl | he
      · exact hv
      · exact h.2 e (List.mem_of_mem_filter he)
/-- Every write keeps the canonical form. -/
theorem pwf_pset [DecidableEq α] (d : α) (m : PMap α) (k : Nat) (v : α) (h : PWf d m) : PWf d (pset d m k v) := by
  unfold pset
  split
  · exact pwf_filter d m _ h
  · next hv => exact pwf_pins d m k v hv h
/-- A write of a byte keeps the canonical form of a byte memory. -/
theorem memWf_memWrite (fill : Byte) (m : Memory) (a : Nat) (b : Byte) (h : memWf fill m) : memWf fill (memWrite fill m a b) :=
  pwf_pset fill m a b h
theorem memWf_memWrites (fill : Byte) (m : Memory) (a : Nat) (bs : List Byte) (h : memWf fill m) :
    memWf fill (memWrites fill m a bs) := by
  induction bs generalizing m a with
  | nil => exact h
  | cons b bs ih => exact ih _ _ (memWf_memWrite fill m a b h)
theorem memOf_keys (fill : Byte) (a : Nat) (bs : List Byte) : ∀ e ∈ memOf fill a bs, a ≤ e.1 ∧ e.1 < a + bs.length := by
  induction bs generalizing a with
  | nil => intro e he; cases he
  | cons b bs ih =>
    intro e he
    unfold memOf at he
    simp only [List.length_cons]
    split at he
    · have := ih (a + 1) e he; omega
    · rcases List.mem_cons.1 he with rfl | he
      · simp
      · have := ih (a + 1) e he; omega
/-- A memory made of bytes is in canonical form. -/
theorem memWf_memOf (fill : Byte) (a : Nat) (bs : List Byte) : memWf fill (memOf fill a bs) := by
  induction bs generalizing a with
  | nil => exact pwf_nil fill
  | cons b bs ih =>
    unfold memOf
    split
    · exact ih _
    · next hb =>
      refine ⟨List.pairwise_cons.2 ⟨fun e he => ?_, (ih _).1⟩, fun e he => ?_⟩
      · have := memOf_keys fill (a + 1) bs e he
        simp only
        omega
      · rcases List.mem_cons.1 he with rfl | he
        · exact hb
        · exact (ih (a + 1)).2 e he
/-- A byte read after a byte write. -/
theorem memRead_memWrite (fill : Byte) (m : Memory) (a j : Nat) (b : Byte) :
    memRead fill (memWrite fill m a b) j = if j = a then b else memRead fill m j := pget_pset ..

end Sys2Proof.Laws
end

