-- ==== Sys2Proof/Laws/Keep.lean ====
section
/-!
SUPPORT. What the operations that write the Seed Store banks, or the TAP, leave as it was: `Keep` says that the queue and the TAP's
instruction are as they were and that canonical banks stay canonical.
-/
open Sys2Proof Sys2Proof.Machine
namespace Sys2Proof.Laws
set_option linter.all false

/-- The queue and the TAP's instruction as they were; the Seed Store banks canonical if they were. -/
def Keep (s t : State) : Prop := (core t).1.1 = (core s).1.1 ∧ (s.BanksWf → t.BanksWf)
theorem keep_refl (s : State) : Keep s s := ⟨rfl, id⟩
theorem keep_trans {s t u : State} (h : Keep s t) (g : Keep t u) : Keep s u := ⟨g.1.trans h.1, fun w => g.2 (h.2 w)⟩
theorem keep_base {s t : State} (h : (core t).1 = (core s).1) : Keep s t := by
  refine ⟨congrArg Prod.fst h, fun w => ?_⟩
  have h2 := congrArg Prod.snd h
  have ha : t.cal.bank0 = s.cal.bank0 := congrArg Prod.fst h2
  have hb : t.cal.bank1 = s.cal.bank1 := congrArg Prod.snd h2
  unfold State.BanksWf
  rw [ha, hb]
  exact w
theorem keep_core {s t : State} (h : core t = core s) : Keep s t := keep_base (congrArg Prod.fst h)
/-- What kept states agree on. -/
theorem keep_pending {s t : State} (h : Keep s t) : t.pending = s.pending := congrArg Prod.fst h.1
theorem core_pending {s t : State} (h : core t = core s) : t.pending = s.pending := congrArg (fun x => x.1.1.1) h
theorem core_cfg {s t : State} (h : core t = core s) : t.cfg = s.cfg := congrArg Prod.snd h
theorem core_banks {s t : State} (h : core t = core s) : t.cal.bank0 = s.cal.bank0 ∧ t.cal.bank1 = s.cal.bank1 :=
  ⟨congrArg (fun x => x.1.2.1) h, congrArg (fun x => x.1.2.2) h⟩
theorem keep_tap {s t : State} (h : Keep s t) : t.tap.inst = s.tap.inst ∧ t.tap.code = s.tap.code ∧ t.tap.dr = s.tap.dr :=
  ⟨congrArg (fun x => x.2.1) h.1, congrArg (fun x => x.2.2.1) h.1, congrArg (fun x => x.2.2.2) h.1⟩
theorem tapWf_of_eq {s t : State} (h : t.tap.inst = s.tap.inst ∧ t.tap.code = s.tap.code ∧ t.tap.dr = s.tap.dr)
    (w : s.TapWf) : t.TapWf := by
  unfold State.TapWf
  rw [h.1, h.2.1, h.2.2]
  exact w
/-- A kept state keeps the invariant. -/
theorem keep_inv {s t : State} (h : Keep s t) (w : s.Inv) : t.Inv := ⟨h.2 w.1, tapWf_of_eq (keep_tap h) w.2⟩

/-! ## The Seed Store -/

theorem keep_setBank (s : State) (b : Nat) (m : Memory) (h : memWf 0xFF m) : Keep s (setBank s b m) := by
  unfold setBank
  split
  · exact ⟨rfl, fun w => ⟨h, w.2⟩⟩
  · exact ⟨rfl, fun w => ⟨w.1, h⟩⟩
theorem keep_commitDeckle (s : State) : Keep s (commitDeckle s) := by
  unfold commitDeckle
  split
  · split
    · exact keep_refl s
    · exact keep_trans (keep_core (by rfl)) (keep_setBank _ _ _ (pwf_nil _))
  · exact keep_refl s
theorem keep_seedCommitComplete (s : State) (ok : Bool) : Keep s (after s (execSeedCommitComplete ok s)) := by
  unfold execSeedCommitComplete
  rw [after_next]
  split
  · exact keep_refl s
  split
  · exact keep_refl s
  rename_i c _ _ img _
  have h : Keep s (setBank s c.bank (memOf 0xFF 0 (if ok = true then
      (img ++ toBytes 4 c.seqNo) ++ toBytes 4 (crc32c (img ++ toBytes 4 c.seqNo)) else img))) :=
    keep_setBank _ _ _ (memWf_memOf 0xFF 0 _)
  refine keep_trans h (keep_core ?_)
  dsimp only
  repeat' (first | simp only [↓core_mk, ↓core_eta, ↓core_ite, ite_self, ↓core_setSeedWord, ↓core_raise,
    ↓core_seedReport, ↓core_closeCmd, ↓core_event] | split)

/-! ## Boundaries and beats -/

theorem keep_serviceDeckle (s : State) : Keep s (serviceDeckle s) := by
  unfold serviceDeckle
  have h : Keep s (slewDeckle (commitDeckle (lanesDeckle (granDeckle s)))) :=
    keep_trans (keep_core ((core_lanesDeckle _).trans (core_granDeckle _)))
      (keep_trans (keep_commitDeckle _) (keep_core (core_slewDeckle _)))
  refine keep_trans h (keep_core ?_)
  dsimp only
  simp only [↓core_barnsDeckle, ↓core_releaseFences, ↓core_couchBoundary, ↓core_mk, ↓core_eta]
theorem keep_deckleWork (s : State) (d : Deckle) (rep : List (StookId × BitVec 32)) (errs : List (DlId × Nat)) :
    Keep s (deckleWork s d rep errs) := by
  unfold deckleWork
  dsimp only
  refine keep_trans ?_ (keep_core ((core_tapDeckle _).trans ((core_clocksDeckle _).trans (core_nlDeckle _ _))))
  have h : Keep s (phaseDeckle (timeDeckle (errorsDeckle (replicasDeckle (channelsDeckle s) rep) errs))) := keep_core
    ((core_phaseDeckle _).trans ((core_timeDeckle _).trans ((core_errorsDeckle _ _).trans
      ((core_replicasDeckle _ _).trans (core_channelsDeckle _)))))
  split
  · exact h
  · exact keep_trans h (keep_serviceDeckle _)
theorem keep_nextBeat (s : State) (rep : List (StookId × BitVec 32)) (errs : List (DlId × Nat)) : Keep s (nextBeat s rep errs) := by
  unfold nextBeat
  dsimp only
  have h : Keep s (startBeat (setBeat (endBeat s) (s.tb.beat + 1))) := by
    refine keep_core ?_
    simp only [↓core_startBeat, ↓core_setBeat, ↓core_endBeat]
  refine keep_trans ?_ (keep_base (base_grangerBeat _))
  split
  · exact keep_trans h (keep_deckleWork ..)
  · exact h
theorem keep_passBeats (n : Nat) (rep : List (StookId × BitVec 32)) (errs : List (DlId × Nat)) (s : State) :
    Keep s (passBeats n rep errs s) := by
  induction n generalizing s with
  | zero => exact keep_refl s
  | succ n ih => exact keep_trans (keep_nextBeat s rep errs) (ih _)
theorem keep_tick (s : State) : Keep s (tick s) := by
  unfold tick
  split
  · exact keep_nextBeat ..
  · exact keep_refl s
theorem keep_deckleBoundary (s : State) (rep : List (StookId × BitVec 32)) (errs : List (DlId × Nat)) :
    Keep s (after s (execDeckleBoundary rep errs s)) := by
  unfold execDeckleBoundary
  rw [after_next]
  split
  · exact keep_passBeats ..
  · exact keep_refl s
theorem keep_takeStep (s : State) (b : Beat) : Keep s (takeStep s b) := by
  unfold takeStep
  dsimp only
  split
  · refine keep_trans (keep_core ?_) (keep_deckleWork ..)
    simp only [↓core_settleTime, ↓core_stepRecord, ↓core_mk, ↓core_eta]
  · refine keep_core ?_
    simp only [↓core_couchBoundary, ↓core_settleTime, ↓core_stepRecord, ↓core_mk, ↓core_eta]
theorem keep_loadCount (s : State) (v : Beat) : Keep s (loadCount s v) := by
  unfold loadCount
  split
  · refine keep_trans (keep_core ?_) (keep_takeStep _ _)
    simp only [↓core_mk, ↓core_eta]
  · refine keep_core ?_
    simp only [↓core_mk, ↓core_eta]
theorem keep_syncLoadOrCheck (s : State) : Keep s (after s (execSyncLoadOrCheck s)) := by
  unfold execSyncLoadOrCheck
  rw [after_next]
  split
  · exact keep_refl s
  split
  · exact keep_refl s
  rename_i d rest _ _
  have h : Keep s { s with tb := { s.tb with sync := rest } } := keep_core (by simp only [↓core_mk, ↓core_eta])
  refine keep_trans h ?_
  generalize ({ s with tb := { s.tb with sync := rest } } : State) = u
  dsimp only
  split
  · split
    · exact keep_trans (keep_base (base_disarm _)) (keep_loadCount ..)
    · refine keep_base ?_
      simp only [↓core_raise, ↓core_syncMismatch, ↓base_disarm]
  · exact keep_core (core_checkCount ..)
theorem keep_timeStep (s : State) : Keep s (after s (execTimeStep s)) := by
  unfold execTimeStep
  rw [after_next]
  split
  · split
    · exact keep_loadCount ..
    · exact keep_refl s
  · dsimp only
    split
    · refine keep_trans (keep_core ?_) (keep_takeStep _ _)
      simp only [↓core_mk, ↓core_eta]
    · exact keep_refl s
  · exact keep_refl s

/-! ## Registers across the rows that write a bank -/

theorem cfg_setBank (s : State) (b : Nat) (m : Memory) : (setBank s b m).cfg = s.cfg := by
  unfold setBank; split <;> rfl
theorem cfg_commitDeckle (s : State) : (commitDeckle s).cfg = s.cfg := by
  unfold commitDeckle
  split
  · split
    · rfl
    · exact cfg_setBank ..
  · rfl
theorem cfg_serviceDeckle (s : State) : (serviceDeckle s).cfg = s.cfg := by
  have h : core (serviceDeckle s) = core (commitDeckle (lanesDeckle (granDeckle s))) := by
    unfold serviceDeckle
    dsimp only
    simp only [↓core_barnsDeckle, ↓core_releaseFences, ↓core_couchBoundary, ↓core_slewDeckle, ↓core_mk, ↓core_eta]
  exact (core_cfg h).trans ((cfg_commitDeckle _).trans
    (core_cfg ((core_lanesDeckle _).trans (core_granDeckle _))))
theorem cfg_deckleWork (s : State) (d : Deckle) (rep : List (StookId × BitVec 32)) (errs : List (DlId × Nat)) :
    (deckleWork s d rep errs).cfg = s.cfg := by
  unfold deckleWork
  dsimp only
  refine (core_cfg ((core_tapDeckle _).trans ((core_clocksDeckle _).trans (core_nlDeckle _ _)))).trans ?_
  have h : (phaseDeckle (timeDeckle (errorsDeckle (replicasDeckle (channelsDeckle s) rep) errs))).cfg = s.cfg := core_cfg
    ((core_phaseDeckle _).trans ((core_timeDeckle _).trans ((core_errorsDeckle _ _).trans
      ((core_replicasDeckle _ _).trans (core_channelsDeckle _)))))
  split
  · exact h
  · exact (cfg_serviceDeckle _).trans h
theorem cfg_takeStep (s : State) (b : Beat) : (takeStep s b).cfg = s.cfg := by
  unfold takeStep
  dsimp only
  split
  · refine (cfg_deckleWork ..).trans (core_cfg ?_)
    simp only [↓core_settleTime, ↓core_stepRecord, ↓core_mk, ↓core_eta]
  · refine core_cfg ?_
    simp only [↓core_couchBoundary, ↓core_settleTime, ↓core_stepRecord, ↓core_mk, ↓core_eta]
theorem cfg_loadCount (s : State) (v : Beat) : (loadCount s v).cfg = s.cfg := by
  unfold loadCount
  split
  · refine (cfg_takeStep ..).trans (core_cfg ?_)
    simp only [↓core_mk, ↓core_eta]
  · refine core_cfg ?_
    simp only [↓core_mk, ↓core_eta]
theorem cfg_timeStep (s : State) : (after s (execTimeStep s)).cfg = s.cfg := by
  unfold execTimeStep
  rw [after_next]
  split
  · split
    · exact cfg_loadCount ..
    · rfl
  · dsimp only
    split
    · refine (cfg_takeStep ..).trans (core_cfg ?_)
      simp only [↓core_mk, ↓core_eta]
    · rfl
  · rfl
theorem cfg_seedCommitComplete (s : State) (ok : Bool) : (after s (execSeedCommitComplete ok s)).cfg = s.cfg := by
  unfold execSeedCommitComplete
  rw [after_next]
  split
  · rfl
  split
  · rfl
  rename_i c _ _ img _
  refine (core_cfg (s := setBank s c.bank (memOf 0xFF 0 (if ok = true then
      (img ++ toBytes 4 c.seqNo) ++ toBytes 4 (crc32c (img ++ toBytes 4 c.seqNo)) else img))) ?_).trans (cfg_setBank ..)
  dsimp only
  repeat' (first | simp only [↓core_mk, ↓core_eta, ↓core_ite, ite_self, ↓core_setSeedWord, ↓core_raise,
    ↓core_seedReport, ↓core_closeCmd, ↓core_event] | split)

/-! ## The TAP and power-on -/

/-- A power-on takes IDCODE; the queue and the banks are as they were. -/
theorem powerOn_keeps (s : State) : (after s (execPowerOn s)).pending = s.pending ∧
    (s.Inv → (after s (execPowerOn s)).Inv) := by
  unfold execPowerOn
  rw [after_next]
  split
  · have h : core (heldIdle { powerOn (goHeld s 0x00) with
        pwr := { (powerOn (goHeld s 0x00)).pwr with goodSince := 0 } }) = core (powerOn (goHeld s 0x00)) := by
      simp only [↓core_heldIdle, ↓core_mk, ↓core_eta]
    have g := keep_base (base_goHeld s 0x00)
    have gp : (goHeld s 0x00).pending = s.pending := keep_pending g
    refine ⟨(core_pending h).trans gp, fun w => keep_inv (keep_core h) ⟨?_, ?_⟩⟩
    · exact g.2 w.1
    · exact ⟨rfl, rfl⟩
  · exact ⟨rfl, id⟩
/-- A TAP instruction writes the TAP only. -/
theorem tapLoad_eq (s : State) (i : TapInst) (c : BitVec 6) (d : Nat) :
    tapLoad s i c d = if powered s then { s with tap := { s.tap with inst := i, code := c, dr := d } } else s := (rfl)

end Sys2Proof.Laws
end

