-- ==== Sys2Proof/Laws/Memory.lean ====
section
/-!
SUPPORT. Byte memories that hold a run of bytes: what they read as, and that the image a commit writes is a valid bank.
-/
open Sys2Proof Sys2Proof.Machine
namespace Sys2Proof.Laws
set_option linter.all false

theorem memSpan_memOf (fill : Byte) (bs : List Byte) : ∀ (n a : Nat), n ≤ bs.length →
    memSpan fill n a (memOf fill a bs) = bs.take n := by
  induction bs with
  | nil =>
    intro n a h
    obtain rfl : n = 0 := by simpa using h
    rfl
  | cons b bs ih =>
    intro n a h
    cases n with
    | zero => rw [List.take_zero]; unfold memSpan; rfl
    | succ n =>
      have hn : n ≤ bs.length := by simpa using h
      rw [memOf]
      split
      · next hb =>
        subst hb
        have ih' := ih n (a + 1) hn
        have hk := memOf_keys b (a + 1) bs
        rw [List.take_succ_cons, ← ih']
        cases hl : memOf b (a + 1) bs with
        | nil => rfl
        | cons e rest =>
          obtain ⟨k, v⟩ := e
          have := hk (k, v) (by rw [hl]; exact List.mem_cons_self ..)
          simp only at this
          rw [memSpan, if_neg (by omega)]
      · rw [memSpan, if_pos rfl, List.take_succ_cons, ih n (a + 1) hn]
theorem memOf_filter (fill : Byte) (bs : List Byte) : ∀ (k a : Nat), k ≤ a →
    (memOf fill k bs).filter (fun e => decide (a ≤ e.1)) = memOf fill a (bs.drop (a - k)) := by
  induction bs with
  | nil => intro k a _; simp [memOf]
  | cons b bs ih =>
    intro k a h
    rcases Nat.eq_or_lt_of_le h with rfl | h
    · rw [Nat.sub_self, List.drop_zero]
      exact List.filter_eq_self.2 fun e he => by simpa using (memOf_keys fill k (b :: bs) e he).1
    · obtain ⟨d, hd⟩ : ∃ d, a - k = d + 1 := ⟨a - k - 1, by omega⟩
      have := ih (k + 1) a (by omega)
      rw [show a - (k + 1) = d by omega] at this
      rw [hd, List.drop_succ_cons, ← this, memOf]
      split
      · rfl
      · rw [List.filter_cons_of_neg (by simpa using h)]
/-- A memory that holds bs from 0 on reads as bs. -/
theorem memReads_memOf (fill : Byte) (bs : List Byte) (a n : Nat) (h : a + n ≤ bs.length) :
    memReads fill (memOf fill 0 bs) a n = (bs.drop a).take n := by
  unfold memReads
  rw [memOf_filter fill bs 0 a (Nat.zero_le a), Nat.sub_zero]
  exact memSpan_memOf fill _ n a (by rw [List.length_drop]; omega)

theorem ofBytes_append (a b : List Byte) : ofBytes (a ++ b) = ofBytes a * 256 ^ b.length + ofBytes b := by
  unfold ofBytes
  rw [List.foldl_append]
  generalize a.foldl (fun a b => a * 256 + b.toNat) 0 = x
  induction b using List.reverseRecOn with
  | nil => simp
  | append_singleton b c ih =>
    rw [List.foldl_append, List.foldl_append, ih]
    simp only [List.foldl_cons, List.foldl_nil, List.length_append, List.length_cons, List.length_nil]
    ring
theorem toBytes_length (n v : Nat) : (toBytes n v).length = n := by
  induction n with
  | zero => rfl
  | succ n ih => rw [toBytes, List.length_cons, ih]
/-- n bytes spell a number modulo 256^n. -/
theorem ofBytes_toBytes (n v : Nat) : ofBytes (toBytes n v) = v % 256 ^ n := by
  induction n with
  | zero => rw [Nat.pow_zero, Nat.mod_one]; rfl
  | succ n ih =>
    rw [toBytes, ← List.singleton_append, ofBytes_append, ih, toBytes_length]
    have : ofBytes [BitVec.ofNat 8 (v / 2 ^ (8 * n))] = v / 256 ^ n % 256 := by
      simp [ofBytes, Nat.pow_mul]
    rw [this, Nat.pow_succ, Nat.mod_mul]
    ring
theorem crcStepR_lt {poly : Nat} (hp : poly < 2 ^ 32) (n : Nat) : ∀ r, r < 2 ^ 32 → crcStepR poly n r < 2 ^ 32 := by
  induction n with
  | zero => intro r h; exact h
  | succ n ih =>
    intro r h
    rw [crcStepR]
    refine ih _ ?_
    split
    · exact Nat.xor_lt_two_pow (by omega) hp
    · omega
theorem crcReflected_lt {poly : Nat} (hp : poly < 2 ^ 32) (bs : List Byte) : crcReflected poly bs < 2 ^ 32 := by
  unfold crcReflected
  refine Nat.xor_lt_two_pow ?_ (by decide)
  suffices ∀ r, r < 2 ^ 32 → bs.foldl (fun r b => crcStepR poly 8 (r ^^^ b.toNat)) r < 2 ^ 32 from this _ (by decide)
  induction bs with
  | nil => intro r h; exact h
  | cons b bs ih =>
    intro r h
    exact ih _ (crcStepR_lt hp 8 _ (Nat.xor_lt_two_pow h (by have := b.isLt; omega)))
theorem crc32c_lt (bs : List Byte) : crc32c bs < 2 ^ 32 := crcReflected_lt (by decide) bs
theorem crc32_lt (bs : List Byte) : crc32 bs < 2 ^ 32 := crcReflected_lt (by decide) bs
/-- The bank that a commit writes from a whole image is valid (R294, R295). -/
theorem bankValid_image (img : List Byte) (q : Nat) (h : img.length = 0xFFF8) (hm : ofBytes (img.take 4) = 0x5EED0192)
    (hl : ofBytes ((img.drop 4).take 2) = 1) (hq : q % 2 ^ 32 ≠ 0xFFFFFFFF) :
    bankValid (memOf 0xFF 0 ((img ++ toBytes 4 q) ++ toBytes 4 (crc32c (img ++ toBytes 4 q)))) = true := by
  have l4 := toBytes_length 4 q
  have lc := toBytes_length 4 (crc32c (img ++ toBytes 4 q))
  have hc := crc32c_lt (img ++ toBytes 4 q)
  have lb : (img ++ toBytes 4 q).length = 0xFFFC := by rw [List.length_append, h, l4]
  unfold bankValid bankSeq memNat
  rw [memReads_memOf _ _ _ _ (by simp [h, l4, lc]), memReads_memOf _ _ _ _ (by simp [h, l4, lc]),
    memReads_memOf _ _ _ _ (by simp [h, l4, lc]), memReads_memOf _ _ _ _ (by simp [h, l4, lc]),
    memReads_memOf _ _ _ _ (by simp [h, l4, lc])]
  have e1 : ((img ++ toBytes 4 q ++ toBytes 4 (crc32c (img ++ toBytes 4 q))).drop 0).take 4 = img.take 4 := by
    rw [List.drop_zero, List.append_assoc, List.take_append_of_le_length (by omega)]
  have e2 : ((img ++ toBytes 4 q ++ toBytes 4 (crc32c (img ++ toBytes 4 q))).drop 4).take 2 = (img.drop 4).take 2 := by
    rw [List.append_assoc, List.drop_append_of_le_length (by omega),
      List.take_append_of_le_length (by rw [List.length_drop]; omega)]
  have e3 : ((img ++ toBytes 4 q ++ toBytes 4 (crc32c (img ++ toBytes 4 q))).drop 0xFFF8).take 4 = toBytes 4 q := by
    rw [List.append_assoc, List.drop_append_of_le_length (by omega), List.drop_eq_nil_of_le (by omega), List.nil_append,
      List.take_append_of_le_length (by omega), List.take_of_length_le (by omega)]
  have e4 : ((img ++ toBytes 4 q ++ toBytes 4 (crc32c (img ++ toBytes 4 q))).drop 0xFFFC).take 4 =
      toBytes 4 (crc32c (img ++ toBytes 4 q)) := by
    rw [List.drop_append_of_le_length (by omega), List.drop_eq_nil_of_le (by omega), List.nil_append,
      List.take_of_length_le (by omega)]
  have e5 : ((img ++ toBytes 4 q ++ toBytes 4 (crc32c (img ++ toBytes 4 q))).drop 0).take 0xFFFC = img ++ toBytes 4 q := by
    rw [List.drop_zero, List.take_append_of_le_length (by omega), List.take_of_length_le (by omega)]
  rw [e1, e2, e3, e4, e5, hm, hl, ofBytes_toBytes, ofBytes_toBytes]
  rw [show (256 : Nat) ^ 4 = 2 ^ 32 by norm_num, Nat.mod_eq_of_lt hc]
  simpa using hq

end Sys2Proof.Laws
end

