-- ==== Sys2Proof/Laws/State.lean ====
section
/-!
SUPPORT. For each named update of the state, one lemma per field that it leaves alone: no later proof unfolds a record update.
-/
open Sys2Proof Sys2Proof.Machine
namespace Sys2Proof.Laws
set_option linter.all false
variable (s : State)

/-! ## setReg -/

@[simp] theorem setReg_pending (id inst v : Nat) : (setReg s id inst v).pending = s.pending := rfl
@[simp] theorem setReg_cmd (id inst v : Nat) : (setReg s id inst v).cmd = s.cmd := rfl
@[simp] theorem setReg_modes (id inst v : Nat) : (setReg s id inst v).modes = s.modes := rfl
@[simp] theorem setReg_pwr (id inst v : Nat) : (setReg s id inst v).pwr = s.pwr := rfl
@[simp] theorem setReg_flt (id inst v : Nat) : (setReg s id inst v).flt = s.flt := rfl
@[simp] theorem setReg_barns (id inst v : Nat) : (setReg s id inst v).barns = s.barns := rfl
@[simp] theorem setReg_chs (id inst v : Nat) : (setReg s id inst v).chs = s.chs := rfl
@[simp] theorem setReg_stooks (id inst v : Nat) : (setReg s id inst v).stooks = s.stooks := rfl
@[simp] theorem setReg_gran (id inst v : Nat) : (setReg s id inst v).gran = s.gran := rfl
@[simp] theorem setReg_thr (id inst v : Nat) : (setReg s id inst v).thr = s.thr := rfl
@[simp] theorem setReg_tb (id inst v : Nat) : (setReg s id inst v).tb = s.tb := rfl
@[simp] theorem setReg_lanes (id inst v : Nat) : (setReg s id inst v).lanes = s.lanes := rfl
@[simp] theorem setReg_dls (id inst v : Nat) : (setReg s id inst v).dls = s.dls := rfl
@[simp] theorem setReg_mg (id inst v : Nat) : (setReg s id inst v).mg = s.mg := rfl
@[simp] theorem setReg_mon (id inst v : Nat) : (setReg s id inst v).mon = s.mon := rfl
@[simp] theorem setReg_cal (id inst v : Nat) : (setReg s id inst v).cal = s.cal := rfl
@[simp] theorem setReg_md (id inst v : Nat) : (setReg s id inst v).md = s.md := rfl
@[simp] theorem setReg_clk (id inst v : Nat) : (setReg s id inst v).clk = s.clk := rfl
@[simp] theorem setReg_nl (id inst v : Nat) : (setReg s id inst v).nl = s.nl := rfl
@[simp] theorem setReg_tap (id inst v : Nat) : (setReg s id inst v).tap = s.tap := rfl
@[simp] theorem setReg_cfgPrev (id inst v : Nat) : (setReg s id inst v).cfgPrev = s.cfgPrev := rfl
@[simp] theorem setReg_couchUp (id inst v : Nat) : (setReg s id inst v).couchUp = s.couchUp := rfl
@[simp] theorem setReg_tal (id inst v : Nat) : (setReg s id inst v).tal = s.tal := rfl
@[simp] theorem setReg_talOld (id inst v : Nat) : (setReg s id inst v).talOld = s.talOld := rfl
@[simp] theorem setReg_talNew (id inst v : Nat) : (setReg s id inst v).talNew = s.talNew := rfl
@[simp] theorem setReg_once (id inst v : Nat) : (setReg s id inst v).once = s.once := rfl
@[simp] theorem setReg_free (id inst v : Nat) : (setReg s id inst v).free = s.free := rfl

/-! ## setChan -/

@[simp] theorem setChan_pending (c : Nat) (x : Channel) : (setChan s c x).pending = s.pending := rfl
@[simp] theorem setChan_cmd (c : Nat) (x : Channel) : (setChan s c x).cmd = s.cmd := rfl
@[simp] theorem setChan_modes (c : Nat) (x : Channel) : (setChan s c x).modes = s.modes := rfl
@[simp] theorem setChan_pwr (c : Nat) (x : Channel) : (setChan s c x).pwr = s.pwr := rfl
@[simp] theorem setChan_flt (c : Nat) (x : Channel) : (setChan s c x).flt = s.flt := rfl
@[simp] theorem setChan_barns (c : Nat) (x : Channel) : (setChan s c x).barns = s.barns := rfl
@[simp] theorem setChan_stooks (c : Nat) (x : Channel) : (setChan s c x).stooks = s.stooks := rfl
@[simp] theorem setChan_gran (c : Nat) (x : Channel) : (setChan s c x).gran = s.gran := rfl
@[simp] theorem setChan_thr (c : Nat) (x : Channel) : (setChan s c x).thr = s.thr := rfl
@[simp] theorem setChan_tb (c : Nat) (x : Channel) : (setChan s c x).tb = s.tb := rfl
@[simp] theorem setChan_lanes (c : Nat) (x : Channel) : (setChan s c x).lanes = s.lanes := rfl
@[simp] theorem setChan_dls (c : Nat) (x : Channel) : (setChan s c x).dls = s.dls := rfl
@[simp] theorem setChan_mg (c : Nat) (x : Channel) : (setChan s c x).mg = s.mg := rfl
@[simp] theorem setChan_mon (c : Nat) (x : Channel) : (setChan s c x).mon = s.mon := rfl
@[simp] theorem setChan_cal (c : Nat) (x : Channel) : (setChan s c x).cal = s.cal := rfl
@[simp] theorem setChan_md (c : Nat) (x : Channel) : (setChan s c x).md = s.md := rfl
@[simp] theorem setChan_clk (c : Nat) (x : Channel) : (setChan s c x).clk = s.clk := rfl
@[simp] theorem setChan_nl (c : Nat) (x : Channel) : (setChan s c x).nl = s.nl := rfl
@[simp] theorem setChan_tap (c : Nat) (x : Channel) : (setChan s c x).tap = s.tap := rfl
@[simp] theorem setChan_cfg (c : Nat) (x : Channel) : (setChan s c x).cfg = s.cfg := rfl
@[simp] theorem setChan_cfgPrev (c : Nat) (x : Channel) : (setChan s c x).cfgPrev = s.cfgPrev := rfl
@[simp] theorem setChan_couchUp (c : Nat) (x : Channel) : (setChan s c x).couchUp = s.couchUp := rfl
@[simp] theorem setChan_tal (c : Nat) (x : Channel) : (setChan s c x).tal = s.tal := rfl
@[simp] theorem setChan_talOld (c : Nat) (x : Channel) : (setChan s c x).talOld = s.talOld := rfl
@[simp] theorem setChan_talNew (c : Nat) (x : Channel) : (setChan s c x).talNew = s.talNew := rfl
@[simp] theorem setChan_once (c : Nat) (x : Channel) : (setChan s c x).once = s.once := rfl
@[simp] theorem setChan_free (c : Nat) (x : Channel) : (setChan s c x).free = s.free := rfl

/-! ## setStook -/

@[simp] theorem setStook_pending (k : Nat) (x : Stook) : (setStook s k x).pending = s.pending := rfl
@[simp] theorem setStook_cmd (k : Nat) (x : Stook) : (setStook s k x).cmd = s.cmd := rfl
@[simp] theorem setStook_modes (k : Nat) (x : Stook) : (setStook s k x).modes = s.modes := rfl
@[simp] theorem setStook_pwr (k : Nat) (x : Stook) : (setStook s k x).pwr = s.pwr := rfl
@[simp] theorem setStook_flt (k : Nat) (x : Stook) : (setStook s k x).flt = s.flt := rfl
@[simp] theorem setStook_barns (k : Nat) (x : Stook) : (setStook s k x).barns = s.barns := rfl
@[simp] theorem setStook_chs (k : Nat) (x : Stook) : (setStook s k x).chs = s.chs := rfl
@[simp] theorem setStook_gran (k : Nat) (x : Stook) : (setStook s k x).gran = s.gran := rfl
@[simp] theorem setStook_thr (k : Nat) (x : Stook) : (setStook s k x).thr = s.thr := rfl
@[simp] theorem setStook_tb (k : Nat) (x : Stook) : (setStook s k x).tb = s.tb := rfl
@[simp] theorem setStook_lanes (k : Nat) (x : Stook) : (setStook s k x).lanes = s.lanes := rfl
@[simp] theorem setStook_dls (k : Nat) (x : Stook) : (setStook s k x).dls = s.dls := rfl
@[simp] theorem setStook_mg (k : Nat) (x : Stook) : (setStook s k x).mg = s.mg := rfl
@[simp] theorem setStook_mon (k : Nat) (x : Stook) : (setStook s k x).mon = s.mon := rfl
@[simp] theorem setStook_cal (k : Nat) (x : Stook) : (setStook s k x).cal = s.cal := rfl
@[simp] theorem setStook_md (k : Nat) (x : Stook) : (setStook s k x).md = s.md := rfl
@[simp] theorem setStook_clk (k : Nat) (x : Stook) : (setStook s k x).clk = s.clk := rfl
@[simp] theorem setStook_nl (k : Nat) (x : Stook) : (setStook s k x).nl = s.nl := rfl
@[simp] theorem setStook_tap (k : Nat) (x : Stook) : (setStook s k x).tap = s.tap := rfl
@[simp] theorem setStook_cfg (k : Nat) (x : Stook) : (setStook s k x).cfg = s.cfg := rfl
@[simp] theorem setStook_cfgPrev (k : Nat) (x : Stook) : (setStook s k x).cfgPrev = s.cfgPrev := rfl
@[simp] theorem setStook_couchUp (k : Nat) (x : Stook) : (setStook s k x).couchUp = s.couchUp := rfl
@[simp] theorem setStook_tal (k : Nat) (x : Stook) : (setStook s k x).tal = s.tal := rfl
@[simp] theorem setStook_talOld (k : Nat) (x : Stook) : (setStook s k x).talOld = s.talOld := rfl
@[simp] theorem setStook_talNew (k : Nat) (x : Stook) : (setStook s k x).talNew = s.talNew := rfl
@[simp] theorem setStook_once (k : Nat) (x : Stook) : (setStook s k x).once = s.once := rfl
@[simp] theorem setStook_free (k : Nat) (x : Stook) : (setStook s k x).free = s.free := rfl

/-! ## setLane -/

@[simp] theorem setLane_pending (u : Nat) (x : Uplane) : (setLane s u x).pending = s.pending := rfl
@[simp] theorem setLane_cmd (u : Nat) (x : Uplane) : (setLane s u x).cmd = s.cmd := rfl
@[simp] theorem setLane_modes (u : Nat) (x : Uplane) : (setLane s u x).modes = s.modes := rfl
@[simp] theorem setLane_pwr (u : Nat) (x : Uplane) : (setLane s u x).pwr = s.pwr := rfl
@[simp] theorem setLane_flt (u : Nat) (x : Uplane) : (setLane s u x).flt = s.flt := rfl
@[simp] theorem setLane_barns (u : Nat) (x : Uplane) : (setLane s u x).barns = s.barns := rfl
@[simp] theorem setLane_chs (u : Nat) (x : Uplane) : (setLane s u x).chs = s.chs := rfl
@[simp] theorem setLane_stooks (u : Nat) (x : Uplane) : (setLane s u x).stooks = s.stooks := rfl
@[simp] theorem setLane_gran (u : Nat) (x : Uplane) : (setLane s u x).gran = s.gran := rfl
@[simp] theorem setLane_thr (u : Nat) (x : Uplane) : (setLane s u x).thr = s.thr := rfl
@[simp] theorem setLane_tb (u : Nat) (x : Uplane) : (setLane s u x).tb = s.tb := rfl
@[simp] theorem setLane_dls (u : Nat) (x : Uplane) : (setLane s u x).dls = s.dls := rfl
@[simp] theorem setLane_mg (u : Nat) (x : Uplane) : (setLane s u x).mg = s.mg := rfl
@[simp] theorem setLane_mon (u : Nat) (x : Uplane) : (setLane s u x).mon = s.mon := rfl
@[simp] theorem setLane_cal (u : Nat) (x : Uplane) : (setLane s u x).cal = s.cal := rfl
@[simp] theorem setLane_md (u : Nat) (x : Uplane) : (setLane s u x).md = s.md := rfl
@[simp] theorem setLane_clk (u : Nat) (x : Uplane) : (setLane s u x).clk = s.clk := rfl
@[simp] theorem setLane_nl (u : Nat) (x : Uplane) : (setLane s u x).nl = s.nl := rfl
@[simp] theorem setLane_tap (u : Nat) (x : Uplane) : (setLane s u x).tap = s.tap := rfl
@[simp] theorem setLane_cfg (u : Nat) (x : Uplane) : (setLane s u x).cfg = s.cfg := rfl
@[simp] theorem setLane_cfgPrev (u : Nat) (x : Uplane) : (setLane s u x).cfgPrev = s.cfgPrev := rfl
@[simp] theorem setLane_couchUp (u : Nat) (x : Uplane) : (setLane s u x).couchUp = s.couchUp := rfl
@[simp] theorem setLane_tal (u : Nat) (x : Uplane) : (setLane s u x).tal = s.tal := rfl
@[simp] theorem setLane_talOld (u : Nat) (x : Uplane) : (setLane s u x).talOld = s.talOld := rfl
@[simp] theorem setLane_talNew (u : Nat) (x : Uplane) : (setLane s u x).talNew = s.talNew := rfl
@[simp] theorem setLane_once (u : Nat) (x : Uplane) : (setLane s u x).once = s.once := rfl
@[simp] theorem setLane_free (u : Nat) (x : Uplane) : (setLane s u x).free = s.free := rfl

/-! ## setDlane -/

@[simp] theorem setDlane_pending (d : Nat) (x : Downlane) : (setDlane s d x).pending = s.pending := rfl
@[simp] theorem setDlane_cmd (d : Nat) (x : Downlane) : (setDlane s d x).cmd = s.cmd := rfl
@[simp] theorem setDlane_modes (d : Nat) (x : Downlane) : (setDlane s d x).modes = s.modes := rfl
@[simp] theorem setDlane_pwr (d : Nat) (x : Downlane) : (setDlane s d x).pwr = s.pwr := rfl
@[simp] theorem setDlane_flt (d : Nat) (x : Downlane) : (setDlane s d x).flt = s.flt := rfl
@[simp] theorem setDlane_barns (d : Nat) (x : Downlane) : (setDlane s d x).barns = s.barns := rfl
@[simp] theorem setDlane_chs (d : Nat) (x : Downlane) : (setDlane s d x).chs = s.chs := rfl
@[simp] theorem setDlane_stooks (d : Nat) (x : Downlane) : (setDlane s d x).stooks = s.stooks := rfl
@[simp] theorem setDlane_gran (d : Nat) (x : Downlane) : (setDlane s d x).gran = s.gran := rfl
@[simp] theorem setDlane_thr (d : Nat) (x : Downlane) : (setDlane s d x).thr = s.thr := rfl
@[simp] theorem setDlane_tb (d : Nat) (x : Downlane) : (setDlane s d x).tb = s.tb := rfl
@[simp] theorem setDlane_lanes (d : Nat) (x : Downlane) : (setDlane s d x).lanes = s.lanes := rfl
@[simp] theorem setDlane_mg (d : Nat) (x : Downlane) : (setDlane s d x).mg = s.mg := rfl
@[simp] theorem setDlane_mon (d : Nat) (x : Downlane) : (setDlane s d x).mon = s.mon := rfl
@[simp] theorem setDlane_cal (d : Nat) (x : Downlane) : (setDlane s d x).cal = s.cal := rfl
@[simp] theorem setDlane_md (d : Nat) (x : Downlane) : (setDlane s d x).md = s.md := rfl
@[simp] theorem setDlane_clk (d : Nat) (x : Downlane) : (setDlane s d x).clk = s.clk := rfl
@[simp] theorem setDlane_nl (d : Nat) (x : Downlane) : (setDlane s d x).nl = s.nl := rfl
@[simp] theorem setDlane_tap (d : Nat) (x : Downlane) : (setDlane s d x).tap = s.tap := rfl
@[simp] theorem setDlane_cfg (d : Nat) (x : Downlane) : (setDlane s d x).cfg = s.cfg := rfl
@[simp] theorem setDlane_cfgPrev (d : Nat) (x : Downlane) : (setDlane s d x).cfgPrev = s.cfgPrev := rfl
@[simp] theorem setDlane_couchUp (d : Nat) (x : Downlane) : (setDlane s d x).couchUp = s.couchUp := rfl
@[simp] theorem setDlane_tal (d : Nat) (x : Downlane) : (setDlane s d x).tal = s.tal := rfl
@[simp] theorem setDlane_talOld (d : Nat) (x : Downlane) : (setDlane s d x).talOld = s.talOld := rfl
@[simp] theorem setDlane_talNew (d : Nat) (x : Downlane) : (setDlane s d x).talNew = s.talNew := rfl
@[simp] theorem setDlane_once (d : Nat) (x : Downlane) : (setDlane s d x).once = s.once := rfl
@[simp] theorem setDlane_free (d : Nat) (x : Downlane) : (setDlane s d x).free = s.free := rfl

/-! ## setMc -/

@[simp] theorem setMc_pending (k : Nat) (x : Mc) : (setMc s k x).pending = s.pending := rfl
@[simp] theorem setMc_cmd (k : Nat) (x : Mc) : (setMc s k x).cmd = s.cmd := rfl
@[simp] theorem setMc_modes (k : Nat) (x : Mc) : (setMc s k x).modes = s.modes := rfl
@[simp] theorem setMc_pwr (k : Nat) (x : Mc) : (setMc s k x).pwr = s.pwr := rfl
@[simp] theorem setMc_flt (k : Nat) (x : Mc) : (setMc s k x).flt = s.flt := rfl
@[simp] theorem setMc_barns (k : Nat) (x : Mc) : (setMc s k x).barns = s.barns := rfl
@[simp] theorem setMc_chs (k : Nat) (x : Mc) : (setMc s k x).chs = s.chs := rfl
@[simp] theorem setMc_stooks (k : Nat) (x : Mc) : (setMc s k x).stooks = s.stooks := rfl
@[simp] theorem setMc_gran (k : Nat) (x : Mc) : (setMc s k x).gran = s.gran := rfl
@[simp] theorem setMc_thr (k : Nat) (x : Mc) : (setMc s k x).thr = s.thr := rfl
@[simp] theorem setMc_tb (k : Nat) (x : Mc) : (setMc s k x).tb = s.tb := rfl
@[simp] theorem setMc_lanes (k : Nat) (x : Mc) : (setMc s k x).lanes = s.lanes := rfl
@[simp] theorem setMc_dls (k : Nat) (x : Mc) : (setMc s k x).dls = s.dls := rfl
@[simp] theorem setMc_mg (k : Nat) (x : Mc) : (setMc s k x).mg = s.mg := rfl
@[simp] theorem setMc_cal (k : Nat) (x : Mc) : (setMc s k x).cal = s.cal := rfl
@[simp] theorem setMc_md (k : Nat) (x : Mc) : (setMc s k x).md = s.md := rfl
@[simp] theorem setMc_clk (k : Nat) (x : Mc) : (setMc s k x).clk = s.clk := rfl
@[simp] theorem setMc_nl (k : Nat) (x : Mc) : (setMc s k x).nl = s.nl := rfl
@[simp] theorem setMc_tap (k : Nat) (x : Mc) : (setMc s k x).tap = s.tap := rfl
@[simp] theorem setMc_cfg (k : Nat) (x : Mc) : (setMc s k x).cfg = s.cfg := rfl
@[simp] theorem setMc_cfgPrev (k : Nat) (x : Mc) : (setMc s k x).cfgPrev = s.cfgPrev := rfl
@[simp] theorem setMc_couchUp (k : Nat) (x : Mc) : (setMc s k x).couchUp = s.couchUp := rfl
@[simp] theorem setMc_tal (k : Nat) (x : Mc) : (setMc s k x).tal = s.tal := rfl
@[simp] theorem setMc_talOld (k : Nat) (x : Mc) : (setMc s k x).talOld = s.talOld := rfl
@[simp] theorem setMc_talNew (k : Nat) (x : Mc) : (setMc s k x).talNew = s.talNew := rfl
@[simp] theorem setMc_once (k : Nat) (x : Mc) : (setMc s k x).once = s.once := rfl
@[simp] theorem setMc_free (k : Nat) (x : Mc) : (setMc s k x).free = s.free := rfl

/-! ## setMonRec -/

@[simp] theorem setMonRec_pending (i : Nat) (x : MonRec) : (setMonRec s i x).pending = s.pending := rfl
@[simp] theorem setMonRec_cmd (i : Nat) (x : MonRec) : (setMonRec s i x).cmd = s.cmd := rfl
@[simp] theorem setMonRec_modes (i : Nat) (x : MonRec) : (setMonRec s i x).modes = s.modes := rfl
@[simp] theorem setMonRec_pwr (i : Nat) (x : MonRec) : (setMonRec s i x).pwr = s.pwr := rfl
@[simp] theorem setMonRec_flt (i : Nat) (x : MonRec) : (setMonRec s i x).flt = s.flt := rfl
@[simp] theorem setMonRec_barns (i : Nat) (x : MonRec) : (setMonRec s i x).barns = s.barns := rfl
@[simp] theorem setMonRec_chs (i : Nat) (x : MonRec) : (setMonRec s i x).chs = s.chs := rfl
@[simp] theorem setMonRec_stooks (i : Nat) (x : MonRec) : (setMonRec s i x).stooks = s.stooks := rfl
@[simp] theorem setMonRec_gran (i : Nat) (x : MonRec) : (setMonRec s i x).gran = s.gran := rfl
@[simp] theorem setMonRec_thr (i : Nat) (x : MonRec) : (setMonRec s i x).thr = s.thr := rfl
@[simp] theorem setMonRec_tb (i : Nat) (x : MonRec) : (setMonRec s i x).tb = s.tb := rfl
@[simp] theorem setMonRec_lanes (i : Nat) (x : MonRec) : (setMonRec s i x).lanes = s.lanes := rfl
@[simp] theorem setMonRec_dls (i : Nat) (x : MonRec) : (setMonRec s i x).dls = s.dls := rfl
@[simp] theorem setMonRec_mg (i : Nat) (x : MonRec) : (setMonRec s i x).mg = s.mg := rfl
@[simp] theorem setMonRec_cal (i : Nat) (x : MonRec) : (setMonRec s i x).cal = s.cal := rfl
@[simp] theorem setMonRec_md (i : Nat) (x : MonRec) : (setMonRec s i x).md = s.md := rfl
@[simp] theorem setMonRec_clk (i : Nat) (x : MonRec) : (setMonRec s i x).clk = s.clk := rfl
@[simp] theorem setMonRec_nl (i : Nat) (x : MonRec) : (setMonRec s i x).nl = s.nl := rfl
@[simp] theorem setMonRec_tap (i : Nat) (x : MonRec) : (setMonRec s i x).tap = s.tap := rfl
@[simp] theorem setMonRec_cfg (i : Nat) (x : MonRec) : (setMonRec s i x).cfg = s.cfg := rfl
@[simp] theorem setMonRec_cfgPrev (i : Nat) (x : MonRec) : (setMonRec s i x).cfgPrev = s.cfgPrev := rfl
@[simp] theorem setMonRec_couchUp (i : Nat) (x : MonRec) : (setMonRec s i x).couchUp = s.couchUp := rfl
@[simp] theorem setMonRec_tal (i : Nat) (x : MonRec) : (setMonRec s i x).tal = s.tal := rfl
@[simp] theorem setMonRec_talOld (i : Nat) (x : MonRec) : (setMonRec s i x).talOld = s.talOld := rfl
@[simp] theorem setMonRec_talNew (i : Nat) (x : MonRec) : (setMonRec s i x).talNew = s.talNew := rfl
@[simp] theorem setMonRec_once (i : Nat) (x : MonRec) : (setMonRec s i x).once = s.once := rfl
@[simp] theorem setMonRec_free (i : Nat) (x : MonRec) : (setMonRec s i x).free = s.free := rfl

/-! ## setTdac -/

@[simp] theorem setTdac_pending (k : Nat) (x : Tdac) : (setTdac s k x).pending = s.pending := rfl
@[simp] theorem setTdac_cmd (k : Nat) (x : Tdac) : (setTdac s k x).cmd = s.cmd := rfl
@[simp] theorem setTdac_modes (k : Nat) (x : Tdac) : (setTdac s k x).modes = s.modes := rfl
@[simp] theorem setTdac_pwr (k : Nat) (x : Tdac) : (setTdac s k x).pwr = s.pwr := rfl
@[simp] theorem setTdac_flt (k : Nat) (x : Tdac) : (setTdac s k x).flt = s.flt := rfl
@[simp] theorem setTdac_barns (k : Nat) (x : Tdac) : (setTdac s k x).barns = s.barns := rfl
@[simp] theorem setTdac_chs (k : Nat) (x : Tdac) : (setTdac s k x).chs = s.chs := rfl
@[simp] theorem setTdac_stooks (k : Nat) (x : Tdac) : (setTdac s k x).stooks = s.stooks := rfl
@[simp] theorem setTdac_gran (k : Nat) (x : Tdac) : (setTdac s k x).gran = s.gran := rfl
@[simp] theorem setTdac_thr (k : Nat) (x : Tdac) : (setTdac s k x).thr = s.thr := rfl
@[simp] theorem setTdac_tb (k : Nat) (x : Tdac) : (setTdac s k x).tb = s.tb := rfl
@[simp] theorem setTdac_lanes (k : Nat) (x : Tdac) : (setTdac s k x).lanes = s.lanes := rfl
@[simp] theorem setTdac_dls (k : Nat) (x : Tdac) : (setTdac s k x).dls = s.dls := rfl
@[simp] theorem setTdac_mg (k : Nat) (x : Tdac) : (setTdac s k x).mg = s.mg := rfl
@[simp] theorem setTdac_cal (k : Nat) (x : Tdac) : (setTdac s k x).cal = s.cal := rfl
@[simp] theorem setTdac_md (k : Nat) (x : Tdac) : (setTdac s k x).md = s.md := rfl
@[simp] theorem setTdac_clk (k : Nat) (x : Tdac) : (setTdac s k x).clk = s.clk := rfl
@[simp] theorem setTdac_nl (k : Nat) (x : Tdac) : (setTdac s k x).nl = s.nl := rfl
@[simp] theorem setTdac_tap (k : Nat) (x : Tdac) : (setTdac s k x).tap = s.tap := rfl
@[simp] theorem setTdac_cfg (k : Nat) (x : Tdac) : (setTdac s k x).cfg = s.cfg := rfl
@[simp] theorem setTdac_cfgPrev (k : Nat) (x : Tdac) : (setTdac s k x).cfgPrev = s.cfgPrev := rfl
@[simp] theorem setTdac_couchUp (k : Nat) (x : Tdac) : (setTdac s k x).couchUp = s.couchUp := rfl
@[simp] theorem setTdac_tal (k : Nat) (x : Tdac) : (setTdac s k x).tal = s.tal := rfl
@[simp] theorem setTdac_talOld (k : Nat) (x : Tdac) : (setTdac s k x).talOld = s.talOld := rfl
@[simp] theorem setTdac_talNew (k : Nat) (x : Tdac) : (setTdac s k x).talNew = s.talNew := rfl
@[simp] theorem setTdac_once (k : Nat) (x : Tdac) : (setTdac s k x).once = s.once := rfl
@[simp] theorem setTdac_free (k : Nat) (x : Tdac) : (setTdac s k x).free = s.free := rfl

/-! ## count -/

@[simp] theorem count_pending (id inst hi lo n : Nat) : (count s id inst hi lo n).pending = s.pending := rfl
@[simp] theorem count_cmd (id inst hi lo n : Nat) : (count s id inst hi lo n).cmd = s.cmd := rfl
@[simp] theorem count_modes (id inst hi lo n : Nat) : (count s id inst hi lo n).modes = s.modes := rfl
@[simp] theorem count_pwr (id inst hi lo n : Nat) : (count s id inst hi lo n).pwr = s.pwr := rfl
@[simp] theorem count_flt (id inst hi lo n : Nat) : (count s id inst hi lo n).flt = s.flt := rfl
@[simp] theorem count_barns (id inst hi lo n : Nat) : (count s id inst hi lo n).barns = s.barns := rfl
@[simp] theorem count_chs (id inst hi lo n : Nat) : (count s id inst hi lo n).chs = s.chs := rfl
@[simp] theorem count_stooks (id inst hi lo n : Nat) : (count s id inst hi lo n).stooks = s.stooks := rfl
@[simp] theorem count_gran (id inst hi lo n : Nat) : (count s id inst hi lo n).gran = s.gran := rfl
@[simp] theorem count_thr (id inst hi lo n : Nat) : (count s id inst hi lo n).thr = s.thr := rfl
@[simp] theorem count_tb (id inst hi lo n : Nat) : (count s id inst hi lo n).tb = s.tb := rfl
@[simp] theorem count_lanes (id inst hi lo n : Nat) : (count s id inst hi lo n).lanes = s.lanes := rfl
@[simp] theorem count_dls (id inst hi lo n : Nat) : (count s id inst hi lo n).dls = s.dls := rfl
@[simp] theorem count_mg (id inst hi lo n : Nat) : (count s id inst hi lo n).mg = s.mg := rfl
@[simp] theorem count_mon (id inst hi lo n : Nat) : (count s id inst hi lo n).mon = s.mon := rfl
@[simp] theorem count_cal (id inst hi lo n : Nat) : (count s id inst hi lo n).cal = s.cal := rfl
@[simp] theorem count_md (id inst hi lo n : Nat) : (count s id inst hi lo n).md = s.md := rfl
@[simp] theorem count_clk (id inst hi lo n : Nat) : (count s id inst hi lo n).clk = s.clk := rfl
@[simp] theorem count_nl (id inst hi lo n : Nat) : (count s id inst hi lo n).nl = s.nl := rfl
@[simp] theorem count_tap (id inst hi lo n : Nat) : (count s id inst hi lo n).tap = s.tap := rfl
@[simp] theorem count_cfg (id inst hi lo n : Nat) : (count s id inst hi lo n).cfg = s.cfg := rfl
@[simp] theorem count_cfgPrev (id inst hi lo n : Nat) : (count s id inst hi lo n).cfgPrev = s.cfgPrev := rfl
@[simp] theorem count_couchUp (id inst hi lo n : Nat) : (count s id inst hi lo n).couchUp = s.couchUp := rfl
@[simp] theorem count_talOld (id inst hi lo n : Nat) : (count s id inst hi lo n).talOld = s.talOld := rfl
@[simp] theorem count_once (id inst hi lo n : Nat) : (count s id inst hi lo n).once = s.once := rfl
@[simp] theorem count_free (id inst hi lo n : Nat) : (count s id inst hi lo n).free = s.free := rfl

/-! ## countMax -/

@[simp] theorem countMax_pending (id inst hi lo n : Nat) : (countMax s id inst hi lo n).pending = s.pending := rfl
@[simp] theorem countMax_cmd (id inst hi lo n : Nat) : (countMax s id inst hi lo n).cmd = s.cmd := rfl
@[simp] theorem countMax_modes (id inst hi lo n : Nat) : (countMax s id inst hi lo n).modes = s.modes := rfl
@[simp] theorem countMax_pwr (id inst hi lo n : Nat) : (countMax s id inst hi lo n).pwr = s.pwr := rfl
@[simp] theorem countMax_flt (id inst hi lo n : Nat) : (countMax s id inst hi lo n).flt = s.flt := rfl
@[simp] theorem countMax_barns (id inst hi lo n : Nat) : (countMax s id inst hi lo n).barns = s.barns := rfl
@[simp] theorem countMax_chs (id inst hi lo n : Nat) : (countMax s id inst hi lo n).chs = s.chs := rfl
@[simp] theorem countMax_stooks (id inst hi lo n : Nat) : (countMax s id inst hi lo n).stooks = s.stooks := rfl
@[simp] theorem countMax_gran (id inst hi lo n : Nat) : (countMax s id inst hi lo n).gran = s.gran := rfl
@[simp] theorem countMax_thr (id inst hi lo n : Nat) : (countMax s id inst hi lo n).thr = s.thr := rfl
@[simp] theorem countMax_tb (id inst hi lo n : Nat) : (countMax s id inst hi lo n).tb = s.tb := rfl
@[simp] theorem countMax_lanes (id inst hi lo n : Nat) : (countMax s id inst hi lo n).lanes = s.lanes := rfl
@[simp] theorem countMax_dls (id inst hi lo n : Nat) : (countMax s id inst hi lo n).dls = s.dls := rfl
@[simp] theorem countMax_mg (id inst hi lo n : Nat) : (countMax s id inst hi lo n).mg = s.mg := rfl
@[simp] theorem countMax_mon (id inst hi lo n : Nat) : (countMax s id inst hi lo n).mon = s.mon := rfl
@[simp] theorem countMax_cal (id inst hi lo n : Nat) : (countMax s id inst hi lo n).cal = s.cal := rfl
@[simp] theorem countMax_md (id inst hi lo n : Nat) : (countMax s id inst hi lo n).md = s.md := rfl
@[simp] theorem countMax_clk (id inst hi lo n : Nat) : (countMax s id inst hi lo n).clk = s.clk := rfl
@[simp] theorem countMax_nl (id inst hi lo n : Nat) : (countMax s id inst hi lo n).nl = s.nl := rfl
@[simp] theorem countMax_tap (id inst hi lo n : Nat) : (countMax s id inst hi lo n).tap = s.tap := rfl
@[simp] theorem countMax_cfg (id inst hi lo n : Nat) : (countMax s id inst hi lo n).cfg = s.cfg := rfl
@[simp] theorem countMax_cfgPrev (id inst hi lo n : Nat) : (countMax s id inst hi lo n).cfgPrev = s.cfgPrev := rfl
@[simp] theorem countMax_couchUp (id inst hi lo n : Nat) : (countMax s id inst hi lo n).couchUp = s.couchUp := rfl
@[simp] theorem countMax_talOld (id inst hi lo n : Nat) : (countMax s id inst hi lo n).talOld = s.talOld := rfl
@[simp] theorem countMax_once (id inst hi lo n : Nat) : (countMax s id inst hi lo n).once = s.once := rfl
@[simp] theorem countMax_free (id inst hi lo n : Nat) : (countMax s id inst hi lo n).free = s.free := rfl

/-! ## clearTally -/

@[simp] theorem clearTally_pending (id inst : Nat) : (clearTally s id inst).pending = s.pending := rfl
@[simp] theorem clearTally_cmd (id inst : Nat) : (clearTally s id inst).cmd = s.cmd := rfl
@[simp] theorem clearTally_modes (id inst : Nat) : (clearTally s id inst).modes = s.modes := rfl
@[simp] theorem clearTally_pwr (id inst : Nat) : (clearTally s id inst).pwr = s.pwr := rfl
@[simp] theorem clearTally_flt (id inst : Nat) : (clearTally s id inst).flt = s.flt := rfl
@[simp] theorem clearTally_barns (id inst : Nat) : (clearTally s id inst).barns = s.barns := rfl
@[simp] theorem clearTally_chs (id inst : Nat) : (clearTally s id inst).chs = s.chs := rfl
@[simp] theorem clearTally_stooks (id inst : Nat) : (clearTally s id inst).stooks = s.stooks := rfl
@[simp] theorem clearTally_gran (id inst : Nat) : (clearTally s id inst).gran = s.gran := rfl
@[simp] theorem clearTally_thr (id inst : Nat) : (clearTally s id inst).thr = s.thr := rfl
@[simp] theorem clearTally_tb (id inst : Nat) : (clearTally s id inst).tb = s.tb := rfl
@[simp] theorem clearTally_lanes (id inst : Nat) : (clearTally s id inst).lanes = s.lanes := rfl
@[simp] theorem clearTally_dls (id inst : Nat) : (clearTally s id inst).dls = s.dls := rfl
@[simp] theorem clearTally_mg (id inst : Nat) : (clearTally s id inst).mg = s.mg := rfl
@[simp] theorem clearTally_mon (id inst : Nat) : (clearTally s id inst).mon = s.mon := rfl
@[simp] theorem clearTally_cal (id inst : Nat) : (clearTally s id inst).cal = s.cal := rfl
@[simp] theorem clearTally_md (id inst : Nat) : (clearTally s id inst).md = s.md := rfl
@[simp] theorem clearTally_clk (id inst : Nat) : (clearTally s id inst).clk = s.clk := rfl
@[simp] theorem clearTally_nl (id inst : Nat) : (clearTally s id inst).nl = s.nl := rfl
@[simp] theorem clearTally_tap (id inst : Nat) : (clearTally s id inst).tap = s.tap := rfl
@[simp] theorem clearTally_cfg (id inst : Nat) : (clearTally s id inst).cfg = s.cfg := rfl
@[simp] theorem clearTally_cfgPrev (id inst : Nat) : (clearTally s id inst).cfgPrev = s.cfgPrev := rfl
@[simp] theorem clearTally_couchUp (id inst : Nat) : (clearTally s id inst).couchUp = s.couchUp := rfl
@[simp] theorem clearTally_talNew (id inst : Nat) : (clearTally s id inst).talNew = s.talNew := rfl
@[simp] theorem clearTally_once (id inst : Nat) : (clearTally s id inst).once = s.once := rfl
@[simp] theorem clearTally_free (id inst : Nat) : (clearTally s id inst).free = s.free := rfl

/-! ## noteDone -/

@[simp] theorem noteDone_pending (kind u : Nat) : (noteDone s kind u).pending = s.pending := rfl
@[simp] theorem noteDone_cmd (kind u : Nat) : (noteDone s kind u).cmd = s.cmd := rfl
@[simp] theorem noteDone_modes (kind u : Nat) : (noteDone s kind u).modes = s.modes := rfl
@[simp] theorem noteDone_pwr (kind u : Nat) : (noteDone s kind u).pwr = s.pwr := rfl
@[simp] theorem noteDone_flt (kind u : Nat) : (noteDone s kind u).flt = s.flt := rfl
@[simp] theorem noteDone_barns (kind u : Nat) : (noteDone s kind u).barns = s.barns := rfl
@[simp] theorem noteDone_chs (kind u : Nat) : (noteDone s kind u).chs = s.chs := rfl
@[simp] theorem noteDone_stooks (kind u : Nat) : (noteDone s kind u).stooks = s.stooks := rfl
@[simp] theorem noteDone_gran (kind u : Nat) : (noteDone s kind u).gran = s.gran := rfl
@[simp] theorem noteDone_thr (kind u : Nat) : (noteDone s kind u).thr = s.thr := rfl
@[simp] theorem noteDone_tb (kind u : Nat) : (noteDone s kind u).tb = s.tb := rfl
@[simp] theorem noteDone_lanes (kind u : Nat) : (noteDone s kind u).lanes = s.lanes := rfl
@[simp] theorem noteDone_dls (kind u : Nat) : (noteDone s kind u).dls = s.dls := rfl
@[simp] theorem noteDone_mg (kind u : Nat) : (noteDone s kind u).mg = s.mg := rfl
@[simp] theorem noteDone_mon (kind u : Nat) : (noteDone s kind u).mon = s.mon := rfl
@[simp] theorem noteDone_cal (kind u : Nat) : (noteDone s kind u).cal = s.cal := rfl
@[simp] theorem noteDone_md (kind u : Nat) : (noteDone s kind u).md = s.md := rfl
@[simp] theorem noteDone_clk (kind u : Nat) : (noteDone s kind u).clk = s.clk := rfl
@[simp] theorem noteDone_nl (kind u : Nat) : (noteDone s kind u).nl = s.nl := rfl
@[simp] theorem noteDone_tap (kind u : Nat) : (noteDone s kind u).tap = s.tap := rfl
@[simp] theorem noteDone_cfg (kind u : Nat) : (noteDone s kind u).cfg = s.cfg := rfl
@[simp] theorem noteDone_cfgPrev (kind u : Nat) : (noteDone s kind u).cfgPrev = s.cfgPrev := rfl
@[simp] theorem noteDone_couchUp (kind u : Nat) : (noteDone s kind u).couchUp = s.couchUp := rfl
@[simp] theorem noteDone_tal (kind u : Nat) : (noteDone s kind u).tal = s.tal := rfl
@[simp] theorem noteDone_talOld (kind u : Nat) : (noteDone s kind u).talOld = s.talOld := rfl
@[simp] theorem noteDone_talNew (kind u : Nat) : (noteDone s kind u).talNew = s.talNew := rfl
@[simp] theorem noteDone_free (kind u : Nat) : (noteDone s kind u).free = s.free := rfl

/-! ## openCmd -/

@[simp] theorem openCmd_pending (r : Req) (op key : Nat) : (openCmd s r op key).pending = s.pending := rfl
@[simp] theorem openCmd_modes (r : Req) (op key : Nat) : (openCmd s r op key).modes = s.modes := rfl
@[simp] theorem openCmd_pwr (r : Req) (op key : Nat) : (openCmd s r op key).pwr = s.pwr := rfl
@[simp] theorem openCmd_flt (r : Req) (op key : Nat) : (openCmd s r op key).flt = s.flt := rfl
@[simp] theorem openCmd_barns (r : Req) (op key : Nat) : (openCmd s r op key).barns = s.barns := rfl
@[simp] theorem openCmd_chs (r : Req) (op key : Nat) : (openCmd s r op key).chs = s.chs := rfl
@[simp] theorem openCmd_stooks (r : Req) (op key : Nat) : (openCmd s r op key).stooks = s.stooks := rfl
@[simp] theorem openCmd_gran (r : Req) (op key : Nat) : (openCmd s r op key).gran = s.gran := rfl
@[simp] theorem openCmd_thr (r : Req) (op key : Nat) : (openCmd s r op key).thr = s.thr := rfl
@[simp] theorem openCmd_tb (r : Req) (op key : Nat) : (openCmd s r op key).tb = s.tb := rfl
@[simp] theorem openCmd_lanes (r : Req) (op key : Nat) : (openCmd s r op key).lanes = s.lanes := rfl
@[simp] theorem openCmd_dls (r : Req) (op key : Nat) : (openCmd s r op key).dls = s.dls := rfl
@[simp] theorem openCmd_mg (r : Req) (op key : Nat) : (openCmd s r op key).mg = s.mg := rfl
@[simp] theorem openCmd_mon (r : Req) (op key : Nat) : (openCmd s r op key).mon = s.mon := rfl
@[simp] theorem openCmd_cal (r : Req) (op key : Nat) : (openCmd s r op key).cal = s.cal := rfl
@[simp] theorem openCmd_md (r : Req) (op key : Nat) : (openCmd s r op key).md = s.md := rfl
@[simp] theorem openCmd_clk (r : Req) (op key : Nat) : (openCmd s r op key).clk = s.clk := rfl
@[simp] theorem openCmd_nl (r : Req) (op key : Nat) : (openCmd s r op key).nl = s.nl := rfl
@[simp] theorem openCmd_tap (r : Req) (op key : Nat) : (openCmd s r op key).tap = s.tap := rfl
@[simp] theorem openCmd_cfg (r : Req) (op key : Nat) : (openCmd s r op key).cfg = s.cfg := rfl
@[simp] theorem openCmd_cfgPrev (r : Req) (op key : Nat) : (openCmd s r op key).cfgPrev = s.cfgPrev := rfl
@[simp] theorem openCmd_couchUp (r : Req) (op key : Nat) : (openCmd s r op key).couchUp = s.couchUp := rfl
@[simp] theorem openCmd_tal (r : Req) (op key : Nat) : (openCmd s r op key).tal = s.tal := rfl
@[simp] theorem openCmd_talOld (r : Req) (op key : Nat) : (openCmd s r op key).talOld = s.talOld := rfl
@[simp] theorem openCmd_talNew (r : Req) (op key : Nat) : (openCmd s r op key).talNew = s.talNew := rfl
@[simp] theorem openCmd_once (r : Req) (op key : Nat) : (openCmd s r op key).once = s.once := rfl
@[simp] theorem openCmd_free (r : Req) (op key : Nat) : (openCmd s r op key).free = s.free := rfl

/-! ## editRec -/

@[simp] theorem editRec_pending (key : Nat) (f : FaultRec → FaultRec) : (editRec s key f).pending = s.pending := rfl
@[simp] theorem editRec_cmd (key : Nat) (f : FaultRec → FaultRec) : (editRec s key f).cmd = s.cmd := rfl
@[simp] theorem editRec_modes (key : Nat) (f : FaultRec → FaultRec) : (editRec s key f).modes = s.modes := rfl
@[simp] theorem editRec_pwr (key : Nat) (f : FaultRec → FaultRec) : (editRec s key f).pwr = s.pwr := rfl
@[simp] theorem editRec_barns (key : Nat) (f : FaultRec → FaultRec) : (editRec s key f).barns = s.barns := rfl
@[simp] theorem editRec_chs (key : Nat) (f : FaultRec → FaultRec) : (editRec s key f).chs = s.chs := rfl
@[simp] theorem editRec_stooks (key : Nat) (f : FaultRec → FaultRec) : (editRec s key f).stooks = s.stooks := rfl
@[simp] theorem editRec_gran (key : Nat) (f : FaultRec → FaultRec) : (editRec s key f).gran = s.gran := rfl
@[simp] theorem editRec_thr (key : Nat) (f : FaultRec → FaultRec) : (editRec s key f).thr = s.thr := rfl
@[simp] theorem editRec_tb (key : Nat) (f : FaultRec → FaultRec) : (editRec s key f).tb = s.tb := rfl
@[simp] theorem editRec_lanes (key : Nat) (f : FaultRec → FaultRec) : (editRec s key f).lanes = s.lanes := rfl
@[simp] theorem editRec_dls (key : Nat) (f : FaultRec → FaultRec) : (editRec s key f).dls = s.dls := rfl
@[simp] theorem editRec_mg (key : Nat) (f : FaultRec → FaultRec) : (editRec s key f).mg = s.mg := rfl
@[simp] theorem editRec_mon (key : Nat) (f : FaultRec → FaultRec) : (editRec s key f).mon = s.mon := rfl
@[simp] theorem editRec_cal (key : Nat) (f : FaultRec → FaultRec) : (editRec s key f).cal = s.cal := rfl
@[simp] theorem editRec_md (key : Nat) (f : FaultRec → FaultRec) : (editRec s key f).md = s.md := rfl
@[simp] theorem editRec_clk (key : Nat) (f : FaultRec → FaultRec) : (editRec s key f).clk = s.clk := rfl
@[simp] theorem editRec_nl (key : Nat) (f : FaultRec → FaultRec) : (editRec s key f).nl = s.nl := rfl
@[simp] theorem editRec_tap (key : Nat) (f : FaultRec → FaultRec) : (editRec s key f).tap = s.tap := rfl
@[simp] theorem editRec_cfg (key : Nat) (f : FaultRec → FaultRec) : (editRec s key f).cfg = s.cfg := rfl
@[simp] theorem editRec_cfgPrev (key : Nat) (f : FaultRec → FaultRec) : (editRec s key f).cfgPrev = s.cfgPrev := rfl
@[simp] theorem editRec_couchUp (key : Nat) (f : FaultRec → FaultRec) : (editRec s key f).couchUp = s.couchUp := rfl
@[simp] theorem editRec_tal (key : Nat) (f : FaultRec → FaultRec) : (editRec s key f).tal = s.tal := rfl
@[simp] theorem editRec_talOld (key : Nat) (f : FaultRec → FaultRec) : (editRec s key f).talOld = s.talOld := rfl
@[simp] theorem editRec_talNew (key : Nat) (f : FaultRec → FaultRec) : (editRec s key f).talNew = s.talNew := rfl
@[simp] theorem editRec_once (key : Nat) (f : FaultRec → FaultRec) : (editRec s key f).once = s.once := rfl
@[simp] theorem editRec_free (key : Nat) (f : FaultRec → FaultRec) : (editRec s key f).free = s.free := rfl

/-! ## endActions -/

@[simp] theorem endActions_pending (key : Nat) : (endActions s key).pending = s.pending := rfl
@[simp] theorem endActions_cmd (key : Nat) : (endActions s key).cmd = s.cmd := rfl
@[simp] theorem endActions_modes (key : Nat) : (endActions s key).modes = s.modes := rfl
@[simp] theorem endActions_pwr (key : Nat) : (endActions s key).pwr = s.pwr := rfl
@[simp] theorem endActions_barns (key : Nat) : (endActions s key).barns = s.barns := rfl
@[simp] theorem endActions_chs (key : Nat) : (endActions s key).chs = s.chs := rfl
@[simp] theorem endActions_stooks (key : Nat) : (endActions s key).stooks = s.stooks := rfl
@[simp] theorem endActions_gran (key : Nat) : (endActions s key).gran = s.gran := rfl
@[simp] theorem endActions_thr (key : Nat) : (endActions s key).thr = s.thr := rfl
@[simp] theorem endActions_tb (key : Nat) : (endActions s key).tb = s.tb := rfl
@[simp] theorem endActions_lanes (key : Nat) : (endActions s key).lanes = s.lanes := rfl
@[simp] theorem endActions_dls (key : Nat) : (endActions s key).dls = s.dls := rfl
@[simp] theorem endActions_mg (key : Nat) : (endActions s key).mg = s.mg := rfl
@[simp] theorem endActions_mon (key : Nat) : (endActions s key).mon = s.mon := rfl
@[simp] theorem endActions_cal (key : Nat) : (endActions s key).cal = s.cal := rfl
@[simp] theorem endActions_md (key : Nat) : (endActions s key).md = s.md := rfl
@[simp] theorem endActions_clk (key : Nat) : (endActions s key).clk = s.clk := rfl
@[simp] theorem endActions_nl (key : Nat) : (endActions s key).nl = s.nl := rfl
@[simp] theorem endActions_tap (key : Nat) : (endActions s key).tap = s.tap := rfl
@[simp] theorem endActions_cfg (key : Nat) : (endActions s key).cfg = s.cfg := rfl
@[simp] theorem endActions_cfgPrev (key : Nat) : (endActions s key).cfgPrev = s.cfgPrev := rfl
@[simp] theorem endActions_couchUp (key : Nat) : (endActions s key).couchUp = s.couchUp := rfl
@[simp] theorem endActions_tal (key : Nat) : (endActions s key).tal = s.tal := rfl
@[simp] theorem endActions_talOld (key : Nat) : (endActions s key).talOld = s.talOld := rfl
@[simp] theorem endActions_talNew (key : Nat) : (endActions s key).talNew = s.talNew := rfl
@[simp] theorem endActions_once (key : Nat) : (endActions s key).once = s.once := rfl
@[simp] theorem endActions_free (key : Nat) : (endActions s key).free = s.free := rfl

/-! ## levelEnd -/

@[simp] theorem levelEnd_pending (src inst : Nat) : (levelEnd s src inst).pending = s.pending := rfl
@[simp] theorem levelEnd_cmd (src inst : Nat) : (levelEnd s src inst).cmd = s.cmd := rfl
@[simp] theorem levelEnd_modes (src inst : Nat) : (levelEnd s src inst).modes = s.modes := rfl
@[simp] theorem levelEnd_pwr (src inst : Nat) : (levelEnd s src inst).pwr = s.pwr := rfl
@[simp] theorem levelEnd_barns (src inst : Nat) : (levelEnd s src inst).barns = s.barns := rfl
@[simp] theorem levelEnd_chs (src inst : Nat) : (levelEnd s src inst).chs = s.chs := rfl
@[simp] theorem levelEnd_stooks (src inst : Nat) : (levelEnd s src inst).stooks = s.stooks := rfl
@[simp] theorem levelEnd_gran (src inst : Nat) : (levelEnd s src inst).gran = s.gran := rfl
@[simp] theorem levelEnd_thr (src inst : Nat) : (levelEnd s src inst).thr = s.thr := rfl
@[simp] theorem levelEnd_tb (src inst : Nat) : (levelEnd s src inst).tb = s.tb := rfl
@[simp] theorem levelEnd_lanes (src inst : Nat) : (levelEnd s src inst).lanes = s.lanes := rfl
@[simp] theorem levelEnd_dls (src inst : Nat) : (levelEnd s src inst).dls = s.dls := rfl
@[simp] theorem levelEnd_mg (src inst : Nat) : (levelEnd s src inst).mg = s.mg := rfl
@[simp] theorem levelEnd_mon (src inst : Nat) : (levelEnd s src inst).mon = s.mon := rfl
@[simp] theorem levelEnd_cal (src inst : Nat) : (levelEnd s src inst).cal = s.cal := rfl
@[simp] theorem levelEnd_md (src inst : Nat) : (levelEnd s src inst).md = s.md := rfl
@[simp] theorem levelEnd_clk (src inst : Nat) : (levelEnd s src inst).clk = s.clk := rfl
@[simp] theorem levelEnd_nl (src inst : Nat) : (levelEnd s src inst).nl = s.nl := rfl
@[simp] theorem levelEnd_tap (src inst : Nat) : (levelEnd s src inst).tap = s.tap := rfl
@[simp] theorem levelEnd_cfg (src inst : Nat) : (levelEnd s src inst).cfg = s.cfg := rfl
@[simp] theorem levelEnd_cfgPrev (src inst : Nat) : (levelEnd s src inst).cfgPrev = s.cfgPrev := rfl
@[simp] theorem levelEnd_couchUp (src inst : Nat) : (levelEnd s src inst).couchUp = s.couchUp := rfl
@[simp] theorem levelEnd_tal (src inst : Nat) : (levelEnd s src inst).tal = s.tal := rfl
@[simp] theorem levelEnd_talOld (src inst : Nat) : (levelEnd s src inst).talOld = s.talOld := rfl
@[simp] theorem levelEnd_talNew (src inst : Nat) : (levelEnd s src inst).talNew = s.talNew := rfl
@[simp] theorem levelEnd_once (src inst : Nat) : (levelEnd s src inst).once = s.once := rfl
@[simp] theorem levelEnd_free (src inst : Nat) : (levelEnd s src inst).free = s.free := rfl

/-! ## enqueuePacket -/

@[simp] theorem enqueuePacket_pending (p : Port) (i : Packet) : (enqueuePacket s p i).pending = s.pending := rfl
@[simp] theorem enqueuePacket_modes (p : Port) (i : Packet) : (enqueuePacket s p i).modes = s.modes := rfl
@[simp] theorem enqueuePacket_pwr (p : Port) (i : Packet) : (enqueuePacket s p i).pwr = s.pwr := rfl
@[simp] theorem enqueuePacket_flt (p : Port) (i : Packet) : (enqueuePacket s p i).flt = s.flt := rfl
@[simp] theorem enqueuePacket_barns (p : Port) (i : Packet) : (enqueuePacket s p i).barns = s.barns := rfl
@[simp] theorem enqueuePacket_chs (p : Port) (i : Packet) : (enqueuePacket s p i).chs = s.chs := rfl
@[simp] theorem enqueuePacket_stooks (p : Port) (i : Packet) : (enqueuePacket s p i).stooks = s.stooks := rfl
@[simp] theorem enqueuePacket_gran (p : Port) (i : Packet) : (enqueuePacket s p i).gran = s.gran := rfl
@[simp] theorem enqueuePacket_thr (p : Port) (i : Packet) : (enqueuePacket s p i).thr = s.thr := rfl
@[simp] theorem enqueuePacket_tb (p : Port) (i : Packet) : (enqueuePacket s p i).tb = s.tb := rfl
@[simp] theorem enqueuePacket_lanes (p : Port) (i : Packet) : (enqueuePacket s p i).lanes = s.lanes := rfl
@[simp] theorem enqueuePacket_dls (p : Port) (i : Packet) : (enqueuePacket s p i).dls = s.dls := rfl
@[simp] theorem enqueuePacket_mg (p : Port) (i : Packet) : (enqueuePacket s p i).mg = s.mg := rfl
@[simp] theorem enqueuePacket_mon (p : Port) (i : Packet) : (enqueuePacket s p i).mon = s.mon := rfl
@[simp] theorem enqueuePacket_cal (p : Port) (i : Packet) : (enqueuePacket s p i).cal = s.cal := rfl
@[simp] theorem enqueuePacket_md (p : Port) (i : Packet) : (enqueuePacket s p i).md = s.md := rfl
@[simp] theorem enqueuePacket_clk (p : Port) (i : Packet) : (enqueuePacket s p i).clk = s.clk := rfl
@[simp] theorem enqueuePacket_nl (p : Port) (i : Packet) : (enqueuePacket s p i).nl = s.nl := rfl
@[simp] theorem enqueuePacket_tap (p : Port) (i : Packet) : (enqueuePacket s p i).tap = s.tap := rfl
@[simp] theorem enqueuePacket_cfg (p : Port) (i : Packet) : (enqueuePacket s p i).cfg = s.cfg := rfl
@[simp] theorem enqueuePacket_cfgPrev (p : Port) (i : Packet) : (enqueuePacket s p i).cfgPrev = s.cfgPrev := rfl
@[simp] theorem enqueuePacket_couchUp (p : Port) (i : Packet) : (enqueuePacket s p i).couchUp = s.couchUp := rfl
@[simp] theorem enqueuePacket_tal (p : Port) (i : Packet) : (enqueuePacket s p i).tal = s.tal := rfl
@[simp] theorem enqueuePacket_talOld (p : Port) (i : Packet) : (enqueuePacket s p i).talOld = s.talOld := rfl
@[simp] theorem enqueuePacket_talNew (p : Port) (i : Packet) : (enqueuePacket s p i).talNew = s.talNew := rfl
@[simp] theorem enqueuePacket_once (p : Port) (i : Packet) : (enqueuePacket s p i).once = s.once := rfl
@[simp] theorem enqueuePacket_free (p : Port) (i : Packet) : (enqueuePacket s p i).free = s.free := rfl

/-! ## pushSheaf, send, the PLL and the Granary's wake: no other field than the one written -/

@[simp] theorem pushSheaf_pending (x : Sheaf) : (pushSheaf s x).pending = s.pending := by unfold pushSheaf; split <;> rfl
@[simp] theorem pushSheaf_cmd (x : Sheaf) : (pushSheaf s x).cmd = s.cmd := by unfold pushSheaf; split <;> rfl
@[simp] theorem pushSheaf_modes (x : Sheaf) : (pushSheaf s x).modes = s.modes := by unfold pushSheaf; split <;> rfl
@[simp] theorem pushSheaf_pwr (x : Sheaf) : (pushSheaf s x).pwr = s.pwr := by unfold pushSheaf; split <;> rfl
@[simp] theorem pushSheaf_flt (x : Sheaf) : (pushSheaf s x).flt = s.flt := by unfold pushSheaf; split <;> rfl
@[simp] theorem pushSheaf_barns (x : Sheaf) : (pushSheaf s x).barns = s.barns := by unfold pushSheaf; split <;> rfl
@[simp] theorem pushSheaf_chs (x : Sheaf) : (pushSheaf s x).chs = s.chs := by unfold pushSheaf; split <;> rfl
@[simp] theorem pushSheaf_stooks (x : Sheaf) : (pushSheaf s x).stooks = s.stooks := by unfold pushSheaf; split <;> rfl
@[simp] theorem pushSheaf_thr (x : Sheaf) : (pushSheaf s x).thr = s.thr := by unfold pushSheaf; split <;> rfl
@[simp] theorem pushSheaf_tb (x : Sheaf) : (pushSheaf s x).tb = s.tb := by unfold pushSheaf; split <;> rfl
@[simp] theorem pushSheaf_lanes (x : Sheaf) : (pushSheaf s x).lanes = s.lanes := by unfold pushSheaf; split <;> rfl
@[simp] theorem pushSheaf_dls (x : Sheaf) : (pushSheaf s x).dls = s.dls := by unfold pushSheaf; split <;> rfl
@[simp] theorem pushSheaf_mg (x : Sheaf) : (pushSheaf s x).mg = s.mg := by unfold pushSheaf; split <;> rfl
@[simp] theorem pushSheaf_mon (x : Sheaf) : (pushSheaf s x).mon = s.mon := by unfold pushSheaf; split <;> rfl
@[simp] theorem pushSheaf_cal (x : Sheaf) : (pushSheaf s x).cal = s.cal := by unfold pushSheaf; split <;> rfl
@[simp] theorem pushSheaf_md (x : Sheaf) : (pushSheaf s x).md = s.md := by unfold pushSheaf; split <;> rfl
@[simp] theorem pushSheaf_clk (x : Sheaf) : (pushSheaf s x).clk = s.clk := by unfold pushSheaf; split <;> rfl
@[simp] theorem pushSheaf_nl (x : Sheaf) : (pushSheaf s x).nl = s.nl := by unfold pushSheaf; split <;> rfl
@[simp] theorem pushSheaf_tap (x : Sheaf) : (pushSheaf s x).tap = s.tap := by unfold pushSheaf; split <;> rfl
@[simp] theorem pushSheaf_cfg (x : Sheaf) : (pushSheaf s x).cfg = s.cfg := by unfold pushSheaf; split <;> rfl
@[simp] theorem pushSheaf_cfgPrev (x : Sheaf) : (pushSheaf s x).cfgPrev = s.cfgPrev := by unfold pushSheaf; split <;> rfl
@[simp] theorem pushSheaf_couchUp (x : Sheaf) : (pushSheaf s x).couchUp = s.couchUp := by unfold pushSheaf; split <;> rfl
@[simp] theorem pushSheaf_tal (x : Sheaf) : (pushSheaf s x).tal = s.tal := by unfold pushSheaf; split <;> rfl
@[simp] theorem pushSheaf_talOld (x : Sheaf) : (pushSheaf s x).talOld = s.talOld := by unfold pushSheaf; split <;> rfl
@[simp] theorem pushSheaf_talNew (x : Sheaf) : (pushSheaf s x).talNew = s.talNew := by unfold pushSheaf; split <;> rfl
@[simp] theorem pushSheaf_once (x : Sheaf) : (pushSheaf s x).once = s.once := by unfold pushSheaf; split <;> rfl
@[simp] theorem pushSheaf_free (x : Sheaf) : (pushSheaf s x).free = s.free := by unfold pushSheaf; split <;> rfl
@[simp] theorem send_pending (m : Msg) : (send s m).pending = s.pending := by
  unfold send; dsimp only; repeat' split
  all_goals rfl
@[simp] theorem send_modes (m : Msg) : (send s m).modes = s.modes := by
  unfold send; dsimp only; repeat' split
  all_goals rfl
@[simp] theorem send_pwr (m : Msg) : (send s m).pwr = s.pwr := by
  unfold send; dsimp only; repeat' split
  all_goals rfl
@[simp] theorem send_flt (m : Msg) : (send s m).flt = s.flt := by
  unfold send; dsimp only; repeat' split
  all_goals rfl
@[simp] theorem send_barns (m : Msg) : (send s m).barns = s.barns := by
  unfold send; dsimp only; repeat' split
  all_goals rfl
@[simp] theorem send_chs (m : Msg) : (send s m).chs = s.chs := by
  unfold send; dsimp only; repeat' split
  all_goals rfl
@[simp] theorem send_stooks (m : Msg) : (send s m).stooks = s.stooks := by
  unfold send; dsimp only; repeat' split
  all_goals rfl
@[simp] theorem send_gran (m : Msg) : (send s m).gran = s.gran := by
  unfold send; dsimp only; repeat' split
  all_goals rfl
@[simp] theorem send_thr (m : Msg) : (send s m).thr = s.thr := by
  unfold send; dsimp only; repeat' split
  all_goals rfl
@[simp] theorem send_tb (m : Msg) : (send s m).tb = s.tb := by
  unfold send; dsimp only; repeat' split
  all_goals rfl
@[simp] theorem send_lanes (m : Msg) : (send s m).lanes = s.lanes := by
  unfold send; dsimp only; repeat' split
  all_goals rfl
@[simp] theorem send_dls (m : Msg) : (send s m).dls = s.dls := by
  unfold send; dsimp only; repeat' split
  all_goals rfl
@[simp] theorem send_mg (m : Msg) : (send s m).mg = s.mg := by
  unfold send; dsimp only; repeat' split
  all_goals rfl
@[simp] theorem send_mon (m : Msg) : (send s m).mon = s.mon := by
  unfold send; dsimp only; repeat' split
  all_goals rfl
@[simp] theorem send_cal (m : Msg) : (send s m).cal = s.cal := by
  unfold send; dsimp only; repeat' split
  all_goals rfl
@[simp] theorem send_md (m : Msg) : (send s m).md = s.md := by
  unfold send; dsimp only; repeat' split
  all_goals rfl
@[simp] theorem send_clk (m : Msg) : (send s m).clk = s.clk := by
  unfold send; dsimp only; repeat' split
  all_goals rfl
@[simp] theorem send_nl (m : Msg) : (send s m).nl = s.nl := by
  unfold send; dsimp only; repeat' split
  all_goals rfl
@[simp] theorem send_tap (m : Msg) : (send s m).tap = s.tap := by
  unfold send; dsimp only; repeat' split
  all_goals rfl
@[simp] theorem send_cfg (m : Msg) : (send s m).cfg = s.cfg := by
  unfold send; dsimp only; repeat' split
  all_goals rfl
@[simp] theorem send_cfgPrev (m : Msg) : (send s m).cfgPrev = s.cfgPrev := by
  unfold send; dsimp only; repeat' split
  all_goals rfl
@[simp] theorem send_couchUp (m : Msg) : (send s m).couchUp = s.couchUp := by
  unfold send; dsimp only; repeat' split
  all_goals rfl
@[simp] theorem send_talOld (m : Msg) : (send s m).talOld = s.talOld := by
  unfold send; dsimp only; repeat' split
  all_goals rfl
@[simp] theorem send_once (m : Msg) : (send s m).once = s.once := by
  unfold send; dsimp only; repeat' split
  all_goals rfl
@[simp] theorem send_free (m : Msg) : (send s m).free = s.free := by
  unfold send; dsimp only; repeat' split
  all_goals rfl
@[simp] theorem pllRequest_pending : (pllRequest s).pending = s.pending := by
  unfold pllRequest; dsimp only; split <;> rfl
@[simp] theorem pllRequest_cmd : (pllRequest s).cmd = s.cmd := by
  unfold pllRequest; dsimp only; split <;> rfl
@[simp] theorem pllRequest_modes : (pllRequest s).modes = s.modes := by
  unfold pllRequest; dsimp only; split <;> rfl
@[simp] theorem pllRequest_pwr : (pllRequest s).pwr = s.pwr := by
  unfold pllRequest; dsimp only; split <;> rfl
@[simp] theorem pllRequest_flt : (pllRequest s).flt = s.flt := by
  unfold pllRequest; dsimp only; split <;> rfl
@[simp] theorem pllRequest_barns : (pllRequest s).barns = s.barns := by
  unfold pllRequest; dsimp only; split <;> rfl
@[simp] theorem pllRequest_chs : (pllRequest s).chs = s.chs := by
  unfold pllRequest; dsimp only; split <;> rfl
@[simp] theorem pllRequest_stooks : (pllRequest s).stooks = s.stooks := by
  unfold pllRequest; dsimp only; split <;> rfl
@[simp] theorem pllRequest_gran : (pllRequest s).gran = s.gran := by
  unfold pllRequest; dsimp only; split <;> rfl
@[simp] theorem pllRequest_thr : (pllRequest s).thr = s.thr := by
  unfold pllRequest; dsimp only; split <;> rfl
@[simp] theorem pllRequest_tb : (pllRequest s).tb = s.tb := by
  unfold pllRequest; dsimp only; split <;> rfl
@[simp] theorem pllRequest_lanes : (pllRequest s).lanes = s.lanes := by
  unfold pllRequest; dsimp only; split <;> rfl
@[simp] theorem pllRequest_dls : (pllRequest s).dls = s.dls := by
  unfold pllRequest; dsimp only; split <;> rfl
@[simp] theorem pllRequest_mg : (pllRequest s).mg = s.mg := by
  unfold pllRequest; dsimp only; split <;> rfl
@[simp] theorem pllRequest_mon : (pllRequest s).mon = s.mon := by
  unfold pllRequest; dsimp only; split <;> rfl
@[simp] theorem pllRequest_cal : (pllRequest s).cal = s.cal := by
  unfold pllRequest; dsimp only; split <;> rfl
@[simp] theorem pllRequest_md : (pllRequest s).md = s.md := by
  unfold pllRequest; dsimp only; split <;> rfl
@[simp] theorem pllRequest_nl : (pllRequest s).nl = s.nl := by
  unfold pllRequest; dsimp only; split <;> rfl
@[simp] theorem pllRequest_tap : (pllRequest s).tap = s.tap := by
  unfold pllRequest; dsimp only; split <;> rfl
@[simp] theorem pllRequest_cfg : (pllRequest s).cfg = s.cfg := by
  unfold pllRequest; dsimp only; split <;> rfl
@[simp] theorem pllRequest_cfgPrev : (pllRequest s).cfgPrev = s.cfgPrev := by
  unfold pllRequest; dsimp only; split <;> rfl
@[simp] theorem pllRequest_couchUp : (pllRequest s).couchUp = s.couchUp := by
  unfold pllRequest; dsimp only; split <;> rfl
@[simp] theorem pllRequest_tal : (pllRequest s).tal = s.tal := by
  unfold pllRequest; dsimp only; split <;> rfl
@[simp] theorem pllRequest_talOld : (pllRequest s).talOld = s.talOld := by
  unfold pllRequest; dsimp only; split <;> rfl
@[simp] theorem pllRequest_talNew : (pllRequest s).talNew = s.talNew := by
  unfold pllRequest; dsimp only; split <;> rfl
@[simp] theorem pllRequest_once : (pllRequest s).once = s.once := by
  unfold pllRequest; dsimp only; split <;> rfl
@[simp] theorem pllRequest_free : (pllRequest s).free = s.free := by
  unfold pllRequest; dsimp only; split <;> rfl
@[simp] theorem wakeGranary_pending : (wakeGranary s).pending = s.pending := by
  unfold wakeGranary; split
  · rfl
  · exact pllRequest_pending _
@[simp] theorem wakeGranary_cmd : (wakeGranary s).cmd = s.cmd := by
  unfold wakeGranary; split
  · rfl
  · exact pllRequest_cmd _
@[simp] theorem wakeGranary_modes : (wakeGranary s).modes = s.modes := by
  unfold wakeGranary; split
  · rfl
  · exact pllRequest_modes _
@[simp] theorem wakeGranary_pwr : (wakeGranary s).pwr = s.pwr := by
  unfold wakeGranary; split
  · rfl
  · exact pllRequest_pwr _
@[simp] theorem wakeGranary_flt : (wakeGranary s).flt = s.flt := by
  unfold wakeGranary; split
  · rfl
  · exact pllRequest_flt _
@[simp] theorem wakeGranary_barns : (wakeGranary s).barns = s.barns := by
  unfold wakeGranary; split
  · rfl
  · exact pllRequest_barns _
@[simp] theorem wakeGranary_chs : (wakeGranary s).chs = s.chs := by
  unfold wakeGranary; split
  · rfl
  · exact pllRequest_chs _
@[simp] theorem wakeGranary_stooks : (wakeGranary s).stooks = s.stooks := by
  unfold wakeGranary; split
  · rfl
  · exact pllRequest_stooks _
@[simp] theorem wakeGranary_thr : (wakeGranary s).thr = s.thr := by
  unfold wakeGranary; split
  · rfl
  · exact pllRequest_thr _
@[simp] theorem wakeGranary_tb : (wakeGranary s).tb = s.tb := by
  unfold wakeGranary; split
  · rfl
  · exact pllRequest_tb _
@[simp] theorem wakeGranary_lanes : (wakeGranary s).lanes = s.lanes := by
  unfold wakeGranary; split
  · rfl
  · exact pllRequest_lanes _
@[simp] theorem wakeGranary_dls : (wakeGranary s).dls = s.dls := by
  unfold wakeGranary; split
  · rfl
  · exact pllRequest_dls _
@[simp] theorem wakeGranary_mg : (wakeGranary s).mg = s.mg := by
  unfold wakeGranary; split
  · rfl
  · exact pllRequest_mg _
@[simp] theorem wakeGranary_mon : (wakeGranary s).mon = s.mon := by
  unfold wakeGranary; split
  · rfl
  · exact pllRequest_mon _
@[simp] theorem wakeGranary_cal : (wakeGranary s).cal = s.cal := by
  unfold wakeGranary; split
  · rfl
  · exact pllRequest_cal _
@[simp] theorem wakeGranary_md : (wakeGranary s).md = s.md := by
  unfold wakeGranary; split
  · rfl
  · exact pllRequest_md _
@[simp] theorem wakeGranary_nl : (wakeGranary s).nl = s.nl := by
  unfold wakeGranary; split
  · rfl
  · exact pllRequest_nl _
@[simp] theorem wakeGranary_tap : (wakeGranary s).tap = s.tap := by
  unfold wakeGranary; split
  · rfl
  · exact pllRequest_tap _
@[simp] theorem wakeGranary_cfg : (wakeGranary s).cfg = s.cfg := by
  unfold wakeGranary; split
  · rfl
  · exact pllRequest_cfg _
@[simp] theorem wakeGranary_cfgPrev : (wakeGranary s).cfgPrev = s.cfgPrev := by
  unfold wakeGranary; split
  · rfl
  · exact pllRequest_cfgPrev _
@[simp] theorem wakeGranary_couchUp : (wakeGranary s).couchUp = s.couchUp := by
  unfold wakeGranary; split
  · rfl
  · exact pllRequest_couchUp _
@[simp] theorem wakeGranary_tal : (wakeGranary s).tal = s.tal := by
  unfold wakeGranary; split
  · rfl
  · exact pllRequest_tal _
@[simp] theorem wakeGranary_talOld : (wakeGranary s).talOld = s.talOld := by
  unfold wakeGranary; split
  · rfl
  · exact pllRequest_talOld _
@[simp] theorem wakeGranary_talNew : (wakeGranary s).talNew = s.talNew := by
  unfold wakeGranary; split
  · rfl
  · exact pllRequest_talNew _
@[simp] theorem wakeGranary_once : (wakeGranary s).once = s.once := by
  unfold wakeGranary; split
  · rfl
  · exact pllRequest_once _
@[simp] theorem wakeGranary_free : (wakeGranary s).free = s.free := by
  unfold wakeGranary; split
  · rfl
  · exact pllRequest_free _
@[simp] theorem useGranary_pending : (useGranary s).pending = s.pending := wakeGranary_pending _
@[simp] theorem useGranary_cmd : (useGranary s).cmd = s.cmd := wakeGranary_cmd _
@[simp] theorem useGranary_modes : (useGranary s).modes = s.modes := wakeGranary_modes _
@[simp] theorem useGranary_pwr : (useGranary s).pwr = s.pwr := wakeGranary_pwr _
@[simp] theorem useGranary_flt : (useGranary s).flt = s.flt := wakeGranary_flt _
@[simp] theorem useGranary_barns : (useGranary s).barns = s.barns := wakeGranary_barns _
@[simp] theorem useGranary_chs : (useGranary s).chs = s.chs := wakeGranary_chs _
@[simp] theorem useGranary_stooks : (useGranary s).stooks = s.stooks := wakeGranary_stooks _
@[simp] theorem useGranary_thr : (useGranary s).thr = s.thr := wakeGranary_thr _
@[simp] theorem useGranary_tb : (useGranary s).tb = s.tb := wakeGranary_tb _
@[simp] theorem useGranary_lanes : (useGranary s).lanes = s.lanes := wakeGranary_lanes _
@[simp] theorem useGranary_dls : (useGranary s).dls = s.dls := wakeGranary_dls _
@[simp] theorem useGranary_mg : (useGranary s).mg = s.mg := wakeGranary_mg _
@[simp] theorem useGranary_mon : (useGranary s).mon = s.mon := wakeGranary_mon _
@[simp] theorem useGranary_cal : (useGranary s).cal = s.cal := wakeGranary_cal _
@[simp] theorem useGranary_md : (useGranary s).md = s.md := wakeGranary_md _
@[simp] theorem useGranary_nl : (useGranary s).nl = s.nl := wakeGranary_nl _
@[simp] theorem useGranary_tap : (useGranary s).tap = s.tap := wakeGranary_tap _
@[simp] theorem useGranary_cfg : (useGranary s).cfg = s.cfg := wakeGranary_cfg _
@[simp] theorem useGranary_cfgPrev : (useGranary s).cfgPrev = s.cfgPrev := wakeGranary_cfgPrev _
@[simp] theorem useGranary_couchUp : (useGranary s).couchUp = s.couchUp := wakeGranary_couchUp _
@[simp] theorem useGranary_tal : (useGranary s).tal = s.tal := wakeGranary_tal _
@[simp] theorem useGranary_talOld : (useGranary s).talOld = s.talOld := wakeGranary_talOld _
@[simp] theorem useGranary_talNew : (useGranary s).talNew = s.talNew := wakeGranary_talNew _
@[simp] theorem useGranary_once : (useGranary s).once = s.once := wakeGranary_once _
@[simp] theorem useGranary_free : (useGranary s).free = s.free := wakeGranary_free _

end Sys2Proof.Laws
end

