-- ==== Sys2Proof/Laws/Ops.lean ====
section
/-!
SUPPORT. What the shared operations do, one lemma for each: registers and parts after an update, tallies after a count,
messages after a reply, a packet that is served, and everything a raise leaves alone.
-/
open Sys2Proof Sys2Proof.Machine
namespace Sys2Proof.Laws
set_option linter.all false

/-! ## Registers and parts -/

theorem pget_pset_any {α : Type} [DecidableEq α] (d e : α) (m : PMap α) {j k : Nat} (v : α) (h : j ≠ k) :
    pget d (pset e m k v) j = pget d m j := by
  unfold pset
  split
  · exact pget_pdel_other d m h
  · exact pget_pins_other d m v h
theorem attrKey_inj {id inst id' inst' : Nat} (h : inst < 512) (h' : inst' < 512) :
    id * 512 + inst = id' * 512 + inst' ↔ id = id' ∧ inst = inst' := by omega
@[simp] theorem reg_setReg_same (s : State) (id inst v : Nat) : reg (setReg s id inst v) id inst = v := by
  simp [reg, setReg, cfgGet, pget_pset]
theorem reg_setReg_other (s : State) {id inst id' inst' : Nat} (v : Nat) (h : id' * 512 + inst' ≠ id * 512 + inst) :
    reg (setReg s id inst v) id' inst' = reg s id' inst' := pget_pset_any _ _ _ v h
theorem reg_eq_of_cfg {s t : State} (h : t.cfg = s.cfg) (id inst : Nat) : reg t id inst = reg s id inst := by
  unfold reg; rw [h]
theorem tally_eq_of_tal {s t : State} (h : t.tal = s.tal) (id inst : Nat) : tally t id inst = tally s id inst := by
  unfold tally; rw [h]
theorem chan_setChan (s : State) (c d : Nat) (x : Channel) :
    chan (setChan s c x) d = if d = c then x else chan s d := pget_pset ..
theorem stook_setStook (s : State) (k j : Nat) (x : Stook) :
    stook (setStook s k x) j = if j = k then x else stook s j := pget_pset ..
theorem lane_setLane (s : State) (u v : Nat) (x : Uplane) :
    lane (setLane s u x) v = if v = u then x else lane s v := pget_pset ..
theorem dlane_setDlane (s : State) (d e : Nat) (x : Downlane) :
    dlane (setDlane s d x) e = if e = d then x else dlane s e := pget_pset ..
theorem mc_setMc (s : State) (k j : Nat) (x : Mc) : mc (setMc s k x) j = if j = k then x else mc s j := pget_pset ..
theorem monRec_setMonRec (s : State) (i j : Nat) (x : MonRec) :
    monRec (setMonRec s i x) j = if j = i then x else monRec s j := pget_pset ..
theorem tdac_setTdac (s : State) (k j : Nat) (x : Tdac) :
    tdac (setTdac s k x) j = if j = k then x else tdac s j := pget_pset ..

/-! ## Tallies (R9) -/

/-- A field written into a number that held another value there reads as the new value; every bit outside it stays. -/
theorem bits_put {v y hi lo : Nat} (h : lo ≤ hi) (hy : y < 2 ^ (hi + 1 - lo)) :
    bits (v - bits v hi lo * 2 ^ lo + y * 2 ^ lo) hi lo = y ∧
    ∀ i, i < lo ∨ hi < i → Nat.testBit (v - bits v hi lo * 2 ^ lo + y * 2 ^ lo) i = Nat.testBit v i := by
  unfold bits
  generalize hw : hi + 1 - lo = w at *
  have e1 := Nat.div_add_mod v (2 ^ lo)
  have e2 := Nat.div_add_mod (v / 2 ^ lo) (2 ^ w)
  have hr : v % 2 ^ lo < 2 ^ lo := Nat.mod_lt _ (by positivity)
  have hx : v / 2 ^ lo % 2 ^ w < 2 ^ w := Nat.mod_lt _ (by positivity)
  generalize v % 2 ^ lo = r at *
  generalize v / 2 ^ lo / 2 ^ w = a at *
  generalize v / 2 ^ lo % 2 ^ w = x at *
  rw [← e2] at e1
  have e : v - x * 2 ^ lo + y * 2 ^ lo = 2 ^ lo * (2 ^ w * a + y) + r := by
    rw [← e1, show 2 ^ lo * (2 ^ w * a + x) + r = 2 ^ lo * (2 ^ w * a) + r + x * 2 ^ lo by ring, Nat.add_sub_cancel]; ring
  rw [e]
  constructor
  · rw [Nat.mul_add_div (by positivity), Nat.div_eq_of_lt hr, Nat.add_zero, Nat.mul_add_mod, Nat.mod_eq_of_lt hy]
  · intro i hi'
    rw [← e1, Nat.testBit_two_pow_mul_add _ hr, Nat.testBit_two_pow_mul_add _ hr]
    split
    · rfl
    · rw [Nat.testBit_two_pow_mul_add _ hy, Nat.testBit_two_pow_mul_add _ hx]
      split
      · omega
      · rfl
/-- A field is its bits. -/
theorem bits_congr {v w hi lo : Nat} (h : ∀ i, lo ≤ i → i ≤ hi → Nat.testBit v i = Nat.testBit w i) :
    bits v hi lo = bits w hi lo := by
  apply Nat.eq_of_testBit_eq
  intro i
  unfold bits
  simp only [Nat.testBit_mod_two_pow, Nat.testBit_div_two_pow]
  by_cases hi' : i < hi + 1 - lo
  · simp only [hi', decide_true, Bool.true_and]
    exact h _ (by omega) (by omega)
  · simp [hi']
theorem satAdd_le (m n d : Nat) : satAdd m n d ≤ m := by
  unfold satAdd
  split <;> omega
theorem satAdd_lt_pow (k n d : Nat) : satAdd (2 ^ k - 1) n d < 2 ^ k := by
  have := satAdd_le (2 ^ k - 1) n d
  have : 0 < 2 ^ k := by positivity
  omega
/-- A count adds to its field, saturating. -/
theorem tally_count_same (s : State) (id inst : Nat) {hi lo : Nat} (n : Nat) (h : lo ≤ hi) :
    bits (tally (count s id inst hi lo n) id inst) hi lo =
      satAdd (2 ^ (hi + 1 - lo) - 1) (bits (tally s id inst) hi lo) n := by
  unfold tally count tallyMap
  dsimp only
  rw [pget_pset_same]
  exact (bits_put h (satAdd_lt_pow ..)).1
/-- A count leaves every other field of its tally. -/
theorem tally_count_field (s : State) (id inst n : Nat) {hi lo hi' lo' : Nat} (h : lo ≤ hi) (d : hi' < lo ∨ hi < lo') :
    bits (tally (count s id inst hi lo n) id inst) hi' lo' = bits (tally s id inst) hi' lo' := by
  unfold tally count tallyMap
  dsimp only
  rw [pget_pset_same]
  exact bits_congr fun i h1 h2 => (bits_put h (satAdd_lt_pow ..)).2 i (by omega)
/-- A count leaves every other tally. -/
theorem tally_count_other (s : State) (id inst hi lo n : Nat) {id' inst' : Nat}
    (h : id' * 512 + inst' ≠ id * 512 + inst) : tally (count s id inst hi lo n) id' inst' = tally s id' inst' :=
  pget_pset_any _ _ _ _ h
/-- A read-clear tally after its read holds the events of this beat (R12). -/
theorem tally_clearTally (s : State) (id inst : Nat) :
    tally (clearTally s id inst) id inst = pget 0 s.talNew (id * 512 + inst) := pget_pset_same ..
theorem tally_clearTally_other (s : State) (id inst : Nat) {id' inst' : Nat} (h : id' * 512 + inst' ≠ id * 512 + inst) :
    tally (clearTally s id inst) id' inst' = tally s id' inst' := pget_pset_any _ _ _ _ h

/-! ## Messages (R330, R331) -/

@[simp] theorem send_spi (s : State) (m : Msg) (h : m.origin = some .spi) :
    send s m = { s with cmd := { s.cmd with spiQ := s.cmd.spiQ ++ [m] } } := by
  unfold send; rw [h]
theorem send_lane (s : State) (m : Msg) (p : Port) (h : m.origin = some p) (n : p ≠ .spi) :
    send s m = { s with cmd := { s.cmd with laneQ := s.cmd.laneQ ++ [m] } } := by
  unfold send; rw [h]
  cases p <;> first | rfl | exact absurd rfl n
/-- A reply is the one new message of its port, behind the earlier ones; nothing else changes. -/
theorem reply_queues (s : State) (r : Req) (op st dt : Nat) (data : List PWord) :
    msgsOf (reply s r op st dt data) r.port = msgsOf s r.port ++ [replyMsg r op st dt data] ∧
    reply s r op st dt data = { s with cmd := { s.cmd with
      spiQ := if r.port = .spi then s.cmd.spiQ ++ [replyMsg r op st dt data] else s.cmd.spiQ
      laneQ := if r.port = .spi then s.cmd.laneQ else s.cmd.laneQ ++ [replyMsg r op st dt data] } } := by
  rcases r with ⟨p, tag⟩
  cases p <;> exact ⟨rfl, rfl⟩
theorem outcome_queues (s : State) (r : Req) (op st dt : Nat) (data : List PWord) :
    msgsOf (outcome s r op st dt data) r.port = msgsOf s r.port ++ [outcomeMsg r op st dt data] ∧
    outcome s r op st dt data = { s with cmd := { s.cmd with
      spiQ := if r.port = .spi then s.cmd.spiQ ++ [outcomeMsg r op st dt data] else s.cmd.spiQ
      laneQ := if r.port = .spi then s.cmd.laneQ else s.cmd.laneQ ++ [outcomeMsg r op st dt data] } } := by
  rcases r with ⟨p, tag⟩
  cases p <;> exact ⟨rfl, rfl⟩
/-- The event queue of the SPI port stays within 16 (R335), and a send adds nowhere else. -/
theorem send_spiEv (s : State) (m : Msg) (h : s.cmd.spiEv.length ≤ 16) : (send s m).cmd.spiEv.length ≤ 16 := by
  unfold send
  dsimp only
  repeat' split
  all_goals first | exact h | (simp only [count_cmd, List.length_append, List.length_drop, List.length_cons, List.length_nil] at *; omega)

/-! ## Packets (R336, R343, R360, R377) -/

/-- A packet that is served runs its command's own definition. -/
theorem granger_served {s : State} {r : Req} {op : Nat} (h : Served s r op) (i : Instr) (body : State → State) :
    granger s r i op body = .next (body s) := by
  obtain ⟨h1, h2, h3, h3', h4, h5⟩ := h
  have h6 : ¬ (s.modes.cur = .held ∧ r.port = .dl1) := fun ⟨a, b⟩ => h5 a b
  simp [granger, atPads, h1, h2, h3, h3', h4, h6]
/-- Everything a packet can do: stop at held pads, be unheard, wait, be served, or be NOT_IN_MODE. -/
theorem granger_cases (s : State) (r : Req) (i : Instr) (op : Nat) (body : State → State) :
    (padsFree s = false ∧ granger s r i op body = .fault .scanHoldsPads) ∨
    (padsFree s = true ∧ ((powered s = false ∨ (s.modes.cur = .held ∧ r.port = .dl1)) ∧ granger s r i op body = .next s ∨
      powered s = true ∧ ¬ (s.modes.cur = .held ∧ r.port = .dl1) ∧ (grangersStopped s || couchFirst s) = true ∧
        granger s r i op body = .next (enqueuePacket s r.port (.command i)) ∨
      Served s r op ∧ granger s r i op body = .next (body s) ∨
      powered s = true ∧ grangersStopped s = false ∧ couchFirst s = false ∧ opcodeAllowed op s.modes.cur = false ∧
        granger s r i op body = .next (replyNotInMode s r op))) := by
  unfold granger atPads Served
  cases h1 : padsFree s <;> cases h2 : powered s <;> cases h3 : grangersStopped s <;> cases h6 : couchFirst s <;>
    cases h4 : opcodeAllowed op s.modes.cur <;>
    by_cases h5 : s.modes.cur = .held ∧ r.port = .dl1 <;> simp_all
theorem opening_ready {s : State} (h : s.cmd.outst.length < 16) (r : Req) (op key : Nat) (k : State → State) :
    opening s r op key k = k (openCmd s r op key) := by simp [opening, h]
theorem opening_full {s : State} (h : 16 ≤ s.cmd.outst.length) (r : Req) (op key : Nat) (k : State → State) :
    opening s r op key k = replyBusy s r op 0xFF := by simp [opening, h]

/-! ## Raises (R352 to R366) -/

/-- What a raise, and each operation it is built from, leaves alone: t differs from s only in the fault collector, the command
ports, the tallies and what waits for a mode change; in the collector the fences in force, the isolations in progress and
the earliest new fall of ERR_N stay. -/
def FaultOnly (s t : State) : Prop :=
  t = { s with cmd := t.cmd, modes := t.modes, flt := t.flt, tal := t.tal, talNew := t.talNew } ∧
  t.modes = { s.modes with toRecovery := t.modes.toRecovery, toHeld := t.modes.toHeld, recRetried := t.modes.recRetried,
                           causeAt := t.modes.causeAt, chipReset := t.modes.chipReset } ∧
  t.flt = { s.flt with word := t.flt.word, rose := t.flt.rose, roseFirst := t.flt.roseFirst, first := t.flt.first,
                       hist := t.flt.hist, nextKey := t.flt.nextKey, interrupts := t.flt.interrupts,
                       levels := t.flt.levels, reactions := t.flt.reactions, queue := t.flt.queue, errLow := t.flt.errLow,
                       errBeat := t.flt.errBeat, errUp := t.flt.errUp, errRel := t.flt.errRel, errAgain := t.flt.errAgain,
                       trap := t.flt.trap, trapUp := t.flt.trapUp }
theorem faultOnly_refl (s : State) : FaultOnly s s := ⟨rfl, rfl, rfl⟩
theorem faultOnly_trans {s t u : State} (h : FaultOnly s t) (g : FaultOnly t u) : FaultOnly s u := by
  obtain ⟨h1, h2, h3⟩ := h
  obtain ⟨g1, g2, g3⟩ := g
  refine ⟨?_, ?_, ?_⟩
  · rw [g1, h1]
  · rw [g2, h2]
  · rw [g3, h3]
theorem faultOnly_count (s : State) (id inst hi lo n : Nat) : FaultOnly s (count s id inst hi lo n) := ⟨rfl, rfl, rfl⟩
theorem faultOnly_send (s : State) (m : Msg) : FaultOnly s (send s m) := by
  unfold send
  dsimp only
  repeat' split
  all_goals exact ⟨rfl, rfl, rfl⟩
theorem faultOnly_event (s : State) (k st : Nat) (d : List PWord) : FaultOnly s (event s k st d) := faultOnly_send ..
theorem faultOnly_closeCmd (s : State) (r : Req) (op st dt : Nat) (d : List PWord) :
    FaultOnly s (closeCmd s r op st dt d) :=
  faultOnly_trans (t := { s with cmd := { s.cmd with outst := dropOutst s.cmd.outst r op } }) ⟨rfl, rfl, rfl⟩
    (faultOnly_send ..)
theorem faultOnly_foldl {α : Type} (f : State → α → State) (h : ∀ s a, FaultOnly s (f s a)) (l : List α) (s : State) :
    FaultOnly s (l.foldl f s) := by
  induction l generalizing s with
  | nil => exact faultOnly_refl s
  | cons a l ih => exact faultOnly_trans (h s a) (ih _)
theorem faultOnly_assertErr (s : State) : FaultOnly s (assertErr s) := by
  unfold assertErr
  split
  · exact faultOnly_trans (t := { s with flt := { s.flt with errRel := [] } }) ⟨rfl, rfl, rfl⟩
      (faultOnly_foldl _ (fun s a => faultOnly_closeCmd ..) _ _)
  · split <;> exact ⟨rfl, rfl, rfl⟩
theorem faultOnly_editRec (s : State) (k : Nat) (f : FaultRec → FaultRec) : FaultOnly s (editRec s k f) := ⟨rfl, rfl, rfl⟩
theorem faultOnly_recoveryFail (s : State) : FaultOnly s (recoveryFail s) := by
  unfold recoveryFail; split <;> exact ⟨rfl, rfl, rfl⟩
theorem faultOnly_causeRecovery (s : State) (c : Byte) : FaultOnly s (causeRecovery s c) := by
  unfold causeRecovery; split <;> exact ⟨rfl, rfl, rfl⟩
theorem faultOnly_escalateBeyond (s : State) (k : Nat) : FaultOnly s (escalateBeyond s k) := by
  unfold escalateBeyond
  dsimp only
  refine faultOnly_trans (faultOnly_trans (faultOnly_count s A_FLT_ESCALATIONS 0 31 16 1) (faultOnly_assertErr _)) ?_
  split
  · exact faultOnly_trans (faultOnly_editRec ..) (faultOnly_causeRecovery ..)
  · exact faultOnly_trans (faultOnly_editRec ..) (faultOnly_causeRecovery ..)
  · exact faultOnly_trans (faultOnly_editRec ..) (faultOnly_recoveryFail ..)
  · exact faultOnly_editRec ..
theorem faultOnly_endActions (s : State) (k : Nat) : FaultOnly s (endActions s k) := ⟨rfl, rfl, rfl⟩
theorem faultOnly_queueAct (s : State) (a : Act) : FaultOnly s (queueAct s a) := by
  unfold queueAct
  split
  · exact faultOnly_endActions ..
  split
  · exact ⟨rfl, rfl, rfl⟩
  split
  · exact faultOnly_trans (faultOnly_escalateBeyond ..) (faultOnly_endActions ..)
  · exact faultOnly_trans (faultOnly_count ..) (faultOnly_endActions ..)
theorem faultOnly_logRaise (s : State) (f : FaultRec) : FaultOnly s (logRaise s f) := by
  unfold logRaise
  dsimp only
  split <;> exact ⟨rfl, rfl, rfl⟩
theorem faultOnly_ite {s t u : State} {c : Prop} [Decidable c] (h : FaultOnly s t) (g : FaultOnly s u) :
    FaultOnly s (if c then t else u) := by split <;> assumption
theorem faultOnly_isolate (s : State) (x : Option (ActKind × Target)) (b : Bool) (g : ActKind → Target → Act)
    (r : List Reaction) : FaultOnly s (match x with
      | some (k, t) => queueAct s (g k t)
      | none => if b then { s with flt := { s.flt with reactions := r } } else s) := by
  split
  · exact faultOnly_queueAct ..
  · exact faultOnly_ite ⟨rfl, rfl, rfl⟩ (faultOnly_refl s)
theorem faultOnly_react (s : State) (f : FaultRec) : FaultOnly s (react s f) := by
  unfold react
  extract_lets m window target s1 o0 s2 o1 s3 isolates long stop o2 s4 s5 o3
  have h1 : FaultOnly s s1 := faultOnly_ite (faultOnly_assertErr s) (faultOnly_refl s)
  have h2 : FaultOnly s1 s2 := faultOnly_ite ⟨rfl, rfl, rfl⟩ (faultOnly_refl s1)
  have h3 : FaultOnly s2 s3 := faultOnly_ite ⟨rfl, rfl, rfl⟩ (faultOnly_refl s2)
  have h4 : FaultOnly s3 s4 := faultOnly_ite ⟨rfl, rfl, rfl⟩ (faultOnly_refl s3)
  have h5 : FaultOnly s4 s5 := faultOnly_ite ⟨rfl, rfl, rfl⟩ (faultOnly_refl s4)
  exact faultOnly_trans h1 (faultOnly_trans h2 (faultOnly_trans h3 (faultOnly_trans h4 (faultOnly_trans h5
    (faultOnly_isolate s5 isolates (bitAt m 1) _ _)))))
/-- A raise leaves alone everything that FaultOnly names. -/
theorem faultOnly_raise (s : State) (src inst ctx : Nat) : FaultOnly s (raise s src inst ctx) := by
  unfold raise
  split
  · exact faultOnly_refl s
  dsimp only
  split
  · exact ⟨rfl, rfl, rfl⟩
  · refine faultOnly_trans ?_ (faultOnly_react ..)
    refine faultOnly_trans ?_ (faultOnly_logRaise ..)
    split <;> exact ⟨rfl, rfl, rfl⟩
theorem faultOnly_levelBegin (s : State) (src inst ctx : Nat) : FaultOnly s (levelBegin s src inst ctx) := by
  unfold levelBegin
  split
  · exact faultOnly_refl s
  · exact faultOnly_trans ⟨rfl, rfl, rfl⟩ (faultOnly_raise ..)
theorem faultOnly_cur {s t : State} (h : FaultOnly s t) : t.modes.cur = s.modes.cur := by rw [h.2.1]
theorem faultOnly_cfg {s t : State} (h : FaultOnly s t) : t.cfg = s.cfg := by rw [h.1]

end Sys2Proof.Laws
end

