-- ==== Sys2Proof/WellFormed.lean ====
section
/-!
DEFINITION. Which operands a command row can carry: lengths that fit the packet (R327), frames and transactions, and
measurements inside the ranges their sources can deliver. Fields that a host can send out of range are well formed:
the block answers them.
-/
namespace Sys2Proof

/-- Parameter words of a packet (R327). -/
def maxWords : Nat := 269
/-- Bytes of an edit record (R345): offset, count and the bytes. -/
def editBytes (e : Edit) : Nat := 6 + e.bytes.length
def editOk (e : Edit) : Bool := e.offset < 2 ^ 32 && e.bytes.length < 2 ^ 16

/-- A cell of a channel with its 17 units, its two comparators; a converter with its three capacitors (R273). -/
def ElemMeas.wf : ElemMeas → Bool
  | .weights c j es => c < 192 && j < 2 && es.length = 17
  | .comparators c j _ _ _ _ => c < 192 && j < 2
  | .capacitors k rs => k < 8 && rs.length = 3
/-- A PEAK that a channel's codes can give (Table 8.6). -/
def CheckMeas.wf : CheckMeas → Bool
  | .peak p => p.getD 0 < 16384
  | _ => true

/-- A packet's operands fit its packet, and an event's operands lie inside what their source can deliver. -/
def Instr.wf (i : Instr) : Bool :=
  match i with
  | .echo _ ws => ws.length < maxWords
  | .set _ _ _ v => v.length + 1 ≤ maxWords
  | .stageMould _ _ bs => bs.length % 4 = 0 && bs.length / 4 + 2 ≤ maxWords
  | .stageMouldFirst _ _ bs => bs.length % 4 = 0 && bs.length / 4 + 2 ≤ maxWords
  | .stagePatch _ es => es.all editOk && (es.map editBytes).sum + 4 ≤ 4 * maxWords
  | .stagePatchFirst _ d es => d.length = 32 && es.all editOk && (es.map editBytes).sum + 36 ≤ 4 * maxWords
  | .inputPathCheckEnd m => m.wf
  | .calibrationMeasurement sat fired vs elems =>
    sat.all (· < 192) && fired.all (fun f => f.1 < 192) && vs.all (fun v => v.1.unit < 192) && elems.all ElemMeas.wf
  | .deckleBoundary rep _ => rep.all fun r => 0 < r.2.toNat
  | .replicaMeasureAsleep _ p => 0 < p.toNat
  | .spiRead clocked => clocked < 2 ^ 16
  | .ptpAnnounce _ interval _ _ => -128 ≤ interval && interval ≤ 127
  | .ptpSync _ interval _ _ => -128 ≤ interval && interval ≤ 127
  | .ptpDelayResp _ _ interval _ => -128 ≤ interval && interval ≤ 127
  | _ => true

end Sys2Proof
end

