-- ==== Sys2Proof/Tests/Slice0.lean ====
section
/-!
SUPPORT. Tests: ill-formed operands that the checks refuse, the spec's own worked examples, and for the statements states and operands that meet
their hypotheses, clause by clause at the ends of their ranges, with what the command then does.
-/
open Sys2Proof Sys2Proof.Machine
namespace Sys2Proof.Tests
set_option maxRecDepth 100000

/-! ## Small states -/

/-- The block in mode m at beat b, powered, with every register at its reset value. -/
def at' (m : Mode) (b : Nat) : State :=
  { State.reset with
    modes := { State.reset.modes with cur := m }
    pwr := { State.reset.pwr with powerGood := true, good := [.vddAon, .vddio, .vddCore, .vddMem, .avdd, .vddSd, .vddaSd] }
    tb := { State.reset.tb with up := b, dk := b / 1024, beat := BitVec.ofNat 56 b } }
/-- The command answers a next state with this property. -/
def nexts (r : Res) (p : State → Bool) : Bool :=
  match r with
  | .next t => p t
  | _ => false
def onModes (s : State) (f : Modes → Modes) : State := { s with modes := f s.modes }
def onTb (s : State) (f : TB → TB) : State := { s with tb := f s.tb }
def onFlt (s : State) (f : Flt → Flt) : State := { s with flt := f s.flt }
def onBarns (s : State) (f : Barns → Barns) : State := { s with barns := f s.barns }
def onMd (s : State) (f : Md → Md) : State := { s with md := f s.md }
def onGran (s : State) (f : Gran → Gran) : State := { s with gran := f s.gran }
def onPwr (s : State) (f : Pwr → Pwr) : State := { s with pwr := f s.pwr }
def onThr (s : State) (f : Thr → Thr) : State := { s with thr := f s.thr }
def onMon (s : State) (f : Mon → Mon) : State := { s with mon := f s.mon }
def onCal (s : State) (f : Cal → Cal) : State := { s with cal := f s.cal }
def onClk (s : State) (f : Clk → Clk) : State := { s with clk := f s.clk }
def onNl (s : State) (f : Nl → Nl) : State := { s with nl := f s.nl }
def onCmd (s : State) (f : Cmd → Cmd) : State := { s with cmd := f s.cmd }
/-- A host on SPI, one on DL0. -/
def q : Req := { port := .spi, tag := 7 }
def q0 : Req := { port := .dl0, tag := 9 }
def S : State := at' .streaming 5120
def C : State := at' .cal 5120
def H : State := at' .held 5120

/-! ## Well-formedness -/

/-- Each check of Instr.wf refuses a term, and lets its neighbour pass. -/
theorem test_wf_packets : (Instr.echo q (List.replicate 269 0)).wf = false ∧ (Instr.echo q (List.replicate 268 0)).wf = true ∧
    (Instr.set q 0 0 (List.replicate 269 0)).wf = false ∧ (Instr.stageMould q 0 [1, 2, 3]).wf = false ∧
    (Instr.stageMouldFirst q 0 [1]).wf = false ∧ (Instr.stageMould q 0 [1, 2, 3, 4]).wf = true ∧
    (Instr.stagePatch q [{ offset := 2 ^ 32, bytes := [] }]).wf = false ∧
    (Instr.stagePatchFirst q [1] []).wf = false ∧ (Instr.stagePatchFirst q (List.replicate 32 0) []).wf = true := by decide
theorem test_wf_events : (Instr.inputPathCheckEnd (.peak (some 16384))).wf = false ∧ (Instr.inputPathCheckEnd (.peak (some 16383))).wf = true ∧
    (Instr.calibrationMeasurement [192] [] [] []).wf = false ∧ (Instr.calibrationMeasurement [] [(192, 1)] [] []).wf = false ∧
    (Instr.calibrationMeasurement [] [] [({ quantity := 0, unit := 192, elem := 0 }, 0)] []).wf = false ∧
    (Instr.calibrationMeasurement [] [] [] [.weights 0 0 [1]]).wf = false ∧
    (Instr.calibrationMeasurement [] [] [] [.comparators 192 0 0 0 0 0]).wf = false ∧
    (Instr.calibrationMeasurement [] [] [] [.capacitors 8 [0, 0, 0]]).wf = false ∧
    (Instr.calibrationMeasurement [] [] [] [.capacitors 7 [0, 0, 0]]).wf = true ∧ (Instr.deckleBoundary [(0, 0)] []).wf = false ∧
    (Instr.replicaMeasureAsleep 0 0).wf = false ∧ (Instr.spiRead 65536).wf = false ∧ (Instr.spiRead 65535).wf = true ∧
    (Instr.ptpSync { domain := 0, sdo := 0, source := 0, seq := 0, corr := 0 } 128 none 0).wf = false ∧
    (Instr.ptpDelayResp { domain := 0, sdo := 0, source := 0, seq := 0, corr := 0 } 0 (-129) 0).wf = false := by decide

/-! ## General -/

theorem wit_step : ({ S with pending := [.spiStatus, .tapIdcode] } : State).pending = .spiStatus :: [.tapIdcode] ∧
    S.pending = [] := by decide
theorem wit_invariant : State.reset.BanksWf ∧ memWf 0xFF (memOf 0xFF 4 [1, 0xFF, 3]) ∧
    (∀ b : Byte, b = 0xFF → memOf 0xFF 4 [1, b, 3] = [(4, 1), (6, 3)]) := by
  refine ⟨by unfold State.BanksWf; decide, by decide, by rintro b rfl; decide⟩
theorem wit_frame : nexts (exec (.nop q) S) (fun t => decide (t.cmd.spiQ.length = 1)) = true ∧ writesRegisters (.nop q) = false ∧
    writesBanks (.nop q) = false ∧ loadsTap (.nop q) = false ∧
    nexts (exec (.seedCommitComplete true) S) (fun _ => true) = true ∧ writesRegisters (.seedCommitComplete true) = false := by decide
theorem wit_bounds : State.reset.Bounded ∧ (onCmd S fun c => { c with spiEv := List.replicate 16 (replyMsg q 0 0 0 []) }).Bounded := by
  unfold State.Bounded; decide

/-! ## Modes and power -/

def mould (initial : Byte) : Copy := { mem := [(0x1A, initial)], ranges := [] }
def sPend : State :=
  onModes C fun m => { m with pend := some { req := q, target := .cal, at? := none, acc := 5119 } }
def sPend' : State := { sPend with modes := { sPend.modes with cur := .streaming } }
theorem wit_requestedTransition : sPend'.modes.cur ≠ .held ∧
    requestDue sPend' { req := q, target := .cal, at? := none, acc := 5119 } = true ∧ sPend'.modes.chipReset = false ∧
    sPend'.modes.toHeld = none ∧ sPend'.modes.toRecovery = none ∧ couchDue sPend' = false ∧ legalRequest sPend' .cal = true ∧
    gate sPend' .cal = 0 ∧ nexts (exec .modeTransition sPend') (fun t => decide (t.modes.cur = .cal ∧ t.modes.cause = 3 ∧
      t.modes.entryDeckle = 5)) = true := by decide
def sRec : State := onModes S fun m => { m with toRecovery := some 0x06, causeAt := 5119 }
theorem wit_recovery_entry : serviceMode sRec.modes.cur = true ∧ causeDue sRec = true ∧ couchDue sRec = false ∧
    recoveryBarred (setReg sRec A_RECOVERY_LIMIT 0 1) false = false ∧
    nexts (exec .recoveryEntry (setReg sRec A_RECOVERY_LIMIT 0 1)) (fun t => decide (t.modes.cur = .recovery ∧
      t.modes.ret = some .streaming ∧ t.modes.cause = 6 ∧ t.modes.recStep = 1)) = true := by decide
def sStep (n : Nat) (retried : Bool) : State :=
  onModes (at' .recovery 5120) fun m => { m with recStep := n, recRetried := retried, ret := some .triggered, causeAt := 5119,
                                                 recLog := [5000] }
theorem wit_recovery_steps : (sStep 2 true).modes.cur = .recovery ∧ (sStep 3 false).modes.toHeld = none ∧
    nexts (exec (.recoveryStepComplete true false) (sStep 3 true)) (fun t => decide (t.modes.recStep = 4)) = true ∧
    nexts (exec (.recoveryStepComplete false false) (sStep 1 false)) (fun t => decide (t.modes.recRetried = true)) = true ∧
    nexts (exec (.recoveryStepComplete false true) (sStep 3 true)) (fun t => decide (t.modes.toHeld = some (8, 3))) = true ∧
    nexts (exec (.recoveryStepComplete true false) (onCal (sStep 3 true) fun c => { c with slews := [(1, { v := 0, target := 5, allow := 0, once := false })] }))
      (fun t => decide (t.cal.slews = [] ∧ t.gran.dwq.length = 1)) = true ∧
    nexts (exec .recoveryWindowExpiry (sStep 1 true)) (fun t => decide (t.modes.recLog = [5000])) = true := by decide
theorem wit_recovery_return : (sStep 4 false).modes.recStep = 4 ∧ (sStep 4 false).modes.ret = some .triggered ∧
    atBoundary (sStep 4 false) = true ∧ (sStep 4 false).modes.causeAt < (sStep 4 false).tb.up ∧ (sStep 4 false).md.couch = none ∧
    nexts (exec .recoveryReturn (sStep 4 false)) (fun t => decide (t.modes.cur = .triggered ∧ t.modes.cause = 5)) = true := by
  decide
def without (s : State) (x : Supply) : State := onPwr s fun p => { p with good := p.good.filter fun y => y ≠ x }
theorem wit_held_entries : powered S = true ∧ S.modes.cur ≠ .held ∧ S.md.couch = none ∧
    nexts (exec .resetNLow S) (fun t => decide (t.modes.cur = .held ∧ t.modes.cause = 1 ∧ t.gran.powered = 1)) = true ∧
    S.pwr.powerGood = true ∧ allGood (without S .avdd) = false ∧ (without S .avdd).pwr.powerGood = true ∧
    nexts (exec .powerGoodWithdraw (without S .avdd)) (fun t => decide (t.modes.cur = .held ∧ t.modes.cause = 0)) = true ∧
    isGood (without S .vddio) .vddAon = true ∧ isGood (without S .vddio) .vddio = false ∧
    nexts (exec .vddioLoss (without S .vddio)) (fun t => decide (t.modes.cur = .held)) = true ∧
    isGood (without S .vddMem) .vddMem = false ∧
    nexts (exec .vddMemLoss (without S .vddMem)) (fun t => decide (t.modes.cur = .held ∧ t.md.active = none)) = true ∧
    nexts (exec .heldEntry (onModes S fun m => { m with chipReset := true }))
      (fun t => decide (t.modes.cur = .held ∧ t.modes.cause = 2)) = true := by decide
theorem wit_supplies :
    isGood (onPwr S fun p => { p with aonLost := true }) .vddAon = true ∧
    nexts (exec .powerOn (onPwr S fun p => { p with aonLost := true })) (fun t => decide (t.modes.cur = .held ∧ t.tb.beat = 0)) = true ∧
    isGood (without S .avdd) .avdd = false ∧ nexts (exec (.supplyGood .avdd) (without S .avdd)) (fun t => isGood t .avdd) = true ∧
    isGood S .vddMem = true ∧ nexts (exec (.supplyFail .vddMem) S) (fun t => !isGood t .vddMem) = true ∧
    nexts (exec (.powerGoodAssert 3) (onPwr (at' .held 81920) fun p => { p with powerGood := false, goodSince := 0 }))
      (fun t => t.pwr.powerGood && decide (t.pwr.straps = 3)) = true ∧
    nexts (exec (.powerGoodAssert 3) (onPwr (at' .held 81919) fun p => { p with powerGood := false, goodSince := 0 }))
      (fun t => !t.pwr.powerGood) = true ∧
    nexts (exec (.resetNRise 5) (onPwr H fun p => { p with resetHigh := false })) (fun t => t.pwr.resetHigh && decide (t.pwr.straps = 5))
      = true := by decide
def sAuto (dk : Nat) : State := onModes (at' .held (1024 * dk)) fun m => { m with autoFrom := some 5 }
def sSu (n up : Nat) : State := onModes (at' .startUp up) fun m => { m with suStep := n, suSince := 0, stagedAt := 0 }
theorem wit_autoStart : bootSource (sAuto 45) ≠ 3 ∧ powered (sAuto 45) = true ∧ atBoundary (sAuto 45) = true ∧
    nexts (exec .autoStart (sAuto 45)) (fun t => decide (t.modes.cur = .startUp ∧ t.modes.suStep = 1)) = true ∧
    nexts (exec .autoStart (sAuto 44)) (fun t => decide (t.modes.cur = .held)) = true := by decide
theorem wit_startSteps :
    nexts (exec (.startupStepComplete true 0 [] []) (sSu 3 5)) (fun t => decide (t.modes.suStep = 4 ∧ t.modes.suPassed = 4)) = true ∧
    nexts (exec (.startupStepComplete false 9 [] []) (sSu 3 5)) (fun t => decide (t.modes.suHalted = true ∧ t.modes.suFailed = 3))
      = true ∧
    stepOverdue (sSu 7 (2 ^ 30)) 7 0 = true ∧ stepOverdue (sSu 1 (2 ^ 40)) 1 0 = true ∧
    nexts (exec (.startupStepTimeout 0) (sSu 7 (2 ^ 30))) (fun t => decide (t.modes.suHalted = true ∧ t.modes.suFailed = 7)) = true ∧
    bootSource (onPwr (sSu 5 2457600000) fun p => { p with straps := 1 }) ≠ 0 ∧
    nexts (exec .bootStagingTimeout (onPwr (sSu 5 2457600000) fun p => { p with straps := 1 }))
      (fun t => decide (t.modes.suHalted = true ∧ t.modes.suFailed = 5)) = true ∧
    nexts (exec .bootStagingTimeout (onPwr (sSu 5 2457599999) fun p => { p with straps := 1 }))
      (fun t => decide (t.modes.suHalted = false)) = true := by decide
def sDone : State := onMd (sSu 8 5120) fun m => { m with active := some (mould 2) }
theorem wit_startDone : atBoundary sDone = true ∧ sDone.modes.causeAt < sDone.tb.up ∧ transitionDue sDone = false ∧
    modeOf (initialModeCode (mould 2)) = some .cal ∧ gate sDone .cal = 0 ∧
    nexts (exec .startupComplete sDone) (fun t => decide (t.modes.cur = .cal ∧ t.modes.cause = 4)) = true := by decide

/-! ## Front end -/

def sHit (x : Channel) : State := setChan (setReg S A_CH_CONFIG 5 (reg S A_CH_CONFIG 5 ||| 1)) 5 x
def X0 : Channel := Channel.dflt
/-- A whole entry of a window that began 40 beats ago. -/
def entry : Entry :=
  { tick := 41615360, samples := List.replicate 16 8192, skip := 0, stamp := 0, raw := some 0, neg := false, limit := 0, first := 0, episodes := 0,
    lag := 0, pile := 0, gain := 1, aaf := 0, secondary := false, free := false, fused := false, saturated := false, stuck := false,
    prescaled := false, changeover := false, overflow := false, missing := 0, pretrig := 0, stepgen := 0, complete := true,
    edge := 5080, deckle := 4, stop := 5100 }
theorem wit_hitEdges : enabled (sHit X0) 5 = true ∧ (chan (sHit X0) 5).active = false ∧
    canAllocate (sHit X0) 5 = true ∧ prescaleCode X0 = 0 ∧
    nexts (exec (.hitEdge 5 100000 8191 0 3) (sHit X0)) (fun t => decide ((chan t 5).latch.length = 1 ∧ (chan t 5).active = true ∧
      tally t A_CH_HITS 5 = 1 ∧ tally t A_CH_PILEUP 5 = 0)) = true ∧
    canAllocate (sHit { X0 with masked := true }) 5 = false ∧
    nexts (exec (.hitEdge 5 100000 0 0 0) (sHit { X0 with masked := true })) (fun t => decide ((chan t 5).latch = [] ∧
      tally t A_CH_HITS 5 = 1)) = true ∧
    nexts (exec (.hitEdge 5 100000 0 0 0) (sHit { X0 with lastAccepted := some (5120 * 8192 - 4026) })) (fun t =>
      decide ((chan t 5).latch = [] ∧ tally t A_CH_PILEUP 5 = 1)) = true ∧
    nexts (exec (.hitEdge 5 100000 0 0 0) (sHit { X0 with lastAccepted := some (5120 * 8192 - 4027) })) (fun t =>
      decide ((chan t 5).latch.length = 1)) = true ∧
    latchDepth (sHit { X0 with latch := List.replicate 8 entry }) 5 = 8 ∧
    nexts (exec (.hitEdge 5 100000 0 0 0) (sHit { X0 with latch := List.replicate 8 entry })) (fun t =>
      decide ((chan t 5).overflow = true ∧ tally t A_CH_PILEUP 5 = 1)) = true := by decide
theorem wit_windows :
    nexts (exec (.discriminatorRelease 5 (-100000)) (sHit { X0 with active := true })) (fun t => decide ((chan t 5).active = false)) = true ∧
    (chan (sHit { X0 with latch := [{ entry with samples := [1], complete := false }] }) 5).anaNext = none ∧
    nexts (exec (.sampleConverted 5 3) (sHit { X0 with latch := [{ entry with samples := [1], complete := false }] }))
      (fun t => decide ((chan t 5).latch = [{ entry with samples := [1, 3], complete := false }])) = true ∧
    nexts (exec (.tdcStop 5 9) (sHit { X0 with latch := [{ entry with raw := none }] }))
      (fun t => decide ((chan t 5).latch = [{ entry with raw := some 9 }])) = true ∧
    nexts (exec (.entryComplete 5) (sHit { X0 with latch := [{ entry with complete := false }] }))
      (fun t => decide ((chan t 5).latch = [entry])) = true := by decide
theorem wit_stuck :
    (sHit { X0 with active := true, since := 0 }).tb.up = 5120 ∧
    nexts (exec (.stuckLimitExpiry 5) (setReg (sHit { X0 with active := true, since := 0 }) A_CH_STUCK_LIMIT 5 5119))
      (fun t => decide ((chan t 5).masked = true ∧ (chan t 5).backoff = 40 ∧ (chan t 5).nextBackoff = 80)) = true ∧
    nexts (exec (.stuckLimitExpiry 5) (setReg (sHit { X0 with active := true, since := 0 }) A_CH_STUCK_LIMIT 5 5120))
      (fun t => decide ((chan t 5).masked = false)) = true ∧
    deckleDue (deckle S) 5 = true ∧
    nexts (exec (.stuckBackoffEnd 5) (sHit { X0 with masked := true, backoffEnd := 5 }))
      (fun t => decide ((chan t 5).masked = false)) = true ∧
    nexts (exec (.stuckBackoffEnd 5) (sHit { X0 with masked := true, backoffEnd := 5, active := true, nextBackoff := 40000 }))
      (fun t => decide ((chan t 5).masked = true ∧ (chan t 5).backoff = 40000)) = true ∧
    nexts (exec (.stuckBackoffReset 5) (setChan (at' .streaming 40960000) 5 { X0 with episodes := 1, nextBackoff := 80 }))
      (fun t => decide ((chan t 5).nextBackoff = 40 ∧ (chan t 5).episodes = 0)) = true := by decide
theorem wit_frontEndFrame : nexts (exec (.stuckBackoffReset 5) S) (fun t => decide (t = S)) = true := by decide

/-! ## Time base -/

theorem wit_beats : counting (at' .held 1023) = true ∧ S.pending = [] ∧
    nexts (exec (.deckleBoundary [] []) (at' .held 1022)) (fun t => decide (t.tb.beat = 1024 ∧ t.tb.up = 1024)) = true ∧
    nexts (step (onTb H fun t => { t with beat := 0xFFFFFFFFFFFFFF })) (fun t => decide (t.tb.beat = 0)) = true := by decide
def G1 : State := setReg S A_TB_SOURCE 0 1
theorem wit_sync : timingGen S = 0 ∧ timingGen G1 = 1 ∧
    nexts (exec .syncInPulse (setReg S A_TB_SYNC_CTRL 0 0x300)) (fun t => decide (t.tb.sync = [{ due := 5123, word := none }])) = true ∧
    (syncByte G1 6 0xAB).tb.asm = 0xAB ∧ (syncByte G1 0 0xAB).tb.asm = 0xAB000000000000 ∧ (syncByte G1 7 0xAB).tb = G1.tb ∧
    (syncLoad (onTb G1 fun t => { t with asmSeen := 127, asm := 1024 }) 0x7FF).tb.sync = [{ due := 5136, word := some 1024 }] := by
  decide
def sLoad (arm : Nat) (w : Option Beat) : State := onTb (setReg (setReg S A_TB_SYNC_CTRL 0 arm) A_TB_SYNC_PRESET 0 7168) fun t =>
  { t with sync := [{ due := 5120, word := w }] }
theorem wit_syncLoads : spacingOk (sLoad 1 none) 5120 = true ∧ stepAllowed (sLoad 1 none) = true ∧
    stepAllowed (onTb (sLoad 1 none) fun t => { t with quality := 2 }) = false ∧
    bitAt (reg (sLoad 1 none) A_TB_SYNC_CTRL 0) 0 = true ∧ bitAt (reg (sLoad 0 none) A_TB_SYNC_CTRL 0) 0 = false ∧
    nexts (exec .syncLoadOrCheck (sLoad 1 none)) (fun t => decide (t.tb.beat = 7168 ∧ t.tb.sync = [])) = true ∧
    nexts (exec .syncLoadOrCheck (sLoad 1 (some 2048))) (fun t => decide (t.tb.beat = 2048)) = true ∧
    nexts (exec .syncLoadOrCheck (onTb (sLoad 1 none) fun t => { t with quality := 2 })) (fun t => decide (t.tb.beat = 5120 ∧
      tally t A_TB_SYNC_TALLY 0 = 65536 ∧ reg t A_TB_SYNC_CTRL 0 = 0)) = true ∧
    nexts (exec .syncLoadOrCheck (sLoad 0 none)) (fun t => decide (tally t A_TB_SYNC_TALLY 0 = 1)) = true ∧
    nexts (exec .syncLoadOrCheck (setReg (sLoad 0 none) A_TB_SYNC_PRESET 0 7169)) (fun t => decide (tally t A_TB_SYNC_TALLY 0 = 65536))
      = true := by decide
def sWork (n : Int) : State := onTb S fun t => { t with work := some (.servo n 0) }
theorem wit_steps : spacingOk (sWork 1024) 5120 = true ∧ ((sWork 1024).tb.beat + BitVec.ofInt 56 1024).toNat % 1024 = 0 ∧
    nexts (exec .timeStep (sWork 1024)) (fun t => decide (t.tb.beat = 6144 ∧ t.tb.work = none)) = true ∧
    nexts (exec .timeStep (sWork (-1))) (fun t => decide (t = sWork (-1))) = true ∧
    (at' .streaming (5121)).tb.epoch ≠ 9 ∧ spacingOk S 5120 = true ∧
    nexts (exec .epochChange (onTb S fun t => { t with epochNext := some 9, stepgen := 3 }))
      (fun t => decide (t.tb.epoch = 9 ∧ t.tb.stepgen = 0 ∧ t.tb.flags = 8 ∧ tally t A_TB_STEPS 0 = 1)) = true ∧
    nexts (exec .epochChange (onTb (at' .streaming 5121) fun t => { t with epochNext := some 9 }))
      (fun t => decide (t.tb.epoch = S.tb.epoch ∧ t.tb.epochNext = some 9)) = true ∧
    nexts (exec .epochChange (onTb S fun t => { t with epochNext := some t.epoch })) (fun t => decide (t.tb.epochNext = none ∧ t.tb.flags = 0)) = true ∧
    nexts (exec .timeStep (onTb S fun t => { t with work := some (.load 7168) })) (fun t => decide (t.tb.beat = 7168)) = true ∧
    nexts (exec .timeStep (onTb (at' .streaming 5121) fun t => { t with work := some (.load 7168) }))
      (fun t => decide (t.tb.beat = 5121)) = true := by decide
def sStook (x : Stook) : State := setStook S 3 x
def K0 : Stook := Stook.dflt
theorem wit_references :
    nexts (exec .refclkLoss (onTb S fun t => { t with refclk := true })) (fun t => decide (t.tb.refclk = false ∧
      t.tb.ref = .keeper ∧ t.flt.levels.length = 1)) = true ∧
    S.tb.refclk = false ∧ nexts (exec .refclkReturn S) (fun t => decide (t.tb.refclk = true ∧ t.tb.ref = .refclk)) = true ∧
    (at' .cal (2 ^ 32)).tb.beat.toNat % 2 ^ 32 = 0 ∧
    nexts (exec .epochPeriodic (at' .cal (2 ^ 32))) (fun t => decide (t.tb.flags = 16 ∧ t.gran.dwq.length = 1)) = true ∧
    apart 201 200 200 = false ∧ apart 202 200 200 = true ∧ apart 5001 5000 5000 = false ∧
    nexts (exec (.replicaMeasureAsleep 3 201) (setReg (sStook { K0 with prep := 200, prepSince := 4 }) A_TDC_REPLICA_PERIOD 0 1))
      (fun t => decide ((stook t 3).prepNext = some 201)) = true ∧
    nexts (exec (.replicaMeasureAsleep 3 202) (setReg (sStook { K0 with prep := 200, prepSince := 4, prepRetry := some 202 })
      A_TDC_REPLICA_PERIOD 0 1)) (fun t => decide ((stook t 3).prepNext = some 202)) = true ∧
    nexts (exec (.replicaMeasureAsleep 3 202) (setReg (sStook { K0 with prep := 200, prepSince := 4 }) A_TDC_REPLICA_PERIOD 0 1))
      (fun t => decide ((stook t 3).prepNext = none ∧ (stook t 3).prepRetry = some 202)) = true ∧
    nexts (exec (.replicaMeasureAsleep 3 300) (setReg (sStook { K0 with prep := 200, prepSince := 4, prepRetry := some 202 })
      A_TDC_REPLICA_PERIOD 0 1)) (fun t => decide ((stook t 3).prepNext = none ∧ (stook t 3).prepRetry = none)) = true := by decide
def hdr : PtpHeader := { domain := 0, sdo := 0, source := 77, seq := 4, corr := 0 }
def dset : PtpDataset := { priority1 := 1, clockClass := 6, accuracy := 0x21, variance := 0, priority2 := 1, grandmaster := 5, stepsRemoved := 0 }
def P2 : State := onTb (onCal (setReg S A_TB_SOURCE 0 2) fun c => { c with address := 1 }) fun t => { t with linkUp := true }
def PM : State := onTb P2 fun t => { t with master := some 77, servo := .acquire }
theorem wit_ptp_messages : ptpOn PM = true ∧ ptpDomainOk PM hdr = true ∧ followed PM hdr = true ∧ PM.tb.linkUp = true ∧
    nexts (exec (.ptpSync hdr (-7) (some 100) 150) PM) (fun t => decide (t.tb.offset = 50)) = true ∧
    nexts (exec (.ptpSync hdr 0 none 150) PM) (fun t => decide (t.tb.twoStep = some (hdr, 150))) = true ∧
    nexts (exec (.ptpFollowUp hdr 100) (onTb PM fun t => { t with twoStep := some (hdr, 150) })) (fun t => decide (t.tb.offset = 50))
      = true ∧
    nexts (exec (.ptpDelayResp hdr (ownPort PM) 0 30) (onTb PM fun t => { t with delayReq := some (4, 20), syncDiff := some 4 }))
      (fun t => decide (t.tb.delays = [7])) = true ∧
    nexts (exec (.delayReqSend 8) PM) (fun t => decide (t.tb.delayReq = some (0, 8) ∧ t.tb.delaySeq = 1)) = true ∧
    nexts (exec (.ptpDiscardedMessage true) PM) (fun t => decide (tally t A_PTP_MSG_TALLY 5 = 1)) = true := by decide
def fm : Foreign := { id := 77, ds := dset, interval := -3, seen := [5000], lastSync := 0, syncInterval := 0, announceOk := true, syncOk := true }
/-- The timing port at beat b, its link down since beat 0. -/
def tpDown (b : Nat) : State := onTb (onCal (setReg (at' .streaming b) A_TB_SOURCE 0 2) fun c => { c with address := 1 }) fun t =>
  { t with servo := .listen, linkDownAt := 0 }
theorem wit_ptp_masters : 5000 ≤ P2.tb.up ∧ P2.tb.up ≤ 5000 + 4 * logBeats (-3) ∧
    nexts (exec (.ptpAnnounce hdr (-3) true dset) (onTb P2 fun t => { t with foreign := [fm] }))
      (fun t => decide (t.tb.master = some 77 ∧ t.tb.servo = .acquire)) = true ∧
    nexts (exec (.ptpAnnounce hdr 3 true dset) (onTb P2 fun t => { t with foreign := [fm] }))
      (fun t => decide (t.tb.master = some 77)) = true ∧
    nexts (exec .masterLoss PM) (fun t => decide (t.tb.master = none ∧ t.tb.servo = .listen)) = true ∧
    bits (reg PM A_TB_HOLDOVER_TIME 0) 15 0 * 40960000 ≤ (at' .cal (2 ^ 45)).tb.up ∧
    nexts (exec .holdoverExpiry (onTb (at' .cal (2 ^ 45)) fun t => { t with lostAt := some 0 })) (fun t => t.tb.expired) = true ∧
    nexts (exec .tpLinkDown PM) (fun t => decide (t.tb.linkUp = false ∧ t.tb.servo = .listen ∧ t.tb.linkDownAt = 5120)) = true ∧
    ptpOn (tpDown 40960001) = true ∧ (tpDown 40960001).tb.linkDownAt + 40960000 < (tpDown 40960001).tb.up ∧
    nexts (exec .tpLinkDown (tpDown 40960001)) (fun t => decide (t.tb.servo = .faulty)) = true ∧
    nexts (exec .tpLinkDown (tpDown 40960000)) (fun t => decide (t.tb.servo = .listen)) = true ∧
    nexts (exec .tpLinkUp (onTb P2 fun t => { t with linkUp := false, servo := .faulty }))
      (fun t => decide (t.tb.linkUp = true ∧ t.tb.servo = .listen)) = true := by decide

/-! ## Winnower and trigger port -/

def stuck : Entry := { entry with stuck := true, limit := 100, first := 3, episodes := 1 }
/-- Channel 53 (stook 3) with this entry, its stook's clock running, and n one-entry sheaves before it in the queue. -/
def W (e : Entry) (n : Nat) : State :=
  setStook (setChan S 53 { X0 with latch := [e] }) 3 { K0 with clock := true, outq := List.replicate n (oneSlot 10 3 3 5 0) }
theorem wit_winnower : readable (W stuck 0) 53 = some stuck ∧ (chan (W stuck 0) 53).stuckWait = none ∧
    (winnow (W stuck 0) 53 stuck (features (W stuck 0) 53 stuck)).isSome = true ∧
    nexts (exec (.winnowerReadEntry 53 .clean) (W stuck 0)) (fun t => decide ((chan t 53).latch = [] ∧
      (stook t 3).outq.length = 1 ∧ tally t A_WN_KEPT 53 = 1)) = true ∧
    nexts (exec (.winnowerReadEntry 53 .clean) (W stuck 28)) (fun t => decide ((chan t 53).latch = [])) = true ∧
    nexts (exec (.winnowerReadEntry 53 .clean) (W stuck 29)) (fun t => decide ((chan t 53).latch = [stuck] ∧
      tally t A_WN_STALLS 3 = 1)) = true ∧
    nexts (exec (.winnowerReadEntry 53 (.lost false)) (W stuck 0)) (fun t => decide ((chan t 53).latch = [] ∧
      (stook t 3).outq = [] ∧ tally t A_CH_PILEUP 53 = 1 ∧ tally t A_CH_ENTRY_ERRORS 53 = 1)) = true := by decide
/-- With keep table 0 set to keep nothing. -/
theorem wit_winnower_chaff : winnow (setReg (W entry 0) A_WN_KEEP_TABLE 0 3) 53 entry
      (features (setReg (W entry 0) A_WN_KEEP_TABLE 0 3) 53 entry) = none ∧
    nexts (exec (.winnowerReadEntry 53 .clean) (setReg (W entry 0) A_WN_KEEP_TABLE 0 3)) (fun t => decide ((chan t 53).latch = [] ∧
      (stook t 3).outq = [] ∧ tally t A_WN_CHAFF 53 = 1)) = true := by decide
/-- R129: the ends of the charge scales. -/
theorem test_chargeCode : chargeCode 16383 = (0, 16383) ∧ chargeCode 16384 = (1, 4096) ∧ (chargeCode 262143).1 = 2 := by decide
def Q3 (k : Stook) : State := setStook S 3 { k with clock := true, outq := [oneSlot 10 3 3 5 0, oneSlot 10 3 3 6 0] }
theorem wit_sheaves : stookRuns (W entry 3) 3 = true ∧ fillEntries (stook (W entry 3) 3) = 0 ∧
    movedNow (W entry 3) (stook (W entry 3) 3) = 0 ∧ (stook (W entry 3) 3).waitq = [] ∧
    nexts (exec (.sheafToStaging 3) (onGran (W entry 3) fun g => { g with seq := [(3, 65535)] })) (fun t =>
      decide ((stook t 3).outq.length = 2 ∧ (stook t 3).fill.length = 1 ∧ pget 0 t.gran.seq 3 = 0)) = true ∧
    nexts (exec (.sheafToStaging 3) (Q3 { K0 with moved := 3, movedUp := 5120 })) (fun t => decide ((stook t 3).outq.length = 1 ∧
      (stook t 3).moved = 4)) = true ∧
    nexts (exec (.sheafToStaging 3) (Q3 { K0 with moved := 4, movedUp := 5120 })) (fun t => decide ((stook t 3).outq.length = 2)) = true ∧
    nexts (exec (.sheafToStaging 3) (Q3 { K0 with moved := 4, movedUp := 5119 })) (fun t => decide ((stook t 3).moved = 1)) = true := by
  decide
theorem wit_stagingFull : nexts (exec (.sheafToStaging 3) (Q3 { K0 with fill := List.replicate 127 { sheaf := oneSlot 10 3 3 5 0, seq := 1 } }))
      (fun t => decide ((stook t 3).fill.length = 128)) = true ∧
    nexts (exec (.sheafToStaging 3) (Q3 { K0 with fill := List.replicate 128 { sheaf := oneSlot 10 3 3 5 0, seq := 1 } }))
      (fun t => decide ((stook t 3).outq.length = 2)) = true := by decide
def tallyDue (k : Stook) : State := setReg (setStook (setChan S 0 { X0 with repKept := 7 }) 0 k) A_WN_TALLY_PERIOD 0 5
theorem wit_tallyReports : atBoundary S = true ∧ reg S A_WN_TALLY_PERIOD 0 ≠ 0 ∧ fencedStook S 0 = false ∧ fresh S 1 0 = true ∧
    (deckle S).toNat % 5 = 0 ∧ stookRuns (tallyDue { K0 with clock := true }) 0 = true ∧
    nexts (exec (.tallyReport 0) (tallyDue { K0 with clock := true, outq := List.replicate 30 (oneSlot 10 3 0 5 0) })) (fun t =>
      decide ((stook t 0).outq.length = 32 ∧ (chan t 0).repKept = 0)) = true ∧
    nexts (exec (.tallyReport 0) (tallyDue { K0 with clock := true, outq := List.replicate 31 (oneSlot 10 3 0 5 0) })) (fun t =>
      decide ((stook t 0).outq.length = 32 ∧ (stook t 0).waitq.length = 1)) = true ∧
    nexts (exec (.tallyReport 0) (tallyDue K0)) (fun t =>
      decide ((stook t 0).waitq.length = 2 ∧ (chan t 0).repKept = 0)) = true := by decide
def T : State := at' .triggered 5120
theorem wit_answers : (answerOf H 1 0 = (5, 0)) ∧ (onBarns T fun b => { b with takeover := some {
      kind := 1, deckle := 0, dk := 0, checkpoint := 0, alarmA := false, alarmB := false, cold := false, test := none } }).barns.takeover.isSome = true ∧
    padsFree T = true ∧ powered T = true ∧ onesIn (tgOutWord T 5).toNat % 2 = 1 ∧ (tgOutWord T 4).toNat = 0xC400 ∧ T.thr.undriven = false ∧
    nexts (exec (.tgIdle 1 0) T) (fun t => decide (t.thr.out = tgOutWord T (answerOf T 0 1).1)) = true ∧
    nexts (exec (.tgPing 0 5) H) (fun t => decide (t.thr.out = tgOutWord H 5)) = true ∧
    nexts (exec (.tgReservedOpcode 2 0 5) T) (fun t => decide (t.thr.out = tgOutWord T (answerOf T 7 0).1)) = true ∧
    nexts (exec (.tgSyncByteWord 0 6 5) (setReg T A_TB_SOURCE 0 1)) (fun t => decide (t.tb.asmSeen = 64)) = true ∧
    nexts (exec (.tgSyncLoadWord 0 0x7FF) (onTb (setReg T A_TB_SOURCE 0 1) fun t => { t with asmSeen := 127 }))
      (fun t => decide (t.tb.sync.length = 1)) = true ∧
    T.thr.los = false ∧ nexts (exec .tgLossOfSignal T) (fun t => t.thr.los) = true ∧
    nexts (exec .tgSignalReturn (onThr T fun x => { x with los := true, undriven := true }))
      (fun t => !t.thr.los && !t.thr.undriven) = true := by decide
def win : Window := { lo := 1, hi := 5, stooks := 0xFFF, readClass := 1, force := 5120, keep := 5120 }
theorem wit_accept : (answerOf (setReg T A_TH_ANSWER_TABLE 257 0x81) 1 0).2 = 1 ∧
    bitAt (reg T A_TH_TRIGGER_TABLE 63) 63 = false ∧
    nexts (exec (.tgAccept 0 63 0) (setReg T A_TH_ANSWER_TABLE 257 0x81)) (fun t => decide (t.thr.waiting = [] ∧
      tally t A_TH_EXCEPTIONS 0 = 1)) = true ∧
    nexts (exec (.tgAccept 0 63 1) (setReg (setReg T A_TH_ANSWER_TABLE 257 0x81) A_TH_TRIGGER_TABLE 63 (2 ^ 63 + 2 ^ 61 + 10 * 2 ^ 32 + 3 * 65536 + 4)))
      (fun t => decide (t.thr.waiting.map (fun w => (w.lo, w.hi, w.readClass, w.force)) = [(5106, 5113, 1, 5128)])) = true ∧
    (answerOf (setReg T A_TH_ANSWER_TABLE 258 0x84) 2 0).2 = 4 ∧
    nexts (exec (.tgDiscard 0 4095) (setReg (onTb T fun t => { t with beat := 200000 }) A_TH_ANSWER_TABLE 258 0x84))
      (fun t => decide (t.thr.expires = [{ before := 68960, due := 5128 }])) = true := by decide
theorem wit_windowsInForce :
    nexts (exec .windowComesIntoForce (onThr T fun x => { x with waiting := [win], store := List.replicate 511 win }))
      (fun t => decide (t.thr.waiting = [] ∧ t.thr.store.length = 512)) = true ∧
    nexts (exec .windowComesIntoForce (onThr T fun x => { x with waiting := [{ win with stooks := 1 }], store := List.replicate 512 { win with stooks := 2 } }))
      (fun t => decide (t.thr.store.length = 512 ∧ (t.thr.store.getLast?.map fun w => w.stooks) = some 3)) = true ∧
    nexts (exec .windowLeavesStore (onThr T fun x => { x with store := [win, { win with keep := 5119 }] }))
      (fun t => decide (t.thr.store = [win])) = true := by decide
/-- R157, R159: TG_IN words spelled bit by bit, the first bit sent in bit 0: ACCEPT of type 33 with offset 1, and SYNC byte 6. -/
theorem test_tgInWords : tgInCommand 0b1000001000010100 = .tgAccept 0 33 1 ∧
    tgInCommand 0b1010101001101110 = .tgSyncByteWord 1 6 0x55 := by decide
def unit0 : GUnit :=
  { arr := 3, cls := 2, src := 3, seq := 0, slots := [300], st := .pending, words := [0x1000000006400000, 0x3500000000000000],
    hit := some (53, 100), owed := [], flying := [], sentOn := [], maxLat := 40, ready := 0, poisoned := none, gapOpen := false }
theorem wit_expiry : (onThr T fun x => { x with expires := [{ before := 101, due := 5120 }] }).thr.waiting = [] ∧
    expiring T = true ∧ expiring H = false ∧ expiring (at' .recovery 5120) = false ∧ atBoundary T = true ∧
    nexts (exec .earlyExpiry (onGran (onThr T fun x => { x with expires := [{ before := 101, due := 5120 }] }) fun g => { g with units := [unit0] }))
      (fun t => decide (t.gran.units = [])) = true ∧
    nexts (exec .earlyExpiry (onGran (onThr T fun x => { x with expires := [{ before := 100, due := 5120 }] }) fun g => { g with units := [unit0] }))
      (fun t => decide (t.gran.units = [unit0])) = true ∧
    nexts (exec .pendingExpiry (onGran T fun g => { g with units := [unit0] })) (fun t => decide (t.gran.units = [])) = true ∧
    nexts (exec .pendingExpiry (onGran T fun g => { g with units := [{ unit0 with maxLat := 5013 }] }))
      (fun t => decide (t.gran.units.length = 1)) = true ∧
    nexts (exec .pendingExpiry (onGran T fun g => { g with units := [{ unit0 with maxLat := 5012 }] }))
      (fun t => decide (t.gran.units = [])) = true := by decide

/-! ## Granary -/

def num (x : Sheaf) : Numbered := { sheaf := x, seq := 9 }
def gap : Sheaf := oneSlot 5 0 14 5 0
def rep : Sheaf := oneSlot 10 3 13 5 0
theorem wit_writes : gap.cls = 0 ∧ sheafType gap ≠ 8 ∧ (resolveWrite S (num gap) 0).isSome = true ∧
    nextDirect false [gap, rep] = some rep ∧ nextDirect true [gap, { rep with src := 15 }] = some { rep with src := 15 } ∧
    (resolveWrite (bumpSeq S 13) (num rep) 5121).isSome = true ∧
    nexts (exec .granaryWrite (onGran S fun g => { g with dwq := [gap, rep] })) (fun t => decide (t.gran.dwq = [gap] ∧
      t.gran.units.length = 1 ∧ pget 0 t.gran.seq 13 = 1)) = true ∧
    nexts (exec .deferredP0Write (onGran S fun g => { g with dwq := [gap] }))
      (fun t => decide (t.gran.dwq = [])) = true := by decide
def Full : State :=
  onGran C fun g => { g with powered := 0, units := [{ unit0 with cls := 0, slots := List.range 256 }], dwq := [gap],
                             hold := List.replicate 64 unit0 }
theorem wit_writes_wait : p0NeedsHold Full = true ∧ holdFull Full = true ∧
    holdFull (onGran Full fun g => { g with hold := List.replicate 63 unit0 }) = false ∧ resolveWrite (bumpSeq Full 14) (num gap) 5121 = none ∧
    nexts (exec .granaryWrite Full) (fun t => decide (t = settleRequests Full)) = true ∧
    nexts (exec .deferredP0Write Full) (fun t => decide (t = settleRequests Full)) = true ∧
    nexts (exec .granaryWrite (onGran S fun g => { g with dwq := [gap], direct := 2047 })) (fun t => decide (t.gran.dwq = [])) = true ∧
    nexts (exec .granaryWrite (onGran S fun g => { g with dwq := [gap], direct := 2048 })) (fun t => decide (t.gran.dwq = [gap])) = true := by
  decide
theorem wit_staging : atBoundary (sStook { K0 with fill := [num rep] }) = true ∧
    nexts (exec (.stagingSwap 3) (sStook { K0 with fill := [num rep] })) (fun t => decide ((stook t 3).drain = [num rep] ∧
      (stook t 3).fill = [] ∧ tally t A_GR_SWAPS 3 = 1)) = true ∧
    entriesOf (num rep) = 1 ∧ (resolveWrite (sStook { K0 with drain := [num rep] }) (num rep) 5121).isSome = true ∧
    nexts (exec (.stagingDrain 3 .clean) (sStook { K0 with drain := [num rep] })) (fun t => decide ((stook t 3).drain = [] ∧
      t.gran.units.length = 1)) = true ∧
    nexts (exec (.stagingDrain 3 (.lost false)) (sStook { K0 with drain := [num rep, num gap] })) (fun t =>
      decide ((stook t 3).drain = [] ∧ t.gran.units.map GUnit.src = [14] ∧ tally t A_WN_GUARD 13 = 1)) = true ∧
    nexts (exec (.stagingDrain 3 (.lost false)) (sStook { K0 with drain := [num rep] })) (fun t => decide (t.gran.units = [])) = true := by
  decide
theorem wit_upkeep : freeGeneral S ≠ 0 ∧ isBroadcast unit0 = false ∧
    nexts (exec .p0HoldWrite (onGran S fun g => { g with hold := [unit0] })) (fun t => decide (t.gran.hold = [] ∧
      t.gran.units.map GUnit.slots = [[256]])) = true ∧
    bankMayGo (onGran S fun g => { g with powered := 7, bankIdle := [(2, 65536)] }) 2 = true ∧
    nexts (exec (.bankPowerOff 2) (onGran S fun g => { g with powered := 7, bankIdle := [(2, 65536)] }))
      (fun t => decide (t.gran.powered = 3)) = true ∧
    nexts (exec (.scrubSlot .clean) (onGran S fun g => { g with clock := true, scrubNext := 32767, scrubOwed := 1, direct := 2048, scrubUsed := 8319 }))
      (fun t => decide (t.gran.scrubNext = 32768 ∧ t.gran.scrubOwed = 0)) = true ∧
    nexts (exec (.scrubSlot .clean) (onGran S fun g => { g with clock := true, scrubNext := 32767, scrubOwed := 1, direct := 2048, scrubUsed := 8320 }))
      (fun t => decide (t.gran.scrubNext = 32767)) = true ∧
    nexts (exec (.scrubSlot .clean) (onGran S fun g => { g with clock := true, scrubNext := 32767 }))
      (fun t => decide (t.gran.scrubNext = 32767)) = true ∧
    isFlying unit0 = false ∧
    nexts (exec (.scrubSlot (.lost false)) (onGran S fun g => { g with clock := true, scrubNext := 300, scrubOwed := 1, units := [unit0] }))
      (fun t => decide (∀ v ∈ t.gran.units, v.arr ≠ 3)) = true ∧
    nexts (exec (.scrubBurst []) (onGran S fun g => { g with scrubSince := 4096, scrubOwed := 1 })) (fun t => decide (t.gran.clock = true ∧
      t.gran.scrubOwed = 0 ∧ t.gran.scrubSince = 0)) = true ∧
    nexts (exec (.scrubBurst []) (onGran S fun g => { g with scrubSince := 4095, scrubOwed := 1 })) (fun t => decide (t.gran.scrubOwed = 1)) = true ∧
    periodDue S 5 = true ∧ fresh S 2 0 = true ∧
    nexts (exec .granaryReport (setReg S A_GR_REPORT_PERIOD 0 5)) (fun t => decide (t.gran.dwq.length = 1)) = true := by decide
/-- R206, Table 5.5: a pair with marks 5 and 9 at the ends of each range; and the crossings of its level (R208). -/
theorem test_watermarks : (wmEdge WmPair.dflt 5 9 9).st = 3 ∧ (wmEdge WmPair.dflt 5 9 8).st = 1 ∧ (wmEdge WmPair.dflt 5 9 6).st = 1 ∧
    (wmEdge WmPair.dflt 5 9 5).st = 0 ∧ (wmEdge { WmPair.dflt with asserted := true } 5 9 6).st = 2 ∧
    (wmEdge { WmPair.dflt with level := 8 } 5 9 9).hiNow = true ∧ (wmEdge { WmPair.dflt with level := 9 } 5 9 9).hiNow = false ∧
    (wmEdge { WmPair.dflt with level := 6 } 5 9 5).loNow = true ∧ (wmEdge { WmPair.dflt with level := 5 } 5 9 5).loNow = false := by decide

/-! ## Links -/

def L0 : Uplane := Uplane.dflt
/-- Uplane 1 as given, downlane 0 locked. -/
def U (x : Uplane) : State := setDlane (setLane S 1 x) 0 { locked := true, lost := false }
def aggV (gen fmt ring rwg cred : Nat) : Nat :=
  0x45 * 2 ^ 56 + 2 ^ 54 + gen * 2 ^ 52 + fmt * 2 ^ 48 + ring * 2 ^ 35 + rwg * 2 ^ 33 + cred
def ulOf (s : State) (v : Nat) : State := setReg s A_LK_UL_CONFIG 1 v
theorem wit_announce : padsFree (U L0) = true ∧ dlReceives (U L0) 0 = true ∧ frame64 0x45 (frame (toBytes 8 (aggV 1 2 4 3 9))) = some (aggV 1 2 4 3 9) ∧
    ulGenHi (U L0) 1 = 1 ∧ formatMax (U L0) 1 = 3 ∧
    nexts (exec (.aggAnnounceFrame 0 (frame (toBytes 8 (aggV 1 2 4 3 9)))) (U { L0 with st := .negotiating })) (fun t =>
      decide ((lane t 1).st = .training ∧ (lane t 1).fmt = 2 ∧ (lane t 1).ringLog2 = 4 ∧ (lane t 1).cred = 9 ∧ (lane t 1).rwg = 0 ∧
        (lane t 1).prevRwg = some 3)) = true ∧
    nexts (exec (.aggAnnounceFrame 0 (frame (toBytes 8 (aggV 1 3 16 0 9)))) (U { L0 with st := .negotiating })) (fun t =>
      decide ((lane t 1).st = .training)) = true ∧
    nexts (exec (.aggAnnounceFrame 0 (frame (toBytes 8 (aggV 1 2 17 0 9)))) (U { L0 with st := .negotiating })) (fun t =>
      decide ((lane t 1).st = .negotiating ∧ bits (tally t A_LK_UL_ERRORS 1) 47 32 = 1)) = true ∧
    nexts (exec (.aggAnnounceFrame 0 (frame (toBytes 8 (aggV 2 2 4 0 9)))) (U { L0 with st := .negotiating })) (fun t =>
      decide ((lane t 1).st = .negotiating)) = true ∧
    nexts (exec (.aggAnnounceFrame 0 (frame (toBytes 8 (aggV 0 2 4 0 9)))) (U { L0 with st := .negotiating })) (fun t =>
      decide ((lane t 1).st = .negotiating)) = true := by decide
def quire (n : Nat) : Quire := { units := [3], slots := 1, qnum := BitVec.ofNat 32 n, deckle := 0, quality := 0, owner := .a, sent := true }
def active : Uplane := { L0 with st := .active, fmt := 2, ringLog2 := 4, qnum := 2, cred := 0, closed := [quire 0, quire 1] }
def flying : GUnit := { unit0 with st := .inFlight, flying := [1] }
theorem wit_lanes :
    nexts (exec (.trainingEnd 1) (U { L0 with st := .training, since := 0 })) (fun t => decide ((lane t 1).trainEnd = some 5)) = true ∧
    nexts (exec (.laneActivate 1) (U { L0 with st := .training, confirmed := some 5119 })) (fun t => decide ((lane t 1).st = .active))
      = true ∧
    nexts (exec (.negotiationTimeout 1) (setLane (at' .cal 4096000) 1 { L0 with st := .negotiating, since := 0 })) (fun t =>
      decide ((lane t 1).st = .failed)) = true ∧
    nexts (exec (.trainingConfirmTimeout 1) (setLane (at' .cal 40960) 1 { L0 with st := .training, trainEnd := some 0 })) (fun t =>
      decide ((lane t 1).st = .failed)) = true ∧
    inFlight active = true ∧ (dlane (U active) 0).locked = true ∧
    nexts (exec (.creditTimeout 1) (onGran (setReg (U active) A_LK_CREDIT_TIMEOUT 0 5) fun g => { g with units := [flying] })) (fun t =>
      decide ((lane t 1).st = .failed ∧ t.gran.units.map GUnit.st = [.inFlight] ∧ t.gran.back = [(1, [3, 3])] ∧
        (applyReturns t).gran.units.map GUnit.st = [.eligible])) = true ∧
    nexts (exec (.laneTransmitterFault 1) (U active)) (fun t => decide ((lane t 1).st = .failed)) = true ∧
    nexts (exec (.laneFailedRetry 1) (setLane (ulOf (at' .cal 40960000) 0x315) 1 { L0 with st := .failed })) (fun t =>
      decide ((lane t 1).st = .negotiating ∧ (lane t 1).gen = 1)) = true := by decide
def Slp : State := onGran S fun g => { g with wm1 := { g.wm1 with releasedDeckles := 65535 } }
theorem wit_laneSleep : Slp.gran.wm1.asserted = false ∧ bits (reg Slp A_LK_SLEEP_DECKLES 0) 15 0 ≤ Slp.gran.wm1.releasedDeckles ∧
    nexts (exec .laneSleepEntry (setLane Slp 0 { L0 with st := .active, effLo := 1, gen := 2 })) (fun t => decide ((lane t 0).st = .draining
      ∧ (lane t 0).drain = some (.gen 1))) = true ∧
    nexts (exec .laneSleepEntry (setLane (setLane Slp 0 { L0 with st := .active, effLo := 1, gen := 1 }) 3 { L0 with st := .active }))
      (fun t => decide ((lane t 0).st = .active ∧ (lane t 3).st = .draining)) = true ∧
    nexts (exec (.drainComplete 1) (U { L0 with st := .draining, drain := some .sleep, qnum := 7 })) (fun t =>
      decide ((lane t 1).st = .sleep ∧ (lane t 1).qnum = 7)) = true ∧
    nexts (exec (.drainComplete 1) (U { L0 with st := .draining, drain := some (.gen 2) })) (fun t => decide ((lane t 1).st = .training ∧
      (lane t 1).gen = 2)) = true := by decide
/-- Variant 1 gives beat 0 its entry for uplane 1, scope 0. -/
def M (x : Uplane) (l : List GUnit) : State :=
  let s := setReg (U x) A_MG_SCOPE 0 0xFFFF
  { s with mg := { s.mg with variant := 1, sched := [(0, 0xA0)] }, gran := { s.gran with units := l } }
theorem wit_merge : selecting (M active []) = true ∧ merging (M active []) = true ∧ fresh (M active []) 8 0 = true ∧ bitAt 0xA0 7 = true ∧ bits 0xA0 6 5 = 1 ∧
    nexts (exec (.mergeScheduleEntry 0 .clean false) (M { active with closed := [quire 0, quire 1, quire 2, quire 3] } [])) (fun t =>
      decide (bits (tally t A_MG_SKIPS 1) 63 32 = 1)) = true ∧
    selectUnit (M active []) 1 0xFFFF = none ∧
    nexts (exec (.mergeScheduleEntry 0 .clean false) (M active [])) (fun t => decide (bits (tally t A_MG_SKIPS 1) 31 0 = 1)) = true ∧
    selectUnit (M active [{ unit0 with st := .eligible }]) 1 0xFFFF = some { unit0 with st := .eligible } ∧
    nexts (exec (.mergeScheduleEntry 0 .clean false) (M active [{ unit0 with st := .eligible }])) (fun t => decide ((lane t 1).opn = [3])) = true ∧
    nexts (exec (.mergeScheduleEntry 0 (.lost false) true) (M active [{ unit0 with st := .eligible }])) (fun t => decide (t.gran.units = [] ∧
      t.gran.dwq.map Sheaf.src = [14])) = true := by
  decide
theorem wit_merge_resume : resumeWaits (onGran S fun g => { g with dwq := [oneSlot 8 0 14 5 0] }) = true ∧
    nexts (exec (.mergeScheduleEntry 0 .clean false) (onGran (M active [{ unit0 with st := .eligible }]) fun g =>
      { g with dwq := [oneSlot 8 0 14 5 0] })) (fun t => decide ((lane t 1).opn = [])) = true := by decide
theorem wit_quires : merging (settleRequests (U active)) = true ∧ closingDue (U { active with opn := [9], closeDue := true }) { active with opn := [9], closeDue := true } = true ∧
    nexts (exec (.quireClose 1) (U { active with opn := [9], opnSlots := 2, closeDue := true })) (fun t => decide ((lane t 1).qnum = 3 ∧
      (lane t 1).closed.length = 3 ∧ (lane t 1).opn = [])) = true ∧
    nexts (exec (.quireClose 1) (U { active with opn := [9], closeDue := true, closed := [quire 0, quire 1, quire 2, quire 3] }))
      (fun t => decide ((lane t 1).opn = [9])) = true ∧
    windowAllows active { quire 15 with sent := false } = true ∧ windowAllows active { quire 16 with sent := false } = false ∧
    pendingReply (U active) 1 = none ∧
    nexts (exec (.quireSend 1) (U { active with closed := [{ quire 15 with sent := false, units := [] }] })) (fun t =>
      decide ((lane t 1).closed = [{ quire 15 with units := [] }] ∧ tally t A_LK_TRAFFIC 1 % 2 ^ 32 = 1)) = true ∧
    nexts (exec (.quireSend 1) (U { active with closed := [{ quire 16 with sent := false }] })) (fun t =>
      decide (t = U { active with closed := [{ quire 16 with sent := false }] })) = true ∧
    periodDue (setReg (ulOf S 0x315) A_LK_REPORT_PERIOD 0 5) 5 = true ∧ fresh S 3 0 = true ∧
    nexts (exec .linkReport (setLane (setReg (ulOf S 0x315) A_LK_REPORT_PERIOD 0 5) 1 { L0 with repSlots := 8 })) (fun t =>
      decide ((lane t 1).repSlots = 0)) = true := by decide
def credV (rewind down rwg cred : Nat) : Nat :=
  0x42 * 2 ^ 56 + 2 ^ 54 + rewind * 2 ^ 53 + down * 2 ^ 52 + rwg * 2 ^ 50 + cred
def cred (v : Nat) : Instr := .creditFrame 0 (frame (toBytes 8 v))
theorem wit_credits : frame64 0x42 (frame (toBytes 8 (credV 0 0 0 2))) = some (credV 0 0 0 2) ∧
    nexts (exec (cred (credV 0 0 0 2)) (onGran (U active) fun g => { g with units := [flying] })) (fun t => decide ((lane t 1).cred = 2 ∧
      (lane t 1).closed = [] ∧ t.gran.units = [])) = true ∧
    nexts (exec (cred (credV 0 0 0 1)) (U active)) (fun t => decide ((lane t 1).cred = 1 ∧ (lane t 1).closed = [quire 1])) = true ∧
    nexts (exec (cred (credV 1 0 1 1)) (U active)) (fun t => decide ((lane t 1).cred = 1 ∧ (lane t 1).qnum = 1 ∧ (lane t 1).rwg = 1 ∧
      (lane t 1).prevRwg = some 0)) = true ∧
    nexts (exec (cred (credV 0 0 2 1)) (U active)) (fun t => decide ((lane t 1).cred = 0 ∧ tally t A_LK_UL_ERRORS 1 % 65536 = 1)) = true ∧
    nexts (exec (cred (credV 0 1 0 0)) (U active)) (fun t => decide ((lane t 1).st = .failed)) = true ∧
    nexts (exec (cred (credV 0 0 0 0)) (U { L0 with st := .training, trainEnd := some 3 })) (fun t =>
      decide ((lane t 1).confirmed = some 5120)) = true ∧
    nexts (exec (cred (credV 0 0 0 0)) (U { L0 with st := .sleep })) (fun t => decide (t = U { L0 with st := .sleep })) = true := by decide
theorem wit_downlanes : frame64 0x42 [1, 2, 3, 4, 5] = none ∧
    nexts (exec (.creditFrame 0 [1, 2, 3, 4, 5]) (U L0)) (fun t => decide (tally t A_LK_DL_ERRORS 0 = 1)) = true ∧
    nexts (exec (.aggAnnounceFrame 0 []) (U L0)) (fun t => decide (tally t A_LK_DL_ERRORS 0 = 1)) = true ∧
    nexts (exec (.downlaneLock 1) S) (fun t => (dlane t 1).locked) = true ∧
    nexts (exec (.downlaneLockLoss 0) (U L0)) (fun t => (dlane t 0).lost && !(dlane t 0).locked) = true := by decide

/-! ## Monitor path -/

def conv (stop : Nat) (inj : Option Req) : Conversion := { input := 30, entry := 6, five := false, start := 0, stop := stop, injected := inj, gatedBeats := 0, stale := false }
def inj1 : Inject := { req := q, input := 31, five := true, acc := 5119 }
def MC (x : Mc) : State := setMc S 1 x
def m0 : Mc := Mc.dflt
def res (st : Bool) (i : Option Req) : ConvResult :=
  { conv := conv 5104 i, beat := 5104, stale := st, result := -7, gated := 3, overrange := false, due := 5120 }
theorem wit_monitorWindow : convFenced S 1 = false ∧
    nexts (exec (.monitorWindowEnd 1 500) (MC { m0 with run := some (conv 5121 none) })) (fun t =>
      decide (t = MC { m0 with run := some (conv 5121 none) })) = true ∧
    nexts (exec (.monitorWindowEnd 1 500) (MC { m0 with run := some (conv 5120 none), inj := [inj1] })) (fun t => decide
      ((mc t 1).inj = [] ∧ ((mc t 1).run.map fun c => (c.input, c.injected)) = some (31, some q) ∧
        ((mc t 1).result.map fun r => (r.due, r.result, r.overrange)) = some (5136, 2, false))) = true ∧
    nexts (exec (.monitorWindowEnd 1 500) (MC { m0 with run := some (conv 5120 (some q)), aborted := some (conv 9 none), pos := 31 })) (fun t => decide
      ((mc t 1).aborted = none ∧ ((mc t 1).run.map fun c => (c.input, c.injected)) = some (30, none))) = true ∧
    nexts (exec (.injectAbortEdge 1) (MC { m0 with run := some (conv 9000 none), inj := [inj1] })) (fun t => decide
      ((mc t 1).aborted = some (conv 9000 none) ∧ tally t A_MON_ABORTS 1 = 1)) = true := by decide
/-- R252: the ends of the range of an input behind the divider and of a point without it, in µV; 1 V at a tap is 2 000 000. -/
theorem test_monResult : monResult S 1 30 1250000000 = (5000000, false) ∧ monResult S 1 30 1250000001 = (5000000, false) ∧
    monResult S 1 30 1250001000 = (5000000, true) ∧ monResult S 0 192 (-1250001000) = (-2500000, true) := by decide
theorem wit_monitorResults :
    nexts (exec (.monitorResultDelivered 1) (MC { m0 with result := some (res false (some q)) })) (fun t => decide (t.mon.results = [] ∧
      t.cmd.spiQ.length = 1)) = true ∧
    nexts (exec (.monitorResultDelivered 1) (setReg (MC { m0 with result := some (res false none) }) A_MON_CH_CTRL 30 1)) (fun t => decide
      ((monRec t 30).result = -7 ∧ (chan t 30).baseTarget = baseTargetOf 1 (-7))) = true ∧
    nexts (exec (.monitorResultDelivered 1) (MC { m0 with result := some (res true none) })) (fun t => decide ((monRec t 30).stale = true ∧
      (monRec t 30).result = 0)) = true ∧
    nexts (exec (.tapHoldRelease 30) (setChan (MC { m0 with run := some (conv 9000 none) }) 30
      { X0 with tapHeld := true, tapSince := 5000, tapResume := some 5120 })) (fun t => !(chan t 30).tapHeld && decide (((mc t 1).run.map Conversion.gatedBeats) = some 120)) = true ∧
    nexts (exec .baselineSlewStep (onMon (setReg (setReg (setChan S 191 { X0 with baseTarget := -1 }) A_MON_CH_CTRL 191 1) A_MON_BASE_SLEW 0 9)
      fun m => { m with slewCount := 9 })) (fun t => decide ((chan t 191).base = -1 ∧ t.mon.slewCount = 0)) = true := by decide
def D (x : Tdac) : State := setTdac C 11 x
def d0 : Tdac := Tdac.dflt
theorem wit_monitorCommands : Served S q 0x30 ∧ convOf 215 = 7 ∧
    nexts (exec (.injectConversion q 215 false) (setMc S 7 { m0 with inj := [inj1, inj1, inj1, inj1] })) (fun t => decide
      ((mc t 7).inj.length = 4 ∧ t.cmd.spiQ.length = 1)) = true ∧
    nexts (exec (.injectConversion q 215 false) (setMc S 7 { m0 with inj := [inj1, inj1, inj1] })) (fun t => decide
      ((mc t 7).inj.length = 4 ∧ t.cmd.outst.length = 1)) = true ∧
    convFenced (onFlt S fun f => { f with fencedConv := 0x80 }) 7 = true ∧ Served S q 0x31 ∧
    nexts (exec (.readMonitor q 108 108) S) (fun t => decide (t.cmd.spiQ.map (fun m => m.words.length) = [217])) = true ∧
    ServedOpen C q 0x32 ∧ foregroundRuns C = false ∧
    nexts (exec (.testDacConnect q 11 15 true 7) C) (fun t => decide ((tdac t 11).holder = .host ∧ (tdac t 11).ch = 15)) = true ∧
    nexts (exec (.testDacConnect q 11 15 true 7) (D { d0 with holder := .calibration })) (fun t => decide ((tdac t 11).holder = .calibration ∧
      (tdac t 11).waits = [.host q 15 true 7])) = true ∧
    nexts (exec (.testDacRelease q 11) (D { d0 with holder := .host })) (fun t => decide ((tdac t 11).holder = .none)) = true ∧
    nexts (exec (.testDacSettled 11) (D { d0 with holder := .host, reqs := [q, q0] })) (fun t => decide ((tdac t 11).settled = true ∧
      t.cmd.spiQ.length = 1 ∧ t.cmd.laneQ.length = 1)) = true := by
  unfold Served ServedOpen Served; decide
def E5 (s : State) : State := setReg s A_CH_CONFIG 5 (reg s A_CH_CONFIG 5 ||| 1)
def ipc (step : Nat) : Ipc :=
  { req := q, ch := 5, started := true, startDeckle := 0, step := step, retries := 0, plus := 98304, minus := -98304, peak := some 9 }
/-- A check on channel 5 in this step, with a PEAK reference of n. -/
def Chk (n : Nat) (p : Ipc) : State := setTdac (setReg (onMon (E5 S) fun m => { m with ipc := some p }) A_IPC_REF 5 n) 0 { d0 with holder := .check }
theorem wit_inputPath : Served (E5 S) q 0x33 ∧ enabled (E5 S) 5 = true ∧
    nexts (exec (.inputPathCheck q 5) (onMon (E5 S) fun m => { m with ipc := some (ipc 0) })) (fun t => decide (t.cmd.spiQ.length = 1)) = true ∧
    nexts (exec (.inputPathCheck q 5) (E5 S)) (fun t => decide ((chan t 5).held = true ∧ (tdac t 0).holder = .check)) = true ∧
    nexts (exec (.inputPathCheck q 5) (setTdac (E5 S) 0 { d0 with holder := .calibration })) (fun t => decide (t.chs = (E5 S).chs ∧
      (tdac t 0).waits = [.check] ∧ (t.mon.ipc.map Ipc.started) = some false)) = true := by
  unfold Served; decide
theorem wit_inputPathSteps : checkQuiet (Chk 9 (ipc 1)) 5 = true ∧ checkQuiet (setChan S 5 { X0 with released := 5080 }) 5 = false ∧
    checkQuiet (setChan S 5 { X0 with released := 5079 }) 5 = true ∧
    nexts (exec (.inputPathCheckEnd (.level 7)) (Chk 9 (ipc 1))) (fun t => decide ((t.mon.ipc.map fun p => (p.step, p.plus)) = some (2, 7) ∧
      (tdac t 0).connected = true)) = true ∧
    nexts (exec (.inputPathCheckEnd (.level 7)) (Chk 9 (ipc 2))) (fun t => decide ((t.mon.ipc.map fun p => (p.step, p.minus)) = some (3, 7)))
      = true ∧
    nexts (exec (.inputPathCheckEnd (.level 7)) (Chk 0 (ipc 2))) (fun t => decide ((t.mon.ipc.map Ipc.step) = some 4)) = true := by decide
theorem wit_inputPathEnds :
    nexts (exec (.inputPathCheckEnd (.peak (some 3))) (Chk 9 (ipc 3))) (fun t => decide ((t.mon.ipc.map fun p => (p.step, p.peak)) =
      some (4, some 3))) = true ∧
    nexts (exec (.inputPathCheckEnd (.level 7)) (setReg (setChan (Chk 9 (ipc 1)) 5 { X0 with active := true }) A_CAL_RETRIES 0 1)) (fun t =>
      decide ((t.mon.ipc.map fun p => (p.step, p.retries)) = some (1, 1))) = true ∧
    nexts (exec (.inputPathCheckEnd (.level 7)) (setReg (setChan (Chk 9 { ipc 1 with retries := 1 }) 5 { X0 with active := true })
      A_CAL_RETRIES 0 1)) (fun t => decide (t.mon.ipc = none ∧ (chan t 5).held = false ∧
        (tdac t 0).holder = .none ∧ t.cmd.spiQ.length = 1)) = true ∧
    nexts (exec (.inputPathCheckEnd (.edge (some 0))) (Chk 9 (ipc 4))) (fun t => decide ((pget 15 t.mon.ipcRes 5).toNat % 16 = 0 ∧
      t.mon.ipc = none ∧ t.cmd.spiQ.length = 1)) = true := by decide
def found (g peak : Nat) : CheckFound := { gain := some g, offset := some 0, peak := some peak, ref := 1024, residual := some 0 }
theorem wit_inputPathVerdicts : bits (reg S A_IPC_TOL 0) 15 0 < (1000000 : Int).natAbs ∧ ipcVerdict S (found 1000000 255) = 2 ∧
    ipcVerdict S (found 1000000 256) = 4 ∧ ipcVerdict S (found 1000000 1536) = 4 ∧ ipcVerdict S (found 1000000 1537) = 3 := by decide

/-! ## Calibration and Seed Store -/

def run0 : Run :=
  { kind := .gleanCh, req := none, sweep := true, mask := 0, unit := 5, step := 3, pass := 1, tol := [], part := [], got := [],
    retries := 0, retried := [], failed := [], acc := [], rejected := [], third := [], dropped := [], chosen := [], held := [5],
    lead := 0, start := some 1024, ready := none, aborting := none }
theorem wit_calStart : Served C q 0x40 ∧ hostRun C = false ∧ (∀ k < 8, injectedPending C k = false) ∧
    nexts (exec (.calStartForeground q 0xFFE) (E5 C)) (fun t => decide ((t.cal.run.map Run.kind) = some .foreground ∧ (chan t 5).held = true ∧
      (tdac t 11).holder = .calibration ∧ t.cmd.spiQ = [replyMsg q 0x40 0 0 []])) = true ∧
    C.mon.dacs = [] ∧ C.mon.ipc = none ∧
    injectedPending (setMc C 7 { m0 with inj := [inj1] }) 7 = true ∧
    nexts (exec (.calStartForeground q 0) (setMc (E5 C) 7 { m0 with inj := [inj1] })) (fun t => decide (t.cal.run = none ∧
      (t.cal.queued.map Run.kind) = some .foreground ∧ t.cmd.spiQ = [replyMsg q 0x40 2 0 []])) = true ∧
    nexts (exec (.calStartForeground q 0) S) (fun t => decide (t.cmd.spiQ = [replyMsg q 0x40 7 3 []])) = true := by
  unfold Served; decide
theorem wit_calGlean : Served (E5 S) q 0x40 ∧ (0xC68 : BitVec 12).toNat &&& gleanSteps = (0xC68 : BitVec 12).toNat ∧
    nexts (exec (.calStartGleanChannel q 5 0xC68) (E5 S)) (fun t => decide ((t.cal.queued.map Run.unit) = some 5 ∧ t.cal.run = none)) = true ∧
    (0xC6A : BitVec 12).toNat &&& (gleanSteps + 2) = (0xC6A : BitVec 12).toNat ∧
    nexts (exec (.calStartGleanSweep q 0xC6A) S) (fun t => decide ((t.cal.sweep.map Sweep.mask) = some 0xC6A)) = true ∧
    Served S q 0x41 ∧ nexts (exec (.calAbort q) (onCal S fun c => { c with run := some run0 })) (fun t =>
      decide ((t.cal.run.map fun x => x.aborting.isSome) = some true)) = true ∧
    nexts (exec (.calAbort q) S) (fun t => decide (t.cal.run = none)) = true ∧
    Served S q 0x42 ∧ nexts (exec (.calStatus q) S) (fun t => decide (t.cmd.spiQ.map (fun m => m.words.length) = [6])) = true := by
  unfold Served; decide
def G : State := E5 (setReg S A_CAL_GLEAN_CTRL 0 (reg S A_CAL_GLEAN_CTRL 0 ||| 1))
def sweep0 : Sweep := { next := 5, mask := 0, req := none, status := 0, detail := 0, paused := false }
theorem wit_calRuns : bitAt (reg G A_CAL_GLEAN_CTRL 0) 0 = true ∧ G.cal.sweepDue ≤ G.tb.up ∧
    nexts (exec .gleanSweepStart G) (fun t => decide ((t.cal.sweep.map Sweep.next) = some 0)) = true ∧
    nextUnit G 5 = some 5 ∧ G.cal.lastRelease + 1024 * bits (reg (setReg G A_CAL_GLEAN_CTRL 0 0x5000001) A_CAL_GLEAN_CTRL 0) 31 24 ≤ G.tb.up ∧
    nexts (exec .gleanRunStart (onCal (setReg G A_CAL_GLEAN_CTRL 0 0x5000001) fun c => { c with sweep := some sweep0 })) (fun t =>
      decide ((t.cal.run.map Run.unit) = some 5 ∧ (chan t 5).held = true ∧ (tdac t 0).holder = .calibration)) = true ∧
    nexts (exec .gleanRunStart (onCal (setReg G A_CAL_GLEAN_CTRL 0 0x6000001) fun c => { c with sweep := some sweep0 })) (fun t =>
      decide (t.cal.run = none)) = true ∧
    nexts (exec (.calClaimTakesEffect 7) (setMc S 7 { m0 with claimWaits := true })) (fun t => decide ((mc t 7).claimed = true)) = true := by decide
def R (r : Run) : State := onCal (E5 S) fun c => { c with run := some r }
theorem wit_measurements : 0 < reg S A_CAL_RETRIES 0 ∧ stepBeats S .gleanCh 3 = 4096 ∧ disturbed (R run0) run0 [] 5 = false ∧
    disturbed (setChan (R run0) 5 { X0 with quietBefore := true, heldEdges := 1 }) { run0 with step := 6 } [] 5 = true ∧
    disturbed (setChan (R run0) 5 { X0 with quietBefore := true, heldEdges := 1 }) { run0 with step := 6 } [(5, 1)] 5 = false ∧
    nexts (exec (.calibrationMeasurement [5] [] [] []) (R run0)) (fun t => decide ((t.cal.run.map fun x => (x.retries, x.pass)) = some (1, 1)))
      = true ∧
    nexts (exec (.calibrationMeasurement [5] [] [] []) (R { run0 with start := some 1025 })) (fun t =>
      decide ((t.cal.run.map Run.retries) = some 0)) = true ∧
    nexts (exec (.calibrationMeasurement [5] [] [] []) (setReg (R run0) A_CAL_RETRIES 0 0)) (fun t =>
      decide ((t.cal.run.map fun x => (x.failed, x.ready)) = some ([(5, 3)], some 5))) = true := by decide
theorem wit_calEnds : (R { run0 with ready := some 5 }).mon.ipc = none ∧
    nexts (exec (.calibrationRelease []) (R { run0 with ready := some 5 })) (fun t => decide (t.cal.run = none ∧ t.cal.lastStatus = 0 ∧
      t.cal.lastRelease = 5120)) = true ∧
    nexts (exec (.calibrationRelease []) (R { run0 with ready := some 5, rejected := [{ quantity := 0, unit := 5, elem := 0 }] }))
      (fun t => decide (t.cal.lastStatus = 0x0E)) = true ∧
    nexts (exec (.calibrationRelease []) (R { run0 with aborting := some 4 })) (fun t => decide (t.cal.run = none ∧
      t.cal.lastStatus = 0x0C)) = true ∧
    nexts (exec (.foregroundRunEnd []) (onCal (E5 C) fun c => { c with run := some { run0 with kind := .foreground, ready := some 5 } }))
      (fun t => decide (t.cal.run = none ∧ (tdac t 0).holder = .none)) = true := by decide
/-- R282: agreement, with the mean rounded, a second and a third measurement at the tolerance. -/
theorem test_agree : agree 4 10 14 none = some 12 ∧ agree 4 10 15 none = none ∧ agree 4 10 15 (some 19) = some 17 ∧
    agree 4 10 20 (some 15) = none ∧ agree 4 (-3) (-2) none = some (-2) := by decide
def sl (v t : Int) : Slew := { v := v, target := t, allow := 0, once := false }
theorem wit_slew : reg S A_CAL_SLEW 0 ≠ 0 ∧ slewUnit 0 5 = 1 ∧ slewOne (setReg S A_CAL_SLEW 0 0) (5, sl 0 9) = none ∧
    slewOne (setReg S A_CAL_SLEW 0 10240) (5, sl 0 1) = none ∧
    slewOne (setReg S A_CAL_SLEW 0 10239) (5, sl 0 (-1)) = some (5, { sl 0 (-1) with allow := 10239 }) ∧
    slewOne (setReg S A_CAL_SLEW 0 10240) (5, sl 0 (-2)) = some (5, sl (-1) (-2)) := by decide
def img0 : List Byte := toBytes 4 0x5EED0192 ++ toBytes 2 1 ++ List.replicate 65522 0
/-- A valid bank of sequence number n. -/
def bank (n : Nat) : Memory := memOf 0xFF 0 ((img0 ++ toBytes 4 n) ++ toBytes 4 (crc32c (img0 ++ toBytes 4 n)))
theorem bank_valid (n : Nat) (h : n % 2 ^ 32 ≠ 0xFFFFFFFF) : bankValid (bank n) = true :=
  Laws.bankValid_image img0 n (by rw [img0, List.length_append, List.length_append, Laws.toBytes_length,
    Laws.toBytes_length, List.length_replicate]) (by
    rw [img0, List.append_assoc, List.take_append_of_le_length (by simp [Laws.toBytes_length])]; decide) (by
    rw [img0, List.drop_append_of_le_length (by simp [Laws.toBytes_length]),
      List.take_append_of_le_length (by simp [Laws.toBytes_length])]; decide) h
def zeros : Memory := [(0x14, 0), (0x15, 0), (0x16, 0), (0x17, 0), (0x18, 0), (0x19, 0), (0x1A, 0), (0x1B, 0)]
def sBank : State := onCal C fun c => { c with bank0 := zeros, inForce := some 0 }
theorem wit_commit : ServedOpen sBank q 0x43 ∧ foregroundRuns sBank = false ∧ commitDenied sBank = false ∧
    nexts (exec (.calCommit q) sBank) (fun t => decide ((t.cal.commit.map Commit.bank) = some 1)) = true ∧
    nexts (exec (.calCommit q) (onCal sBank fun c => { c with commit := some { req := none, bank := 1, image := none, seqNo := 3 } }))
      (fun t => decide (t.cmd.spiQ = [replyMsg q 0x43 1 0x43 []])) = true ∧
    Served sBank q 0x44 ∧ nexts (exec (.seedRead q 0 0xFFFF 1) sBank) (fun t =>
      decide (t.cmd.spiQ = [replyMsg q 0x44 0 0 [0xFF000000]])) = true := by
  unfold ServedOpen Served; decide
theorem wit_seedCommitComplete (s : State) :
    (onCal s fun c => { c with commit := some { req := some q, bank := 1, image := some img0, seqNo := 3 } }).cal.commit =
      some { req := some q, bank := 1, image := some img0, seqNo := 3 } ∧ (1 : Nat) < 2 ∧ bankValid (bank 3) = true :=
  ⟨rfl, by decide, bank_valid 3 (by decide)⟩
theorem wit_boot : bankValid (bank 1) = true ∧ bankValid (bank 2) = true ∧ bankValid [] = false :=
  ⟨bank_valid 1 (by decide), bank_valid 2 (by decide), by unfold bankValid; decide⟩

/-! ## Moulds -/

def B8 : List Byte := [1, 2, 3, 4, 5, 6, 7, 8]
def K (st : Staging) : State := onMd S fun m => { m with stage := st }
theorem wit_staging_mould : Served (K .empty) q 0x20 ∧ bootPortWrong S .spi = false ∧ (0xFFFF8 : BitVec 20).toNat + B8.length ≤ 1048576 ∧
    nexts (exec (.stageMould q 0xFFFF8 B8) (K .pending)) (fun t => decide (t.cmd.spiQ = [replyMsg q 0x20 1 0x23 []])) = true ∧
    nexts (exec (.stageMould q 0xFFFF8 B8) (K .empty)) (fun t => decide (t.cmd.spiQ = [replyMsg q 0x20 0x0A 0 []])) = true ∧
    nexts (exec (.stageMouldFirst q 0xFFFF8 B8) (K .checked)) (fun t => decide (t.md.stage = .loading ∧
      t.md.shadow = copyPut { mem := [], ranges := [] } 0xFFFF8 B8)) = true ∧
    nexts (exec (.stageMould q 8 [0, 0, 0, 16, 0, 0, 0, 0]) (onMd (K .loading) fun m => { m with shadow := copyPut { mem := [], ranges := [] } 0 B8 }))
      (fun t => decide (t.md.stage = .staged)) = true := by
  unfold Served; decide
def A (c : Copy) (st : Staging) : State := onMd (K st) fun m => { m with active := some c }
def ed : Edit := { offset := 8, bytes := [5] }
theorem wit_patch : Served (A (mould 2) .empty) q 0x21 ∧ badEdit 36 [ed] = none ∧
    badEdit 36 [{ offset := 1048575, bytes := [1] }] = none ∧ badEdit 36 [{ offset := 1048576, bytes := [1] }] = some 9 ∧
    nexts (exec (.stagePatchFirst q [1] [ed]) (A (mould 2) .empty)) (fun t => decide (t.cmd.spiQ = [replyMsg q 0x21 9 0x25 []])) = true ∧
    nexts (exec (.stagePatchFirst q (copyDigest (mould 2)) [ed]) (A (mould 2) .empty)) (fun t => decide (t.md.stage = .staged)) = true ∧
    nexts (exec (.stagePatch q [ed]) (K .failed)) (fun t => decide (t.md.stage = .staged)) = true ∧
    Served (K .checked) q 0x24 ∧ nexts (exec (.discardStaged q) (K .pending)) (fun t => decide (t.md.stage = .empty)) = true := by
  unfold Served; decide
theorem wit_check : Served (K .staged) q 0x22 ∧
    nexts (exec (.checkStaged q) (K .empty)) (fun t => decide (t.cmd.spiQ = [replyMsg q 0x22 0x0A 0 []])) = true ∧
    nexts (exec (.checkStaged q) (K .failed)) (fun t => decide (t.md.checking = some (some q))) = true ∧
    nexts (exec .mouldCheckComplete (onMd (K .staged) fun m => { m with checking := some (some q) })) (fun t => decide (t.md.stage = .failed ∧
      t.md.check = 1)) = true ∧
    Served S q 0x25 ∧ nexts (exec (.mouldInfo q) S) (fun t => decide (t.cmd.spiQ.map (fun m => m.words.length) = [14])) = true := by
  unfold Served; decide
def cch (f : Nat) : Couch :=
  { req := some q, form := f, d := 5, secs := 0, ns := 0, due := 5, upgrade := false, phase := 0, reached := some 5 }
theorem wit_couch : Served (K .checked) q 0x23 ∧ isUpgrade (K .checked) = false ∧
    nexts (exec (.couchImmediate q) (K .staged)) (fun t => decide (t.cmd.spiQ = [replyMsg q 0x23 8 0 []])) = true ∧
    nexts (exec (.couchImmediate q) (K .checked)) (fun t => decide (t.md.stage = .pending)) = true ∧
    nexts (exec (.couchAtDeckle q 45) (K .checked)) (fun t => decide (t.cmd.spiQ = [replyMsg q 0x23 6 1 []])) = true ∧
    deckleAhead (deckle S) 46 = true ∧ couchLead (K .checked) = 41 ∧
    nexts (exec (.couchAtDeckle q 46) (K .checked)) (fun t => decide ((t.md.couch.map Couch.d) = some 46)) = true ∧
    timeAhead (K .checked) (0x659200A5 + 1) 999999999 (41 * 1024) = true ∧
    nexts (exec (.couchAtPtpTime q (0x659200A5 + 1) 999999999) (K .checked)) (fun t => decide (t.cmd.spiQ = [replyMsg q 0x23 8 0 []])) = true ∧
    nexts (exec (.couchAtPtpTime q (0x659200A5 + 1) 999999999) (onTb (K .checked) fun t => { t with quality := 2 }))
      (fun t => decide ((t.md.couch.map Couch.form) = some 2)) = true := by
  unfold Served; decide
def sCouch (req : Bool) : State := onMd (A (mould 2) .pending) fun m => { m with couch := some (cch 0), require := req, shadow := mould 3 }
theorem wit_couchBeat : dynamicFail (sCouch false) (mould 3) (mouldCfg (runVals (mould 3))) true = none ∧
    nexts (exec .couchBeat (sCouch false)) (fun t => decide (t.md.active = some (mould 3) ∧ t.md.stage = .checked ∧ t.md.couch = none)) = true ∧
    (dynamicFail (sCouch true) (mould 3) (mouldCfg (runVals (mould 3))) true).isSome = true ∧
    nexts (exec .couchBeat (sCouch true)) (fun t => decide (t.md.active = some (mould 2) ∧ t.md.stage = .checked ∧ t.cmd.spiQ.length = 1)) = true := by
  decide
theorem wit_keys : Served C q 0x11 ∧
    nexts (exec (.mdKeyWrite q 0 5) (onMd C fun m => { m with keyState := 2 })) (fun t => decide (t.cmd.spiQ = [replyMsg q 0x11 8 0 []])) = true ∧
    nexts (exec (.mdKeyWrite q 0 5) C) (fun t => decide (t.md.keyNew = [5] ∧ t.md.keyState = 0)) = true ∧
    nexts (exec (.mdKeyWrite q 3 5) (onMd C fun m => { m with keyNew := [1, 2, 3] })) (fun t => decide (t.md.keyState = 1 ∧
      t.md.key.length = 32)) = true ∧
    nexts (exec (.keyLock q true) (onMd C fun m => { m with keyState := 1 })) (fun t => decide (t.md.keyState = 2 ∧ t.md.require = true)) = true ∧
    nexts (exec (.keyRequire q false) (onMd C fun m => { m with keyState := 2, require := true })) (fun t =>
      decide (t.cmd.spiQ = [replyMsg q 0x11 8 0 []])) = true ∧
    nexts (exec (.keyRequire q true) C) (fun t => t.md.require) = true ∧ Served S q 0x11 ∧ S.modes.cur ≠ .cal := by
  unfold Served; decide
/-- A shadow mould with microcode version 7 (section 0x0012 at 0x90). -/
def mc7 : Copy := { mem := [(0x0D, 1), (0x81, 0x12), (0x87, 0x90), (0x8B, 8), (0x93, 7)], ranges := [] }
/-- The standby in lockstep, with a microcode couch at deckle 205 of which n steps have passed; and that couch at its beat. -/
def upg (n : Nat) : Couch := { cch 0 with upgrade := true, phase := n, reached := none, due := 205, form := 1, d := 205 }
def Lk (s : State) : State := onBarns s fun b => { b with standby := .lockstep, xlink := true, agreed := true }
def sUp (n : Nat) : State := onMd (Lk (A (mould 2) .pending)) fun m => { m with shadow := mc7, couch := some (upg n) }
def upAt (b n : Nat) : State := { sUp n with tb := (at' .streaming b).tb }
theorem wit_upgrade : mouldMicrocode mc7 = some (7, 0) ∧ deckleReached (deckle (upAt 5120 0) + 200) (couchDeckle (upAt 5120 0) (upg 0)) = true ∧
    inTime (upAt 5120 0) (upg 0) 200 = true ∧ inTime (upAt 6144 0) (upg 0) 200 = false ∧
    nexts (exec (.upgradeDetach true) (upAt 5120 0)) (fun t => decide (t.barns.standby = .detached ∧ t.barns.suspended = true ∧
      (barn t .b).mc = 7 ∧ t.md.couch = some (upg 1))) = true ∧
    nexts (exec (.upgradeDetach true) (upAt 6144 0)) (fun t => decide (t.md.couch = none)) = true ∧
    nexts (exec (.upgradeDetach true) (upAt 6144 1)) (fun t => decide (t.md.couch = some (upg 1))) = true ∧
    nexts (exec (.upgradeDetach true) (upAt 7168 1)) (fun t => decide (t.md.couch = some (upg 2) ∧ (barn t .b).passed = true)) = true ∧
    nexts (exec (.upgradeDetach true) (upAt (86 * 1024) 1)) (fun t => decide (t.md.couch = none)) = true ∧
    nexts (exec (.upgradeDetach true) (upAt (197 * 1024) 2)) (fun t => decide (t.md.couch = some (upg 3))) = true ∧
    nexts (exec (.upgradeDetach true) (upAt (198 * 1024) 2)) (fun t => decide (t.md.couch = none ∧ t.md.stage = .checked)) = true ∧
    nexts (exec (.upgradeDetach false) (upAt 5120 0)) (fun t => decide (t.md.couch = none ∧ t.md.stage = .checked)) = true := by decide
/-- mould 3 with the section of mc7 has microcode; the couch is at its beat with n steps passed. -/
def upBeat (n : Nat) : State :=
  onMd (Lk (A (mould 2) .pending)) fun m => { m with shadow := mc7, couch := some { upg n with reached := some 5 } }
theorem wit_upgradeBeat : (upBeat 2).barns.switch = none ∧
    nexts (exec .couchBeat (upBeat 2)) (fun t => decide (t.md.couch = none ∧ t.md.stage = .checked ∧ t.md.lastStatus = 0x0C)) = true ∧
    dynamicFail (upBeat 3) mc7 (mouldCfg (runVals mc7)) true = none ∧
    nexts (exec .couchBeat (upBeat 3)) (fun t => decide (t.md.couch = none ∧ t.barns.owner = .b ∧ t.barns.standby = .detached ∧
      (barn t .a).mc = 7)) = true := by decide
def Rj (b : Nat) : State := { onBarns (at' .streaming b) fun w => { w with suspended := true, xlink := true } with couchUp := 5120 }
theorem wit_rejoin : barnsRun (Rj 7168) = true ∧
    nexts (exec (.upgradeRejoin true) (Rj 7168)) (fun t => decide (t.barns.standby = .lockstep)) = true ∧
    nexts (exec (.upgradeRejoin true) (Rj 6144)) (fun t => decide (t.barns.suspended = true)) = true ∧
    nexts (exec (.upgradeRejoin true) (Rj (205 * 1024))) (fun t => decide (t.barns.standby = .lockstep)) = true ∧
    nexts (exec (.upgradeRejoin true) (Rj (206 * 1024))) (fun t => decide (t.barns.suspended = false ∧ t.barns.standby = State.reset.barns.standby ∧
      tally t A_FLT_COUNT 11 = 1)) = true ∧
    nexts (exec (.upgradeRejoin false) (Rj 7168)) (fun t => decide (t.barns.suspended = false ∧ tally t A_FLT_COUNT 11 = 1)) = true := by
  decide

/-! ## Packets -/

/-- The packet and the reply of the worked example of chapter 11. -/
def getPacket : List Byte := [0x10, 0x5A, 0x00, 0x80, 0x01, 0x00, 0x00, 0x00, 0x00, 0x00, 0x41, 0x37]
def r5A : Req := { port := .spi, tag := 0x5A }
theorem test_spi_write : checkPacket S .spi 12 getPacket = .inl (.get r5A 0x0100 0) ∧
    nexts (exec (.spiWrite getPacket) S) (fun t => decide (t.cmd.sdo = 0x84 :: List.replicate 12 0)) = true := by decide
theorem test_spi_read : nexts (exec (.get r5A 0x0100 0) S) (fun t => decide (t.cmd.spiQ.map msgBytes =
      [[0x10, 0x5A, 0x01, 0x01, 0x00, 0x00, 0x00, 0x01, 0x00, 0x00, 0x00, 0x03, 0x00, 0x00, 0xBE, 0x28]])) = true ∧
    nexts (exec (.spiRead 18) (reply S r5A 0x10 0 1 [3])) (fun t => decide (t.cmd.spiQ = [] ∧ t.cmd.sdo =
      [0x85, 0x00, 0x10, 0x10, 0x5A, 0x01, 0x01, 0x00, 0x00, 0x00, 0x01, 0x00, 0x00, 0x00, 0x03, 0x00, 0x00, 0xBE, 0x28])) = true := by
  decide
/-- The corrupted packet of the same example is BAD_CRC with the CRC-16 computed. -/
theorem test_badCrc : checkPacket S .spi 12 (getPacket.set 5 1) = .inr (5, crc16 [0x10, 0x5A, 0x00, 0x80, 0x01, 0x01, 0x00, 0x00]) := by decide
def crcd (body : List Byte) : List Byte := body ++ toBytes 4 (crc16 body)
def checkOf (s : State) (p : Port) (bs : List Byte) : Sum Instr (Nat × Nat) := checkPacket s p bs.length bs
theorem wit_packetChecks : checkOf S .spi [1, 2] = .inr (4, 2) ∧ checkOf S .spi (getPacket ++ [0]) = .inr (4, 13) ∧
    checkPacket S .spi 16 getPacket = .inr (4, 16) ∧
    checkOf S .spi (crcd [0x99, 0, 0, 0]) = .inr (3, 0) ∧ checkOf S .spi (crcd [0, 0, 0, 1]) = .inr (6, 0xFF) ∧
    checkOf S .spi (crcd [0, 0, 0, 0x80, 0, 0, 0, 0]) = .inr (4, 12) ∧
    checkOf S .spi (crcd [0x7F, 0, 0, 0]) = .inl (.legacyLeave { port := .spi, tag := 0 }) ∧
    checkOf T .spi (crcd [0x7F, 0, 0, 0]) = .inr (7, 4) ∧
    checkOf S .spi (crcd [0x50, 1, 0, 0x80, 0, 0, 5, 2]) = .inl (.fence { port := .spi, tag := 1 } 2 5) ∧
    checkOf S .spi (crcd [0x50, 1, 0, 0x80, 0, 0x10, 5, 2]) = .inr (6, 0) := by decide
theorem wit_packetsAreRead : S.modes.cur ≠ .held ∧ opcodeAllowed 0x50 S.modes.cur = true ∧ opcodeAllowed 0x23 S.modes.cur = true ∧
    (addressed 0x0104 0).isSome = true ∧
    checkOf S .dl0 (crcd [0x02, 9, 0, 0]) = .inl (.identify q0) ∧
    checkOf S .dl0 (crcd [0x01, 9, 0, 0x80, 1, 2, 3, 4]) = .inl (.echo q0 [0x01020304]) := by decide
def cmdFrame : List Byte := frame ([0x43, 0, 0, 12] ++ getPacket)
def g5A : Req := { port := .dl0, tag := 0x5A }
theorem wit_commandFrames : framePacket cmdFrame = some (12, getPacket) ∧ padsFree (U L0) = true ∧ grangersStopped (U L0) = false ∧ framePacket [1] = none ∧ queued (U L0) .dl0 = 0 ∧
    nexts (exec (.commandFrame 0 [1]) (U L0)) (fun t => decide (tally t A_LK_DL_ERRORS 0 = 1)) = true ∧
    nexts (exec (.commandFrame 0 cmdFrame) (U L0)) (fun t => decide (t.cmd.inq = [(5120, .dl0, .command (.get g5A 0x0100 0))])) = true ∧
    nexts (exec (.commandFrame 0 (frame ([0x43, 0, 0, 12] ++ getPacket.set 11 0))) (onFlt (U L0) fun f => { f with trap := true })) (fun t =>
      decide (t.cmd.inq.length = 1 ∧ t.cmd.laneQ = [])) = true ∧
    nexts (exec (.commandFrame 0 (frame ([0x43, 0, 0, 12] ++ getPacket.set 11 0))) (U L0)) (fun t => decide (t.cmd.laneQ.length = 1)) = true ∧
    nexts (exec (.commandFrame 0 cmdFrame) (onCmd (U L0) fun c => { c with inq := List.replicate 8 (5000, .dl0, .command (.nop q0)) })) (fun t =>
      decide (t.cmd.laneQ = [replyMsg g5A 0x10 1 0xFF []])) = true := by decide
def sRep (x : Uplane) : State := setLane (reply S q0 0 0 0 []) 0 x
theorem wit_replyFrames : pendingReply (sRep { L0 with st := .active }) 0 = some (replyMsg q0 0 0 0 []) ∧
    nexts (exec (.replyFrameSend 0) (sRep { L0 with st := .active })) (fun t => decide (t.cmd.laneQ = [] ∧ (lane t 0).line.length = 20)) = true ∧
    (frame [0x41, 0, 0, 1, 9]).length = 9 ∧ (sRep { L0 with st := .active }).barns.takeover = none := by decide
theorem wit_spi : padsFree S = true ∧ powered S = true ∧ S.nl.personality = false ∧ S.cmd.spiOpen < 8 ∧
    nexts (exec (.spiWrite [1]) S) (fun t => decide (t.cmd.spiQ = [replyMsg { port := .spi, tag := 0 } 1 4 1 []])) = true ∧
    nexts (exec (.spiWrite getPacket) (onCmd S fun c => { c with spiOpen := 8 })) (fun t => t.cmd.refused) = true ∧
    nexts (exec (.spiRead 13) (reply S q 0 0 0 [])) (fun t => decide (t.cmd.spiQ.length = 1)) = true ∧
    nexts (exec (.spiRead 14) (reply S q 0 0 0 [])) (fun t => decide (t.cmd.spiQ = [])) = true ∧
    nexts (exec (.spiRead 2) S) (fun t => decide (t.cmd.sdo = [0x84, 0, 0])) = true ∧
    nexts (exec .spiStatus H) (fun t => decide (t.cmd.sdo = [0x94])) = true ∧
    nexts (exec (.spiUnknownTransaction 0xA4) S) (fun t => decide (tally t A_CMD_PORT_ERRORS 2 = 2 ^ 48)) = true := by decide
theorem wit_basic : Served H q 0x00 ∧ Served S q 0x01 ∧ Served H q0 0x02 ∧ Served H q 0x03 ∧
    nexts (exec (.nop q) H) (fun t => decide (t.cmd.spiQ = [replyMsg q 0 0 0 []])) = true ∧
    nexts (exec (.echo q [5]) S) (fun t => decide (t.cmd.spiQ = [replyMsg q 1 0 0 [5]])) = true ∧
    nexts (exec (.modeRequest q 6 none) H) (fun t => decide (t.cmd.spiQ = [replyMsg q 3 6 0 []])) = true ∧
    nexts (exec (.modeRequest q 5 none) H) (fun t => decide (t.cmd.spiQ = [replyMsg q 3 7 0 []])) = true ∧
    nexts (exec (.modeRequest q 1 none) (onPwr H fun p => { p with resetHigh := false })) (fun t => decide (t.cmd.spiQ = [replyMsg q 3 8 0 []])) = true ∧
    nexts (exec (.modeRequest q 1 none) H) (fun t => decide ((t.modes.pend.map ModePend.target) = some .startUp)) = true := by
  unfold Served; decide
theorem wit_modeRequest : Served S q 0x03 ∧ modeOf (2 : BitVec 3).toNat = some .cal ∧ deckleAhead (deckle S) 6 = true ∧ deckleAhead (deckle S) 5 = false ∧
    nexts (exec (.modeRequest q 2 none) sPend') (fun t => decide (t.cmd.spiQ = [replyMsg q 3 1 3 []])) = true ∧
    legalRequest S .startUp = false ∧ nexts (exec (.modeRequest q 1 none) S) (fun t => decide (t.cmd.spiQ = [replyMsg q 3 7 3 []])) = true ∧
    nexts (exec (.modeRequest q 4 (some 6)) S) (fun t => decide ((t.modes.pend.map ModePend.target) = some .triggered ∧ t.cmd.spiQ = [])) = true := by
  unfold Served; decide
theorem wit_status : Served S q 0x70 ∧ Served S q 0x71 ∧ Served S q 0x72 ∧ Served S q 0x74 ∧ Served S q 0x60 ∧
    nexts (exec (.laneStatus q 3) S) (fun t => decide (t.cmd.spiQ.map (fun m => m.words.length) = [6])) = true := by
  unfold Served; decide
theorem wit_attributes : Served S q 0x10 ∧ Served S q 0x12 ∧ Served S q 0x73 ∧ addressed 0xFFFF 0 = none ∧
    (addressed A_CH_HITS 191).map Attr.access = some .rc ∧ addressed A_CH_HITS 192 = none ∧
    (addressed A_CH_HITS 191).map (fun a => blockFits a 191 1) = some true ∧
    (addressed A_CH_HITS 191).map (fun a => blockFits a 191 2) = some false ∧
    nexts (exec (.get q 0xFFFF 0) S) (fun t => decide (t.cmd.spiQ = [replyMsg q 0x10 6 0 []])) = true ∧
    nexts (exec (.tallyRead q 0x0100 0 1) S) (fun t => decide (t.cmd.spiQ = [replyMsg q 0x73 6 0 []])) = true := by
  unfold Served; decide
def setOf (s : State) (id : BitVec 16) (v : List PWord) : Option (Nat × Nat) :=
  match exec (.set q id 0 v) s with
  | .next t => t.cmd.spiQ.head?.map fun m => (bits (m.words.headD 0).toNat 31 24, bits (m.words.headD 0).toNat 15 0)
  | _ => none
theorem wit_set : Served C q 0x11 ∧ Served S q 0x11 ∧ (addressed A_CK_SLEEP_DECKLES 0).map (fun a => (a.access, a.width)) = some (.rw, 2) ∧
    settable A_CK_SLEEP_DECKLES .cal = true ∧ settable A_CK_SLEEP_DECKLES .streaming = false ∧
    setOf C (BitVec.ofNat 16 A_CK_SLEEP_DECKLES) [0x10000] = some (6, 1) ∧ setOf C (BitVec.ofNat 16 A_CK_SLEEP_DECKLES) [0x123] = some (0, 2) ∧
    setOf S (BitVec.ofNat 16 A_CK_SLEEP_DECKLES) [0x123] = some (7, 3) ∧ setOf C 0x0100 [3] = some (8, 0) ∧
    nexts (exec (.set q (BitVec.ofNat 16 A_CK_SLEEP_DECKLES) 0 [0x123]) C) (fun t => decide (reg t A_CK_SLEEP_DECKLES 0 = 0x123)) = true ∧
    nexts (exec (.set q (BitVec.ofNat 16 A_FLT_WORD) 0 [0, 3]) (onFlt S fun f => { f with word := 7 })) (fun t => decide (t.flt.word = 4 ∧ t.cfg = S.cfg))
      = true := by
  unfold Served; decide
theorem wit_gate : packetOf (.identify q) = some (q, 2) ∧ padsFree (at' .cal 5) = true ∧
    padsFree { S with tap := { S.tap with inst := .extest } } = false ∧
    nexts (exec (.identify q) { S with tap := { S.tap with inst := .sample } }) (fun t => decide (t.cmd.spiQ.length = 1)) = true ∧
    grangersStopped (onFlt S fun f => { f with trap := true }) = true ∧
    nexts (exec (.identify q) (onFlt S fun f => { f with trap := true })) (fun t => decide (t.cmd.inq.length = 1)) = true ∧
    couchFirst S = false ∧ couchFirst (sCouch false) = true ∧
    nexts (exec (.identify q) (sCouch false)) (fun t => decide (t.cmd.inq = [(5120, .spi, .command (.identify q))])) = true ∧
    opcodeAllowed 0x40 .startUp = false := by decide

/-! ## Faults -/

/-- The first error of the worked example of chapter 12: STOOK of CG5 and CHANNEL 120, in beat r + 200. -/
def ex12 : FaultRec :=
  { key := 0, src := 15, inst := 5, mask := 0x29, esc := 0, consequent := false, mode := .streaming, beat := 0x6AE5A000000C8, up := 0,
    consequents := 0, ctx := 1 }
theorem test_faultWords : faultWords ex12 = [0x9F029483, 0x0006AE5A, 0x000000C8, 0x00000001] ∧
    faultWords { ex12 with esc := 1, consequents := 4 } = [0x9F0294A3, 0x0006AE5A, 0x000000C8, 0x00040001] ∧
    faultWords { ex12 with src := 24, inst := 120, mask := 5 } = [0xB0BC0283, 0x0006AE5A, 0x000000C8, 0x00000001] := by decide
def react0 : Reaction := { key := 0, src := 15, target := none, shadow := 2 ^ 35, window := 0, start := 0, stop := some 5120 }
def act (k : ActKind) (a : Bool) (b : Option Nat) : Act :=
  { kind := k, target := .channel 5, src := 0, key := 0, req := some q, asked := 5119, begun := b, acted := a }
theorem wit_raises : reservedSource 35 = false ∧ levelSource 35 = false ∧
    nexts (exec (.faultRaise 35 1 2) S) (fun t => decide (t.flt.word = 2 ^ 35 ∧ t.flt.hist.length = 1 ∧ tally t A_FLT_COUNT 35 = 1)) = true ∧
    bitAt (reg S A_FLT_REACTION 3) 5 = true ∧
    nexts (exec (.faultRaise 3 0 0) S) (fun t => decide (t.flt.errLow = true ∧ t.flt.errUp = 5121)) = true ∧
    nexts (exec (.faultRaise 35 1 2) (setReg S A_FLT_REACTION 35 3)) (fun t => decide (t.flt.interrupts.length = 1 ∧ t.flt.trap = true ∧
      t.flt.trapUp = 5121)) = true ∧
    S.flt.errHighUntil ≤ 5121 ∧ (suppressor (onFlt S fun f => { f with reactions := [{ react0 with stop := some 5121 }] }) 35 1).isSome = true ∧
    nexts (exec (.faultRaise 35 1 2) (onFlt S fun f => { f with reactions := [{ react0 with stop := some 5121 }] })) (fun t =>
      decide (t.flt.word = 0 ∧ t.flt.hist = [])) = true ∧
    nexts (exec .reactionWindowEnd (onFlt S fun f => { f with reactions := [react0] })) (fun t => decide (t.flt.reactions = [])) = true ∧
    nexts (exec .trapResume (onFlt S fun f => { f with trap := true })) (fun t => !t.flt.trap) = true := by decide
theorem wit_faultCommands : Served S q 0x54 ∧ Served S q 0x52 ∧ Served S q 0x53 ∧
    nexts (exec (.errpinRelease q) S) (fun t => decide (t.cmd.spiQ = [replyMsg q 0x54 0 0 []])) = true ∧
    errNow S = false ∧ errNow (onFlt S fun f => { f with errLow := true, errUp := 5120 }) = true ∧
    nexts (exec (.errpinRelease q) (onFlt S fun f => { f with errLow := true, errUp := 5000 })) (fun t => decide (t.flt.errRel = [(q, 9096)])) = true ∧
    nexts (exec .errpinMinElapsed (onFlt S fun f => { f with errLow := true, errRel := [(q, 5121)] })) (fun t => t.flt.errLow) = true ∧
    nexts (exec .errpinMinElapsed (onFlt S fun f => { f with errLow := true, errRel := [(q, 5120)] })) (fun t => !t.flt.errLow) = true ∧
    nexts (exec (.faultRead q 15 16) S) (fun t => decide (t.cmd.spiQ.map (fun m => m.words.length) = [71])) = true ∧
    nexts (exec (.faultClear q 1) (onFlt S fun f => { f with word := 3 })) (fun t => decide (t.flt.word = 2)) = true ∧
    nexts (exec (.faultClearFirst q 1 true) (onFlt S fun f => { f with word := 3, first := some ex12, hist := [ex12] })) (fun t =>
      decide (t.flt.first = none ∧ t.flt.hist = [])) = true ∧
    nexts (exec (.faultClearHistory q 1) (onFlt S fun f => { f with first := some ex12, hist := [ex12] })) (fun t =>
      decide (t.flt.first = some ex12 ∧ t.flt.hist = [])) = true := by
  unfold Served; decide
def F (l : List Act) : State := onFlt (setReg S A_FLT_FENCE_POLICY 0 (reg S A_FLT_FENCE_POLICY 0)) fun f => { f with cmds := l }
theorem wit_fences : Served C q 0x50 ∧ fenceTarget 0 191 = some (.channel 191) ∧ fenceTarget 0 192 = none ∧ fenceForbidden C (.channel 5) = false ∧
    fenceForbidden S (.channel 5) = (bits (reg S A_FLT_FENCE_POLICY 0) 7 0 == 0 || fenceForbidden S (.channel 5)) ∧
    nexts (exec (.fence q 0 5) C) (fun t => decide (t.flt.cmds = [{ act .fence false none with asked := 5120 }])) = true ∧
    nexts (exec .fenceTakesEffect (onFlt C fun f => { f with cmds := [act .fence false none] })) (fun t => decide (isFenced t (.channel 5) = true ∧
      t.flt.cmds = [] ∧ t.cmd.spiQ = [replyMsg q 0x50 0 0 []])) = true ∧
    nexts (exec .fenceTakesEffect (onFlt C fun f => { f with cur := some { act .fence false (some 5119) with req := none, src := 24 } })) (fun t =>
      decide (isFenced t (.channel 5) = true ∧ t.flt.cur = none)) = true ∧
    Served C q 0x51 ∧ nexts (exec (.unfence q 0 5) C) (fun t => decide (t.cmd.spiQ = [replyMsg q 0x51 0 0 []])) = true ∧
    nexts (exec (.unfence q 0 5) (onFlt C fun f => { f with fencedCh := 32 })) (fun t => decide (t.flt.cmds.length = 1)) = true ∧
    (releaseFences (onFlt C fun f => { f with fencedCh := 32, cmds := [act .unfence false none] })).flt.fencedCh = 0 := by
  unfold Served; decide
theorem wit_resets : Served C q 0x55 ∧ resetTarget 5 0 = some .timingPort ∧ resetTarget 5 1 = none ∧
    resetOutstanding (onFlt C fun f => { f with cmds := [act .reset false none] }) (.channel 5) = true ∧
    nexts (exec (.resetBlock q 0 5) C) (fun t => decide (t.flt.cmds = [{ act .reset false none with asked := 5120 }])) = true ∧
    nexts (exec .blockResetStart (onFlt C fun f => { f with cmds := [act .reset false none] })) (fun t => decide
      (t.flt.cmds = [act .reset true (some 5120)])) = true ∧
    nexts (exec (.blockResetDecision (.channel 5) (some true) false) (onFlt C fun f => { f with cmds := [act .reset true (some 5000)] })) (fun t =>
      decide (t.flt.cmds = [] ∧ isFenced t (.channel 5) = false ∧ t.cmd.spiQ = [replyMsg q 0x55 0 0 []])) = true ∧
    nexts (exec (.blockResetDecision (.channel 5) (some false) false) (onFlt C fun f => { f with cmds := [act .reset true (some 5000)] })) (fun t =>
      decide (isFenced t (.channel 5) = true ∧ t.cmd.spiQ = [replyMsg q 0x55 0x0B 1 []])) = true ∧
    nexts (exec (.blockResetDecision (.channel 5) none false) (onFlt (at' .cal 40960) fun f => { f with cmds := [act .reset true (some 0)] })) (fun t =>
      decide (t.cmd.spiQ = [replyMsg q 0x55 0x0B 0 []])) = true := by
  unfold Served; decide

/-! ## Barns -/

def tk : Takeover :=
  { kind := 1, deckle := 4, dk := 4, checkpoint := 3, alarmA := false, alarmB := false, cold := false, test := none }
def TO (b : Nat) : State := setLane (onBarns (Lk S) fun x => { x with takeover := some { tk with test := some b } }) 0 { L0 with st := .active, rwg := 3, cred := 9 }
theorem wit_takeOver : barnsRun (Lk S) = true ∧
    nexts (exec (.lockstepMismatch 4) (Lk S)) (fun t => decide ((t.barns.takeover.map Takeover.deckle) = some 5)) = true ∧
    nexts (exec (.barnAlarm .b) (Lk S)) (fun t => decide (t.barns.takeover.isSome = true)) = true ∧
    nexts (exec .barnSelftestStart (onBarns (Lk S) fun x => { x with takeover := some tk })) (fun t =>
      decide (t.barns.takeover = some { tk with test := some 5 })) = true ∧
    nexts (exec (.barnSelftestVerdict 0 0 true true) (TO 3)) (fun t => decide (t.barns.takeover = none ∧ t.barns.owner = .a ∧
      (lane t 0).rwg = 0 ∧ (lane t 0).qnum = 9)) = true ∧
    nexts (exec (.barnSelftestVerdict 5 0 true true) (TO 3)) (fun t => decide (t.barns.owner = .b ∧ t.barns.standby = .failed)) = true ∧
    nexts (exec (.barnSelftestVerdict 0 5 true true) (TO 3)) (fun t => decide (t.barns.owner = .a ∧ t.barns.standby = .failed)) = true ∧
    nexts (exec (.barnSelftestVerdict 5 5 true true) (TO 3)) (fun t => decide (t.modes.toRecovery.isSome = true)) = true ∧
    nexts (exec (.barnSelftestVerdict 0 0 true true) (TO 4)) (fun t => decide (t.barns.takeover.isSome = true)) = true := by decide
def RS (p bad : Nat) (b : Nat) : State :=
  onBarns (at' .streaming b) fun x => { x with standby := .resyncing, xlink := true, resync := some { phase := p, since := 0, bad := bad } }
theorem wit_resync :
    nexts (exec .resyncSnapshot (RS 1 0 5120)) (fun t => decide ((t.barns.resync.map Resync.phase) = some 2)) = true ∧
    nexts (exec (.resyncJournal true) (RS 2 0 5632)) (fun t => decide ((t.barns.resync.map Resync.phase) = some 3)) = true ∧
    nexts (exec (.resyncJournal true) (RS 2 0 5633)) (fun t => decide ((t.barns.resync.map Resync.phase) = some 2)) = true ∧
    nexts (exec (.resyncJournal false) (RS 2 0 5633)) (fun t => decide ((t.barns.resync.map Resync.bad) = some 1)) = true ∧
    nexts (exec (.resyncJournal false) (RS 3 1 5633)) (fun t => decide (t.barns.resync = none ∧ t.barns.standby = .detached)) = true ∧
    nexts (exec (.resyncJoin true) (RS 3 0 5120)) (fun t => decide (t.barns.standby = .lockstep)) = true ∧
    nexts (exec .resyncAbandon (RS 2 0 409600)) (fun t => decide (t.barns.standby = .detached)) = true ∧
    nexts (exec .resyncAbandon (RS 2 0 409599)) (fun t => decide (t.barns.standby = .resyncing)) = true ∧
    nexts (exec (.barnRetest 0) (onBarns (at' .cal (2 ^ 50)) fun x => { x with standby := .failed, xlink := true })) (fun t =>
      decide (t.barns.standby = .resyncing)) = true ∧
    nexts (exec (.barnRetest 1) (onBarns (at' .cal (2 ^ 50)) fun x => { x with standby := .failed, xlink := true })) (fun t =>
      decide (t.barns.standby = .failed ∧ (barn t .b).passed = false)) = true ∧
    nexts (exec .crosslinkLoss (Lk S)) (fun t => decide (t.barns.standby = .detached ∧ t.barns.xlink = false)) = true ∧
    nexts (exec .crosslinkRestored (at' .streaming 40960)) (fun t => decide (t.barns.standby = .resyncing)) = true ∧
    nexts (exec .crosslinkRestored (at' .streaming 39936)) (fun t => decide (t.barns.standby = .detached)) = true ∧
    nexts (exec .crosslinkRestored (onBarns S fun x => { x with xlink := true })) (fun t => decide (t.barns.standby = .resyncing)) = true := by
  decide
/-- R372: one copy of the owner changed is outvoted; two invalid copies leave the owner as it is, with the fault. -/
theorem wit_hasp : haspVote [⟨true, false⟩, ⟨false, true⟩, ⟨true, false⟩] = some .b ∧ haspVote [⟨true, true⟩, ⟨false, false⟩, ⟨true, false⟩] = none ∧
    (haspBeat (onBarns S fun x => { x with hasp := [⟨true, true⟩, ⟨false, false⟩, ⟨true, false⟩] })).barns.owner = .a ∧
    tally (haspBeat (onBarns S fun x => { x with hasp := [⟨true, true⟩, ⟨false, false⟩, ⟨true, false⟩] })) A_FLT_COUNT 2 = 1 ∧
    (haspBeat (onBarns S fun x => { x with hasp := [⟨true, false⟩, ⟨true, false⟩, ⟨false, false⟩] })).barns.owner = .b := by decide
def Rv (n : Nat) : State :=
  onBarns (Lk (setReg (setReg S A_BN_HOME 0 2) A_BN_REVERT 0 (0x500 + 2 * 2 + 1))) fun x => { x with reverts := List.replicate n 5000 }
theorem wit_ownership : Served (Lk S) q 0x61 ∧ eligible (Lk S) = true ∧ eligible S = false ∧ outstanding S 0x61 = false ∧
    nexts (exec (.barnSwitch q) S) (fun t => decide (t.cmd.spiQ = [replyMsg q 0x61 8 0 []])) = true ∧
    nexts (exec (.barnSwitch q) (Lk S)) (fun t => decide (t.barns.switch = some (q, 5120))) = true ∧
    (makeSwitch (onBarns (Lk S) fun x => { x with switch := some (q, 5119) })).barns.owner = .b ∧
    revertDue (Rv 0) = true ∧ switchDue (Rv 0) = false ∧ couchDue (Rv 0) = false ∧ transitionDue (Rv 0) = false ∧
    nexts (exec .revert (Rv 1)) (fun t => decide (t.barns.owner = .b ∧ tally t A_BN_REVERTS 0 = 1)) = true ∧
    nexts (exec .revert (Rv 2)) (fun t => decide (t.barns.owner = .a ∧ t.barns.withheld = true)) = true ∧
    Served S q 0x62 ∧ nexts (exec (.barnResync q) (Lk S)) (fun t => decide (t.cmd.spiQ = [replyMsg q 0x62 0 0 []])) = true ∧
    nexts (exec (.barnResync q) (onBarns S fun b => { b with standby := .failed })) (fun t => decide (t.cmd.spiQ = [replyMsg q 0x62 8 0 []])) = true ∧
    nexts (exec (.barnResync q) (onBarns S fun b => { b with xlink := true })) (fun t => decide (t.barns.standby = .resyncing)) = true := by
  unfold Served; decide

/-! ## Clocks -/

def PL (n : Nat) : State := onClk S fun c => { c with pll := n, pllIdle := 65535 }
theorem wit_plls : nexts (exec .corePllFastStart (PL 1)) (fun t => decide (t.clk.pll = 2)) = true ∧ pllWanted (PL 2) = false ∧
    nexts (exec .corePllStop (PL 2)) (fun t => decide (t.clk.pll = 0)) = true ∧ pllWanted (onGran (PL 2) fun g => { g with clock := true }) = true ∧
    nexts (exec .corePllLockLoss (setStook (PL 2) 11 { K0 with clock := true })) (fun t => decide (t.clk.pll = 1 ∧ (stook t 11).clock = false ∧
      (stook t 11).wake.isSome = true)) = true ∧
    nexts (exec (.lcPllLockLoss 0) (onClk (U { L0 with st := .active, gen := 1 }) fun c => { c with lcRun := 3, lcLock := 3 })) (fun t =>
      decide (t.clk.lcLock = 2)) = true := by decide
theorem wit_clockSleep :
    nexts (exec (.stookClockStart 3) (onClk (sStook { K0 with wake := some 5 }) fun c => { c with pll := 2 })) (fun t => (stook t 3).clock) = true ∧
    nexts (exec (.stookClockStart 3) (sStook { K0 with wake := some 5 })) (fun t => !(stook t 3).clock) = true ∧
    latchesEmpty (sStook { K0 with clock := true, idle := 64 }) 3 = true ∧
    nexts (exec (.stookSleep 3) (sStook { K0 with clock := true, idle := 64 })) (fun t => !(stook t 3).clock) = true ∧
    latchesEmpty (setChan (sStook { K0 with clock := true, idle := 64 }) 63 { X0 with latch := [entry] }) 3 = false ∧
    nexts (exec (.stookSleep 3) (sStook { K0 with clock := true, idle := 64, waitq := [(9, gap)] })) (fun t => (stook t 3).clock) = true ∧
    nexts (exec (.stookSleep 3) (setReg (sStook { K0 with clock := true, idle := 64 }) A_CK_CONFIG 0 4)) (fun t => (stook t 3).clock) = true ∧
    nexts (exec (.stookSleep 3) (sStook { K0 with clock := true, idle := 63 })) (fun t => (stook t 3).clock) = true ∧
    nexts (exec .granaryInterfaceSleep (onGran S fun g => { g with clock := true, idle := 64, bursting := true })) (fun t => t.gran.clock) = true ∧
    nexts (exec .granaryInterfaceSleep (onGran S fun g => { g with clock := true, idle := 64 })) (fun t => !t.gran.clock) = true ∧
    nexts (exec .granaryInterfaceSleep (onGran S fun g => { g with clock := true, idle := 64, busy := true })) (fun t => t.gran.clock) = true := by decide

/-! ## NL64 compatibility and test access -/

/-- A mould with a section 0x0011. -/
def mnl : Copy := { mem := [(0x0D, 1), (0x81, 0x11)], ranges := [] }
theorem wit_nlConfig : Served S q 0x7E ∧ hasCompat S = false ∧ hasCompat (A mnl .empty) = true ∧
    nexts (exec (.legacyEnter q) S) (fun t => decide (t.cmd.spiQ = [replyMsg q 0x7E 8 0 []])) = true ∧
    nexts (exec (.legacyEnter q) (A mnl .empty)) (fun t => decide (t.nl.enter = some q)) = true ∧
    nexts (exec (.legacyLeave q) S) (fun t => decide (t.cmd.spiQ = [replyMsg q 0x7F 0 0 []])) = true ∧
    nexts (exec (.legacyLeave q) (onNl S fun n => { n with active := true })) (fun t => decide (t.nl.leave = some q)) = true ∧
    (nlDeckle (onNl S fun n => { n with enter := some q }) 4).nl.active = true ∧
    (nlDeckle (onNl S fun n => { n with active := true, leave := some q }) 4).nl.active = false := by
  unfold Served; decide
def NL (p : Nat) : State := onNl S fun n => { n with active := true, run := true, pos := p, personality := true }
theorem wit_nlScan : fresh (NL 0) 6 0 = true ∧ nlSeqLen (NL 63) = 64 ∧
    nexts (exec (.nl64ScanSlot 0) (NL 63)) (fun t => decide (t.nl.pos = 0 ∧ t.nl.scan = 1 ∧ t.nl.due.length = 1)) = true ∧
    nexts (exec (.nl64ScanSlot 0) (NL 62)) (fun t => decide (t.nl.pos = 63 ∧ t.nl.scan = 0)) = true ∧
    nexts (exec .nl64ResultUpdate (onNl (NL 0) fun n => { n with due := [(37, 5120, NlPair.dflt)], pairing := some 37 })) (fun t =>
      decide (t.nl.due = [] ∧ (nlPair t 37).overrun = true)) = true ∧
    nexts (exec .nl64ResultUpdate (onNl (NL 0) fun n => { n with due := [(37, 5121, NlPair.dflt)] })) (fun t => decide (t.nl.due.length = 1)) = true := by
  decide
/-- The worked example of chapter 16, and the ends of the code's range. -/
theorem test_nlCode : nlCode (-40961) = 0x57F ∧ nlCode (-131073) = 0 ∧ nlCode (-131072) = 0 ∧ nlCode 131071 = 4095 ∧ nlCode 131072 = 4095 ∧
    nlField 37 = 5 ∧ nlField 5 = 37 := by decide
def ex16 : State := onNl (NL 0) fun n => { n with pointer := 5, pairs := [(37, { code := 0x57F, sat := false, stale := false, scan := 0x2A, overrun := false })] }
theorem test_resultReads : nexts (exec .resultLoRead ex16) (fun t => decide (t.nl.sdo = 0x057F ∧ t.nl.shadow = 0x052A)) = true ∧
    nexts (exec .resultHiRead (onNl ex16 fun n => { n with pairing := some 37, shadow := 0x052A })) (fun t => decide (t.nl.sdo = 0x052A ∧
      t.nl.pairing = none)) = true := by decide
theorem wit_nlRegisters :
    nexts (exec .registerPersonalitySwitch (onPwr (onNl (NL 0) fun n => { n with personality := false }) fun p => { p with straps := 4 }))
      (fun t => t.nl.personality) = true ∧
    nexts (exec .registerPersonalitySwitch (onNl S fun n => { n with personality := true })) (fun t => !t.nl.personality) = true ∧
    nexts (exec .resultHiRead ex16) (fun t => decide (t.nl.sdo = 0x852A)) = true ∧
    nexts (exec (.spiUnknownTransaction 0x81) (NL 0)) (fun t => decide (t.nl.sdo = 1)) = true ∧
    nexts (exec (.nlPointerWrite 0x25) (NL 0)) (fun t => decide (t.nl.pointer = 0x25)) = true ∧
    nexts (exec (.nlRegisterWrite 1 2) (NL 0)) (fun t => decide (t.nl.run = false ∧ t.nl.autoInc = true)) = true ∧
    nexts (exec (.nlRegisterWrite 2 2) (NL 0)) (fun t => decide (tally t A_NL_SPI_ERRORS 0 = 1)) = true := by decide
theorem wit_tap : powered S = true ∧ nexts (exec (.tapBypass 0x3F) S) (fun t => decide (t.tap.inst = .bypass ∧ t.tap.code = 0x3F ∧ t.tap.dr = 2)) = true ∧
    nexts (exec (.tapBypass 5) S) (fun t => decide (t.tap.code = 5)) = true ∧
    nexts (exec .tapExtest S) (fun t => decide (t.tap.dr = 0 ∧ padsFree t = false)) = true ∧
    nexts (exec .tapTestLogicReset S) (fun t => decide (t.tap = S.tap)) = true := by decide
theorem wit_pins : testOut H = none ∧ testOut (setReg S A_TA_TEST_OUT 0 4) = some true ∧ bits (reg (setReg S A_CK_FECLK 1 4) A_CK_FECLK 1) 2 0 = 4 ∧
    feclk (setReg S A_CK_FECLK 1 4) 1 0 = some false ∧ feclk H 0 0 = none ∧
    isGood S .vddio = true ∧ pad S .tgOut = .word (tgOutNow S) ∧ pad { S with tap := { S.tap with inst := .extest } } .tgOut = .scan ∧
    pad { S with tap := { S.tap with inst := .highz } } (.flow 0) = .highZ ∧ pad (onPwr S fun p => { p with good := [] }) .errN = .off ∧
    pad (onFlt S fun f => { f with errLow := true, errUp := 5000 }) .errN = .level false ∧ pad S (.flow 0) = .level true := by decide
/-- No row of the table gives bits: nothing decodes. -/
theorem test_decode : decodeTableWord 8 0xA1 = none ∧ State.withFetchWord S 8 0xA1 = S := by decide

/-- The worked example of chapter 4: a short sheaf of channel 37 at beat 0x06AE5A0F3C2D81, fine 2620, with its sequence number not yet given. -/
def exPulse : Sys2Proof.Machine.Features :=
  { y := [], z := [], v := [], p := 2560, q := 20000, t := 0, rep := 0x06AE5A0F3C2D81 * 8192 + 2620, cfd := true, cfdFailed := false,
    invalid := false, suspect := false }
theorem test_hitWords :
    hitWords 1 37 0 { entry with stepgen := 2 } exPulse 3 = [0x15A0F3C2D8151E47, 0x250000200A005388] := by decide

end Sys2Proof.Tests
end

section
/-!
O6: which command rows may change a working register, a Seed Store bank or the TAP's instruction.
-/
namespace Sys2Proof.Proofs
open Sys2Proof Sys2Proof.Machine Sys2Proof.Laws

/-- What row `c` leaves as it was between `s` and `t`: the registers, the banks and the TAP's instruction, each unless the row
is named as one that may write it. -/
def RowFrame (c : Instr) (s t : State) : Prop :=
  (writesRegisters c = false → t.cfg = s.cfg) ∧
  (writesBanks c = false → t.cal.bank0 = s.cal.bank0 ∧ t.cal.bank1 = s.cal.bank1) ∧
  (loadsTap c = false → t.tap.inst = s.tap.inst ∧ t.tap.code = s.tap.code ∧ t.tap.dr = s.tap.dr)

section
variable {c : Instr} {s t : State}

/-- A row that leaves the registers, the banks and the TAP alone. -/
theorem frame_of_core (h : Laws.core t = Laws.core s) : RowFrame c s t :=
  ⟨fun _ => core_cfg h, fun _ => core_banks h, fun _ => keep_tap (keep_core h)⟩
theorem banks_of_base (h : (Laws.core t).1 = (Laws.core s).1) : t.cal.bank0 = s.cal.bank0 ∧ t.cal.bank1 = s.cal.bank1 :=
  ⟨congrArg (fun x => x.2.1) h, congrArg (fun x => x.2.2) h⟩
/-- A row that may write registers, and leaves the banks and the TAP alone. -/
theorem frame_of_base (hr : writesRegisters c = true) (h : (Laws.core t).1 = (Laws.core s).1) : RowFrame c s t :=
  ⟨fun n => absurd (hr.symm.trans n) nofun, fun _ => banks_of_base h, fun _ => keep_tap (keep_base h)⟩
/-- A row that may write registers and banks. -/
theorem frame_of_keep (hr : writesRegisters c = true) (hb : writesBanks c = true) (h : Keep s t) : RowFrame c s t :=
  ⟨fun n => absurd (hr.symm.trans n) nofun, fun n => absurd (hb.symm.trans n) nofun, fun _ => keep_tap h⟩
/-- A row that may write a bank, and leaves the registers alone. -/
theorem frame_of_cfg (hb : writesBanks c = true) (hc : t.cfg = s.cfg) (h : Keep s t) : RowFrame c s t :=
  ⟨fun _ => hc, fun n => absurd (hb.symm.trans n) nofun, fun _ => keep_tap h⟩
/-- A row that may write registers and the TAP. -/
theorem frame_of_banks (hr : writesRegisters c = true) (ht : loadsTap c = true)
    (h : t.cal.bank0 = s.cal.bank0 ∧ t.cal.bank1 = s.cal.bank1) : RowFrame c s t :=
  ⟨fun n => absurd (hr.symm.trans n) nofun, fun _ => h, fun n => absurd (ht.symm.trans n) nofun⟩
/-- A row that writes the TAP only. -/
theorem frame_of_tapOnly (ht : loadsTap c = true) (hc : t.cfg = s.cfg) (hb : t.cal = s.cal) : RowFrame c s t :=
  ⟨fun _ => hc, fun _ => ⟨congrArg Cal.bank0 hb, congrArg Cal.bank1 hb⟩, fun n => absurd (ht.symm.trans n) nofun⟩

end

/-! ## The rows that load the TAP -/

@[simp] theorem tapLoad_cfg (s : State) (i : TapInst) (c : BitVec 6) (d : Nat) : (tapLoad s i c d).cfg = s.cfg := by
  rw [tapLoad_eq]; split <;> rfl
@[simp] theorem tapLoad_cal (s : State) (i : TapInst) (c : BitVec 6) (d : Nat) : (tapLoad s i c d).cal = s.cal := by
  rw [tapLoad_eq]; split <;> rfl
/-- SAMPLE/PRELOAD also records the capture, inside the TAP. -/
theorem tapSamplePreload_frame (s : State) : RowFrame .tapSamplePreload s (after s (execTapSamplePreload s)) := by
  unfold execTapSamplePreload
  rw [after_next]
  dsimp only
  split <;> exact frame_of_tapOnly rfl (tapLoad_cfg ..) (tapLoad_cal ..)
/-- BYPASS is loaded by the codes that no other instruction has. -/
theorem tapBypass_frame (code : BitVec 6) (s : State) : RowFrame (.tapBypass code) s (after s (execTapBypass code s)) := by
  unfold execTapBypass
  rw [after_next]
  split
  · exact frame_of_tapOnly rfl (tapLoad_cfg ..) (tapLoad_cal ..)
  · exact frame_of_core rfl
/-- A power-on keeps what is stored in the Seed Store. -/
theorem powerOn_banks (s : State) : (after s (execPowerOn s)).cal.bank0 = s.cal.bank0 ∧
    (after s (execPowerOn s)).cal.bank1 = s.cal.bank1 := by
  unfold execPowerOn
  rw [after_next]
  split
  · have hIdle := core_banks (core_heldIdle { powerOn (goHeld s 0x00) with
      pwr := { (powerOn (goHeld s 0x00)).pwr with goodSince := 0 } })
    have hHeld := banks_of_base (base_goHeld s 0x00)
    exact ⟨hIdle.1.trans hHeld.1, hIdle.2.trans hHeld.2⟩
  · exact ⟨rfl, rfl⟩

/-! ## Every row -/

/-- Where a row leads, it leads with its frame. -/
theorem exec_frame (c : Instr) (s : State) : RowFrame c s (after s (exec c s)) :=
  match c with
  | .nop .. => frame_of_core (core_execNop ..)
  | .echo .. => frame_of_core (core_execEcho ..)
  | .identify .. => frame_of_core (core_execIdentify ..)
  | .modeRequest .. => frame_of_core (core_execModeRequest ..)
  | .get .. => frame_of_core (core_execGet ..)
  | .set .. => frame_of_base rfl (base_execSet ..)
  | .getBlock .. => frame_of_core (core_execGetBlock ..)
  | .tallyRead .. => frame_of_core (core_execTallyRead ..)
  | .tallyPeek .. => frame_of_core (core_execTallyPeek ..)
  | .stageMould .. => frame_of_core (core_execStageMould ..)
  | .stageMouldFirst .. => frame_of_core (core_execStageMouldFirst ..)
  | .stagePatch .. => frame_of_core (core_execStagePatch ..)
  | .stagePatchFirst .. => frame_of_core (core_execStagePatchFirst ..)
  | .checkStaged .. => frame_of_core (core_execCheckStaged ..)
  | .mouldCheckComplete .. => frame_of_core (core_execMouldCheckComplete ..)
  | .couchImmediate .. => frame_of_core (core_execCouchImmediate ..)
  | .couchAtDeckle .. => frame_of_core (core_execCouchAtDeckle ..)
  | .couchAtPtpTime .. => frame_of_core (core_execCouchAtPtpTime ..)
  | .couchBeat .. => frame_of_base rfl (base_execCouchBeat ..)
  | .discardStaged .. => frame_of_core (core_execDiscardStaged ..)
  | .mouldInfo .. => frame_of_core (core_execMouldInfo ..)
  | .injectConversion .. => frame_of_core (core_execInjectConversion ..)
  | .readMonitor .. => frame_of_core (core_execReadMonitor ..)
  | .testDacConnect .. => frame_of_core (core_execTestDacConnect ..)
  | .testDacRelease .. => frame_of_core (core_execTestDacRelease ..)
  | .testDacSettled .. => frame_of_core (core_execTestDacSettled ..)
  | .inputPathCheck .. => frame_of_core (core_execInputPathCheck ..)
  | .inputPathCheckEnd .. => frame_of_core (core_execInputPathCheckEnd ..)
  | .calStartForeground .. => frame_of_core (core_execCalStartForeground ..)
  | .calStartGleanChannel .. => frame_of_core (core_execCalStartGleanChannel ..)
  | .calStartGleanSweep .. => frame_of_core (core_execCalStartGleanSweep ..)
  | .calAbort .. => frame_of_core (core_execCalAbort ..)
  | .calStatus .. => frame_of_core (core_execCalStatus ..)
  | .calCommit .. => frame_of_core (core_execCalCommit ..)
  | .seedCommitComplete .. => frame_of_cfg rfl (cfg_seedCommitComplete ..) (keep_seedCommitComplete ..)
  | .seedRead .. => frame_of_core (core_execSeedRead ..)
  | .fence .. => frame_of_core (core_execFence ..)
  | .unfence .. => frame_of_core (core_execUnfence ..)
  | .faultRead .. => frame_of_core (core_execFaultRead ..)
  | .faultClear .. => frame_of_core (core_execFaultClear ..)
  | .faultClearFirst .. => frame_of_core (core_execFaultClearFirst ..)
  | .faultClearHistory .. => frame_of_core (core_execFaultClearHistory ..)
  | .errpinRelease .. => frame_of_core (core_execErrpinRelease ..)
  | .resetBlock .. => frame_of_core (core_execResetBlock ..)
  | .barnStatus .. => frame_of_core (core_execBarnStatus ..)
  | .barnSwitch .. => frame_of_core (core_execBarnSwitch ..)
  | .barnResync .. => frame_of_core (core_execBarnResync ..)
  | .timeStatus .. => frame_of_core (core_execTimeStatus ..)
  | .laneStatus .. => frame_of_core (core_execLaneStatus ..)
  | .granaryStatus .. => frame_of_core (core_execGranaryStatus ..)
  | .scrubStatus .. => frame_of_core (core_execScrubStatus ..)
  | .legacyEnter .. => frame_of_core (core_execLegacyEnter ..)
  | .legacyLeave .. => frame_of_core (core_execLegacyLeave ..)
  | .mdKeyWrite .. => frame_of_core (core_execMdKeyWrite ..)
  | .keyLock .. => frame_of_core (core_execKeyLock ..)
  | .keyRequire .. => frame_of_core (core_execKeyRequire ..)
  | .epochChange .. => frame_of_core (core_execEpochChange ..)
  | .commandFrame .. => frame_of_core (core_execCommandFrame ..)
  | .creditFrame .. => frame_of_core (core_execCreditFrame ..)
  | .aggAnnounceFrame .. => frame_of_core (core_execAggAnnounceFrame ..)
  | .spiWrite .. => frame_of_core (core_execSpiWrite ..)
  | .spiRead .. => frame_of_core (core_execSpiRead ..)
  | .spiStatus .. => frame_of_core (core_execSpiStatus ..)
  | .spiUnknownTransaction .. => frame_of_core (core_execSpiUnknownTransaction ..)
  | .replyFrameSend .. => frame_of_core (core_execReplyFrameSend ..)
  | .tgIdle cls v => frame_of_core (core_execTgIdle cls v s)
  | .tgAccept .. => frame_of_core (core_execTgAccept ..)
  | .tgDiscard .. => frame_of_core (core_execTgDiscard ..)
  | .tgSyncByteWord .. => frame_of_core (core_execTgSyncByteWord ..)
  | .tgSyncLoadWord .. => frame_of_core (core_execTgSyncLoadWord ..)
  | .tgPing cls v => frame_of_core (core_execTgPing cls v s)
  | .tgReservedOpcode op cls v => frame_of_core (core_execTgReservedOpcode op cls v s)
  | .windowComesIntoForce .. => frame_of_core (core_execWindowComesIntoForce ..)
  | .windowLeavesStore .. => frame_of_core (core_execWindowLeavesStore ..)
  | .earlyExpiry .. => frame_of_core (core_execEarlyExpiry ..)
  | .pendingExpiry .. => frame_of_core (core_execPendingExpiry ..)
  | .tgLossOfSignal .. => frame_of_core (core_execTgLossOfSignal ..)
  | .hitEdge .. => frame_of_core (core_execHitEdge ..)
  | .discriminatorRelease .. => frame_of_core (core_execDiscriminatorRelease ..)
  | .sampleConverted .. => frame_of_core (core_execSampleConverted ..)
  | .tdcStop .. => frame_of_core (core_execTdcStop ..)
  | .entryComplete .. => frame_of_core (core_execEntryComplete ..)
  | .stuckLimitExpiry .. => frame_of_core (core_execStuckLimitExpiry ..)
  | .stuckBackoffEnd .. => frame_of_core (core_execStuckBackoffEnd ..)
  | .stuckBackoffReset .. => frame_of_core (core_execStuckBackoffReset ..)
  | .winnowerReadEntry .. => frame_of_core (core_execWinnowerReadEntry ..)
  | .sheafToStaging .. => frame_of_core (core_execSheafToStaging ..)
  | .tallyReport .. => frame_of_core (core_execTallyReport ..)
  | .stagingSwap .. => frame_of_core (core_execStagingSwap ..)
  | .stagingDrain .. => frame_of_core (core_execStagingDrain ..)
  | .granaryWrite .. => frame_of_core (core_execGranaryWrite ..)
  | .p0HoldWrite .. => frame_of_core (core_execP0HoldWrite ..)
  | .deferredP0Write .. => frame_of_core (core_execDeferredP0Write ..)
  | .bankPowerOff .. => frame_of_core (core_execBankPowerOff ..)
  | .scrubSlot .. => frame_of_core (core_execScrubSlot ..)
  | .scrubBurst .. => frame_of_core (core_execScrubBurst ..)
  | .granaryReport .. => frame_of_core (core_execGranaryReport ..)
  | .mergeScheduleEntry .. => frame_of_core (core_execMergeScheduleEntry ..)
  | .quireClose .. => frame_of_core (core_execQuireClose ..)
  | .quireSend .. => frame_of_core (core_execQuireSend ..)
  | .negotiationTimeout .. => frame_of_core (core_execNegotiationTimeout ..)
  | .trainingEnd .. => frame_of_core (core_execTrainingEnd ..)
  | .laneActivate .. => frame_of_core (core_execLaneActivate ..)
  | .trainingConfirmTimeout .. => frame_of_core (core_execTrainingConfirmTimeout ..)
  | .creditTimeout .. => frame_of_core (core_execCreditTimeout ..)
  | .laneTransmitterFault .. => frame_of_core (core_execLaneTransmitterFault ..)
  | .laneFailedRetry .. => frame_of_core (core_execLaneFailedRetry ..)
  | .laneSleepEntry .. => frame_of_core (core_execLaneSleepEntry ..)
  | .drainComplete .. => frame_of_core (core_execDrainComplete ..)
  | .linkReport .. => frame_of_core (core_execLinkReport ..)
  | .downlaneLockLoss .. => frame_of_core (core_execDownlaneLockLoss ..)
  | .downlaneLock .. => frame_of_core (core_execDownlaneLock ..)
  | .refclkLoss .. => frame_of_core (core_execRefclkLoss ..)
  | .refclkReturn .. => frame_of_core (core_execRefclkReturn ..)
  | .syncInPulse .. => frame_of_core (core_execSyncInPulse ..)
  | .syncLoadOrCheck .. => frame_of_keep rfl rfl (keep_syncLoadOrCheck _)
  | .timeStep .. => frame_of_cfg rfl (cfg_timeStep _) (keep_timeStep _)
  | .epochPeriodic .. => frame_of_core (core_execEpochPeriodic ..)
  | .ptpSync .. => frame_of_core (core_execPtpSync ..)
  | .ptpFollowUp .. => frame_of_core (core_execPtpFollowUp ..)
  | .ptpDelayResp .. => frame_of_core (core_execPtpDelayResp ..)
  | .ptpAnnounce .. => frame_of_core (core_execPtpAnnounce ..)
  | .ptpDiscardedMessage .. => frame_of_core (core_execPtpDiscardedMessage ..)
  | .delayReqSend .. => frame_of_core (core_execDelayReqSend ..)
  | .masterLoss .. => frame_of_core (core_execMasterLoss ..)
  | .holdoverExpiry .. => frame_of_core (core_execHoldoverExpiry ..)
  | .tpLinkDown .. => frame_of_core (core_execTpLinkDown ..)
  | .tpLinkUp .. => frame_of_core (core_execTpLinkUp ..)
  | .replicaMeasureAsleep .. => frame_of_core (core_execReplicaMeasureAsleep ..)
  | .deckleBoundary .. => frame_of_keep rfl rfl (keep_deckleBoundary ..)
  | .modeTransition .. => frame_of_base rfl (base_execModeTransition ..)
  | .recoveryEntry .. => frame_of_base rfl (base_execRecoveryEntry ..)
  | .recoveryStepComplete .. => frame_of_core (core_execRecoveryStepComplete ..)
  | .recoveryReturn .. => frame_of_base rfl (base_execRecoveryReturn ..)
  | .recoveryWindowExpiry .. => frame_of_core (core_execRecoveryWindowExpiry ..)
  | .startupStepComplete .. => frame_of_base rfl (base_execStartupStepComplete ..)
  | .startupComplete .. => frame_of_core (core_execStartupComplete ..)
  | .autoStart .. => frame_of_base rfl (base_execAutoStart ..)
  | .bootStagingTimeout .. => frame_of_core (core_execBootStagingTimeout ..)
  | .heldEntry .. => frame_of_base rfl (base_execHeldEntry ..)
  | .powerOn .. => frame_of_banks rfl rfl (powerOn_banks _)
  | .supplyGood .. => frame_of_core (core_execSupplyGood ..)
  | .supplyFail .. => frame_of_core (core_execSupplyFail ..)
  | .powerGoodAssert .. => frame_of_core (core_execPowerGoodAssert ..)
  | .powerGoodWithdraw .. => frame_of_base rfl (base_execPowerGoodWithdraw ..)
  | .vddioLoss .. => frame_of_base rfl (base_execVddioLoss ..)
  | .vddMemLoss .. => frame_of_base rfl (base_execVddMemLoss ..)
  | .resetNLow .. => frame_of_base rfl (base_execResetNLow ..)
  | .resetNRise .. => frame_of_core (core_execResetNRise ..)
  | .faultRaise .. => frame_of_core (core_execFaultRaise ..)
  | .trapResume .. => frame_of_core (core_execTrapResume ..)
  | .fenceTakesEffect .. => frame_of_core (core_execFenceTakesEffect ..)
  | .blockResetStart .. => frame_of_core (core_execBlockResetStart ..)
  | .blockResetDecision .. => frame_of_core (core_execBlockResetDecision ..)
  | .reactionWindowEnd .. => frame_of_core (core_execReactionWindowEnd ..)
  | .errpinMinElapsed .. => frame_of_core (core_execErrpinMinElapsed ..)
  | .lockstepMismatch .. => frame_of_core (core_execLockstepMismatch ..)
  | .barnAlarm .. => frame_of_core (core_execBarnAlarm ..)
  | .barnSelftestStart .. => frame_of_core (core_execBarnSelftestStart ..)
  | .barnSelftestVerdict .. => frame_of_core (core_execBarnSelftestVerdict ..)
  | .crosslinkLoss .. => frame_of_core (core_execCrosslinkLoss ..)
  | .crosslinkRestored .. => frame_of_core (core_execCrosslinkRestored ..)
  | .resyncSnapshot .. => frame_of_core (core_execResyncSnapshot ..)
  | .resyncJournal .. => frame_of_core (core_execResyncJournal ..)
  | .resyncJoin .. => frame_of_core (core_execResyncJoin ..)
  | .resyncAbandon .. => frame_of_core (core_execResyncAbandon ..)
  | .barnRetest .. => frame_of_core (core_execBarnRetest ..)
  | .revert .. => frame_of_core (core_execRevert ..)
  | .upgradeDetach .. => frame_of_core (core_execUpgradeDetach ..)
  | .upgradeRejoin .. => frame_of_core (core_execUpgradeRejoin ..)
  | .gleanSweepStart .. => frame_of_core (core_execGleanSweepStart ..)
  | .gleanRunStart .. => frame_of_core (core_execGleanRunStart ..)
  | .calibrationMeasurement .. => frame_of_core (core_execCalibrationMeasurement ..)
  | .calibrationRelease .. => frame_of_core (core_execCalibrationRelease ..)
  | .foregroundRunEnd .. => frame_of_core (core_execForegroundRunEnd ..)
  | .calClaimTakesEffect .. => frame_of_core (core_execCalClaimTakesEffect ..)
  | .monitorWindowEnd .. => frame_of_core (core_execMonitorWindowEnd ..)
  | .monitorResultDelivered .. => frame_of_core (core_execMonitorResultDelivered ..)
  | .injectAbortEdge .. => frame_of_core (core_execInjectAbortEdge ..)
  | .baselineSlewStep .. => frame_of_core (core_execBaselineSlewStep ..)
  | .tapHoldRelease .. => frame_of_core (core_execTapHoldRelease ..)
  | .corePllFastStart .. => frame_of_core (core_execCorePllFastStart ..)
  | .corePllStop .. => frame_of_core (core_execCorePllStop ..)
  | .corePllLockLoss .. => frame_of_core (core_execCorePllLockLoss ..)
  | .lcPllLockLoss .. => frame_of_core (core_execLcPllLockLoss ..)
  | .stookClockStart .. => frame_of_core (core_execStookClockStart ..)
  | .stookSleep .. => frame_of_core (core_execStookSleep ..)
  | .granaryInterfaceSleep .. => frame_of_core (core_execGranaryInterfaceSleep ..)
  | .nl64ScanSlot .. => frame_of_core (core_execNl64ScanSlot ..)
  | .nl64ResultUpdate .. => frame_of_core (core_execNl64ResultUpdate ..)
  | .registerPersonalitySwitch .. => frame_of_core (core_execRegisterPersonalitySwitch ..)
  | .resultLoRead .. => frame_of_core (core_execResultLoRead ..)
  | .resultHiRead .. => frame_of_core (core_execResultHiRead ..)
  | .nlPointerWrite .. => frame_of_core (core_execNlPointerWrite ..)
  | .nlRegisterWrite .. => frame_of_core (core_execNlRegisterWrite ..)
  | .tapExtest .. => frame_of_tapOnly rfl (tapLoad_cfg ..) (tapLoad_cal ..)
  | .tapSamplePreload => tapSamplePreload_frame _
  | .tapIdcode .. => frame_of_tapOnly rfl (tapLoad_cfg ..) (tapLoad_cal ..)
  | .tapClamp .. => frame_of_tapOnly rfl (tapLoad_cfg ..) (tapLoad_cal ..)
  | .tapHighz .. => frame_of_tapOnly rfl (tapLoad_cfg ..) (tapLoad_cal ..)
  | .tapBypass .. => tapBypass_frame ..
  | .startupStepTimeout .. => frame_of_core (core_execStartupStepTimeout ..)
  | .lanerefReturn .. => frame_of_core (core_execLanerefReturn ..)
  | .tgSignalReturn .. => frame_of_core (core_execTgSignalReturn ..)
  | .tapTestLogicReset .. => frame_of_tapOnly rfl (tapLoad_cfg ..) (tapLoad_cal ..)

/-- Settles O6: the frame of the row, and registers are read from the table of registers alone. -/
theorem registersFrame : Obligations.RegistersFrame := by
  intro c s t h
  obtain ⟨hregs, hbanks, htap⟩ : RowFrame c s t := by simpa only [h, after_next] using exec_frame c s
  exact ⟨fun n => ⟨hregs n, reg_eq_of_cfg (hregs n)⟩, hbanks, htap⟩

end Sys2Proof.Proofs
end

section
/-!
O45: what GET, GET_BLOCK and TALLY_READ reply, and what a read leaves behind (R10, R12, R342, R348).
-/
namespace Sys2Proof.Proofs
open Sys2Proof Sys2Proof.Machine Sys2Proof.Laws

/-! ## A reply: one message, no other change -/

section
variable (s : State) (r : Req) (op st dt : Nat) (data : List PWord)

theorem replyMsg_mem_msgsOf_reply : replyMsg r op st dt data ∈ msgsOf (reply s r op st dt data) r.port := by
  rw [(reply_queues s r op st dt data).1]
  exact List.mem_append_right _ (List.mem_singleton_self _)
@[simp] theorem reply_cfg : (reply s r op st dt data).cfg = s.cfg := by rw [(reply_queues ..).2]
@[simp] theorem reply_modes : (reply s r op st dt data).modes = s.modes := by rw [(reply_queues ..).2]
@[simp] theorem reply_flt : (reply s r op st dt data).flt = s.flt := by rw [(reply_queues ..).2]
@[simp] theorem reply_gran : (reply s r op st dt data).gran = s.gran := by rw [(reply_queues ..).2]
@[simp] theorem reply_tb : (reply s r op st dt data).tb = s.tb := by rw [(reply_queues ..).2]
@[simp] theorem reply_tal : (reply s r op st dt data).tal = s.tal := by rw [(reply_queues ..).2]
@[simp] theorem reg_reply (id inst : Nat) : reg (reply s r op st dt data) id inst = reg s id inst :=
  reg_eq_of_cfg (reply_cfg ..) id inst
@[simp] theorem tally_reply (id inst : Nat) : tally (reply s r op st dt data) id inst = tally s id inst :=
  tally_eq_of_tal (reply_tal ..) id inst

end

/-! ## What a read leaves behind -/

/-- The maxima since the last read are no units, faults, modes or tallies. -/
theorem restartMax_frame (s : State) (id : Nat) :
    (restartMax s id).gran.units = s.gran.units ∧ (restartMax s id).flt = s.flt ∧ (restartMax s id).modes = s.modes ∧
      (restartMax s id).tal = s.tal := by
  unfold restartMax
  repeat' split
  all_goals exact ⟨rfl, rfl, rfl, rfl⟩
theorem afterRead_tally {a : Attr} (h : a.access = .rc) (s : State) (inst : Nat) :
    afterRead s a inst = clearTally s a.id inst := if_pos h
theorem afterRead_value {a : Attr} (h : a.access ≠ .rc) (s : State) (inst : Nat) :
    afterRead s a inst = restartMax s a.id := if_neg h
theorem readValue_tally {a : Attr} (h : a.access = .rc) (s : State) (inst : Nat) :
    readValue s a inst = tallyRead s a.id inst := if_pos h
/-- A read changes no unit, no fault and no mode. -/
theorem afterRead_frame (s : State) (a : Attr) (inst : Nat) :
    (afterRead s a inst).gran.units = s.gran.units ∧ (afterRead s a inst).flt = s.flt ∧
      (afterRead s a inst).modes = s.modes := by
  by_cases h : a.access = .rc
  · rw [afterRead_tally h]
    exact ⟨rfl, rfl, rfl⟩
  · rw [afterRead_value h]
    obtain ⟨hunits, hflt, hmodes, -⟩ := restartMax_frame s a.id
    exact ⟨hunits, hflt, hmodes⟩

/-! ## Reads of several tallies at one beat -/

/-- The tallies from the first on are cleared, one after the other. -/
def clearTallies (s : State) (id first n : Nat) : State := forNat n (fun j s => clearTally s id (first + j)) s

theorem clearTallies_succ (s : State) (id first n : Nat) :
    clearTallies s id first (n + 1) = clearTally (clearTallies s id first n) id (first + n) := rfl
@[simp] theorem clearTallies_talNew (s : State) (id first n : Nat) : (clearTallies s id first n).talNew = s.talNew := by
  induction n with
  | zero => rfl
  | succ n ih => rw [clearTallies_succ, clearTally_talNew, ih]
/-- Each of them then holds the events of this beat (R12). -/
theorem tally_clearTallies (s : State) (id first : Nat) {n j : Nat} (h : j < n) :
    tally (clearTallies s id first n) id (first + j) = pget 0 s.talNew (id * 512 + (first + j)) := by
  induction n with
  | zero => omega
  | succ n ih =>
    rw [clearTallies_succ]
    rcases Nat.lt_succ_iff_lt_or_eq.1 h with h | rfl
    · rw [tally_clearTally_other _ _ _ (by omega), ih h]
    · rw [tally_clearTally, clearTallies_talNew]
theorem forNat_afterRead_tally {a : Attr} (h : a.access = .rc) (s : State) (first n : Nat) :
    forNat n (fun j s => afterRead s a (first + j)) s = clearTallies s a.id first n := by
  simp only [afterRead_tally h, clearTallies]
theorem forNat_same (n : Nat) (s : State) : forNat n (fun _ s => s) s = s := by
  induction n with
  | zero => rfl
  | succ n ih => exact ih

theorem blockWords_one (s : State) (a : Attr) (first : Nat) :
    blockWords s a first 1 = valueWords (wordCount a.width) (readValue s a first) := by simp [blockWords]
theorem blockWords_tally {a : Attr} (h : a.access = .rc) (s : State) (first n : Nat) :
    blockWords s a first n =
      (List.range n).flatMap fun j => valueWords (wordCount a.width) (tallyRead s a.id (first + j)) := by
  simp only [blockWords, readValue_tally h]

/-! ## The block read of each opcode -/

section
variable {a : Attr} {id inst n : Nat} {rcOnly : Bool} (s : State) (r : Req) (op : Nat) (after : State → Attr → Nat → State)

/-- TALLY_READ takes tallies only (R348). -/
theorem readBlock_denied (ha : addressed id inst = some a) (h : a.access ≠ .rc) :
    readBlock s r op id inst n true after = replyBad s r op 0 := by simp [readBlock, ha, h]
theorem readBlock_misfit (ha : addressed id inst = some a) (ht : rcOnly = true → a.access = .rc)
    (h : blockFits a inst n = false) : readBlock s r op id inst n rcOnly after = replyBad s r op 1 := by
  cases rcOnly <;> simp_all [readBlock]
theorem readBlock_fits (ha : addressed id inst = some a) (ht : rcOnly = true → a.access = .rc)
    (h : blockFits a inst n = true) : readBlock s r op id inst n rcOnly after =
      reply (forNat n (fun j s => after s a (inst + j)) s) r op 0 a.width (blockWords s a inst n) := by
  cases rcOnly <;> simp_all [readBlock]

end

/-! ## The packets, when they are served -/

section
variable {r : Req} {id : BitVec 16} {inst n : BitVec 9} {s : State}

theorem execGet_unknown (hs : Served s r 0x10) (h : addressed id.toNat inst.toNat = none) :
    exec (.get r id inst) s = .next (reply s r 0x10 6 0 []) := by
  change execGet r id inst s = _
  rw [execGet, granger_served hs, h]
  rfl
theorem execGet_known {a : Attr} (hs : Served s r 0x10) (h : addressed id.toNat inst.toNat = some a) :
    exec (.get r id inst) s = .next (reply (afterRead s a inst.toNat) r 0x10 0 a.width
      (valueWords (wordCount a.width) (readValue s a inst.toNat))) := by
  change execGet r id inst s = _
  rw [execGet, granger_served hs, h, ← blockWords_one]
theorem execGetBlock_served (hs : Served s r 0x12) : exec (.getBlock r id inst n) s =
    .next (readBlock s r 0x12 id.toNat inst.toNat n.toNat false afterRead) := by
  change execGetBlock r id inst n s = _
  rw [execGetBlock, granger_served hs]
theorem execTallyRead_served (hs : Served s r 0x73) : exec (.tallyRead r id inst n) s =
    .next (readBlock s r 0x73 id.toNat inst.toNat n.toNat true afterRead) := by
  change execTallyRead r id inst n s = _
  rw [execTallyRead, granger_served hs]
theorem execTallyPeek_served (hs : Served s r 0x73) : exec (.tallyPeek r id inst n) s =
    .next (readBlock s r 0x73 id.toNat inst.toNat n.toNat true fun s _ _ => s) := by
  change execTallyPeek r id inst n s = _
  rw [execTallyPeek, granger_served hs]

/-- GET (R342): the value with its WIDTH, and of a tally the value before this beat, whose events stay (R12). -/
theorem get_reads {a : Attr} (hs : Served s r 0x10) (ha : addressed id.toNat inst.toNat = some a) :
    ∃ t, exec (.get r id inst) s = .next t ∧
      replyMsg r 0x10 0 a.width (valueWords (wordCount a.width) (readValue s a inst.toNat)) ∈ msgsOf t r.port ∧
      t.cfg = s.cfg ∧ t.gran.units = s.gran.units ∧ t.flt = s.flt ∧ t.modes = s.modes ∧
      (a.access ≠ .rc → t.tal = s.tal) ∧
      (a.access = .rc → tally t a.id inst.toNat = pget 0 s.talNew (a.id * 512 + inst.toNat) ∧
        ∀ k, k ≠ a.id * 512 + inst.toNat → pget 0 t.tal k = pget 0 s.tal k) := by
  obtain ⟨hunits, hflt, hmodes⟩ := afterRead_frame s a inst.toNat
  refine ⟨_, execGet_known hs ha, replyMsg_mem_msgsOf_reply .., ?_, ?_, ?_, ?_, fun h => ?_,
    fun h => ⟨?_, fun k hk => ?_⟩⟩
  · rw [reply_cfg, core_cfg (core_afterRead ..)]
  · rw [reply_gran, hunits]
  · rw [reply_flt, hflt]
  · rw [reply_modes, hmodes]
  · obtain ⟨-, -, -, htal⟩ := restartMax_frame s a.id
    rw [reply_tal, afterRead_value h, htal]
  · rw [tally_reply, afterRead_tally h, tally_clearTally]
  · rw [reply_tal, afterRead_tally h]
    exact pget_pset_any _ _ _ _ hk
/-- GET_BLOCK (R342): the values of all, at one beat. -/
theorem getBlock_reads {a : Attr} (hs : Served s r 0x12) (ha : addressed id.toNat inst.toNat = some a)
    (hf : blockFits a inst.toNat n.toNat = true) :
    ∃ t, exec (.getBlock r id inst n) s = .next t ∧ t.cfg = s.cfg ∧
      replyMsg r 0x12 0 a.width (blockWords s a inst.toNat n.toNat) ∈ msgsOf t r.port := by
  refine ⟨_, execGetBlock_served hs, ?_, ?_⟩ <;> rw [readBlock_fits _ _ _ _ ha (by simp) hf]
  · rw [reply_cfg]
    exact core_cfg (core_forNat _ _ _ fun _ _ => core_afterRead ..)
  · exact replyMsg_mem_msgsOf_reply ..
/-- TALLY_READ of something that is no tally, with or without PEEK (R348). -/
theorem tallyRead_denied {a : Attr} (hs : Served s r 0x73) (ha : addressed id.toNat inst.toNat = some a)
    (h : a.access ≠ .rc) :
    exec (.tallyRead r id inst n) s = .next (reply s r 0x73 6 0 []) ∧
      exec (.tallyPeek r id inst n) s = .next (reply s r 0x73 6 0 []) := by
  rw [execTallyRead_served hs, execTallyPeek_served hs, readBlock_denied _ _ _ _ ha h, readBlock_denied _ _ _ _ ha h]
  exact ⟨rfl, rfl⟩
/-- TALLY_READ with PEEK set clears nothing (R348). -/
theorem tallyPeek_reads {a : Attr} (hs : Served s r 0x73) (ha : addressed id.toNat inst.toNat = some a)
    (h : a.access = .rc) (hf : blockFits a inst.toNat n.toNat = true) :
    exec (.tallyPeek r id inst n) s = .next (reply s r 0x73 0 a.width (blockWords s a inst.toNat n.toNat)) := by
  rw [execTallyPeek_served hs, readBlock_fits _ _ _ _ ha (fun _ => h) hf, forNat_same]
/-- TALLY_READ (R348): each tally read keeps the events of this beat (R12). -/
theorem tallyRead_reads {a : Attr} (hs : Served s r 0x73) (ha : addressed id.toNat inst.toNat = some a)
    (h : a.access = .rc) (hf : blockFits a inst.toNat n.toNat = true) :
    ∃ t, exec (.tallyRead r id inst n) s = .next t ∧
      replyMsg r 0x73 0 a.width (blockWords s a inst.toNat n.toNat) ∈ msgsOf t r.port ∧
      ∀ j, j < n.toNat → tally t a.id (inst.toNat + j) = pget 0 s.talNew (a.id * 512 + (inst.toNat + j)) := by
  refine ⟨_, execTallyRead_served hs, ?_⟩
  rw [readBlock_fits _ _ _ _ ha (fun _ => h) hf, forNat_afterRead_tally h]
  exact ⟨replyMsg_mem_msgsOf_reply .., fun j hj => by rw [tally_reply, tally_clearTallies _ _ _ hj]⟩

end

/-- Settles O45: GET, GET_BLOCK and TALLY_READ, clause by clause. -/
theorem attributeReads : Obligations.AttributeReads := by
  refine ⟨fun r id inst s hs => ⟨execGet_unknown hs, fun a ha => get_reads hs ha⟩,
    fun r id inst n a s hs ha => ⟨fun hf => ?_, getBlock_reads hs ha⟩,
    fun r id inst n a s hs ha => ⟨tallyRead_denied hs ha, fun h hf => ?_⟩⟩
  · rw [execGetBlock_served hs, readBlock_misfit _ _ _ _ ha (by simp) hf]
    rfl
  · rw [← blockWords_tally h]
    obtain ⟨t, ht, hmsg, htal⟩ := tallyRead_reads hs ha h hf
    exact ⟨tallyPeek_reads hs ha h hf, t, ht, hmsg, fun j hj _ => htal j hj⟩

end Sys2Proof.Proofs
end

section
/-!
O46: what a SET does (R11, R13, R329), and that the effects of a new value beside its register touch no other
register, no mode and no beat, but for the refresh of the time base, which may disarm `TB_SYNC_CTRL`.
-/
namespace Sys2Proof.Proofs
open Sys2Proof Sys2Proof.Machine Sys2Proof.Laws

/-! ## Operations beside the registers -/

/-- From `s` to `t` no register, no mode in force and no beat has changed. -/
def Beside (s t : State) : Prop := t.cfg = s.cfg ∧ t.modes.cur = s.modes.cur ∧ t.tb.beat = s.tb.beat

theorem beside_refl (s : State) : Beside s s := ⟨rfl, rfl, rfl⟩
theorem beside_trans {s t u : State} (h : Beside s t) (g : Beside t u) : Beside s u :=
  ⟨g.1.trans h.1, g.2.1.trans h.2.1, g.2.2.trans h.2.2⟩
theorem beside_ite {s t u : State} {c : Prop} [Decidable c] (h : Beside s t) (g : Beside s u) :
    Beside s (if c then t else u) := by split <;> assumption
theorem beside_of_eq {s t : State} (hc : t.cfg = s.cfg) (hm : t.modes = s.modes) (ht : t.tb = s.tb) : Beside s t :=
  ⟨hc, congrArg Modes.cur hm, congrArg TB.beat ht⟩
theorem beside_of_faultOnly {s t : State} (h : FaultOnly s t) : Beside s t :=
  ⟨faultOnly_cfg h, faultOnly_cur h, by rw [h.1]⟩

/-! ### Couches and the time base -/

theorem beside_couchMessage (s : State) (c : Couch) (st dt : Nat) : Beside s (couchMessage s c st dt) := by
  unfold couchMessage
  split
  · exact beside_refl s
  · exact beside_ite (beside_of_faultOnly (faultOnly_closeCmd ..)) (beside_of_faultOnly (faultOnly_send ..))
theorem beside_failCouch (s : State) (c : Couch) (st dt : Nat) (g : Staging) (late : Bool) :
    Beside s (failCouch s c st dt g late) := by
  unfold failCouch
  extract_lets s₁ _ s₂
  have h₂ : Beside s s₂ := ⟨rfl, rfl, rfl⟩
  exact beside_trans h₂ (beside_trans (beside_couchMessage s₂ c st dt) (beside_of_faultOnly (faultOnly_raise ..)))
theorem beside_cancelCouch (s : State) (p : Couch → Bool) : Beside s (cancelCouch s p) := by
  unfold cancelCouch
  split
  · exact beside_ite (beside_failCouch ..) (beside_refl s)
  · exact beside_refl s
theorem beside_epochCause (s : State) (bit : Nat) : Beside s (epochCause s bit) :=
  beside_ite (beside_refl s) ⟨rfl, rfl, rfl⟩
theorem beside_settleTime (s : State) : Beside s (settleTime s) := by
  unfold settleTime
  extract_lets r _ s₁ q _ s₂
  have h₁ : Beside s s₁ := ⟨rfl, rfl, rfl⟩
  have h₂ : Beside s s₂ := beside_trans (t := { s₁ with tb := { s₁.tb with quality := q } }) h₁ (beside_epochCause _ 2)
  exact beside_ite h₁ (beside_ite (beside_trans h₂ (beside_cancelCouch ..)) h₂)
theorem beside_portFaulty (s : State) : Beside s (portFaulty s) :=
  beside_trans (t := { s with tb := { dropMaster s.tb .faulty with foreign := [] } }) ⟨rfl, rfl, rfl⟩
    (beside_of_faultOnly (faultOnly_levelBegin ..))
/-- Selecting Gen3 clears `TB_SYNC_CTRL.ARM` (R94). -/
def disarmGen3 (s : State) : State :=
  if timingGen s = 2 then setReg s A_TB_SYNC_CTRL 0 (reg s A_TB_SYNC_CTRL 0 / 2 * 2) else s
/-- Beside the disarming, a refresh of the time base writes no register. -/
theorem beside_refreshTiming (s : State) : Beside (disarmGen3 s) (refreshTiming s) := by
  unfold refreshTiming
  extract_lets g s₁ _ s₂ _ _ s₃
  have h₂ : Beside s₁ s₂ := beside_ite (beside_refl s₁) ⟨rfl, rfl, rfl⟩
  have h₃ : Beside s₂ s₃ := beside_ite ⟨rfl, rfl, rfl⟩
    (beside_ite (beside_ite (beside_portFaulty s₂) ⟨rfl, rfl, rfl⟩) (beside_refl s₂))
  exact beside_trans h₂ (beside_trans h₃ (beside_settleTime s₃))

/-! ### Channels, lanes and converters -/

theorem beside_refreshChannel (s : State) (c : Nat) : Beside s (refreshChannel s c) := by
  unfold refreshChannel tryAna
  dsimp only
  split <;> exact ⟨rfl, rfl, rfl⟩
theorem beside_enterLane (s : State) (u : Nat) (st : LState) (x : Uplane) : Beside s (enterLane s u st x) :=
  beside_of_eq (pushSheaf_cfg ..) (pushSheaf_modes ..) (pushSheaf_tb ..)
theorem beside_negotiate (s : State) (u : Nat) : Beside s (negotiate s u) :=
  beside_trans (beside_enterLane s u _ _) ⟨rfl, rfl, rfl⟩
theorem beside_replanLane (s : State) (u : Nat) : Beside s (replanLane s u) := by
  unfold replanLane
  dsimp only
  split
  case h_1 => exact beside_enterLane ..
  case h_2 => exact ⟨rfl, rfl, rfl⟩
  case h_6 => exact beside_ite (beside_negotiate s u) (beside_refl s)
  case h_7 => exact beside_ite (beside_refl s) (beside_negotiate s u)
  case h_8 => exact beside_refl s
  all_goals exact beside_negotiate s u
theorem beside_nextConversion (s : State) (k : Nat) : Beside s (nextConversion s k) := by
  unfold nextConversion
  dsimp only
  repeat' split
  all_goals exact ⟨rfl, rfl, rfl⟩

/-! ### The effect of a new value -/

/-- A new value that is no setting of the time base has its effect beside the registers. -/
theorem beside_setEffect (s : State) {id : Nat} (inst old : Nat)
    (h : ¬ (id = A_TB_SOURCE ∨ id = A_TB_SYNC_CTRL ∨ id = A_PTP_CTRL)) : Beside s (setEffect s id inst old) := by
  unfold setEffect
  rw [if_neg h]
  refine beside_ite (beside_trans (beside_refreshChannel ..) (beside_refreshChannel ..)) ?_
  refine beside_ite ⟨rfl, rfl, rfl⟩ ?_
  refine beside_ite (beside_ite ⟨rfl, rfl, rfl⟩ (beside_refl s)) ?_
  refine beside_ite (beside_ite (beside_replanLane ..) (beside_refl s)) ?_
  refine beside_ite (beside_ite (beside_nextConversion ..) (beside_refl s)) ?_
  exact beside_ite (beside_ite (beside_refl s) ⟨rfl, rfl, rfl⟩) (beside_refl s)
theorem setEffect_timing (s : State) {id : Nat} (inst old : Nat)
    (h : id = A_TB_SOURCE ∨ id = A_TB_SYNC_CTRL ∨ id = A_PTP_CTRL) : setEffect s id inst old = refreshTiming s := by
  unfold setEffect
  have hch : id ≠ A_CH_CONFIG := by rcases h with rfl | rfl | rfl <;> decide
  rw [if_neg hch, if_pos h]
/-- A register other than `TB_SYNC_CTRL` keeps the new value through its effect, in the same mode and at the same beat. -/
theorem setEffect_keeps (s : State) {id inst : Nat} (old : Nat) (hi : inst < 512) (hid : id ≠ A_TB_SYNC_CTRL) :
    reg (setEffect s id inst old) id inst = reg s id inst ∧ (setEffect s id inst old).modes.cur = s.modes.cur ∧
      (setEffect s id inst old).tb.beat = s.tb.beat := by
  by_cases h : id = A_TB_SOURCE ∨ id = A_TB_SYNC_CTRL ∨ id = A_PTP_CTRL
  · rw [setEffect_timing s inst old h]
    obtain ⟨hcfg, hcur, hbeat⟩ := beside_refreshTiming s
    rw [reg_eq_of_cfg hcfg, hcur, hbeat]
    unfold disarmGen3
    split
    · have hkey : id * 512 + inst ≠ A_TB_SYNC_CTRL * 512 + 0 := by
        rw [Ne, attrKey_inj hi (by omega)]
        exact fun e => hid e.1
      exact ⟨reg_setReg_other _ _ hkey, rfl, rfl⟩
    · exact ⟨rfl, rfl, rfl⟩
  · obtain ⟨hcfg, hcur, hbeat⟩ := beside_setEffect s inst old h
    exact ⟨reg_eq_of_cfg hcfg .., hcur, hbeat⟩

/-! ## SET by access code -/

/-- A mouldable register and the active copy are written together (R316); the register as any other is. -/
theorem beside_writeMoulded (s : State) (a : Attr) (inst v : Nat) :
    Beside (setReg s a.id inst v) (writeMoulded s a inst v) := by
  unfold writeMoulded
  dsimp only
  split <;> exact ⟨rfl, rfl, rfl⟩
/-- The installation key is write-only (R309). -/
theorem access_of_mdKey {id inst : Nat} {a : Attr} (h : addressed id inst = some a) (hk : a.id = A_MD_KEY) :
    a.access = .wo := by
  have hf : attrFind id inst = some a := by
    unfold addressed at h
    split at h
    · cases h
    · exact h
  have hid : a.id = id := by
    have := List.find?_some hf
    simp only [Bool.and_eq_true, decide_eq_true_eq] at this
    exact this.1
  have hmem : a ∈ attrBlock (id / 4096) := List.mem_of_find?_eq_some hf
  rw [← hid, hk] at hmem
  have hall : ∀ b ∈ attrs9, b.id = A_MD_KEY → b.access = .wo := by decide
  exact hall a hmem hk

section
variable {s : State} {r : Req} {a : Attr} {inst v : Nat}

theorem setAttr_readOnly (h : a.access = .ro ∨ a.access = .rs ∨ a.access = .rc) :
    setAttr s r a inst v = replyDenied s r 0x11 := by
  unfold setAttr
  rcases h with h | h | h <;> rw [h]
theorem setAttr_notInMode (h : a.access = .rw) (hm : settable a.id s.modes.cur = false) :
    setAttr s r a inst v = replyNotInMode s r 0x11 := by
  simp [setAttr, h, hm]
theorem setAttr_rw (h : a.access = .rw) (hm : settable a.id s.modes.cur = true) (hk : a.id ≠ A_MD_KEY)
    (hs : a.id ≠ A_MD_KEY_STATE) : setAttr s r a inst v = setRw s r a inst v := by
  simp [setAttr, h, hm, hk, hs]
theorem setAttr_w1c (h : a.access = .w1c) : setAttr s r a inst v =
    reply (clearWord s (BitVec.ofNat 64 v)) r 0x11 0 a.width
      (valueWords 2 (clearWord s (BitVec.ofNat 64 v)).flt.word.toNat) := by
  simp [setAttr, h]
/-- A SET of a register writes it and replies the value in force, in the same mode and at the same beat. -/
theorem setRw_writes (hi : inst < 512) (hs : a.id ≠ A_TB_SYNC_CTRL) :
    reg (setRw s r a inst v) a.id inst = v ∧ (setRw s r a inst v).modes.cur = s.modes.cur ∧
      (setRw s r a inst v).tb.beat = s.tb.beat ∧
      replyMsg r 0x11 0 a.width (valueWords (wordCount a.width) v) ∈ msgsOf (setRw s r a inst v) r.port := by
  unfold setRw
  extract_lets old s₁ s₂
  obtain ⟨hcfg, hcur, hbeat⟩ : Beside (setReg s a.id inst v) s₁ :=
    beside_ite (beside_writeMoulded s a inst v) (beside_refl _)
  obtain ⟨hreg', hcur', hbeat'⟩ := setEffect_keeps s₁ old hi hs
  have hval : reg s₂ a.id inst = v := by rw [hreg', reg_eq_of_cfg hcfg, reg_setReg_same]
  refine ⟨by rw [reg_reply, hval], ?_, ?_, ?_⟩
  · rw [reply_modes, hcur', hcur, setReg_modes]
  · rw [reply_tb, hbeat', hbeat, setReg_tb]
  · rw [hval]
    exact replyMsg_mem_msgsOf_reply ..

end

/-! ## The packet, when it is served -/

theorem badValueWord_reserved {a : Attr} {v : Nat} (h : reservedSet a v = true) (inst n : Nat) :
    badValueWord a inst n v = some (n - Nat.log2 (v - (v &&& a.mask)) / 32) := if_pos h

section
variable {r : Req} {id : BitVec 16} {inst : BitVec 9} {v : List PWord} {a : Attr} {s : State}

theorem execSet_badValue {k : Nat} (hs : Served s r 0x11) (ha : addressed id.toNat inst.toNat = some a)
    (hl : v.length = wordCount a.width) (hk : badValueWord a inst.toNat v.length (wordsValue v) = some k) :
    exec (.set r id inst v) s = .next (reply s r 0x11 6 k []) := by
  change execSet r id inst v s = _
  rw [execSet, granger_served hs, ha]
  simp only [hl, ne_eq, not_true_eq_false, if_false]
  rw [← hl, hk]
  rfl
theorem execSet_valid (hs : Served s r 0x11) (ha : addressed id.toNat inst.toNat = some a)
    (hl : v.length = wordCount a.width) (hk : badValueWord a inst.toNat v.length (wordsValue v) = none) :
    exec (.set r id inst v) s = .next (setAttr s r a inst.toNat (wordsValue v)) := by
  change execSet r id inst v s = _
  rw [execSet, granger_served hs, ha]
  simp only [hl, ne_eq, not_true_eq_false, if_false]
  rw [← hl, hk]

end

/-- Settles O46: a SET, by the checks of its value and then by the access code. -/
theorem attributeWrites : Obligations.AttributeWrites := by
  intro r id inst v a s hs ha hl
  refine ⟨fun h => ⟨_, execSet_badValue hs ha hl (badValueWord_reserved h ..)⟩,
    fun k hk => execSet_badValue hs ha hl hk, fun hk => ?_⟩
  rw [execSet_valid hs ha hl hk]
  refine ⟨fun h => ?_, fun h hm => ?_, fun h hm hkey hsync => ?_, fun h => ?_⟩
  · rw [setAttr_readOnly h]; rfl
  · rw [setAttr_notInMode h hm]; rfl
  · have hne : a.id ≠ A_MD_KEY := fun e => by rw [access_of_mdKey ha e] at h; cases h
    exact ⟨_, rfl, setAttr_rw h hm hne hkey ▸ setRw_writes inst.isLt hsync⟩
  · rw [setAttr_w1c h]
    exact ⟨_, rfl, reply_cfg .., by rw [reply_flt]; exact replyMsg_mem_msgsOf_reply ..⟩

end Sys2Proof.Proofs
end

section
/-!
O44: NOP, ECHO, IDENTIFY, MODE_REQUEST and the status commands (R22, R33, R343, R344, Table 11.8).
-/
namespace Sys2Proof.Proofs
open Sys2Proof Sys2Proof.Machine Sys2Proof.Laws

/-! ## MODE_REQUEST to the held responder (R344) -/

section
variable {s : State} {r : Req} {n : Nat} {d : Option Deckle}

theorem heldRequest_badTarget (h : 6 ≤ n ∨ d.isSome = true) : heldRequest s r n d = replyBad s r 0x03 0 :=
  if_pos (by simpa using h)
theorem heldRequest_notInMode (hn : n < 6) (h1 : n ≠ 1) : heldRequest s r n none = replyNotInMode s r 0x03 := by
  simp [heldRequest, Nat.not_le.2 hn, h1]
theorem heldRequest_denied (h : s.pwr.resetHigh = false ∨ s.pwr.powerGood = false) :
    heldRequest s r 1 none = replyDenied s r 0x03 := by
  simp [heldRequest, h]
/-- The request for START-UP as it waits for the beat after its reply. -/
def startRequest (s : State) (r : Req) : ModePend := { req := r, target := .startUp, at? := none, acc := s.tb.up }
theorem heldRequest_accepted (hr : s.pwr.resetHigh = true) (hg : s.pwr.powerGood = true) (hp : s.modes.pend = none) :
    heldRequest s r 1 none =
      replyOk { s with modes := { s.modes with pend := some (startRequest s r) } } r 0x03 [] := by
  simp [heldRequest, hr, hg, hp, startRequest]

/-! ## MODE_REQUEST elsewhere (R30 to R33) -/

variable {t : Mode}

/-- A deckle that lies ahead, if one is given, leaves what R32 and R33 ask at the request. -/
theorem modeRequest_ahead (hm : modeOf n = some t) (hd : ∀ x, d = some x → deckleAhead (deckle s) x = true) :
    modeRequest s r n d =
      if s.modes.pend.isSome then replyBusy s r 0x03 0x03
      else if !legalRequest s t then replyNotInMode s r 0x03
      else if serviceMode t && foregroundRuns s then replyBusy s r 0x03 0x40
      else opening s r 0x03 0 fun s =>
        { s with modes := { s.modes with pend := some { req := r, target := t, at? := d, acc := s.tb.up } } } := by
  unfold modeRequest
  rw [hm]
  cases d with
  | none => rfl
  | some x => simp [hd x rfl]

end

/-! ## The packets, when they are served -/

section
variable {r : Req} {s : State}

theorem execModeRequest_held {m : BitVec 3} {d : Option Deckle} (hs : Served s r 0x03) (h : s.modes.cur = .held) :
    exec (.modeRequest r m d) s = .next (heldRequest s r m.toNat d) := by
  change execModeRequest r m d s = _
  rw [execModeRequest, granger_served hs, if_pos h]
theorem execModeRequest_awake {m : BitVec 3} {d : Option Deckle} (hs : Served s r 0x03) (h : s.modes.cur ≠ .held) :
    exec (.modeRequest r m d) s = .next (modeRequest s r m.toNat d) := by
  change execModeRequest r m d s = _
  rw [execModeRequest, granger_served hs, if_neg h]

/-- HELD takes only START-UP, at once and with RESET_N high and power-good (R344). -/
theorem modeRequest_inHeld (m : BitVec 3) (d : Option Deckle) (hs : Served s r 0x03) (h : s.modes.cur = .held) :
    (6 ≤ m.toNat ∨ d.isSome = true → exec (.modeRequest r m d) s = .next (reply s r 0x03 6 0 [])) ∧
    (m.toNat < 6 → d = none → m.toNat ≠ 1 → exec (.modeRequest r m d) s = .next (reply s r 0x03 7 (modeByte s) [])) ∧
    (m.toNat = 1 → d = none → s.pwr.resetHigh = false ∨ s.pwr.powerGood = false →
      exec (.modeRequest r m d) s = .next (reply s r 0x03 8 0 [])) ∧
    (m.toNat = 1 → d = none → s.pwr.resetHigh = true → s.pwr.powerGood = true → s.modes.pend = none →
      ∃ t, exec (.modeRequest r m d) s = .next t ∧ t.modes.cur = .held ∧ replyMsg r 0x03 0 0 [] ∈ msgsOf t r.port ∧
        ∃ p, t.modes.pend = some p ∧ p.target = .startUp) := by
  rw [execModeRequest_held hs h]
  refine ⟨fun hb => ?_, fun hn hd h1 => ?_, fun h1 hd hp => ?_, fun h1 hd hr hg hp => ?_⟩
  · rw [heldRequest_badTarget hb]; rfl
  · rw [hd, heldRequest_notInMode hn h1]; rfl
  · rw [hd, h1, heldRequest_denied hp]; rfl
  · rw [hd, h1, heldRequest_accepted hr hg hp]
    exact ⟨_, rfl, by rw [replyOk, reply_modes]; exact h, replyMsg_mem_msgsOf_reply .., startRequest s r,
      by rw [replyOk, reply_modes], rfl⟩
/-- Outside HELD a request that is legal becomes the pending one, and is outstanding until it ends (R33). -/
theorem modeRequest_outsideHeld (m : BitVec 3) (t' : Mode) (d : Option Deckle) (hs : Served s r 0x03)
    (h : s.modes.cur ≠ .held) (hm : modeOf m.toNat = some t') (hd : ∀ x, d = some x → deckleAhead (deckle s) x = true) :
    (s.modes.pend.isSome = true → exec (.modeRequest r m d) s = .next (reply s r 0x03 1 3 [])) ∧
    (s.modes.pend = none → legalRequest s t' = false →
      exec (.modeRequest r m d) s = .next (reply s r 0x03 7 (modeByte s) [])) ∧
    (s.modes.pend = none → legalRequest s t' = true → s.cmd.outst.length < 16 →
      (serviceMode t' = true → foregroundRuns s = false) →
      ∃ t, exec (.modeRequest r m d) s = .next t ∧ t.modes = { s.modes with
          pend := some { req := r, target := t', at? := d, acc := s.tb.up } } ∧
        t.cmd.outst = s.cmd.outst ++ [{ req := r, opcode := 3, key := 0 }] ∧ t.cmd.spiQ = s.cmd.spiQ ∧
        t.cmd.laneQ = s.cmd.laneQ) := by
  rw [execModeRequest_awake hs h, modeRequest_ahead hm hd]
  refine ⟨fun hp => ?_, fun hp hl => ?_, fun hp hl ho hf => ?_⟩
  · rw [if_pos hp]; rfl
  · simp only [hp, hl]; rfl
  · have hfree : (serviceMode t' && foregroundRuns s) = false := by
      cases hsv : serviceMode t' with
      | false => rfl
      | true => rw [hf hsv]; rfl
    simp only [hp, hl, hfree, opening_ready ho]
    exact ⟨_, rfl, rfl, rfl, rfl, rfl⟩

end

/-! ## The packets that only reply -/

section
variable {r : Req} {s : State}

theorem execNop_served (hs : Served s r 0x00) : exec (.nop r) s = .next (reply s r 0x00 0 0 []) := by
  change execNop r s = _
  rw [execNop, granger_served hs]
  rfl
theorem execEcho_served {ws : List PWord} (hs : Served s r 0x01) :
    exec (.echo r ws) s = .next (reply s r 0x01 0 0 ws) := by
  change execEcho r ws s = _
  rw [execEcho, granger_served hs]
  rfl
theorem execIdentify_served (hs : Served s r 0x02) :
    exec (.identify r) s = .next (reply s r 0x02 0 0 (identity s)) := by
  change execIdentify r s = _
  rw [execIdentify, granger_served hs]
  rfl
theorem execTimeStatus_served (hs : Served s r 0x70) : exec (.timeStatus r) s = .next (reply s r 0x70 0 0
    (valueWords 2 (valueOf s A_TB_NOW 0) ++ valueWords 1 (valueOf s A_TB_STATUS 0) ++ valueWords 2 (valueOf s A_TB_OFFSET 0) ++
      valueWords 1 (valueOf s A_PTP_STATUS 0 * 256 + valueOf s A_TB_SOURCE 0))) := by
  change execTimeStatus r s = _
  rw [execTimeStatus, granger_served hs]
  rfl
theorem execLaneStatus_served {u : BitVec 2} (hs : Served s r 0x71) :
    exec (.laneStatus r u) s = .next (reply s r 0x71 0 0
      (valueWords 1 (valueOf s A_LK_UL_STATUS u.toNat) ++ valueWords 2 (valueOf s A_LK_QUIRE_STATE u.toNat) ++
        valueWords 2 (valueOf s A_MG_VARIANT 0))) := by
  change execLaneStatus r u s = _
  rw [execLaneStatus, granger_served hs]
  rfl
theorem execGranaryStatus_served (hs : Served s r 0x72) : exec (.granaryStatus r) s = .next (reply s r 0x72 0 0
    (valueWords 2 (valueOf s A_GRANARY_OCC 0) ++ valueWords 1 (valueOf s A_GR_WM_STATE 0) ++
      valueWords 1 (valueOf s A_GR_WM_STATE 1) ++ valueWords 1 (valueOf s A_GR_POOL 0) ++
      (List.range 4).flatMap fun c => valueWords 2 (valueOf s A_GR_CLASS_OCC c))) := by
  change execGranaryStatus r s = _
  rw [execGranaryStatus, granger_served hs]
  rfl
theorem execScrubStatus_served (hs : Served s r 0x74) : exec (.scrubStatus r) s = .next (reply s r 0x74 0 0
    (valueWords 2 (valueOf s A_GR_SCRUB_STATUS 0) ++ valueWords 1 (tallyRead s A_GR_SCRUB_ERRORS 0))) := by
  change execScrubStatus r s = _
  rw [execScrubStatus, granger_served hs]
  rfl

end

/-- Settles O44: the packets that only reply, and MODE_REQUEST in HELD and elsewhere. -/
theorem basicCommands : Obligations.BasicCommands :=
  ⟨⟨fun _ _ => execNop_served, fun _ _ _ => execEcho_served, fun _ _ => execIdentify_served,
    fun _ m d _ hs h => modeRequest_inHeld m d hs h,
    fun _ m t' d _ hs h hm hd => modeRequest_outsideHeld m t' d hs h hm hd⟩,
   fun _ _ => execTimeStatus_served, fun _ _ _ => execLaneStatus_served, fun _ _ => execGranaryStatus_served,
    fun _ _ => execScrubStatus_served⟩

end Sys2Proof.Proofs
end

section
/-!
What almost every operation leaves as it was: the counts of beats and boundaries, the supplies and pins, and the record of
the mode, but for what a fault, a staging command or a couch notes in it (`steady`).
-/
namespace Sys2Proof.Proofs
open Sys2Proof Sys2Proof.Machine Sys2Proof.Laws

/-! ## What stays -/

/-- The record of the mode, without what faults, staging commands and couches note in it. -/
def still (m : Modes) : Modes :=
  { m with toRecovery := none, toHeld := none, causeAt := 0, recRetried := false, chipReset := false, stagedAt := 0,
           firstCouch := false }
/-- The counts of beats, of beats since power-on and of boundaries. -/
def clock (t : TB) : Beat × Nat × Nat := (t.beat, t.up, t.dk)
theorem clock_beat {t u : TB} (h : clock u = clock t) : u.beat = t.beat := congrArg Prod.fst h
theorem clock_up {t u : TB} (h : clock u = clock t) : u.up = t.up := congrArg (fun c => c.2.1) h
def steadyOf (c : Beat × Nat × Nat) (m : Modes) (p : Pwr) : (Beat × Nat × Nat) × Modes × Pwr := (c, m, p)
/-- What almost no operation changes. -/
def steady (s : State) : (Beat × Nat × Nat) × Modes × Pwr := steadyOf (clock s.tb) (still s.modes) s.pwr

section
variable {s t : State}

theorem steady_eq (h : steady t = steady s) : clock t.tb = clock s.tb ∧ still t.modes = still s.modes ∧ t.pwr = s.pwr := by
  simpa only [steady, steadyOf, Prod.mk.injEq] using h
theorem steady_clock (h : steady t = steady s) : clock t.tb = clock s.tb := (steady_eq h).1
theorem steady_beat (h : steady t = steady s) : t.tb.beat = s.tb.beat := clock_beat (steady_clock h)
theorem steady_up (h : steady t = steady s) : t.tb.up = s.tb.up := clock_up (steady_clock h)
theorem steady_deckle (h : steady t = steady s) : deckle t = deckle s := congrArg deckleOf (steady_beat h)
theorem steady_cur (h : steady t = steady s) : t.modes.cur = s.modes.cur :=
  (congrArg Modes.cur (steady_eq h).2.1 :)
theorem steady_ret (h : steady t = steady s) : t.modes.ret = s.modes.ret :=
  (congrArg Modes.ret (steady_eq h).2.1 :)
theorem steady_cause (h : steady t = steady s) : t.modes.cause = s.modes.cause :=
  (congrArg Modes.cause (steady_eq h).2.1 :)
theorem steady_entryDeckle (h : steady t = steady s) : t.modes.entryDeckle = s.modes.entryDeckle :=
  (congrArg Modes.entryDeckle (steady_eq h).2.1 :)
theorem steady_pend (h : steady t = steady s) : t.modes.pend = s.modes.pend :=
  (congrArg Modes.pend (steady_eq h).2.1 :)
theorem steady_recStep (h : steady t = steady s) : t.modes.recStep = s.modes.recStep :=
  (congrArg Modes.recStep (steady_eq h).2.1 :)
theorem steady_suStep (h : steady t = steady s) : t.modes.suStep = s.modes.suStep :=
  (congrArg Modes.suStep (steady_eq h).2.1 :)
theorem steady_suPassed (h : steady t = steady s) : t.modes.suPassed = s.modes.suPassed :=
  (congrArg Modes.suPassed (steady_eq h).2.1 :)
theorem steady_suFailed (h : steady t = steady s) : t.modes.suFailed = s.modes.suFailed :=
  (congrArg Modes.suFailed (steady_eq h).2.1 :)
theorem steady_suHalted (h : steady t = steady s) : t.modes.suHalted = s.modes.suHalted :=
  (congrArg Modes.suHalted (steady_eq h).2.1 :)
theorem steady_pwr (h : steady t = steady s) : t.pwr = s.pwr := (steady_eq h).2.2

theorem steady_of_faultOnly (h : FaultOnly s t) : steady t = steady s := by
  obtain ⟨hst, hmodes, -⟩ := h
  have hstill : still t.modes = still s.modes := by rw [hmodes]; rfl
  rw [steady, steady, hstill, hst]

end

/-! ## How an operation is taken apart -/

@[simp] theorem steady_mk (pending cmd modes pwr flt barns chs stooks gran thr tb lanes dls mg mon cal md clk nl tap cfg
    cfgPrev couchUp tal talOld talNew once free) :
    steady (State.mk pending cmd modes pwr flt barns chs stooks gran thr tb lanes dls mg mon cal md clk nl tap cfg cfgPrev
      couchUp tal talOld talNew once free) = steadyOf (clock tb) (still modes) pwr := (rfl)
@[simp] theorem steady_eta (s : State) : steadyOf (clock s.tb) (still s.modes) s.pwr = steady s := (rfl)
@[simp] theorem steady_ite (c : Prop) [Decidable c] (a b : State) :
    steady (if c then a else b) = if c then steady a else steady b := by
  split <;> rfl
@[simp] theorem steady_forNat (n : Nat) (f : Nat → State → State) (s : State) (h : ∀ k x, steady (f k x) = steady x) :
    steady (forNat n f s) = steady s := by
  induction n with
  | zero => rfl
  | succ n ih => rw [forNat, h, ih]
@[simp] theorem steady_foldl {α : Type} (l : List α) (f : State → α → State) (s : State)
    (h : ∀ x a, steady (f x a) = steady x) : steady (l.foldl f s) = steady s := by
  induction l generalizing s with
  | nil => rfl
  | cons a l ih => rw [List.foldl_cons, ih, h]

/-! ## Every operation -/

section
variable (s : State)

/-! ### Shared operations -/

@[simp] theorem steady_setReg (id inst v : Nat) : steady (setReg s id inst v) = steady s := (rfl)
@[simp] theorem steady_count (id inst hi lo n : Nat) : steady (count s id inst hi lo n) = steady s := (rfl)
@[simp] theorem steady_clearTally (id inst : Nat) : steady (clearTally s id inst) = steady s := (rfl)
@[simp] theorem steady_setChan (c : Nat) (x : Channel) : steady (setChan s c x) = steady s := (rfl)
@[simp] theorem steady_setStook (k : Nat) (x : Stook) : steady (setStook s k x) = steady s := (rfl)
@[simp] theorem steady_setLane (u : Nat) (x : Uplane) : steady (setLane s u x) = steady s := (rfl)
@[simp] theorem steady_setMc (k : Nat) (x : Mc) : steady (setMc s k x) = steady s := (rfl)
@[simp] theorem steady_setMonRec (i : Nat) (x : MonRec) : steady (setMonRec s i x) = steady s := (rfl)
@[simp] theorem steady_setTdac (k : Nat) (x : Tdac) : steady (setTdac s k x) = steady s := (rfl)
@[simp] theorem steady_pllRequest : steady (pllRequest s) = steady s := by simp [pllRequest]
@[simp] theorem steady_wakeGranary : steady (wakeGranary s) = steady s := by simp [wakeGranary]
@[simp] theorem steady_useGranary : steady (useGranary s) = steady s := by simp [useGranary]
@[simp] theorem steady_send (m : Msg) : steady (send s m) = steady s := steady_of_faultOnly (faultOnly_send ..)
@[simp] theorem steady_reply (r : Req) (op status detail : Nat) (data : List PWord) :
    steady (reply s r op status detail data) = steady s := by
  simp [reply]
@[simp] theorem steady_outcome (r : Req) (op status detail : Nat) (data : List PWord) :
    steady (outcome s r op status detail data) = steady s := by
  simp [outcome]
@[simp] theorem steady_event (kind status : Nat) (data : List PWord) : steady (event s kind status data) = steady s :=
  steady_of_faultOnly (faultOnly_event ..)
@[simp] theorem steady_openCmd (r : Req) (op key : Nat) : steady (openCmd s r op key) = steady s := (rfl)
@[simp] theorem steady_closeCmd (r : Req) (op status detail : Nat) (data : List PWord) :
    steady (closeCmd s r op status detail data) = steady s :=
  steady_of_faultOnly (faultOnly_closeCmd ..)
@[simp] theorem steady_pushSheaf (x : Sheaf) : steady (pushSheaf s x) = steady s := by simp [pushSheaf]
@[simp] theorem steady_fenceMarker (kind index : Nat) (release : Bool) (src : Nat) :
    steady (fenceMarker s kind index release src) = steady s := by
  simp [fenceMarker]
@[simp] theorem steady_resumeMarker (cause : Nat) (checkpoint : Deckle) :
    steady (resumeMarker s cause checkpoint) = steady s := by
  simp [resumeMarker]
@[simp] theorem steady_controlMode (new old : Mode) (cause : Nat) : steady (controlMode s new old cause) = steady s := by
  simp [controlMode]
@[simp] theorem steady_controlLoss (finder src seq : Nat) (unknown : Bool) :
    steady (controlLoss s finder src seq unknown) = steady s := by
  simp [controlLoss]
@[simp] theorem steady_epochCause (bit : Nat) : steady (epochCause s bit) = steady s := by
  unfold epochCause
  split <;> rfl
@[simp] theorem steady_sendInterrupts : steady (sendInterrupts s) = steady s := by simp [sendInterrupts]
@[simp] theorem steady_endTrap : steady (endTrap s) = steady s := by simp [endTrap]
@[simp] theorem steady_endActions (key : Nat) : steady (endActions s key) = steady s := (rfl)
@[simp] theorem steady_raise (src inst ctx : Nat) : steady (raise s src inst ctx) = steady s :=
  steady_of_faultOnly (faultOnly_raise ..)
@[simp] theorem steady_levelBegin (src inst ctx : Nat) : steady (levelBegin s src inst ctx) = steady s :=
  steady_of_faultOnly (faultOnly_levelBegin ..)
@[simp] theorem steady_levelEnd (src inst : Nat) : steady (levelEnd s src inst) = steady s := (rfl)

/-! ### Couches -/

@[simp] theorem steady_couchMessage (c : Couch) (status detail : Nat) :
    steady (couchMessage s c status detail) = steady s := by
  unfold couchMessage
  split <;> simp
@[simp] theorem steady_endCouch (c : Couch) (status : Nat) (late : Bool) :
    steady (endCouch s c status late) = steady s := (rfl)
@[simp] theorem steady_failCouch (c : Couch) (status detail : Nat) (st : Staging) (late : Bool) :
    steady (failCouch s c status detail st late) = steady s := by
  simp [failCouch]
@[simp] theorem steady_cancelCouch (p : Couch → Bool) : steady (cancelCouch s p) = steady s := by
  unfold cancelCouch
  split <;> simp
@[simp] theorem steady_couchBoundary : steady (couchBoundary s) = steady s := by
  unfold couchBoundary
  split <;> simp

/-! ### Operands -/

@[simp] theorem steady_replyOk (r : Req) (op : Nat) (data : List PWord) : steady (replyOk s r op data) = steady s := by
  simp [replyOk]
@[simp] theorem steady_replyBad (r : Req) (op word : Nat) : steady (replyBad s r op word) = steady s := by
  simp [replyBad]
@[simp] theorem steady_replyBusy (r : Req) (op holder : Nat) : steady (replyBusy s r op holder) = steady s := by
  simp [replyBusy]
@[simp] theorem steady_replyDenied (r : Req) (op : Nat) : steady (replyDenied s r op) = steady s := by
  simp [replyDenied]
@[simp] theorem steady_replyNotInMode (r : Req) (op : Nat) : steady (replyNotInMode s r op) = steady s := by
  simp [replyNotInMode]
@[simp] theorem steady_replyLength (r : Req) (op len : Nat) : steady (replyLength s r op len) = steady s := by
  simp only [replyLength, steady_reply, steady_mk, steady_eta, steady_count]
@[simp] theorem steady_enqueuePacket (p : Port) (i : Packet) : steady (enqueuePacket s p i) = steady s := (rfl)
@[simp] theorem steady_opening (r : Req) (op key : Nat) (k : State → State) (h : ∀ x, steady (k x) = steady x) :
    steady (opening s r op key k) = steady s := by
  simp [opening, h]

/-! ### The Granary -/

@[simp] theorem steady_mapUnits (f : GUnit → GUnit) : steady (mapUnits s f) = steady s := (rfl)
@[simp] theorem steady_keepUnits (p : GUnit → Bool) : steady (keepUnits s p) = steady s := (rfl)
@[simp] theorem steady_touchBanks (slots : List Nat) : steady (touchBanks s slots) = steady s := (rfl)
@[simp] theorem steady_lost (src cls : Nat) : steady (lost s src cls) = steady s := by simp [lost]
@[simp] theorem steady_guardLost (finder src seq : Nat) (unknown : Bool) :
    steady (guardLost s finder src seq unknown) = steady s := by
  simp [guardLost]
@[simp] theorem steady_markUnits : steady (markUnits s) = steady s := by simp [markUnits]
@[simp] theorem steady_chaffUnits (p : GUnit → Bool) : steady (chaffUnits s p) = steady s := by simp [chaffUnits]
@[simp] theorem steady_expireUnits : steady (expireUnits s) = steady s := by simp [expireUnits]
@[simp] theorem steady_sweepBroadcast : steady (sweepBroadcast s) = steady s := (rfl)
@[simp] theorem steady_takeUnit (u arr : Nat) : steady (takeUnit s u arr) = steady s := by simp [takeUnit]
@[simp] theorem steady_discardPoisoned (x : GUnit) : steady (discardPoisoned s x) = steady s := by
  simp [discardPoisoned]
@[simp] theorem steady_dropPoisoned : steady (dropPoisoned s) = steady s := by simp [dropPoisoned]
@[simp] theorem steady_returnUnit (u : Nat) (failed : Bool) (arr : Nat) :
    steady (returnUnit s u failed arr) = steady s := by
  simp [returnUnit]
@[simp] theorem steady_mapHeld (f : GUnit → GUnit) : steady (mapHeld s f) = steady s := (rfl)
@[simp] theorem steady_oweLane (u : Nat) : steady (oweLane s u) = steady s := (rfl)
@[simp] theorem steady_disownLane (u : Nat) : steady (disownLane s u) = steady s := by simp [disownLane]
@[simp] theorem steady_applyReturns : steady (applyReturns s) = steady s := by simp [applyReturns]
@[simp] theorem steady_closeGap (c : Nat) : steady (closeGap s c) = steady s := (rfl)
@[simp] theorem steady_countCross (pair : Nat) (hi lo : Bool) : steady (countCross s pair hi lo) = steady s := by
  simp only [countCross, steady_ite, steady_count, ite_self]
@[simp] theorem steady_granEdge : steady (granEdge s) = steady s := (rfl)
@[simp] theorem steady_granEnd : steady (granEnd s) = steady s := by simp [granEnd]
@[simp] theorem steady_bankDeckle : steady (bankDeckle s) = steady s := by simp [bankDeckle]
@[simp] theorem steady_commitPointer : steady (commitPointer s) = steady s := (rfl)
@[simp] theorem steady_granDeckle : steady (granDeckle s) = steady s := by simp [granDeckle]

/-! ### Lanes and quires -/

@[simp] theorem steady_enterLane (u : Nat) (st : LState) (x : Uplane) : steady (enterLane s u st x) = steady s := by
  simp [enterLane]
@[simp] theorem steady_emptyQuires (u : Nat) : steady (emptyQuires s u) = steady s := (rfl)
@[simp] theorem steady_returnUnits (u : Nat) : steady (returnUnits s u) = steady s := by simp [returnUnits]
@[simp] theorem steady_negotiate (u : Nat) : steady (negotiate s u) = steady s := by simp [negotiate]
@[simp] theorem steady_startTraining (u gen : Nat) (mark : Bool) : steady (startTraining s u gen mark) = steady s := by
  simp [startTraining]
@[simp] theorem steady_startDraining (u : Nat) (d : Drain) : steady (startDraining s u d) = steady s := by
  simp [startDraining]
@[simp] theorem steady_activate (u : Nat) : steady (activate s u) = steady s := by simp [activate]
@[simp] theorem steady_chooseVariant : steady (chooseVariant s) = steady s := by simp [chooseVariant]
@[simp] theorem steady_variantAtBoundary : steady (variantAtBoundary s) = steady s := by simp [variantAtBoundary]
@[simp] theorem steady_closeQuire (u : Nat) : steady (closeQuire s u) = steady s := by simp [closeQuire]
@[simp] theorem steady_discardRead (u : Nat) (x : GUnit) (builder unknown : Bool) :
    steady (discardRead s u x builder unknown) = steady s := by
  simp [discardRead]
@[simp] theorem steady_mergeLoop (n u scope room moved : Nat) (g : Guard) (builder : Bool) :
    steady (mergeLoop n u scope room moved g builder s).2 = steady s := by
  induction n generalizing room moved g s with
  | zero => rfl
  | succ n ih =>
    unfold mergeLoop
    dsimp only
    repeat' split
    all_goals simp [ih]
@[simp] theorem steady_drainRequests : steady (drainRequests s) = steady s := by simp [drainRequests]
@[simp] theorem steady_settleRequests : steady (settleRequests s) = steady s := by simp [settleRequests]
@[simp] theorem steady_rewindLane (u : Nat) (c : BitVec 32) (rwg : BitVec 2) (prev : Option (BitVec 2)) :
    steady (rewindLane s u c rwg prev) = steady s := by
  simp [rewindLane]
@[simp] theorem steady_wakeLanes : steady (wakeLanes s) = steady s := by simp [wakeLanes]
@[simp] theorem steady_lanesAllOn (recovery : Bool) : steady (lanesAllOn s recovery) = steady s := by
  unfold lanesAllOn
  rw [steady_variantAtBoundary, steady_forNat _ _ _ fun k x => by dsimp only; (repeat' split) <;> simp]
@[simp] theorem steady_raiseLanes : steady (raiseLanes s) = steady s := by simp [raiseLanes]
@[simp] theorem steady_replanLane (u : Nat) : steady (replanLane s u) = steady s := by
  unfold replanLane
  dsimp only
  split <;> simp
@[simp] theorem steady_lanesDeckle : steady (lanesDeckle s) = steady s := by simp [lanesDeckle]
@[simp] theorem steady_ownerRewind : steady (ownerRewind s) = steady s := by simp [ownerRewind]
@[simp] theorem steady_pauseCredit (n : Nat) : steady (pauseCredit s n) = steady s := by simp [pauseCredit]

/-! ### The front end -/

@[simp] theorem steady_tryAna (c : Nat) : steady (tryAna s c) = steady s := by
  unfold tryAna
  dsimp only
  split <;> simp
@[simp] theorem steady_refreshChannel (c : Nat) : steady (refreshChannel s c) = steady s := by simp [refreshChannel]
@[simp] theorem steady_wakeStook (st : Nat) : steady (wakeStook s st) = steady s := by simp [wakeStook]
@[simp] theorem steady_acceptedEdge (c fine lag inFlight : Nat) (forced : Bool) :
    steady (acceptedEdge s c fine lag inFlight forced) = steady s := by
  simp [acceptedEdge]
@[simp] theorem steady_hitEdge (c fine lag inFlight : Nat) (forced : Bool) :
    steady (hitEdge s c fine lag inFlight forced) = steady s := by
  unfold hitEdge
  dsimp only
  repeat' split
  all_goals simp
@[simp] theorem steady_channelDeckle (c : Nat) : steady (channelDeckle s c) = steady s := by simp [channelDeckle]
@[simp] theorem steady_channelsDeckle : steady (channelsDeckle s) = steady s := by simp [channelsDeckle]
@[simp] theorem steady_channelHeld (c : Nat) : steady (channelHeld s c) = steady s := by simp [channelHeld]
@[simp] theorem steady_channelRestart (c : Nat) : steady (channelRestart s c) = steady s := by simp [channelRestart]

/-! ### The Winnower -/

@[simp] theorem steady_refillQueue (st : Nat) : steady (refillQueue s st) = steady s := by simp [refillQueue]
@[simp] theorem steady_refillQueues : steady (refillQueues s) = steady s := by simp [refillQueues]
@[simp] theorem steady_outLater (st due : Nat) (x : Sheaf) : steady (outLater s st due x) = steady s := by
  simp [outLater]
@[simp] theorem steady_blindMarker (c : Nat) (first : Beat) (reason : Nat) :
    steady (blindMarker s c first reason) = steady s := by
  simp [blindMarker]

/-! ### Clocks -/

@[simp] theorem steady_setLc (p : Nat) (run lock idle : Bool) : steady (setLc s p run lock idle) = steady s := (rfl)
@[simp] theorem steady_lcDeckle (p : Nat) : steady (lcDeckle s p) = steady s := by simp [lcDeckle]
@[simp] theorem steady_clocksBeat : steady (clocksBeat s) = steady s := (rfl)
@[simp] theorem steady_stookIdle (k : Nat) : steady (stookIdle s k) = steady s := (rfl)
@[simp] theorem steady_heldAwake : steady (heldAwake s) = steady s := by simp [heldAwake]
@[simp] theorem steady_clocksDeckle : steady (clocksDeckle s) = steady s := by simp [clocksDeckle]
@[simp] theorem steady_clocksAllOn : steady (clocksAllOn s) = steady s := by simp [clocksAllOn]
@[simp] theorem steady_clocksHeld : steady (clocksHeld s) = steady s := by simp [clocksHeld]

/-! ### The time base -/

@[simp] theorem steady_settleTime : steady (settleTime s) = steady s := by
  unfold settleTime
  extract_lets r _ s₁ q _ s₂
  have h₁ : steady s₁ = steady s := rfl
  have h₂ : steady s₂ = steady s₁ := steady_epochCause ..
  simp [h₁, h₂]
@[simp] theorem steady_portFaulty : steady (portFaulty s) = steady s := (steady_levelBegin ..).trans rfl
@[simp] theorem steady_refreshTiming : steady (refreshTiming s) = steady s := by
  unfold refreshTiming
  extract_lets g s₁ _ s₂ _ _ s₃
  have h₁ : steady s₁ = steady s := by simp [s₁]
  clear_value s₁
  have h₂ : steady s₂ = steady s₁ := by unfold s₂; split <;> rfl
  clear_value s₂
  have h₃ : steady s₃ = steady s₂ := by
    unfold s₃
    split
    · rw [steady_levelEnd, steady_levelEnd]
      rfl
    split
    · split
      · exact steady_portFaulty s₂
      · rfl
    · rfl
  rw [steady_settleTime, h₃, h₂, h₁]
@[simp] theorem steady_replicaMeasured (st p : Nat) : steady (replicaMeasured s st p) = steady s := by
  unfold replicaMeasured
  dsimp only
  split <;> simp
@[simp] theorem steady_slewBeat : steady (slewBeat s) = steady s := by
  unfold slewBeat
  dsimp only
  repeat' split
  all_goals rfl
@[simp] theorem steady_timeDeckle : steady (timeDeckle s) = steady s := by
  unfold timeDeckle
  extract_lets lim owed _ s₁
  split <;> rfl

/-! ### The trigger port -/

@[simp] theorem steady_countAnswer (op cls : Nat) : steady (countAnswer s op cls) = steady s := by simp [countAnswer]
@[simp] theorem steady_settleWord : steady (settleWord s) = steady s := by simp [settleWord]
@[simp] theorem steady_enterWindow (w : Window) : steady (enterWindow s w) = steady s := by simp [enterWindow]
@[simp] theorem steady_enterDue : steady (enterDue s) = steady s := by simp [enterDue]

/-! ### The monitor path -/

@[simp] theorem steady_nextConversion (k : Nat) : steady (nextConversion s k) = steady s := by
  unfold nextConversion
  dsimp only
  repeat' split
  all_goals simp
@[simp] theorem steady_staleInput (i : Nat) : steady (staleInput s i) = steady s := (rfl)
@[simp] theorem steady_monReport (i : Nat) (b : Beat) (m : MonRec) (injected : Bool) :
    steady (monReport s i b m injected) = steady s := by
  simp [monReport]
@[simp] theorem steady_forInputs (k : Nat) (f : Nat → State → State) (h : ∀ k x, steady (f k x) = steady x) :
    steady (forInputs s k f) = steady s :=
  steady_forNat _ _ _ fun _ _ => h _ _
@[simp] theorem steady_claimConverter (k : Nat) : steady (claimConverter s k) = steady s := by simp [claimConverter]
@[simp] theorem steady_requestClaim (k : Nat) : steady (requestClaim s k) = steady s := by simp [requestClaim]
@[simp] theorem steady_releaseClaim (k : Nat) : steady (releaseClaim s k) = steady s := by simp [releaseClaim]
@[simp] theorem steady_resumeConverter (k : Nat) : steady (resumeConverter s k) = steady s := by
  simp [resumeConverter]
@[simp] theorem steady_monHeld : steady (monHeld s) = steady s := by simp [monHeld]
@[simp] theorem steady_monStart : steady (monStart s) = steady s := by simp [monStart]
@[simp] theorem steady_kickConverter (k : Nat) : steady (kickConverter s k) = steady s := by simp [kickConverter]
@[simp] theorem steady_clearTarget (c : Nat) : steady (clearTarget s c) = steady s := by simp [clearTarget]
@[simp] theorem steady_holdChannel (c : Nat) : steady (holdChannel s c) = steady s := (rfl)
@[simp] theorem steady_releaseChannel (c reason : Nat) : steady (releaseChannel s c reason) = steady s := by
  simp [releaseChannel]
@[simp] theorem steady_driveDac (k : Nat) (r : Req) (ch : Nat) (low : Bool) (code : BitVec 12) :
    steady (driveDac s k r ch low code) = steady s := (rfl)
@[simp] theorem steady_beginCheck : steady (beginCheck s) = steady s := by
  unfold beginCheck
  split <;> simp
@[simp] theorem steady_startCheck : steady (startCheck s) = steady s := by
  unfold startCheck
  split <;> simp
@[simp] theorem steady_serveDac (k : Nat) (l : List DacClaim) : steady (serveDac s k l) = steady s := by
  induction l generalizing s with
  | nil => rfl
  | cons c l ih => cases c <;> simp [serveDac, ih]
@[simp] theorem steady_freeDac (k : Nat) : steady (freeDac s k) = steady s := by simp [freeDac]
@[simp] theorem steady_endCheck (p : Ipc) : steady (endCheck s p) = steady s := by simp [endCheck]
@[simp] theorem steady_monLeave (new : Mode) : steady (monLeave s new) = steady s := by
  unfold monLeave
  split <;> simp

/-! ### Calibration -/

@[simp] theorem steady_setRun (x : Option Run) : steady (setRun s x) = steady s := (rfl)
@[simp] theorem steady_noteQuiet (c : Nat) : steady (noteQuiet s c) = steady s := (rfl)
@[simp] theorem steady_beginMeasurement : steady (beginMeasurement s) = steady s := by
  unfold beginMeasurement
  split <;> simp
@[simp] theorem steady_setImage (m : Memory) : steady (setImage s m) = steady s := (rfl)
@[simp] theorem steady_setFlag (at? : Option Nat) (bit : Nat) (v : Bool) : steady (setFlag s at? bit v) = steady s := by
  unfold setFlag
  split <;> simp
@[simp] theorem steady_acceptValue (now : Bool) (e : CalKey × Int) : steady (acceptValue now s e) = steady s := by
  simp [acceptValue]
@[simp] theorem steady_slewDeckle : steady (slewDeckle s) = steady s := by
  unfold slewDeckle
  split <;> simp
@[simp] theorem steady_setQuality (f : Residual) : steady (setQuality s f) = steady s := by
  simp only [setQuality, steady_ite, steady_mk, steady_eta, ite_self]
@[simp] theorem steady_releaseUnits (x : Run) (aborted : Bool) (u : Nat) :
    steady (releaseUnits x aborted s u) = steady s := by
  simp [releaseUnits]
@[simp] theorem steady_runFaults (x : Run) (choices : List (CalKey × Int × Bool)) :
    steady (runFaults x choices s) = steady s := by
  simp [runFaults]
@[simp] theorem steady_acceptValues (x : Run) : steady (acceptValues x s) = steady s := by simp [acceptValues]
@[simp] theorem steady_acceptChoice (e : CalKey × Int × Bool) : steady (acceptChoice s e) = steady s := by
  simp [acceptChoice]
@[simp] theorem steady_acceptRun (x : Run) (found : List Residual) : steady (acceptRun x found s) = steady s := by
  simp [acceptRun]
@[simp] theorem steady_calOutcome (r : Option Req) (st : Nat × Nat) : steady (calOutcome s r st) = steady s := by
  unfold calOutcome
  split <;> simp
@[simp] theorem steady_startCommit (r : Option Req) : steady (startCommit s r) = steady s := (rfl)
@[simp] theorem steady_endSweep : steady (endSweep s) = steady s := by
  unfold endSweep
  split <;> simp
@[simp] theorem steady_sweepOn (x : Run) (st : Nat × Nat) : steady (sweepOn s x st) = steady s := by
  unfold sweepOn
  split <;> simp
@[simp] theorem steady_freeDacs : steady (freeDacs s) = steady s := by simp [freeDacs]
@[simp] theorem steady_endRun (aborted : Bool) (found : List Residual) : steady (endRun s aborted found) = steady s := by
  unfold endRun
  split
  · rfl
  · simp only [steady_sweepOn, steady_calOutcome, steady_ite, steady_runFaults, steady_mk, steady_eta, steady_count,
      steady_pushSheaf, steady_freeDacs, steady_foldl _ _ _ fun x u => steady_releaseUnits x .., steady_acceptRun,
      steady_setRun, ite_self]
@[simp] theorem steady_beginForeground (x : Run) : steady (beginForeground s x) = steady s := by
  simp [beginForeground]
@[simp] theorem steady_claimDacs : steady (claimDacs s) = steady s := by simp [claimDacs]
@[simp] theorem steady_dropQueued : steady (dropQueued s) = steady s := by
  unfold dropQueued
  split <;> simp
@[simp] theorem steady_calLeave (new : Mode) : steady (calLeave s new) = steady s := by
  unfold calLeave
  extract_lets ends s₁ s₂
  have h₁ : steady s₁ = steady s := by simp [s₁]
  have h₂ : steady s₂ = steady s₁ := by
    unfold s₂
    split
    · simp
    · rfl
  split
  · rw [h₂, h₁]
  · split <;> simp [h₁, h₂]

/-! ### The Seed Store -/

@[simp] theorem steady_setBank (b : Nat) (m : Memory) : steady (setBank s b m) = steady s := by simp [setBank]
@[simp] theorem steady_setSeedWord (w : BitVec 64) : steady (setSeedWord s w) = steady s := (rfl)
@[simp] theorem steady_commitDeckle : steady (commitDeckle s) = steady s := by
  unfold commitDeckle
  split <;> simp
@[simp] theorem steady_dropCommit : steady (dropCommit s) = steady s := by
  unfold dropCommit
  split <;> simp

/-! ### Faults -/

@[simp] theorem steady_setFence (t : Target) (v : Bool) : steady (setFence s t v) = steady s := by
  unfold setFence
  split <;> simp
@[simp] theorem steady_freeChannel (c : Nat) : steady (freeChannel s c) = steady s := by simp [freeChannel]
@[simp] theorem steady_unisolate (t : Target) : steady (unisolate s t) = steady s := by
  unfold unisolate
  cases t with
  | channel c => exact steady_freeChannel ..
  | stook k =>
    dsimp only
    split
    · rfl
    · exact steady_forNat _ _ _ fun _ _ => steady_freeChannel ..
  | uplane u => simp only [steady_ite, steady_negotiate, ite_self]
  | converter k => simp only [steady_ite, steady_resumeConverter, ite_self]
  | downlane d => rfl
  | timingPort => rfl
  | triggerPort => rfl
@[simp] theorem steady_markFence (t : Target) (release : Bool) (src : Nat) :
    steady (markFence s t release src) = steady s := by
  simp [markFence]
@[simp] theorem steady_promoteAct (b : Nat) : steady (promoteAct s b) = steady s := by
  unfold promoteAct
  dsimp only
  repeat' split
  all_goals simp
@[simp] theorem steady_endCommand (a : Act) (status detail : Nat) :
    steady (endCommand s a status detail) = steady s := by
  unfold endCommand
  split <;> simp
@[simp] theorem steady_releaseFences : steady (releaseFences s) = steady s := by simp [releaseFences]
@[simp] theorem steady_addCommand (k : ActKind) (t : Target) (r : Req) : steady (addCommand s k t r) = steady s := (rfl)
@[simp] theorem steady_errAgain : steady (errAgain s) = steady s := by simp [errAgain]
@[simp] theorem steady_clearWord (mask : BitVec 64) : steady (clearWord s mask) = steady s := (rfl)
@[simp] theorem steady_clearFirst : steady (clearFirst s) = steady s := (rfl)
@[simp] theorem steady_clearHistory : steady (clearHistory s) = steady s := (rfl)
@[simp] theorem steady_clearReply (r : Req) : steady (clearReply s r) = steady s := by simp [clearReply]
@[simp] theorem steady_abortAct (a : Act) : steady (abortAct s a) = steady s := by simp [abortAct]
@[simp] theorem steady_faultLeave (new : Mode) : steady (faultLeave s new) = steady s := by simp [faultLeave]
@[simp] theorem steady_faultStart : steady (faultStart s) = steady s := (rfl)

/-! ### Barns -/

@[simp] theorem steady_latchOwner (w : Barn) : steady (latchOwner s w) = steady s := (rfl)
@[simp] theorem steady_haspBeat : steady (haspBeat s) = steady s := by
  unfold haspBeat
  split <;> simp
@[simp] theorem steady_startResync : steady (startResync s) = steady s := by simp [startResync]
@[simp] theorem steady_endSuspension : steady (endSuspension s) = steady s := (rfl)
@[simp] theorem steady_abortOutstanding : steady (abortOutstanding s) = steady s := by simp [abortOutstanding]
@[simp] theorem steady_changeOwner (cause : Nat) (st : Standby) : steady (changeOwner s cause st) = steady s := by
  simp [changeOwner]
@[simp] theorem steady_makeSwitch : steady (makeSwitch s) = steady s := by
  unfold makeSwitch
  split <;> simp
@[simp] theorem steady_barnsDeckle : steady (barnsDeckle s) = steady s := by simp [barnsDeckle]
@[simp] theorem steady_retestsAllowed : steady (retestsAllowed s) = steady s := (rfl)

/-! ### NL64 -/

@[simp] theorem steady_nlStart : steady (nlStart s) = steady s := (rfl)
@[simp] theorem steady_nlEnd : steady (nlEnd s) = steady s := by simp [nlEnd]
@[simp] theorem steady_nlResult (e : Nat × Nat × NlPair) : steady (nlResult s e) = steady s := (rfl)
@[simp] theorem steady_nlResults (all : Bool) : steady (nlResults s all) = steady s := by simp [nlResults]
@[simp] theorem steady_nlFrame (ended : Deckle) : steady (nlFrame s ended) = steady s := by simp [nlFrame]
@[simp] theorem steady_nlDeckle (ended : Deckle) : steady (nlDeckle s ended) = steady s := by
  unfold nlDeckle
  extract_lets s₁ _ s₂
  have h₁ : steady s₁ = steady s := steady_nlFrame ..
  have h₂ : steady s₂ = steady s₁ := by
    unfold s₂
    split <;> simp
  split <;> simp [h₁, h₂]

/-! ### Moulds -/

@[simp] theorem steady_shadowEmpty : steady (shadowEmpty s) = steady s := (rfl)
@[simp] theorem steady_stagingHeld (r : Req) (op : Nat) (first : Bool) (k : State → State)
    (h : ∀ x, steady (k x) = steady x) : steady (stagingHeld s r op first k) = steady s := by
  simp [stagingHeld, h]
@[simp] theorem steady_restaged (c : Copy) (st : Staging) : steady (restaged s c st) = steady s := (rfl)
@[simp] theorem steady_autoCheck : steady (autoCheck s) = steady s := by simp [autoCheck]
@[simp] theorem steady_stageBytes (r : Req) (first : Bool) (offset : Nat) (bytes : List Byte) :
    steady (stageBytes s r first offset bytes) = steady s := by
  simp [stageBytes]
@[simp] theorem steady_dropCheck : steady (dropCheck s) = steady s := (rfl)
@[simp] theorem steady_couchHeld (r : Req) (k : State → State) (h : ∀ x, steady (k x) = steady x) :
    steady (couchHeld s r k) = steady s := by
  unfold couchHeld
  repeat' split
  all_goals simp [h]
@[simp] theorem steady_setCouch (c : Couch) : steady (setCouch s c) = steady s := (rfl)
@[simp] theorem steady_keyWrite (r : Req) (inst : Nat) (value : BitVec 64) :
    steady (keyWrite s r inst value) = steady s := by
  simp [keyWrite]
@[simp] theorem steady_keyReply (r : Req) : steady (keyReply s r) = steady s := by simp [keyReply]
theorem steady_setRequire {s t : State} {v : Bool} (h : setRequire s v = some t) : steady t = steady s := by
  unfold setRequire at h
  split at h <;> cases h
  rfl
@[simp] theorem steady_keyLock (r : Req) (require : Bool) : steady (keyLock s r require) = steady s := by
  unfold keyLock
  split
  · simp
  · split
    · simp
    · next t h => simp [steady_setRequire h]
@[simp] theorem steady_keyRequire (r : Req) (value : Bool) : steady (keyRequire s r value) = steady s := by
  unfold keyRequire
  split
  · simp
  · next t h => simp [steady_setRequire h]
@[simp] theorem steady_writeMoulded (a : Attr) (inst v : Nat) : steady (writeMoulded s a inst v) = steady s := by
  unfold writeMoulded
  dsimp only
  split <;> rfl

/-! ### Modes -/

@[simp] theorem steady_abortForMode (new : Mode) : steady (abortForMode s new) = steady s := by simp [abortForMode]
@[simp] theorem steady_endForMode (new : Mode) : steady (endForMode s new) = steady s := by simp [endForMode]
@[simp] theorem steady_leaveFor (new : Mode) : steady (leaveFor s new) = steady s := by simp [leaveFor]
@[simp] theorem steady_allBanks : steady (allBanks s) = steady s := (rfl)
@[simp] theorem steady_blocksForMode (new : Mode) : steady (blocksForMode s new) = steady s := by simp [blocksForMode]
@[simp] theorem steady_announceMode (old : Mode) (requested : Bool) :
    steady (announceMode s old requested) = steady s := by
  simp [announceMode]
@[simp] theorem steady_lostSheaf (x : Sheaf) : steady (lostSheaf s x) = steady s := by simp [lostSheaf]
@[simp] theorem steady_loseStook (k : Nat) : steady (loseStook s k) = steady s := by simp [loseStook]
@[simp] theorem steady_keepBank0 : steady (keepBank0 s) = steady s := by simp [keepBank0]
@[simp] theorem steady_calHeld : steady (calHeld s) = steady s := by simp [calHeld]
@[simp] theorem steady_mdHeld : steady (mdHeld s) = steady s := by
  unfold mdHeld
  split <;> simp
@[simp] theorem steady_cmdHeld : steady (cmdHeld s) = steady s := (rfl)
@[simp] theorem steady_frontHeld : steady (frontHeld s) = steady s := by simp [frontHeld]
@[simp] theorem steady_markPending : steady (markPending s) = steady s := by simp [markPending]
@[simp] theorem steady_resumeRecovery (entry : Deckle) (cold : Bool) :
    steady (resumeRecovery s entry cold) = steady s := by
  simp [resumeRecovery]

/-! ### START-UP -/

@[simp] theorem steady_startBlocks : steady (startBlocks s) = steady s := by simp [startBlocks]

/-! ### The TAP -/

@[simp] theorem steady_tapDeckle : steady (tapDeckle s) = steady s := (rfl)

/-! ### Attributes -/

@[simp] theorem steady_restartMax (id : Nat) : steady (restartMax s id) = steady s := by simp [restartMax]
@[simp] theorem steady_afterRead (a : Attr) (inst : Nat) : steady (afterRead s a inst) = steady s := by
  simp [afterRead]
@[simp] theorem steady_readBlock (r : Req) (op id inst n : Nat) (rcOnly : Bool) (f : State → Attr → Nat → State)
    (h : ∀ x a k, steady (f x a k) = steady x) : steady (readBlock s r op id inst n rcOnly f) = steady s := by
  unfold readBlock
  split <;> simp [h]
/-- A new epoch value waits for its boundary. -/
theorem steady_epochNext (e : Option Nat) : steady { s with tb := { s.tb with epochNext := e } } = steady s := (rfl)
@[simp] theorem steady_setEffect (id inst old : Nat) : steady (setEffect s id inst old) = steady s := by
  simp only [setEffect, steady_ite, steady_refreshChannel, steady_refreshTiming, steady_epochNext, steady_closeGap,
    steady_replanLane, steady_kickConverter, steady_clearTarget, ite_self]
@[simp] theorem steady_setRw (r : Req) (a : Attr) (inst v : Nat) : steady (setRw s r a inst v) = steady s := by
  simp [setRw]
@[simp] theorem steady_setAttr (r : Req) (a : Attr) (inst v : Nat) : steady (setAttr s r a inst v) = steady s := by
  unfold setAttr
  split <;> simp

/-! ### Beats and boundaries -/

@[simp] theorem steady_endBeat : steady (endBeat s) = steady s :=
  (steady_clocksBeat ..).trans ((steady_settleWord ..).trans
    ((steady_granEnd ..).trans ((steady_settleRequests ..).trans (steady_slewBeat s))))
@[simp] theorem steady_startBeat : steady (startBeat s) = steady s := by simp [startBeat]
@[simp] theorem steady_phaseDeckle : steady (phaseDeckle s) = steady s := by simp [phaseDeckle]
@[simp] theorem steady_replicasDeckle (l : List (StookId × BitVec 32)) : steady (replicasDeckle s l) = steady s := by
  unfold replicasDeckle
  rw [steady_foldl _ _ _ fun x a => by simp, steady_forNat _ _ _ fun k x => by split <;> simp]
@[simp] theorem steady_errorsDeckle (dlErrors : List (DlId × Nat)) : steady (errorsDeckle s dlErrors) = steady s := by
  simp [errorsDeckle]
@[simp] theorem steady_serviceDeckle : steady (serviceDeckle s) = steady s := by simp [serviceDeckle]
@[simp] theorem steady_deckleWork (ended : Deckle) (replica : List (StookId × BitVec 32)) (dlErrors : List (DlId × Nat)) :
    steady (deckleWork s ended replica dlErrors) = steady s := by
  simp [deckleWork]
end

end Sys2Proof.Proofs
end

section
/-!
O16: the count advances by one at each beat and stops nowhere short of the next boundary (R31, R82). The packets that the
Granger takes at a beat move no count.
-/
namespace Sys2Proof.Proofs
open Sys2Proof Sys2Proof.Machine Sys2Proof.Laws

/-! ## Packets -/

section
variable (s : State)

@[simp] theorem steady_granger (r : Req) (i : Instr) (op : Nat) (k : State → State) (h : ∀ x, steady (k x) = steady x) :
    steady (after s (granger s r i op k)) = steady s := by
  unfold granger atPads
  split
  · simp [after_next, h]
  · rfl
@[simp] theorem steady_keySet (r : Req) (i : Instr) (k : State → State) (h : ∀ x, steady (k x) = steady x) :
    steady (after s (keySet s r i k)) = steady s := by
  simp [keySet, h]
@[simp] theorem steady_execNop (r : Req) : steady (after s (execNop r s)) = steady s := by simp [execNop]
@[simp] theorem steady_execEcho (r : Req) (words : List PWord) : steady (after s (execEcho r words s)) = steady s := by
  simp [execEcho]
@[simp] theorem steady_execIdentify (r : Req) : steady (after s (execIdentify r s)) = steady s := by
  simp [execIdentify]
@[simp] theorem steady_execGet (r : Req) (id : BitVec 16) (inst : BitVec 9) :
    steady (after s (execGet r id inst s)) = steady s := by
  unfold execGet
  refine steady_granger _ _ _ _ _ fun x => ?_
  repeat' split
  all_goals simp
@[simp] theorem steady_execSet (r : Req) (id : BitVec 16) (inst : BitVec 9) (value : List PWord) :
    steady (after s (execSet r id inst value s)) = steady s := by
  unfold execSet
  refine steady_granger _ _ _ _ _ fun x => ?_
  dsimp only
  repeat' split
  all_goals simp
@[simp] theorem steady_execGetBlock (r : Req) (id : BitVec 16) (inst count : BitVec 9) :
    steady (after s (execGetBlock r id inst count s)) = steady s := by
  simp [execGetBlock]
@[simp] theorem steady_execTallyRead (r : Req) (id : BitVec 16) (inst count : BitVec 9) :
    steady (after s (execTallyRead r id inst count s)) = steady s := by
  simp [execTallyRead]
@[simp] theorem steady_execTallyPeek (r : Req) (id : BitVec 16) (inst count : BitVec 9) :
    steady (after s (execTallyPeek r id inst count s)) = steady s := by
  simp [execTallyPeek]
@[simp] theorem steady_execStageMould (r : Req) (offset : BitVec 20) (bytes : List Byte) :
    steady (after s (execStageMould r offset bytes s)) = steady s := by
  simp [execStageMould]
@[simp] theorem steady_execStageMouldFirst (r : Req) (offset : BitVec 20) (bytes : List Byte) :
    steady (after s (execStageMouldFirst r offset bytes s)) = steady s := by
  simp [execStageMouldFirst]
@[simp] theorem steady_execStagePatch (r : Req) (edits : List Edit) :
    steady (after s (execStagePatch r edits s)) = steady s := by
  unfold execStagePatch
  refine steady_granger _ _ _ _ _ fun x => ?_
  repeat' split
  all_goals simp
@[simp] theorem steady_execStagePatchFirst (r : Req) (digest : List Byte) (edits : List Edit) :
    steady (after s (execStagePatchFirst r digest edits s)) = steady s := by
  unfold execStagePatchFirst
  refine steady_granger _ _ _ _ _ fun x => ?_
  split
  · simp
  · refine steady_stagingHeld _ _ _ _ _ fun x => ?_
    split <;> simp
@[simp] theorem steady_execCheckStaged (r : Req) : steady (after s (execCheckStaged r s)) = steady s := by
  unfold execCheckStaged
  refine steady_granger _ _ _ _ _ fun x => ?_
  repeat' split
  all_goals simp
@[simp] theorem steady_execCouchImmediate (r : Req) : steady (after s (execCouchImmediate r s)) = steady s := by
  unfold execCouchImmediate
  refine steady_granger _ _ _ _ _ fun x => ?_
  simp
@[simp] theorem steady_execCouchAtDeckle (r : Req) (d : Deckle) :
    steady (after s (execCouchAtDeckle r d s)) = steady s := by
  simp [execCouchAtDeckle]
@[simp] theorem steady_execCouchAtPtpTime (r : Req) (secs : BitVec 48) (ns : BitVec 32) :
    steady (after s (execCouchAtPtpTime r secs ns s)) = steady s := by
  simp [execCouchAtPtpTime]
@[simp] theorem steady_execDiscardStaged (r : Req) : steady (after s (execDiscardStaged r s)) = steady s := by
  unfold execDiscardStaged
  refine steady_granger _ _ _ _ _ fun x => ?_
  repeat' split
  all_goals simp
@[simp] theorem steady_execMouldInfo (r : Req) : steady (after s (execMouldInfo r s)) = steady s := by
  simp [execMouldInfo]
@[simp] theorem steady_execInjectConversion (r : Req) (input : Byte) (five : Bool) :
    steady (after s (execInjectConversion r input five s)) = steady s := by
  simp [execInjectConversion]
@[simp] theorem steady_execReadMonitor (r : Req) (first count : Byte) :
    steady (after s (execReadMonitor r first count s)) = steady s := by
  simp [execReadMonitor]
@[simp] theorem steady_execTestDacConnect (r : Req) (st ch : BitVec 4) (low : Bool) (code : BitVec 12) :
    steady (after s (execTestDacConnect r st ch low code s)) = steady s := by
  simp [execTestDacConnect]
@[simp] theorem steady_execTestDacRelease (r : Req) (st : BitVec 4) :
    steady (after s (execTestDacRelease r st s)) = steady s := by
  simp [execTestDacRelease]
@[simp] theorem steady_execInputPathCheck (r : Req) (ch : Byte) :
    steady (after s (execInputPathCheck r ch s)) = steady s := by
  simp [execInputPathCheck]
@[simp] theorem steady_execCalStartForeground (r : Req) (mask : BitVec 12) :
    steady (after s (execCalStartForeground r mask s)) = steady s := by
  simp [execCalStartForeground]
@[simp] theorem steady_execCalStartGleanChannel (r : Req) (ch : Byte) (mask : BitVec 12) :
    steady (after s (execCalStartGleanChannel r ch mask s)) = steady s := by
  simp [execCalStartGleanChannel]
@[simp] theorem steady_execCalStartGleanSweep (r : Req) (mask : BitVec 12) :
    steady (after s (execCalStartGleanSweep r mask s)) = steady s := by
  unfold execCalStartGleanSweep
  refine steady_granger _ _ _ _ _ fun x => ?_
  repeat' split
  all_goals simp
@[simp] theorem steady_execCalAbort (r : Req) : steady (after s (execCalAbort r s)) = steady s := by
  unfold execCalAbort
  refine steady_granger _ _ _ _ _ fun x => ?_
  dsimp only
  repeat' split
  all_goals simp
@[simp] theorem steady_execCalStatus (r : Req) : steady (after s (execCalStatus r s)) = steady s := by
  simp [execCalStatus]
@[simp] theorem steady_execCalCommit (r : Req) : steady (after s (execCalCommit r s)) = steady s := by
  simp [execCalCommit]
@[simp] theorem steady_execSeedRead (r : Req) (bank : BitVec 1) (offset : BitVec 16) (count : BitVec 11) :
    steady (after s (execSeedRead r bank offset count s)) = steady s := by
  simp [execSeedRead]
@[simp] theorem steady_execFence (r : Req) (kind : BitVec 2) (index : Byte) :
    steady (after s (execFence r kind index s)) = steady s := by
  unfold execFence
  refine steady_granger _ _ _ _ _ fun x => ?_
  repeat' split
  all_goals simp
@[simp] theorem steady_execUnfence (r : Req) (kind : BitVec 2) (index : Byte) :
    steady (after s (execUnfence r kind index s)) = steady s := by
  unfold execUnfence
  refine steady_granger _ _ _ _ _ fun x => ?_
  repeat' split
  all_goals simp
@[simp] theorem steady_execFaultRead (r : Req) (first : BitVec 4) (count : BitVec 5) :
    steady (after s (execFaultRead r first count s)) = steady s := by
  simp [execFaultRead]
@[simp] theorem steady_execFaultClear (r : Req) (mask : BitVec 64) :
    steady (after s (execFaultClear r mask s)) = steady s := by
  simp [execFaultClear]
@[simp] theorem steady_execFaultClearFirst (r : Req) (mask : BitVec 64) (history : Bool) :
    steady (after s (execFaultClearFirst r mask history s)) = steady s := by
  simp [execFaultClearFirst]
@[simp] theorem steady_execFaultClearHistory (r : Req) (mask : BitVec 64) :
    steady (after s (execFaultClearHistory r mask s)) = steady s := by
  simp [execFaultClearHistory]
@[simp] theorem steady_execErrpinRelease (r : Req) : steady (after s (execErrpinRelease r s)) = steady s := by
  simp [execErrpinRelease]
@[simp] theorem steady_execResetBlock (r : Req) (target : BitVec 3) (index : Byte) :
    steady (after s (execResetBlock r target index s)) = steady s := by
  unfold execResetBlock
  refine steady_granger _ _ _ _ _ fun x => ?_
  repeat' split
  all_goals simp
@[simp] theorem steady_execBarnStatus (r : Req) : steady (after s (execBarnStatus r s)) = steady s := by
  simp [execBarnStatus]
@[simp] theorem steady_execBarnSwitch (r : Req) : steady (after s (execBarnSwitch r s)) = steady s := by
  simp [execBarnSwitch]
@[simp] theorem steady_execBarnResync (r : Req) : steady (after s (execBarnResync r s)) = steady s := by
  simp [execBarnResync]
@[simp] theorem steady_execTimeStatus (r : Req) : steady (after s (execTimeStatus r s)) = steady s := by
  simp [execTimeStatus]
@[simp] theorem steady_execLaneStatus (r : Req) (u : BitVec 2) : steady (after s (execLaneStatus r u s)) = steady s := by
  simp [execLaneStatus]
@[simp] theorem steady_execGranaryStatus (r : Req) : steady (after s (execGranaryStatus r s)) = steady s := by
  simp [execGranaryStatus]
@[simp] theorem steady_execScrubStatus (r : Req) : steady (after s (execScrubStatus r s)) = steady s := by
  simp [execScrubStatus]
@[simp] theorem steady_execLegacyEnter (r : Req) : steady (after s (execLegacyEnter r s)) = steady s := by
  simp [execLegacyEnter]
@[simp] theorem steady_execLegacyLeave (r : Req) : steady (after s (execLegacyLeave r s)) = steady s := by
  simp [execLegacyLeave]
@[simp] theorem steady_execMdKeyWrite (r : Req) (inst : BitVec 9) (value : BitVec 64) :
    steady (after s (execMdKeyWrite r inst value s)) = steady s := by
  simp [execMdKeyWrite]
@[simp] theorem steady_execKeyLock (r : Req) (require : Bool) :
    steady (after s (execKeyLock r require s)) = steady s := by
  simp [execKeyLock]
@[simp] theorem steady_execKeyRequire (r : Req) (value : Bool) :
    steady (after s (execKeyRequire r value s)) = steady s := by
  simp [execKeyRequire]

/-! MODE_REQUEST notes the request in the mode's record, so of what is steady only the counts stay. -/

theorem clock_heldRequest (r : Req) (n : Nat) (d : Option Deckle) : clock (heldRequest s r n d).tb = clock s.tb := by
  unfold heldRequest
  repeat' split
  all_goals exact (steady_clock (steady_reply ..)).trans rfl
theorem clock_modeRequest (r : Req) (n : Nat) (d : Option Deckle) : clock (modeRequest s r n d).tb = clock s.tb := by
  unfold modeRequest
  split
  · exact steady_clock (steady_replyBad ..)
  extract_lets past
  clear_value past
  split
  · exact steady_clock (steady_replyBad ..)
  split
  · exact steady_clock (steady_replyBusy ..)
  split
  · exact steady_clock (steady_replyNotInMode ..)
  split
  · exact steady_clock (steady_replyBusy ..)
  unfold opening
  split
  · rfl
  · exact steady_clock (steady_replyBusy ..)
theorem clock_execModeRequest (r : Req) (m : BitVec 3) (d : Option Deckle) :
    clock (after s (execModeRequest r m d s)).tb = clock s.tb := by
  unfold execModeRequest
  rcases granger_cases s r (.modeRequest r m d) 0x03 fun s =>
      if s.modes.cur = .held then heldRequest s r m.toNat d else modeRequest s r m.toNat d with
    ⟨-, h⟩ | ⟨-, ⟨-, h⟩ | ⟨-, -, -, h⟩ | ⟨-, h⟩ | ⟨-, -, -, -, h⟩⟩
  all_goals rw [h]
  · rfl
  · rfl
  · exact steady_clock (steady_enqueuePacket ..)
  · rw [after_next]
    split
    · exact clock_heldRequest ..
    · exact clock_modeRequest ..
  · exact steady_clock (steady_replyNotInMode ..)

/-! ## The Granger's part of a beat -/

theorem clock_runPacket (i : Instr) : clock (after s (runPacket i s)).tb = clock s.tb := by
  cases i with
  | nop _ => exact steady_clock (steady_execNop ..)
  | echo _ _ => exact steady_clock (steady_execEcho ..)
  | identify _ => exact steady_clock (steady_execIdentify ..)
  | modeRequest r m d => exact clock_execModeRequest ..
  | get _ _ _ => exact steady_clock (steady_execGet ..)
  | set _ _ _ _ => exact steady_clock (steady_execSet ..)
  | getBlock _ _ _ _ => exact steady_clock (steady_execGetBlock ..)
  | tallyRead _ _ _ _ => exact steady_clock (steady_execTallyRead ..)
  | tallyPeek _ _ _ _ => exact steady_clock (steady_execTallyPeek ..)
  | stageMould _ _ _ => exact steady_clock (steady_execStageMould ..)
  | stageMouldFirst _ _ _ => exact steady_clock (steady_execStageMouldFirst ..)
  | stagePatch _ _ => exact steady_clock (steady_execStagePatch ..)
  | stagePatchFirst _ _ _ => exact steady_clock (steady_execStagePatchFirst ..)
  | checkStaged _ => exact steady_clock (steady_execCheckStaged ..)
  | couchImmediate _ => exact steady_clock (steady_execCouchImmediate ..)
  | couchAtDeckle _ _ => exact steady_clock (steady_execCouchAtDeckle ..)
  | couchAtPtpTime _ _ _ => exact steady_clock (steady_execCouchAtPtpTime ..)
  | discardStaged _ => exact steady_clock (steady_execDiscardStaged ..)
  | mouldInfo _ => exact steady_clock (steady_execMouldInfo ..)
  | injectConversion _ _ _ => exact steady_clock (steady_execInjectConversion ..)
  | readMonitor _ _ _ => exact steady_clock (steady_execReadMonitor ..)
  | testDacConnect _ _ _ _ _ => exact steady_clock (steady_execTestDacConnect ..)
  | testDacRelease _ _ => exact steady_clock (steady_execTestDacRelease ..)
  | inputPathCheck _ _ => exact steady_clock (steady_execInputPathCheck ..)
  | calStartForeground _ _ => exact steady_clock (steady_execCalStartForeground ..)
  | calStartGleanChannel _ _ _ => exact steady_clock (steady_execCalStartGleanChannel ..)
  | calStartGleanSweep _ _ => exact steady_clock (steady_execCalStartGleanSweep ..)
  | calAbort _ => exact steady_clock (steady_execCalAbort ..)
  | calStatus _ => exact steady_clock (steady_execCalStatus ..)
  | calCommit _ => exact steady_clock (steady_execCalCommit ..)
  | seedRead _ _ _ _ => exact steady_clock (steady_execSeedRead ..)
  | fence _ _ _ => exact steady_clock (steady_execFence ..)
  | unfence _ _ _ => exact steady_clock (steady_execUnfence ..)
  | faultRead _ _ _ => exact steady_clock (steady_execFaultRead ..)
  | faultClear _ _ => exact steady_clock (steady_execFaultClear ..)
  | faultClearFirst _ _ _ => exact steady_clock (steady_execFaultClearFirst ..)
  | faultClearHistory _ _ => exact steady_clock (steady_execFaultClearHistory ..)
  | errpinRelease _ => exact steady_clock (steady_execErrpinRelease ..)
  | resetBlock _ _ _ => exact steady_clock (steady_execResetBlock ..)
  | barnStatus _ => exact steady_clock (steady_execBarnStatus ..)
  | barnSwitch _ => exact steady_clock (steady_execBarnSwitch ..)
  | barnResync _ => exact steady_clock (steady_execBarnResync ..)
  | timeStatus _ => exact steady_clock (steady_execTimeStatus ..)
  | laneStatus _ _ => exact steady_clock (steady_execLaneStatus ..)
  | granaryStatus _ => exact steady_clock (steady_execGranaryStatus ..)
  | scrubStatus _ => exact steady_clock (steady_execScrubStatus ..)
  | legacyEnter _ => exact steady_clock (steady_execLegacyEnter ..)
  | legacyLeave _ => exact steady_clock (steady_execLegacyLeave ..)
  | mdKeyWrite _ _ _ => exact steady_clock (steady_execMdKeyWrite ..)
  | keyLock _ _ => exact steady_clock (steady_execKeyLock ..)
  | keyRequire _ _ => exact steady_clock (steady_execKeyRequire ..)
  | _ => rfl
theorem clock_servePacket (p : Packet) : clock (after s (servePacket p s)).tb = clock s.tb := by
  cases p with
  | command i => exact clock_runPacket s i
  | failed r op st dt => exact steady_clock (steady_reply ..)
theorem clock_takePackets (n : Nat) : clock (takePackets n s).tb = clock s.tb := by
  induction n generalizing s with
  | zero => rfl
  | succ n ih =>
    unfold takePackets
    split
    · rfl
    · next e rest _ =>
      split
      · rfl
      · have hserve := clock_servePacket { s with cmd := { s.cmd with inq := rest } } e.2.2
        split
        · next s' hs' =>
          rw [hs', after_next] at hserve
          rw [ih, hserve]
        · rfl
theorem clock_grangerBeat : clock (grangerBeat s).tb = clock s.tb := clock_takePackets ..

/-! ## Beats (R82) -/

theorem clock_nextBeat (rep : List (StookId × BitVec 32)) (errs : List (DlId × Nat)) :
    clock (nextBeat s rep errs).tb = clock (setBeat (endBeat s) (s.tb.beat + 1)).tb := by
  unfold nextBeat
  extract_lets ended s₁
  have h₁ : steady s₁ = steady (setBeat (endBeat s) (s.tb.beat + 1)) := steady_startBeat ..
  rw [clock_grangerBeat]
  refine steady_clock ?_
  simp [h₁]
theorem nextBeat_beat (rep : List (StookId × BitVec 32)) (errs : List (DlId × Nat)) :
    (nextBeat s rep errs).tb.beat = s.tb.beat + 1 := by
  rw [clock_beat (clock_nextBeat s rep errs), setBeat]
theorem nextBeat_up (rep : List (StookId × BitVec 32)) (errs : List (DlId × Nat)) :
    (nextBeat s rep errs).tb.up = s.tb.up + 1 := by
  rw [clock_up (clock_nextBeat s rep errs), setBeat, steady_up (steady_endBeat s)]
theorem passBeats_beat (n : Nat) (rep : List (StookId × BitVec 32)) (errs : List (DlId × Nat)) :
    (passBeats n rep errs s).tb.beat = s.tb.beat + BitVec.ofNat 56 n := by
  induction n generalizing s with
  | zero => simp [passBeats]
  | succ n ih =>
    rw [passBeats, ih, nextBeat_beat, BitVec.add_assoc, BitVec.ofNat_add, BitVec.add_comm (BitVec.ofNat 56 n)]
    rfl
theorem passBeats_up (n : Nat) (rep : List (StookId × BitVec 32)) (errs : List (DlId × Nat)) :
    (passBeats n rep errs s).tb.up = s.tb.up + n := by
  induction n generalizing s with
  | zero => rfl
  | succ n ih => rw [passBeats, ih, nextBeat_up]; omega
/-- The beats that a boundary is ahead lead to it, through the wrap as well. -/
theorem beat_add_toBoundary (b : Beat) : (b + BitVec.ofNat 56 (1024 - b.toNat % 1024)).toNat % 1024 = 0 := by
  rw [BitVec.toNat_add, BitVec.toNat_ofNat]
  omega

end

/-- Settles O16: a deckle is passed beat by beat. -/
theorem beatsAndDeckles : Obligations.BeatsAndDeckles := by
  refine ⟨fun s rep errs hc => ⟨_, rfl, ?_, ?_⟩, fun s hq hc => ⟨tick s, ?_, ?_, ?_⟩⟩
  · rw [if_pos hc, passBeats_beat, beat_add_toBoundary]
  · rw [if_pos hc, passBeats_up]
  · unfold step
    rw [hq]
  · rw [tick, if_pos hc, nextBeat_beat]
  · rw [tick, if_pos hc, nextBeat_up]

end Sys2Proof.Proofs
end

section
/-!
What a transition between modes other than HELD leads to (R31): the mode's record is that of `noteMode`, and the rest of the
transition leaves it alone. Then O8: a requested transition at its boundary (R32, R33).
-/
namespace Sys2Proof.Proofs
open Sys2Proof Sys2Proof.Machine Sys2Proof.Laws

section
variable {s t : State}

/-- The record of an entry follows from what is steady. -/
theorem steady_noteMode (h : steady t = steady s) (m : Mode) (c : Byte) :
    steady (noteMode t m c) = steady (noteMode s m c) := by
  obtain ⟨hclock, hstill, hpwr⟩ := steady_eq h
  have hnote : still { t.modes with cur := m, cause := c, entryDeckle := deckle t } =
      still { s.modes with cur := m, cause := c, entryDeckle := deckle s } := by
    rw [steady_deckle h]
    exact congrArg (fun x => { x with cur := m, cause := c, entryDeckle := deckle s }) hstill
  change steadyOf (clock t.tb) (still { t.modes with cur := m, cause := c, entryDeckle := deckle t }) t.pwr = _
  rw [hclock, hnote, hpwr]
  rfl
theorem steady_changeMode (s : State) (m : Mode) (c : Byte) (requested : Bool) :
    steady (changeMode s m c requested) = steady (noteMode s m c) := by
  unfold changeMode
  dsimp only
  rw [steady_announceMode, steady_blocksForMode]
  exact steady_noteMode (steady_leaveFor s m) m c

theorem noteMode_modes (s : State) (m : Mode) (c : Byte) :
    (noteMode s m c).modes = { s.modes with cur := m, cause := c, entryDeckle := deckle s } := rfl
/-- The mode in force, its cause and its deckle, from what is steady after an entry. -/
theorem noted_mode {m : Mode} {c : Byte} (h : steady t = steady (noteMode s m c)) :
    t.modes.cur = m ∧ t.modes.cause = c ∧ t.modes.entryDeckle = deckle s := by
  rw [steady_cur h, steady_cause h, steady_entryDeckle h, noteMode_modes]
  exact ⟨rfl, rfl, rfl⟩

/-! ## O8 -/

/-- A request for a mode of operation whose conditions hold (R32): the mode changes and the request is replied OK. -/
theorem requestNow_granted {p : ModePend} (hl : legalRequest s p.target = true) (hg : gate s p.target = 0)
    (ht : p.target = .cal ∨ p.target = .streaming ∨ p.target = .triggered) :
    requestNow s p =
      closeCmd (changeMode { s with modes := { s.modes with pend := none } } p.target 0x03 true) p.req 0x03 0 0 [] := by
  unfold requestNow
  extract_lets _ s₁ _
  have hl₁ : legalRequest s₁ p.target = true := hl
  have hg₁ : gate s₁ p.target = 0 := hg
  rw [hl₁, hg₁, Bool.not_true, if_neg Bool.false_ne_true]
  rcases ht with ht | ht | ht <;> rw [ht] <;> rfl
/-- A request that is due, where nothing comes first (R34, R35). -/
theorem execModeTransition_request {p : ModePend} (hh : s.modes.cur ≠ .held) (hp : s.modes.pend = some p)
    (hd : requestDue s p = true) (hc : s.modes.chipReset = false) (ht : s.modes.toHeld = none)
    (hr : s.modes.toRecovery = none) (hcouch : couchDue s = false) :
    exec .modeTransition s = .next (makeSwitch (requestNow s p)) := by
  change execModeTransition s = _
  simp [execModeTransition, hh, hp, hd, hc, ht, hr, hcouch]

end

/-- Settles O8: the request at its boundary, then what a transition leaves in the mode's record. -/
theorem requestedTransition : Obligations.RequestedTransition := by
  intro s p hh hp hd hc hth hr hcouch hl hg ht
  have hst : steady (makeSwitch (requestNow s p)) =
      steady (noteMode { s with modes := { s.modes with pend := none } } p.target 0x03) := by
    rw [requestNow_granted hl hg ht, steady_makeSwitch, steady_closeCmd, steady_changeMode]
  obtain ⟨hcur, hcause, hdeckle⟩ := noted_mode hst
  exact ⟨_, execModeTransition_request hh hp hd hc hth hr hcouch, hcur, hcause, steady_pend hst, hdeckle⟩

end Sys2Proof.Proofs
end

section
/-!
O9: RECOVERY (R26, R28, R290): the entry, the steps and the return.
-/
namespace Sys2Proof.Proofs
open Sys2Proof Sys2Proof.Machine Sys2Proof.Laws

/-! ## The entry -/

section
variable (s : State)

theorem displaceRequest_modes : (displaceRequest s).modes = { s.modes with pend := none } := by
  unfold displaceRequest
  split
  · rw [closeCmd, reply_modes]
  · next h => rw [← h]
theorem displaceRequest_cfg : (displaceRequest s).cfg = s.cfg := by
  unfold displaceRequest
  split
  · rw [closeCmd, reply_cfg]
  · rfl
theorem displaceRequest_tb : (displaceRequest s).tb = s.tb := by
  unfold displaceRequest
  split
  · rw [closeCmd, reply_tb]
  · rfl
theorem recentRecoveries_displaceRequest : recentRecoveries (displaceRequest s) = recentRecoveries s := by
  unfold recentRecoveries
  rw [displaceRequest_modes, displaceRequest_tb]
/-- The limit of R28 does not look at the request that is displaced. -/
theorem recoveryBarred_displaceRequest (requested : Bool) :
    recoveryBarred (displaceRequest s) requested = recoveryBarred s requested := by
  unfold recoveryBarred
  rw [reg_eq_of_cfg (displaceRequest_cfg s), recentRecoveries_displaceRequest]

variable {s}

/-- The record of an entry into RECOVERY that the limit of R28 allows. -/
theorem beginRecovery_entered {requested : Bool} (h : recoveryBarred s requested = false) (c : Byte) :
    let t := beginRecovery s c requested
    t.modes.cur = .recovery ∧ t.modes.cause = c ∧ t.modes.entryDeckle = deckle s ∧ t.modes.ret = some s.modes.cur ∧
      t.modes.recStep = 1 := by
  let s₁ : State := { s with modes := { s.modes with
      ret := some s.modes.cur, recLog := (s.tb.up :: s.modes.recLog).take 255, recStep := 1, recRetried := false,
      cold := false, recDk := s.tb.dk, toRecovery := none } }
  have hbegin : beginRecovery s c requested = retestsAllowed (changeMode s₁ .recovery c requested) := by
    rw [beginRecovery, h]
    rfl
  have hst : steady (beginRecovery s c requested) = steady (noteMode s₁ .recovery c) := by
    rw [hbegin, steady_retestsAllowed, steady_changeMode]
  obtain ⟨hcur, hcause, hdeckle⟩ := noted_mode hst
  exact ⟨hcur, hcause, hdeckle, steady_ret hst, steady_recStep hst⟩

/-- A cause of RECOVERY that is due in service, with no couch before it (R34). -/
theorem recoveryNow_due {c : Byte} (hs : serviceMode s.modes.cur = true) (hc : s.modes.toRecovery = some c)
    (hd : causeDue s = true) (hcouch : couchDue s = false) : recoveryNow s = beginRecovery (displaceRequest s) c false := by
  simp [recoveryNow, hs, hc, hd, hcouch]
theorem recovery_entry {c : Byte} (hs : serviceMode s.modes.cur = true) (hc : s.modes.toRecovery = some c)
    (hd : causeDue s = true) (hcouch : couchDue s = false) (hb : recoveryBarred s false = false) :
    ∃ t, exec .recoveryEntry s = .next t ∧ t.modes.cur = .recovery ∧ t.modes.ret = some s.modes.cur ∧
      t.modes.cause = c ∧ t.modes.recStep = 1 ∧ t.modes.entryDeckle = deckle s := by
  have hb' : recoveryBarred (displaceRequest s) false = false := by rw [recoveryBarred_displaceRequest, hb]
  obtain ⟨hcur, hcause, hdeckle, hret, hstep⟩ := beginRecovery_entered hb' c
  rw [← recoveryNow_due hs hc hd hcouch] at hcur hcause hdeckle hret hstep
  have hcur₀ : (displaceRequest s).modes.cur = s.modes.cur := by rw [displaceRequest_modes]
  have hdeckle₀ : deckle (displaceRequest s) = deckle s := by rw [deckle, displaceRequest_tb]; rfl
  exact ⟨_, rfl, hcur, by rw [hret, hcur₀], hcause, hstep, by rw [hdeckle, hdeckle₀]⟩

/-! ## The steps -/

/-- The end of a step that passes: the next one begins. -/
def stepPassed (s : State) : State :=
  { s with modes := { s.modes with recStep := s.modes.recStep + 1, recRetried := false, causeAt := s.tb.up } }

theorem checkRunEnds_modes (kind status : Nat) : (checkRunEnds s kind status).modes = s.modes := by
  change (pushSheaf _ _).modes = _
  rw [pushSheaf_modes]
theorem checkRunFails_modes (kind : Nat) : (checkRunFails s kind).modes = s.modes := checkRunEnds_modes ..
theorem checkRunEnds_cal (kind status : Nat) : (checkRunEnds s kind status).cal = { s.cal with lastStatus := status } := by
  change { (pushSheaf _ _).cal with lastStatus := status } = _
  rw [pushSheaf_cal]
/-- The end of a run is reported, outside HELD (R290). -/
theorem checkRunEnds_dwq (hh : s.modes.cur ≠ .held) (kind status : Nat) :
    (checkRunEnds s kind status).gran.dwq = s.gran.dwq ++ [report 15 s.tb.beat 0x23 kind status 0] := by
  change (pushSheaf _ _).gran.dwq = _
  rw [pushSheaf, if_neg hh]

/-- What RECOVERY does at the end of a step, where no entry into HELD waits. -/
theorem execRecoveryStepComplete_running (hcur : s.modes.cur = .recovery) (hheld : s.modes.toHeld = none)
    (hlo : 1 ≤ s.modes.recStep) (hhi : s.modes.recStep ≤ 3) (ok resync : Bool) :
    exec (.recoveryStepComplete ok resync) s = .next (
      if !ok || (s.modes.recStep = 1 && !someBarn s) then
        recoveryFail (if s.modes.recStep = 3 then checkRunFails s 3 else s)
      else stepPassed (if s.modes.recStep = 1 then (if resync then recoverResync s else recoverCold s)
        else if s.modes.recStep = 3 then integrityPassed s else s)) := by
  have hguard : ¬ ((decide (s.modes.cur ≠ .recovery) || s.modes.toHeld.isSome || decide (s.modes.recStep = 0) ||
      decide (3 < s.modes.recStep)) = true) := by
    simp [hcur, hheld]
    omega
  change execRecoveryStepComplete ok resync s = _
  rw [execRecoveryStepComplete, if_neg hguard]
  rfl
/-- Steps 2 and 3 that pass. -/
theorem recoveryStep_passes (hcur : s.modes.cur = .recovery) (hheld : s.modes.toHeld = none)
    (hstep : s.modes.recStep = 2 ∨ s.modes.recStep = 3) (resync : Bool) :
    exec (.recoveryStepComplete true resync) s =
      .next (stepPassed (if s.modes.recStep = 3 then integrityPassed s else s)) := by
  rw [execRecoveryStepComplete_running hcur hheld (by omega) (by omega), if_neg (by simp; omega), if_neg (by omega)]
theorem recoveryStep_fails (hcur : s.modes.cur = .recovery) (hheld : s.modes.toHeld = none)
    (hlo : 1 ≤ s.modes.recStep) (hhi : s.modes.recStep ≤ 3) (resync : Bool) :
    exec (.recoveryStepComplete false resync) s =
      .next (recoveryFail (if s.modes.recStep = 3 then checkRunFails s 3 else s)) := by
  rw [execRecoveryStepComplete_running hcur hheld hlo hhi, if_pos (by simp)]

theorem integrityPassed_modes : (integrityPassed s).modes = s.modes := checkRunEnds_modes ..
theorem recovery_stepPassed (hcur : s.modes.cur = .recovery) (hheld : s.modes.toHeld = none)
    (hstep : s.modes.recStep = 2 ∨ s.modes.recStep = 3) (resync : Bool) :
    ∃ t, exec (.recoveryStepComplete true resync) s = .next t ∧ t.modes.cur = .recovery ∧
      t.modes.recStep = s.modes.recStep + 1 ∧ t.modes.recRetried = false := by
  have hmodes : (if s.modes.recStep = 3 then integrityPassed s else s).modes = s.modes := by
    split
    · exact integrityPassed_modes
    · rfl
  refine ⟨_, recoveryStep_passes hcur hheld hstep resync, ?_⟩
  simp only [stepPassed, hmodes, hcur, and_true]
theorem recovery_stepFailed (hcur : s.modes.cur = .recovery) (hheld : s.modes.toHeld = none)
    (hlo : 1 ≤ s.modes.recStep) (hhi : s.modes.recStep ≤ 3) (resync : Bool) :
    ∃ t, exec (.recoveryStepComplete false resync) s = .next t ∧
      (s.modes.recRetried = false →
        t.modes.recRetried = true ∧ t.modes.recStep = s.modes.recStep ∧ t.modes.toHeld = none) ∧
      (s.modes.recRetried = true → t.modes.toHeld = some (0x08, s.modes.recStep)) := by
  have hmodes : (if s.modes.recStep = 3 then checkRunFails s 3 else s).modes = s.modes := by
    split
    · exact checkRunFails_modes 3
    · rfl
  refine ⟨_, recoveryStep_fails hcur hheld hlo hhi resync, ?_, ?_⟩ <;> intro hretried <;>
    simp [recoveryFail, hmodes, hretried, hheld]
/-- The integrity check of step 3, passed (R290). -/
theorem recovery_integrity (hcur : s.modes.cur = .recovery) (hheld : s.modes.toHeld = none)
    (hstep : s.modes.recStep = 3) (resync : Bool) :
    ∃ t, exec (.recoveryStepComplete true resync) s = .next t ∧ t.cal.slews = [] ∧ t.cal.image = s.cal.image ∧
      t.cal.lastStatus = 0 ∧ t.gran.dwq = s.gran.dwq ++ [report 15 s.tb.beat 0x23 3 0 0] := by
  have hrun := recoveryStep_passes hcur hheld (.inr hstep) resync
  rw [if_pos hstep] at hrun
  have hcal : (stepPassed (integrityPassed s)).cal = { s.cal with slews := [], lastStatus := 0 } := checkRunEnds_cal ..
  have hh : s.modes.cur ≠ .held := by simp [hcur]
  exact ⟨_, hrun, by rw [hcal], by rw [hcal], by rw [hcal],
    checkRunEnds_dwq (s := { s with cal := { s.cal with slews := [] } }) hh 3 0⟩

/-! ## The return -/

theorem lateCouch_none (h : s.md.couch = none) : lateCouch s = s := by rw [lateCouch, h]
theorem recovery_return {m : Mode} (hcur : s.modes.cur = .recovery) (hstep : s.modes.recStep = 4)
    (hret : s.modes.ret = some m) (hat : atBoundary s = true) (hlate : s.modes.causeAt < s.tb.up)
    (hcouch : s.md.couch = none) :
    ∃ t, exec .recoveryReturn s = .next t ∧ t.modes.cur = m ∧ t.modes.cause = 0x05 ∧ t.modes.recStep = 0 := by
  have hguard : ¬ ((decide (s.modes.cur ≠ .recovery) || decide (s.modes.recStep ≠ 4) || !atBoundary s ||
      decide (s.tb.up ≤ s.modes.causeAt)) = true) := by
    simp [hcur, hstep, hat, hlate]
  let s₁ : State := { s with modes := { s.modes with recStep := 0, cold := false } }
  have hrun : exec .recoveryReturn s =
      .next (makeSwitch (resumeRecovery (changeMode s₁ m 0x05 false) s.modes.entryDeckle s.modes.cold)) := by
    change execRecoveryReturn s = _
    rw [execRecoveryReturn, if_neg hguard, lateCouch_none hcouch, hret]
    rfl
  have hst : steady (makeSwitch (resumeRecovery (changeMode s₁ m 0x05 false) s.modes.entryDeckle s.modes.cold)) =
      steady (noteMode s₁ m 0x05) := by
    rw [steady_makeSwitch, steady_resumeRecovery, steady_changeMode]
  obtain ⟨hm, hcause, -⟩ := noted_mode hst
  exact ⟨_, hrun, hm, hcause, steady_recStep hst⟩

end

/-- Settles O9: the entry's record, the two ends of a step, and the return's record. -/
theorem recovery : Obligations.Recovery := by
  refine ⟨fun s c hs hc hd hcouch hb => recovery_entry hs hc hd hcouch hb, ⟨?_, ?_, ?_, fun s => ⟨_, rfl, rfl⟩⟩, ?_⟩
  · exact fun s resync hcur hheld hstep => recovery_stepPassed hcur hheld hstep resync
  · exact fun s resync hcur hheld hlo hhi => recovery_stepFailed hcur hheld hlo hhi resync
  · exact fun s resync hcur hheld hstep => recovery_integrity hcur hheld hstep resync
  · exact fun s m hcur hstep hret hat hlate hcouch => recovery_return hcur hstep hret hat hlate hcouch

end Sys2Proof.Proofs
end

section
/-!
O12: START-UP (R23 to R25, R412, R416 to R418): its begin, the ends of its steps and the mode it leads to.
-/
namespace Sys2Proof.Proofs
open Sys2Proof Sys2Proof.Machine Sys2Proof.Laws

section
variable {s : State}

/-! ## The begin -/

/-- The record of a START-UP that begins in HELD; the cause stays that of the entry into HELD (R36). -/
theorem steady_beginStartUp_held (hh : s.modes.cur = .held) (port : Option Port) (requested : Bool) :
    steady (beginStartUp s port requested) =
      steady (startSteps (noteMode (startSeq14 s) .startUp s.modes.cause) port) := by
  unfold beginStartUp
  dsimp only
  rw [if_pos hh, steady_startBlocks, steady_ite, steady_epochCause, ite_self, steady_refreshTiming, steady_announceMode]
/-- An automatic start that is due (R412). -/
theorem execAutoStart_due {b : Nat} (hb : s.modes.autoFrom = some b) (hh : s.modes.cur = .held)
    (hat : atBoundary s = true) (hdue : b + 40 ≤ s.tb.dk) (hsrc : bootSource s ≠ 3) (hp : powered s = true)
    (hpg : s.pwr.powerGood = true) (hr : s.pwr.resetHigh = true) :
    exec .autoStart s = .next (beginStartUp s none false) := by
  change execAutoStart s = _
  simp [execAutoStart, hb, hh, hat, hdue, hsrc, hp, hpg, hr]
theorem startUp_autoStart {b : Nat} (hb : s.modes.autoFrom = some b) (hh : s.modes.cur = .held)
    (hat : atBoundary s = true) (hdue : b + 40 ≤ s.tb.dk) (hsrc : bootSource s ≠ 3) (hp : powered s = true)
    (hpg : s.pwr.powerGood = true) (hr : s.pwr.resetHigh = true) :
    ∃ t, exec .autoStart s = .next t ∧ t.modes.cur = .startUp ∧ t.modes.suStep = 1 ∧ t.modes.suPassed = 0 ∧
      t.modes.cause = s.modes.cause ∧ t.modes.entryDeckle = deckle s := by
  have hst := steady_beginStartUp_held hh none false
  exact ⟨_, execAutoStart_due hb hh hat hdue hsrc hp hpg hr, steady_cur hst, steady_suStep hst, steady_suPassed hst,
    (steady_cause hst :), (steady_entryDeckle hst :)⟩

/-! ## The ends of a step -/

/-- Step 3, while START-UP runs. -/
theorem execStartupStepComplete_step3 (hcur : s.modes.cur = .startUp) (hhalt : s.modes.suHalted = false)
    (hstep : s.modes.suStep = 3) (ok : Bool) (block : BitVec 16) (boot : List Byte) (found : List Residual) :
    exec (.startupStepComplete ok block boot found) s =
      .next (if ok then passStep s 3 else raise (haltStep s 3) 5 3 block.toNat) := by
  change execStartupStepComplete ok block boot found s = _
  simp [execStartupStepComplete, hcur, hhalt, hstep]
theorem startUp_stepPassed (hcur : s.modes.cur = .startUp) (hhalt : s.modes.suHalted = false)
    (hstep : s.modes.suStep = 3) (block : BitVec 16) (boot : List Byte) (found : List Residual) :
    ∃ t, exec (.startupStepComplete true block boot found) s = .next t ∧ t.modes.suStep = 4 ∧
      t.modes.suPassed = s.modes.suPassed ||| 4 ∧ t.modes.suHalted = false := by
  have hst := steady_autoCheck { s with modes := { s.modes with
    suPassed := s.modes.suPassed ||| 4, suStep := 4, suSince := s.tb.up, stagedAt := s.tb.up, causeAt := s.tb.up } }
  exact ⟨_, execStartupStepComplete_step3 hcur hhalt hstep true block boot found, steady_suStep hst, steady_suPassed hst,
    (steady_suHalted hst).trans hhalt⟩
theorem startUp_stepFailed (hcur : s.modes.cur = .startUp) (hhalt : s.modes.suHalted = false)
    (hstep : s.modes.suStep = 3) (block : BitVec 16) (boot : List Byte) (found : List Residual) :
    ∃ t, exec (.startupStepComplete false block boot found) s = .next t ∧ t.modes.suHalted = true ∧
      t.modes.suFailed = 3 ∧ t.modes.cur = .startUp := by
  have hst := steady_raise (haltStep s 3) 5 3 block.toNat
  exact ⟨_, execStartupStepComplete_step3 hcur hhalt hstep false block boot found, steady_suHalted hst,
    steady_suFailed hst, (steady_cur hst).trans hcur⟩

/-- A step beyond its limit (R417). -/
theorem startUp_stepOverdue (read : BitVec 32) (hcur : s.modes.cur = .startUp) (hhalt : s.modes.suHalted = false)
    (hlo : 1 ≤ s.modes.suStep) (hhi : s.modes.suStep ≤ 7) (hover : stepOverdue s s.modes.suStep read.toNat = true) :
    ∃ t, exec (.startupStepTimeout read) s = .next t ∧ t.modes.suHalted = true ∧ t.modes.suFailed = s.modes.suStep := by
  have hrun : exec (.startupStepTimeout read) s =
      .next (haltStep (if s.modes.suStep = 7 then checkRunFails s 2 else s) s.modes.suStep) := by
    change execStartupStepTimeout read s = _
    simp [execStartupStepTimeout, hcur, hhalt, hlo, hhi, hover]
  exact ⟨_, hrun, rfl, rfl⟩
/-- An unused wait for a boot mould (R416). -/
theorem startUp_bootOverdue (hcur : s.modes.cur = .startUp) (hstep : s.modes.suStep = 5) (hhalt : s.modes.suHalted = false)
    (hsrc : bootSource s ≠ 0) (hlate : s.modes.stagedAt + 60 * 40960000 ≤ s.tb.up) (hcheck : s.md.checking = none)
    (hchecked : s.md.stage ≠ .checked) (hfailed : s.md.stage ≠ .failed) :
    ∃ t, exec .bootStagingTimeout s = .next t ∧ t.modes.suHalted = true ∧ t.modes.suFailed = 5 := by
  have hrun : exec .bootStagingTimeout s = .next (raise (haltStep s 5) 4 0 0x02) := by
    change execBootStagingTimeout s = _
    simp [execBootStagingTimeout, hcur, hstep, hhalt, hsrc, hlate, hcheck, hchecked, hfailed]
  have hst := steady_raise (haltStep s 5) 4 0 0x02
  exact ⟨_, hrun, steady_suHalted hst, steady_suFailed hst⟩

/-! ## The end -/

/-- After all steps: the initial mode of the mould in force, where its conditions hold (R24). -/
theorem startUp_complete {c : Copy} {m : Mode} (hcur : s.modes.cur = .startUp) (hstep : s.modes.suStep = 8)
    (hat : atBoundary s = true) (hlate : s.modes.causeAt < s.tb.up) (hnone : transitionDue s = false)
    (hactive : s.md.active = some c) (hmode : modeOf (initialModeCode c) = some m)
    (hm : m = .cal ∨ serviceMode m = true) (hgate : gate s m = 0) :
    ∃ t, exec .startupComplete s = .next t ∧ t.modes.cur = m ∧ t.modes.cause = 0x04 ∧
      t.modes.entryDeckle = deckle s := by
  let s₁ : State := { s with modes := { s.modes with suStep := 0 } }
  have hrun : exec .startupComplete s = .next (changeMode s₁ m 0x04 false) := by
    change execStartupComplete s = _
    simp [execStartupComplete, hcur, hstep, hat, hlate, hnone, hactive, hmode, hm, hgate, s₁]
  have hrecord := noted_mode (steady_changeMode s₁ m 0x04 false)
  exact ⟨_, hrun, hrecord⟩

end

/-- Settles O12: the begin's record, the ends of step 3, the two limits, and the end's record. -/
theorem startUp : Obligations.StartUp := by
  refine ⟨fun s b hb hh hat hdue hsrc hp hpg hr => startUp_autoStart hb hh hat hdue hsrc hp hpg hr,
    ⟨?_, ?_, ?_, ?_⟩, ?_⟩
  · exact fun s boot block found hcur hhalt hstep => startUp_stepPassed hcur hhalt hstep block boot found
  · exact fun s boot block found hcur hhalt hstep => startUp_stepFailed hcur hhalt hstep block boot found
  · exact fun s read hcur hhalt hlo hhi hover => startUp_stepOverdue read hcur hhalt hlo hhi hover
  · exact fun s hcur hstep hhalt hsrc hlate hcheck hchecked hfailed =>
      startUp_bootOverdue hcur hstep hhalt hsrc hlate hcheck hchecked hfailed
  · exact fun s c m hcur hstep hat hlate hnone hactive hmode hm hgate =>
      startUp_complete hcur hstep hat hlate hnone hactive hmode hm hgate

end Sys2Proof.Proofs
end

section
/-!
The entry into HELD, part by part (R38, R212, R419): what the front end's parts keep (`kept`), what stays settled while a
unit found uncorrectable is discarded (`Settled`), and what the lost banks and stooks leave behind.
-/
namespace Sys2Proof.Proofs
open Sys2Proof Sys2Proof.Machine Sys2Proof.Laws

/-! ## What the parts that lose no unit keep -/

/-- The mould, the command ports, the collector and the Granary's units. -/
def kept (s : State) : Md × Cmd × Flt × List GUnit := (s.md, s.cmd, s.flt, s.gran.units)

section
variable {s t : State}
theorem kept_eq (h : kept t = kept s) : t.md = s.md ∧ t.cmd = s.cmd ∧ t.flt = s.flt ∧ t.gran.units = s.gran.units := by
  simpa only [kept, Prod.mk.injEq] using h
end

theorem kept_foldl {α : Type} (l : List α) (f : State → α → State) (s : State) (h : ∀ x a, kept (f x a) = kept x) :
    kept (l.foldl f s) = kept s := by
  induction l generalizing s with
  | nil => rfl
  | cons a l ih => rw [List.foldl_cons, ih, h]
theorem kept_forNat (n : Nat) (f : Nat → State → State) (s : State) (h : ∀ k x, kept (f k x) = kept x) :
    kept (forNat n f s) = kept s := by
  induction n with
  | zero => rfl
  | succ n ih => rw [forNat, h, ih]

section
variable (s : State)

theorem kept_tryAna (c : Nat) : kept (tryAna s c) = kept s := by
  unfold tryAna
  dsimp only
  split <;> rfl
theorem kept_channelHeld (c : Nat) : kept (channelHeld s c) = kept s := by
  unfold channelHeld
  dsimp only
  rw [kept_tryAna, kept_tryAna]
  split <;> rfl
theorem kept_pushSheaf (x : Sheaf) : kept (pushSheaf s x) = kept s := by
  unfold pushSheaf
  split <;> rfl
theorem kept_monReport (i : Nat) (b : Beat) (m : MonRec) (injected : Bool) :
    kept (monReport s i b m injected) = kept s := by
  have hpush (x : Sheaf) (c : Bool) : kept (if c then pushSheaf s x else s) = kept s := by
    split
    · exact kept_pushSheaf s x
    · rfl
  exact hpush ..
theorem kept_monHeld : kept (monHeld s) = kept s := by
  change kept (forNat 216 _ s) = _
  exact kept_forNat _ _ _ fun i x => kept_monReport ..
theorem kept_lost (src cls : Nat) : kept (lost s src cls) = kept s := by
  unfold lost
  dsimp only
  split <;> rfl
theorem kept_loseStook (k : Nat) : kept (loseStook s k) = kept s :=
  kept_foldl _ lostSheaf _ fun x (a : Sheaf) => kept_lost x a.src a.cls
theorem kept_dropCommit : kept (dropCommit s) = kept s := by
  unfold dropCommit
  split <;> rfl
theorem kept_calHeld : kept (calHeld s) = kept s := kept_dropCommit s
theorem kept_nlEnd : kept (nlEnd s) = kept s := by
  unfold nlEnd
  split <;> rfl

end

/-! ## No command waits or is outstanding -/

/-- No command waits at a port and none is outstanding. -/
def Settled (s : State) : Prop := s.cmd.outst = [] ∧ s.cmd.inq = []

section
variable {s : State}

theorem settled_of_cmd {t : State} (h : t.cmd = s.cmd) (hs : Settled s) : Settled t := by
  rw [Settled, h]
  exact hs
theorem settled_ite {c : Prop} [Decidable c] {a b : State} (ha : Settled a) (hb : Settled b) :
    Settled (if c then a else b) := by
  split <;> assumption
theorem settled_foldl {α : Type} (f : State → α → State) (hf : ∀ x a, Settled x → Settled (f x a)) (l : List α)
    (h : Settled s) : Settled (l.foldl f s) := by
  induction l generalizing s with
  | nil => exact h
  | cons a l ih => exact ih (hf s a h)
theorem settled_send (m : Msg) (h : Settled s) : Settled (send s m) := by
  unfold send
  dsimp only
  repeat' split
  all_goals exact h
theorem settled_closeCmd (r : Req) (op status detail : Nat) (data : List PWord) (h : Settled s) :
    Settled (closeCmd s r op status detail data) := by
  have hdrop : dropOutst s.cmd.outst r op = [] := by rw [h.1, dropOutst]
  exact settled_send _ ⟨hdrop, h.2⟩
theorem settled_assertErr (h : Settled s) : Settled (assertErr s) := by
  unfold assertErr
  refine settled_ite (settled_foldl _ (fun x (a : Req × Nat) => settled_closeCmd a.1 0x54 0x0C 0 []) _ ?_)
    (settled_ite ?_ ?_)
  all_goals exact settled_of_cmd rfl h
theorem settled_causeRecovery (code : Byte) (h : Settled s) : Settled (causeRecovery s code) := by
  unfold causeRecovery
  split <;> exact h
theorem settled_recoveryFail (h : Settled s) : Settled (recoveryFail s) :=
  settled_ite (settled_of_cmd rfl h) (settled_of_cmd rfl h)
theorem settled_escalateBeyond (key : Nat) (h : Settled s) : Settled (escalateBeyond s key) := by
  unfold escalateBeyond
  extract_lets s₁ s₂ s₃
  have herr : Settled s₂ := settled_assertErr (settled_of_cmd (count_cmd ..) h)
  clear_value s₂
  split
  · exact settled_causeRecovery 0x06 (settled_of_cmd (editRec_cmd ..) herr)
  · exact settled_causeRecovery 0x06 (settled_of_cmd (editRec_cmd ..) herr)
  · exact settled_recoveryFail (settled_of_cmd (editRec_cmd ..) herr)
  · exact settled_of_cmd (editRec_cmd ..) herr
theorem settled_endActions (key : Nat) (h : Settled s) : Settled (endActions s key) :=
  settled_of_cmd (endActions_cmd ..) h
theorem settled_queueAct (a : Act) (h : Settled s) : Settled (queueAct s a) := by
  unfold queueAct
  split
  · exact settled_endActions _ h
  split
  · exact settled_of_cmd rfl h
  split
  · exact settled_endActions _ (settled_escalateBeyond a.key h)
  · exact settled_endActions _ (settled_of_cmd (count_cmd ..) h)
theorem settled_isolate (x : Option (ActKind × Target)) (b : Bool) (g : ActKind → Target → Act) (r : List Reaction)
    (h : Settled s) : Settled (match x with
      | some (k, t) => queueAct s (g k t)
      | none => if b then { s with flt := { s.flt with reactions := r } } else s) := by
  split
  · exact settled_queueAct _ h
  · exact settled_ite (settled_of_cmd rfl h) h
theorem settled_react (f : FaultRec) (h : Settled s) : Settled (react s f) := by
  unfold react
  extract_lets m window target s₁ _ s₂ _ s₃ isolates long stop _ s₄ s₅ _
  have h₁ : Settled s₁ := settled_ite (settled_assertErr h) h
  have h₂ : Settled s₂ := settled_ite (settled_of_cmd rfl h₁) h₁
  have h₃ : Settled s₃ := settled_ite (settled_of_cmd rfl h₂) h₂
  have h₄ : Settled s₄ := settled_ite (settled_of_cmd rfl h₃) h₃
  have h₅ : Settled s₅ := settled_ite (settled_of_cmd rfl h₄) h₄
  exact settled_isolate isolates (bitAt m 1) _ _ h₅
theorem settled_logRaise (f : FaultRec) (h : Settled s) : Settled (logRaise s f) := by
  unfold logRaise
  dsimp only
  split <;> exact settled_of_cmd rfl h
theorem settled_raise (src inst ctx : Nat) (h : Settled s) : Settled (raise s src inst ctx) := by
  unfold raise
  split
  · exact h
  dsimp only
  split
  · exact settled_of_cmd rfl h
  · refine settled_react _ (settled_logRaise _ ?_)
    split <;> exact settled_of_cmd rfl h

end

end Sys2Proof.Proofs
end

section
/-!
What the entry into HELD leaves of the Granary, the stooks and the moulds (R38, R212, R419).
-/
namespace Sys2Proof.Proofs
open Sys2Proof Sys2Proof.Machine Sys2Proof.Laws

/-! ## The discard of a unit found uncorrectable -/

section
variable {s : State}

theorem faultOnly_md {t : State} (h : FaultOnly s t) : t.md = s.md := by rw [h.1]
theorem faultOnly_gran {t : State} (h : FaultOnly s t) : t.gran = s.gran := by rw [h.1]

theorem pushSheaf_units (x : Sheaf) : (pushSheaf s x).gran.units = s.gran.units := (kept_eq (kept_pushSheaf s x)).2.2.2
theorem guardLost_md (finder src seq : Nat) (unknown : Bool) : (guardLost s finder src seq unknown).md = s.md := by
  unfold guardLost
  extract_lets _ s₁ _ _ s₂ s₃
  have h₁ : s₁.md = s.md := by unfold s₁; split <;> rfl
  rw [controlLoss, pushSheaf_md, faultOnly_md (faultOnly_raise ..), count_md, h₁]
theorem guardLost_units (finder src seq : Nat) (unknown : Bool) :
    (guardLost s finder src seq unknown).gran.units = s.gran.units := by
  unfold guardLost
  extract_lets _ s₁ _ _ s₂ s₃
  have h₁ : s₁.gran = s.gran := by unfold s₁; split <;> rfl
  rw [controlLoss, pushSheaf_units, faultOnly_gran (faultOnly_raise ..), count_gran, h₁]
theorem settled_guardLost (finder src seq : Nat) (unknown : Bool) (h : Settled s) :
    Settled (guardLost s finder src seq unknown) := by
  unfold guardLost
  extract_lets _ s₁ _ _ s₂ s₃
  have h₁ : Settled s₁ := settled_ite h h
  have h₃ : Settled s₃ := settled_raise _ _ _ h₁
  exact settled_ite h₃ h₃

/-- The discards keep the mould, only take units away, and settle no command anew. -/
theorem discardPoisoned_foldl (l : List GUnit) :
    (l.foldl discardPoisoned s).md = s.md ∧ (l.foldl discardPoisoned s).gran.units ⊆ s.gran.units ∧
      (Settled s → Settled (l.foldl discardPoisoned s)) := by
  induction l generalizing s with
  | nil => exact ⟨rfl, fun _ h => h, id⟩
  | cons x l ih =>
    obtain ⟨hmd, hunits, hcmd⟩ := ih (s := discardPoisoned s x)
    have hone : (discardPoisoned s x).gran.units ⊆ s.gran.units := by
      rw [discardPoisoned, guardLost_units]
      exact List.filter_subset_self _
    exact ⟨hmd.trans (guardLost_md ..), List.Subset.trans hunits hone, fun h => hcmd (settled_guardLost _ _ _ _ h)⟩
theorem dropPoisoned_md : (dropPoisoned s).md = s.md := (discardPoisoned_foldl _).1
theorem dropPoisoned_units : (dropPoisoned s).gran.units ⊆ s.gran.units := (discardPoisoned_foldl _).2.1
theorem settled_dropPoisoned (h : Settled s) : Settled (dropPoisoned s) := (discardPoisoned_foldl _).2.2 h
/-- With no unit found uncorrectable nothing is discarded. -/
theorem dropPoisoned_none (h : ∀ u ∈ s.gran.units, u.poisoned = none) : dropPoisoned s = s := by
  have hnone : (s.gran.units.filter fun x => x.poisoned.isSome && !isFlying x) = [] := by
    rw [List.filter_eq_nil_iff]
    intro u hu
    simp [h u hu]
  rw [dropPoisoned, hnone, List.foldl_nil]

/-! ## The stooks -/

/-- The sheaves of a stook that a bank holds: its output queue and its two banks. -/
def sheaves (x : Stook) : List Sheaf × List Numbered × List Numbered := (x.outq, x.fill, x.drain)

theorem lostSheaf_stooks (x : Sheaf) : (lostSheaf s x).stooks = s.stooks := by
  unfold lostSheaf lost
  dsimp only
  split <;> rfl
theorem lostSheaf_foldl_stooks (l : List Sheaf) : (l.foldl lostSheaf s).stooks = s.stooks := by
  induction l generalizing s with
  | nil => rfl
  | cons x l ih => rw [List.foldl_cons, ih, lostSheaf_stooks]
theorem sheaves_loseStook (k j : Nat) :
    sheaves (stook (loseStook s k) j) = if j = k then ([], [], []) else sheaves (stook s j) := by
  unfold loseStook
  extract_lets x drain l
  rw [stook, lostSheaf_foldl_stooks]
  change sheaves (stook (setStook _ _ _) j) = _
  rw [stook_setStook]
  split <;> rfl
theorem sheaves_loseStooks (n : Nat) :
    ∀ k < n, sheaves (stook (forNat n (fun k s => loseStook s k) s) k) = ([], [], []) := by
  induction n with
  | zero => exact fun k hk => absurd hk k.not_lt_zero
  | succ n ih =>
    intro k hk
    rw [forNat, sheaves_loseStook]
    split
    · rfl
    · exact ih k (by omega)

theorem stook_of_stooks {t : State} (h : t.stooks = s.stooks) (k : Nat) : stook t k = stook s k := by
  rw [stook, stook, h]

/-! ## The Granary keeps bank 0 -/

/-- A unit that is lost with the banks: partly written, or with a slot outside bank 0. -/
def awayFromBank0 (u : GUnit) : Bool := u.ready = notWhole || u.slots.any fun k => decide (32768 ≤ k)
/-- Units that stay are decided units again, none in flight. -/
def grounded (u : GUnit) : GUnit := { u with st := if u.st = .inFlight then .eligible else u.st, flying := [] }
/-- What the Granary keeps before the discard of units found uncorrectable. -/
def keptUnits (l : List GUnit) : List GUnit := (l.filter fun u => !awayFromBank0 u).map grounded

theorem keptUnits_slots {l : List GUnit} {u : GUnit} (hu : u ∈ keptUnits l) : ∀ k ∈ u.slots, k < 32768 := by
  obtain ⟨v, hv, rfl⟩ := List.mem_map.mp hu
  have hin : awayFromBank0 v = false := by simpa using (List.mem_filter.mp hv).2
  intro k (hk : k ∈ v.slots)
  simp only [awayFromBank0, Bool.or_eq_false_iff, List.any_eq_false, decide_eq_true_eq] at hin
  exact Nat.lt_of_not_le (hin.2 k hk)
theorem keptUnits_poisoned {l : List GUnit} (h : ∀ u ∈ l, u.poisoned = none) :
    ∀ u ∈ keptUnits l, u.poisoned = none := by
  intro u hu
  obtain ⟨v, hv, rfl⟩ := List.mem_map.mp hu
  exact h v (List.mem_of_mem_filter hv)

/-- The units outside bank 0 and the hold are counted as lost; the others are grounded. -/
def bank0Left (s : State) : State :=
  let s := (s.gran.units.filter awayFromBank0 ++ s.gran.hold).foldl (fun s u => lost s u.src u.cls) s
  { s with gran := { s.gran with units := keptUnits s.gran.units } }
/-- The stooks and the direct writers lose what they hold. -/
def writersLost (s : State) : State := forNat 12 (fun k s => loseStook s k) (s.gran.dwq.foldl lostSheaf s)

/-- Bank 0 alone stays powered. -/
def bank0Alone (s : State) : State :=
  { s with gran := { s.gran with
      powered := 1, bankIdle := [], hold := [], dwq := [], direct := 0, back := [], bursting := false
      flow0 := { low := false, since := s.tb.up }, flow1 := { low := false, since := s.tb.up } } }
theorem bank0Alone_parts (s : State) : (bank0Alone s).md = s.md ∧ (bank0Alone s).cmd = s.cmd ∧
    (bank0Alone s).flt = s.flt ∧ (bank0Alone s).stooks = s.stooks ∧ (bank0Alone s).gran.units = s.gran.units := ⟨rfl, rfl, rfl, rfl, rfl⟩
theorem bank0Alone_empty (s : State) :
    (bank0Alone s).gran.hold = [] ∧ (bank0Alone s).gran.dwq = [] ∧ (bank0Alone s).gran.powered = 1 := ⟨rfl, rfl, rfl⟩
theorem keepBank0_eq (s : State) : keepBank0 s = bank0Alone (writersLost (dropPoisoned (bank0Left s))) := by
  unfold keepBank0
  extract_lets away s₁ keep _ s₂ s₃ _
  have h₂ : s₂ = dropPoisoned (bank0Left s) := rfl
  have h₃ : s₃ = writersLost (dropPoisoned (bank0Left s)) := congrArg writersLost h₂
  rw [← h₃]
  clear_value s₃
  rfl

theorem kept_writersLost (s : State) : kept (writersLost s) = kept s := by
  unfold writersLost
  rw [kept_forNat _ _ _ fun k x => kept_loseStook x k, kept_foldl _ lostSheaf _ fun x a => kept_lost x a.src a.cls]
theorem kept_losses (l : List GUnit) (s : State) : kept (l.foldl (fun s u => lost s u.src u.cls) s) = kept s :=
  kept_foldl _ _ _ fun x a => kept_lost x a.src a.cls
theorem bank0Left_parts (s : State) : (bank0Left s).md = s.md ∧ (bank0Left s).cmd = s.cmd ∧ (bank0Left s).flt = s.flt ∧
    (bank0Left s).gran.units = keptUnits s.gran.units := by
  obtain ⟨hmd, hcmd, hflt, hunits⟩ := kept_eq (kept_losses (s.gran.units.filter awayFromBank0 ++ s.gran.hold) s)
  exact ⟨hmd, hcmd, hflt, congrArg keptUnits hunits⟩

/-- What the discard of units leaves is what bank 0's rest leaves. -/
theorem keepBank0_parts (s : State) : (keepBank0 s).md = (dropPoisoned (bank0Left s)).md ∧
    (keepBank0 s).cmd = (dropPoisoned (bank0Left s)).cmd ∧ (keepBank0 s).flt = (dropPoisoned (bank0Left s)).flt ∧
    (keepBank0 s).gran.units = (dropPoisoned (bank0Left s)).gran.units := by
  obtain ⟨hmd, hcmd, hflt, -, hunits⟩ := bank0Alone_parts (writersLost (dropPoisoned (bank0Left s)))
  obtain ⟨hmd', hcmd', hflt', hunits'⟩ := kept_eq (kept_writersLost (dropPoisoned (bank0Left s)))
  rw [keepBank0_eq, hmd, hcmd, hflt, hunits]
  exact ⟨hmd', hcmd', hflt', hunits'⟩
theorem keepBank0_md (s : State) : (keepBank0 s).md = s.md := by
  rw [(keepBank0_parts s).1, dropPoisoned_md, (bank0Left_parts s).1]
theorem settled_keepBank0 (h : Settled s) : Settled (keepBank0 s) := by
  have hleft : Settled (bank0Left s) := by
    rw [Settled, (bank0Left_parts s).2.1]
    exact h
  rw [Settled, (keepBank0_parts s).2.1]
  exact settled_dropPoisoned hleft
/-- Only slots of bank 0 are left (R212). -/
theorem keepBank0_slots (s : State) : ∀ u ∈ (keepBank0 s).gran.units, ∀ k ∈ u.slots, k < 32768 := by
  intro u hu
  rw [(keepBank0_parts s).2.2.2] at hu
  have hkept : u ∈ keptUnits s.gran.units := by
    rw [← (bank0Left_parts s).2.2.2]
    exact dropPoisoned_units hu
  exact keptUnits_slots hkept
/-- With no unit found uncorrectable the collector is left as it was. -/
theorem keepBank0_flt (h : ∀ u ∈ s.gran.units, u.poisoned = none) : (keepBank0 s).flt = s.flt := by
  obtain ⟨-, -, hflt, hunits⟩ := bank0Left_parts s
  have hnone : dropPoisoned (bank0Left s) = bank0Left s := dropPoisoned_none (by rw [hunits]; exact keptUnits_poisoned h)
  rw [(keepBank0_parts s).2.2.1, hnone, hflt]
theorem keepBank0_sheaves (s : State) : ∀ k < 12, sheaves (stook (keepBank0 s) k) = ([], [], []) := by
  intro k hk
  obtain ⟨-, -, -, hstooks, -⟩ := bank0Alone_parts (writersLost (dropPoisoned (bank0Left s)))
  rw [keepBank0_eq, stook_of_stooks hstooks, writersLost]
  exact sheaves_loseStooks 12 k hk

/-! ## The front end -/

theorem kept_channelsHeld (s : State) : kept (s.chs.foldl (fun s e => channelHeld s e.1) s) = kept s :=
  kept_foldl _ _ _ fun x a => kept_channelHeld x a.1
theorem kept_beforeBank0 (s : State) : kept (monHeld (s.chs.foldl (fun s e => channelHeld s e.1) s)) = kept s :=
  (kept_monHeld _).trans (kept_channelsHeld s)
theorem calHeld_gran (s : State) : (calHeld s).gran = s.gran := by
  change (dropCommit s).gran = _
  unfold dropCommit
  split <;> rfl
theorem calHeld_stooks (s : State) : (calHeld s).stooks = s.stooks := by
  change (dropCommit s).stooks = _
  unfold dropCommit
  split <;> rfl

theorem frontHeld_md (s : State) : (frontHeld s).md = s.md := by
  rw [frontHeld, (kept_eq (kept_calHeld _)).1, keepBank0_md, (kept_eq (kept_beforeBank0 s)).1]
theorem settled_frontHeld (h : Settled s) : Settled (frontHeld s) := by
  have hbefore : Settled (monHeld (s.chs.foldl (fun s e => channelHeld s e.1) s)) := by
    rw [Settled, (kept_eq (kept_beforeBank0 s)).2.1]
    exact h
  rw [Settled, frontHeld, (kept_eq (kept_calHeld _)).2.1]
  exact settled_keepBank0 hbefore
theorem frontHeld_flt (h : ∀ u ∈ s.gran.units, u.poisoned = none) : (frontHeld s).flt = s.flt := by
  obtain ⟨-, -, hflt, hunits⟩ := kept_eq (kept_beforeBank0 s)
  rw [frontHeld, (kept_eq (kept_calHeld _)).2.2.1, keepBank0_flt (by rw [hunits]; exact h), hflt]
/-- The Granary after the front end's parts: bank 0 alone, and nothing on its way there. -/
theorem frontHeld_gran (s : State) :
    (∀ u ∈ (frontHeld s).gran.units, ∀ k ∈ u.slots, k < 32768) ∧ (frontHeld s).gran.hold = [] ∧
      (frontHeld s).gran.dwq = [] ∧ (frontHeld s).gran.powered = 1 := by
  rw [frontHeld, calHeld_gran]
  refine ⟨keepBank0_slots _, ?_⟩
  rw [keepBank0_eq]
  exact bank0Alone_empty _
theorem frontHeld_sheaves (s : State) : ∀ k < 12, sheaves (stook (frontHeld s) k) = ([], [], []) := by
  intro k hk
  rw [frontHeld, stook_of_stooks (calHeld_stooks _)]
  exact keepBank0_sheaves _ k hk

/-! ## The moulds -/

theorem failCouch_md (s : State) (c : Couch) (status detail : Nat) (st : Staging) (late : Bool) :
    (failCouch s c status detail st late).md = { (endCouch s c status late).md with stage := st } := by
  have hmessage (x : State) : (couchMessage x c status detail).md = x.md := by
    unfold couchMessage
    dsimp only
    split
    · rfl
    split
    · exact faultOnly_md (faultOnly_closeCmd ..)
    · exact faultOnly_md (faultOnly_send ..)
  rw [failCouch, faultOnly_md (faultOnly_raise ..), hmessage]
  rfl
theorem mdHeld_md (s : State) :
    (mdHeld s).md.couch = none ∧ (mdHeld s).md.active = none ∧ (mdHeld s).md.stage = .empty := by
  refine ⟨?_, rfl, rfl⟩
  unfold mdHeld
  extract_lets s₁
  change s₁.md.couch = none
  unfold s₁
  split
  · rw [failCouch_md]
    rfl
  · assumption
/-- With no couch pending nothing is raised. -/
theorem mdHeld_quiet (h : s.md.couch = none) : (mdHeld s).flt = s.flt ∧ (mdHeld s).gran = s.gran := by
  unfold mdHeld
  rw [h]
  exact ⟨rfl, rfl⟩

/-! ## The clocks and the time base -/

/-- A stook's clock is off. -/
def clockOff (x : Stook) : Stook := { x with clock := false, idle := 0, busy := false, wake := none }
/-- All stooks' clocks are off; nothing else changes, and the sheaves of a stook stay. -/
theorem clocksOff_eq (n : Nat) (s : State) : ∃ l,
    forNat n (fun k s => setStook s k (clockOff (stook s k))) s = { s with stooks := l } ∧
    ∀ k, sheaves (stook { s with stooks := l } k) = sheaves (stook s k) := by
  induction n with
  | zero => exact ⟨s.stooks, rfl, fun _ => rfl⟩
  | succ n ih =>
    obtain ⟨l, heq, hsheaves⟩ := ih
    refine ⟨_, by rw [forNat, heq]; rfl, fun k => ?_⟩
    change sheaves (stook (setStook { s with stooks := l } n (clockOff (stook { s with stooks := l } n))) k) = _
    rw [stook_setStook, ← hsheaves k]
    split
    · next h => rw [h]; rfl
    · rfl
/-- In HELD with no couch pending the time base settles without raising, and writes no sheaf. -/
theorem settleTime_held (hh : s.modes.cur = .held) (hc : s.md.couch = none) :
    ∃ tb, settleTime s = { s with tb := tb } := by
  unfold settleTime
  extract_lets r _ s₁ q _ s₂
  have hs₂ : s₂ = { s₁ with tb := { s₁.tb with quality := q } } := by
    unfold s₂
    rw [epochCause, if_pos hh]
  have hcouch : s₂.md.couch = none := by
    rw [hs₂]
    exact hc
  split
  · exact ⟨_, rfl⟩
  · rw [cancelCouch, hcouch, ite_self, hs₂]
    exact ⟨_, rfl⟩
theorem refreshTiming_held (hh : s.modes.cur = .held) (hc : s.md.couch = none) : ∃ cfg tb levels,
    refreshTiming s = { s with cfg := cfg, tb := tb, flt := { s.flt with levels := levels } } := by
  unfold refreshTiming
  extract_lets g s₁ _ s₂ _ _ s₃
  have h₁ : ∃ cfg, s₁ = { s with cfg := cfg } := by
    unfold s₁
    split <;> exact ⟨_, rfl⟩
  have h₂ : ∃ cfg tb, s₂ = { s with cfg := cfg, tb := tb } := by
    obtain ⟨cfg, h⟩ := h₁
    unfold s₂
    split
    · exact ⟨cfg, s.tb, h⟩
    · rw [h]
      exact ⟨_, _, rfl⟩
  obtain ⟨cfg, tb, h₂⟩ := h₂
  have hoff : ptpOn s₂ = false := by
    rw [h₂]
    simp [ptpOn, hh]
  have h₃ : ∃ tb levels, s₃ = { s with cfg := cfg, tb := tb, flt := { s.flt with levels := levels } } := by
    unfold s₃
    rw [hoff, h₂]
    exact ⟨_, _, rfl⟩
  obtain ⟨tb, levels, h₃⟩ := h₃
  obtain ⟨tb', h⟩ := settleTime_held (s := s₃) (by rw [h₃]; exact hh) (by rw [h₃]; exact hc)
  exact ⟨cfg, tb', levels, by rw [h, h₃]⟩

end

end Sys2Proof.Proofs
end

section
/-!
O10: the entries into HELD (R410, R419), their causes, and what they leave of the block (R38, R212, R419).
-/
namespace Sys2Proof.Proofs
open Sys2Proof Sys2Proof.Machine Sys2Proof.Laws

/-! ## The entry in three parts -/

/-- The state that the front end's parts start from. -/
def closedPorts (s : State) : State := cmdHeld (mdHeld (nlEnd s))
/-- The parts that lose units, messages and commands, and the clocks. -/
def wound (s : State) : State := clocksHeld (frontHeld (closedPorts s))
/-- The parts that leave service without a loss. -/
def outOfService (s : State) : State := linksHeld (barnsHeld (faultHeld s))
/-- The record of the entry, and what the mode clears of the levels and of the Thresher. -/
def recorded (s : State) (cause : Byte) : State := stepsHeld (thrHeld (levelsHeld (noteMode s .held cause)))
/-- The registers of the Barn are lost; the personality and the work on the time end. -/
def registersLost (s : State) : State :=
  { s with cfg := barnRegsLost s.cfg, nl := { s.nl with personality := false, enter := none, leave := none },
           tb := { s.tb with work := none, sync := [] } }
/-- The parts of the entry after the losses. -/
def offDuty (s : State) (cause : Byte) : State := registersLost (recorded (outOfService s) cause)
/-- The collector without its levels. -/
def noLevels (x : Flt) : Flt := { x with levels := [] }
/-- What those parts keep. -/
def rest (s : State) : Md × Cmd × Gran × PMap Stook × Pwr × (Beat × Nat × Nat) × Flt :=
  (s.md, s.cmd, s.gran, s.stooks, s.pwr, clock s.tb, noLevels s.flt)

section
variable {s t : State}
theorem rest_eq (h : rest t = rest s) : t.md = s.md ∧ t.cmd = s.cmd ∧ t.gran = s.gran ∧ t.stooks = s.stooks ∧
    t.pwr = s.pwr ∧ clock t.tb = clock s.tb ∧ noLevels t.flt = noLevels s.flt := by
  simpa only [rest, Prod.mk.injEq] using h
end
section
variable {x y : Flt}
theorem noLevels_isolations (h : noLevels y = noLevels x) : y.reactions = x.reactions ∧ y.queue = x.queue ∧ y.cur = x.cur :=
  ⟨(congrArg Flt.reactions h :), (congrArg Flt.queue h :), (congrArg Flt.cur h :)⟩
theorem noLevels_faults (h : noLevels y = noLevels x) :
    y.word = x.word ∧ y.first = x.first ∧ y.hist = x.hist ∧ y.errLow = x.errLow :=
  ⟨(congrArg Flt.word h :), (congrArg Flt.first h :), (congrArg Flt.hist h :), (congrArg Flt.errLow h :)⟩
end

section
variable (s : State) (cause : Byte)

theorem goHeld_eq : goHeld s cause = refreshTiming (offDuty (wound s) cause) := by
  unfold goHeld
  extract_lets s₁ s₂ s₃
  have h₂ : s₂ = outOfService (wound s) := rfl
  have h₃ : s₃ = recorded (outOfService (wound s)) cause := by
    rw [← h₂]
    rfl
  rw [offDuty, ← h₃]
  clear_value s₃
  rfl

theorem rest_linksHeld : rest (linksHeld s) = rest s := (rfl)
theorem rest_barnsHeld : rest (barnsHeld s) = rest s := (rfl)
theorem rest_noteMode (m : Mode) : rest (noteMode s m cause) = rest s := (rfl)
theorem rest_levelsHeld : rest (levelsHeld s) = rest s := (rfl)
theorem rest_thrHeld : rest (thrHeld s) = rest s := (rfl)
theorem rest_stepsHeld : rest (stepsHeld s) = rest s := (rfl)
theorem rest_registersLost : rest (registersLost s) = rest s := (rfl)
theorem rest_outOfService : rest (outOfService s) = rest (faultHeld s) := by
  rw [outOfService, rest_linksHeld, rest_barnsHeld]
theorem rest_recorded : rest (recorded s cause) = rest s := by
  rw [recorded, rest_stepsHeld, rest_thrHeld, rest_levelsHeld, rest_noteMode]
theorem rest_offDuty : rest (offDuty s cause) = rest (faultHeld s) := by
  rw [offDuty, rest_registersLost, rest_recorded, rest_outOfService]

theorem offDuty_parts : (offDuty s cause).md = s.md ∧ (offDuty s cause).cmd = s.cmd ∧ (offDuty s cause).gran = s.gran ∧
    (offDuty s cause).stooks = s.stooks ∧ (offDuty s cause).pwr = s.pwr ∧ (offDuty s cause).tb.beat = s.tb.beat := by
  obtain ⟨hmd, hcmd, hgran, hstooks, hpwr, hclock, -⟩ := rest_eq (rest_offDuty s cause)
  exact ⟨hmd, hcmd, hgran, hstooks, hpwr, clock_beat hclock⟩
theorem recorded_modes : (recorded s cause).modes.cur = .held ∧ (recorded s cause).modes.cause = cause ∧
    (recorded s cause).modes.entryDeckle = deckle s := ⟨rfl, rfl, rfl⟩
theorem registersLost_modes : (registersLost s).modes = s.modes := rfl
theorem offDuty_record : (offDuty s cause).modes.cur = .held ∧ (offDuty s cause).modes.cause = cause ∧
    (offDuty s cause).modes.entryDeckle = deckle s := by
  obtain ⟨hcur, hcause, hdeckle⟩ := recorded_modes (outOfService s) cause
  obtain ⟨-, -, -, -, -, hclock, -⟩ := rest_eq (rest_outOfService s)
  have hbeat : deckle (outOfService s) = deckle s := congrArg deckleOf (clock_beat hclock)
  rw [offDuty, registersLost_modes]
  exact ⟨hcur, hcause, hdeckle.trans hbeat⟩

/-! ## The mode's record -/

theorem steady_wound : steady (wound s) = steady s := by
  simp only [wound, closedPorts, steady_clocksHeld, steady_frontHeld, steady_cmdHeld, steady_mdHeld, steady_nlEnd]
/-- What Table 1.6 and the status registers show after an entry into HELD. -/
theorem goHeld_record : (goHeld s cause).modes.cur = .held ∧ (goHeld s cause).modes.cause = cause ∧
    (goHeld s cause).modes.entryDeckle = deckle s ∧ (goHeld s cause).pwr = s.pwr ∧
    (goHeld s cause).tb.beat = s.tb.beat := by
  have hst : steady (goHeld s cause) = steady (offDuty (wound s) cause) := by rw [goHeld_eq, steady_refreshTiming]
  obtain ⟨hcur, hcause, hdeckle⟩ := offDuty_record (wound s) cause
  obtain ⟨-, -, -, -, hpwr, hbeat⟩ := offDuty_parts (wound s) cause
  have hw := steady_wound s
  rw [steady_cur hst, steady_cause hst, steady_entryDeckle hst, steady_pwr hst, steady_beat hst, hcur, hcause, hdeckle,
    hpwr, hbeat, steady_deckle hw, steady_pwr hw, steady_beat hw]
  exact ⟨rfl, rfl, rfl, rfl, rfl⟩

/-! ## What is left of the block -/

theorem clocksHeld_eq : ∃ l clk levels,
    clocksHeld s = { s with
      stooks := l, gran := { s.gran with clock := false, idle := 0, busy := false }, clk := clk
      flt := { s.flt with levels := levels } } ∧
    ∀ k, sheaves (stook (clocksHeld s) k) = sheaves (stook s k) := by
  obtain ⟨l, hoff, hsheaves⟩ := clocksOff_eq 12 s
  have heq : clocksHeld s = levelEnd { s with
      stooks := l, gran := { s.gran with clock := false, idle := 0, busy := false }
      clk := { s.clk with pll := 0, pllIdle := 0, pllUsed := false, cores := false } } 17 0 := by
    unfold clocksHeld
    extract_lets x
    have hx : x = { s with stooks := l } := hoff
    clear_value x
    subst hx
    rfl
  refine ⟨l, _, _, heq, fun k => ?_⟩
  rw [heq]
  exact hsheaves k

theorem clocksHeld_parts : (clocksHeld s).md = s.md ∧ (clocksHeld s).cmd = s.cmd ∧
    (clocksHeld s).gran = { s.gran with clock := false, idle := 0, busy := false } ∧
    noLevels (clocksHeld s).flt = noLevels s.flt := by
  obtain ⟨l, clk, levels, heq, -⟩ := clocksHeld_eq s
  rw [heq]
  exact ⟨rfl, rfl, rfl, rfl⟩
theorem clocksHeld_sheaves (k : Nat) : sheaves (stook (clocksHeld s) k) = sheaves (stook s k) := by
  obtain ⟨-, -, -, -, hsheaves⟩ := clocksHeld_eq s
  exact hsheaves k

theorem settled_closedPorts : Settled (closedPorts s) := ⟨rfl, rfl⟩
theorem closedPorts_md : (closedPorts s).md.couch = none ∧ (closedPorts s).md.active = none ∧
    (closedPorts s).md.stage = .empty := mdHeld_md (nlEnd s)
/-- With no couch pending the collector and the units are as they were. -/
theorem closedPorts_quiet (h : s.md.couch = none) :
    (closedPorts s).flt = s.flt ∧ (closedPorts s).gran.units = s.gran.units := by
  obtain ⟨hmd, -, hflt, hunits⟩ := kept_eq (kept_nlEnd s)
  obtain ⟨hflt', hgran⟩ := mdHeld_quiet (s := nlEnd s) (by rw [hmd, h])
  exact ⟨hflt'.trans hflt, (congrArg Gran.units hgran).trans hunits⟩

theorem wound_md : (wound s).md.couch = none ∧ (wound s).md.active = none ∧ (wound s).md.stage = .empty := by
  rw [wound, (clocksHeld_parts _).1, frontHeld_md]
  exact closedPorts_md s
theorem settled_wound : Settled (wound s) := by
  rw [Settled, wound, (clocksHeld_parts _).2.1]
  exact settled_frontHeld (settled_closedPorts s)
theorem wound_gran : (∀ u ∈ (wound s).gran.units, ∀ k ∈ u.slots, k < 32768) ∧ (wound s).gran.hold = [] ∧
    (wound s).gran.dwq = [] ∧ (wound s).gran.powered = 1 := by
  have hfront := frontHeld_gran (closedPorts s)
  rw [wound, (clocksHeld_parts _).2.2.1]
  generalize (frontHeld (closedPorts s)).gran = g at hfront ⊢
  exact hfront
theorem wound_sheaves : ∀ k < 12, sheaves (stook (wound s) k) = ([], [], []) := by
  intro k hk
  rw [wound, clocksHeld_sheaves]
  exact frontHeld_sheaves (closedPorts s) k hk
theorem wound_flt (hc : s.md.couch = none) (hp : ∀ u ∈ s.gran.units, u.poisoned = none) :
    noLevels (wound s).flt = noLevels s.flt := by
  obtain ⟨hflt, hunits⟩ := closedPorts_quiet s hc
  rw [wound, (clocksHeld_parts _).2.2.2, frontHeld_flt (by rw [hunits]; exact hp), hflt]

theorem rest_refreshTiming_held (hh : s.modes.cur = .held) (hc : s.md.couch = none) :
    rest (refreshTiming s) = rest s := by
  have hclock := steady_clock (steady_refreshTiming s)
  obtain ⟨cfg, tb, levels, heq⟩ := refreshTiming_held hh hc
  rw [heq] at hclock ⊢
  rw [rest, rest, hclock]
  rfl
/-- After the losses an entry keeps everything but the faults in progress and the levels. -/
theorem rest_goHeld : rest (goHeld s cause) = rest (faultHeld (wound s)) := by
  have hheld := (offDuty_record (wound s) cause).1
  have hcouch : (offDuty (wound s) cause).md.couch = none := by rw [(offDuty_parts (wound s) cause).1, (wound_md s).1]
  rw [goHeld_eq, rest_refreshTiming_held _ hheld hcouch, rest_offDuty]

theorem faultHeld_parts : (faultHeld s).md = s.md ∧ (faultHeld s).cmd = s.cmd ∧ (faultHeld s).gran = s.gran ∧
    (faultHeld s).stooks = s.stooks := ⟨rfl, rfl, rfl, rfl⟩
theorem faultHeld_isolations : (faultHeld s).flt.reactions = [] ∧ (faultHeld s).flt.queue = [] ∧
    (faultHeld s).flt.cur = none := ⟨rfl, rfl, rfl⟩
theorem faultHeld_faults : (faultHeld s).flt.word = s.flt.word ∧ (faultHeld s).flt.first = s.flt.first ∧
    (faultHeld s).flt.hist = s.flt.hist ∧ (faultHeld s).flt.errLow = s.flt.errLow := ⟨rfl, rfl, rfl, rfl⟩
theorem goHeld_parts : (goHeld s cause).md = (wound s).md ∧ (goHeld s cause).cmd = (wound s).cmd ∧
    (goHeld s cause).gran = (wound s).gran ∧ (goHeld s cause).stooks = (wound s).stooks := by
  obtain ⟨hmd, hcmd, hgran, hstooks, -⟩ := rest_eq (rest_goHeld s cause)
  obtain ⟨hmd', hcmd', hgran', hstooks'⟩ := faultHeld_parts (wound s)
  exact ⟨hmd.trans hmd', hcmd.trans hcmd', hgran.trans hgran', hstooks.trans hstooks'⟩
theorem goHeld_flt : noLevels (goHeld s cause).flt = noLevels (faultHeld (wound s)).flt := by
  obtain ⟨-, -, -, -, -, -, hflt⟩ := rest_eq (rest_goHeld s cause)
  exact hflt

theorem goHeld_memory : (∀ u ∈ (goHeld s cause).gran.units, ∀ k ∈ u.slots, k < 32768) ∧
    (goHeld s cause).gran.hold = [] ∧ (goHeld s cause).gran.dwq = [] ∧ (goHeld s cause).gran.powered = 1 := by
  rw [(goHeld_parts s cause).2.2.1]
  exact wound_gran s
theorem goHeld_sheaves : ∀ k < 12, sheaves (stook (goHeld s cause) k) = ([], [], []) := by
  intro k hk
  rw [stook_of_stooks (goHeld_parts s cause).2.2.2]
  exact wound_sheaves s k hk
theorem goHeld_md : (goHeld s cause).md.active = none ∧ (goHeld s cause).md.stage = .empty := by
  rw [(goHeld_parts s cause).1]
  exact (wound_md s).2
theorem settled_goHeld : Settled (goHeld s cause) := by
  rw [Settled, (goHeld_parts s cause).2.1]
  exact settled_wound s
theorem goHeld_isolations : (goHeld s cause).flt.reactions = [] ∧ (goHeld s cause).flt.queue = [] ∧
    (goHeld s cause).flt.cur = none := by
  obtain ⟨hreactions, hqueue, hcur⟩ := noLevels_isolations (goHeld_flt s cause)
  rw [hreactions, hqueue, hcur]
  exact faultHeld_isolations (wound s)
theorem goHeld_faults (hc : s.md.couch = none) (hp : ∀ u ∈ s.gran.units, u.poisoned = none) :
    (goHeld s cause).flt.word = s.flt.word ∧ (goHeld s cause).flt.first = s.flt.first ∧
      (goHeld s cause).flt.hist = s.flt.hist ∧ (goHeld s cause).flt.errLow = s.flt.errLow := by
  obtain ⟨hword, hfirst, hhist, herr⟩ := noLevels_faults (goHeld_flt s cause)
  obtain ⟨hword', hfirst', hhist', herr'⟩ := faultHeld_faults (wound s)
  rw [hword, hfirst, hhist, herr, hword', hfirst', hhist', herr']
  exact noLevels_faults (wound_flt s hc hp)

end

/-! ## The five entries -/

section
variable {s : State}

theorem enterHeld_other (h : s.modes.cur ≠ .held) (cause : Byte) : enterHeld s cause = goHeld s cause := if_neg h
theorem enterHeld_cur (s : State) (cause : Byte) : (enterHeld s cause).modes.cur = .held := by
  unfold enterHeld
  split
  · assumption
  · exact (goHeld_record s cause).1
/-- RESET_N is low; the straps wait. -/
def resetLow (s : State) : State := { s with pwr := { s.pwr with resetHigh := false, awaitStraps := true } }
/-- Power-good is low; the straps wait. -/
def powerNotGood (s : State) : State := { s with pwr := { s.pwr with powerGood := false, awaitStraps := true } }

theorem execResetNLow_enters (hp : powered s = true) (hh : s.modes.cur ≠ .held) :
    exec .resetNLow s = .next (goHeld (resetLow s) 0x01) := by
  have hp' : powered (resetLow s) = true := hp
  have hh' : (resetLow s).modes.cur ≠ .held := hh
  rw [← enterHeld_other hh']
  exact congrArg Host.Outcome.next (if_pos hp')
theorem withdraw_enters (hh : s.modes.cur ≠ .held) : withdraw s = goHeld (powerNotGood s) 0x00 :=
  enterHeld_other (s := powerNotGood s) hh 0x00
/-- The record of an entry that the supplies cause. -/
theorem withdraw_record (hh : s.modes.cur ≠ .held) : (withdraw s).modes.cur = .held ∧ (withdraw s).modes.cause = 0x00 ∧
    (withdraw s).pwr.powerGood = false := by
  obtain ⟨hcur, hcause, -, hpwr, -⟩ := goHeld_record (powerNotGood s) 0x00
  rw [withdraw_enters hh]
  exact ⟨hcur, hcause, congrArg Pwr.powerGood hpwr⟩

theorem held_resetN (hp : powered s = true) (hh : s.modes.cur ≠ .held) :
    ∃ t, exec .resetNLow s = .next t ∧ t.modes.cur = .held ∧ t.modes.cause = 0x01 ∧ t.modes.entryDeckle = deckle s ∧
      t.pwr.resetHigh = false := by
  obtain ⟨hcur, hcause, hdeckle, hpwr, -⟩ := goHeld_record (resetLow s) 0x01
  exact ⟨_, execResetNLow_enters hp hh, hcur, hcause, hdeckle, congrArg Pwr.resetHigh hpwr⟩
theorem held_powerGood (hh : s.modes.cur ≠ .held) (hpg : s.pwr.powerGood = true) (hg : allGood s = false) :
    ∃ t, exec .powerGoodWithdraw s = .next t ∧ t.modes.cur = .held ∧ t.modes.cause = 0x00 ∧ t.pwr.powerGood = false :=
  ⟨_, congrArg Host.Outcome.next (if_pos (by simp [hpg, hg])), withdraw_record hh⟩
theorem held_vddio (hh : s.modes.cur ≠ .held) (haon : isGood s .vddAon = true) (hio : isGood s .vddio = false) :
    ∃ t, exec .vddioLoss s = .next t ∧ t.modes.cur = .held ∧ t.modes.cause = 0x00 ∧ t.pwr.powerGood = false :=
  ⟨_, congrArg Host.Outcome.next (if_pos (by simp [haon, hio])), withdraw_record hh⟩
theorem held_vddMem (hm : isGood s .vddMem = false) :
    ∃ t, exec .vddMemLoss s = .next t ∧ t.modes.cur = .held ∧ t.gran.units = [] ∧ t.md.active = none ∧
      t.md.stage = .empty :=
  ⟨_, congrArg Host.Outcome.next (if_neg (by simp [hm])), enterHeld_cur (powerNotGood s) 0x00, rfl, rfl, rfl⟩
theorem held_chipReset (hh : s.modes.cur ≠ .held) (hc : s.modes.chipReset = true) :
    ∃ t, exec .heldEntry s = .next t ∧ t.modes.cur = .held ∧ t.modes.cause = 0x02 := by
  have hrun : exec .heldEntry s = .next (chipReset s) := by
    change execHeldEntry s = _
    rw [execHeldEntry, if_neg hh, if_pos hc]
  obtain ⟨hcur, hcause, -⟩ := goHeld_record s 0x02
  exact ⟨_, hrun, hcur, hcause⟩

end

/-- Settles O10: the five entries' records, then what RESET_N's entry leaves. -/
theorem entriesIntoHeld : Obligations.EntriesIntoHeld := by
  refine ⟨⟨fun s => held_resetN, fun s => held_powerGood, fun s => held_vddio, fun s => held_vddMem,
    fun s => held_chipReset⟩, fun s hp hh => ⟨_, execResetNLow_enters hp hh, ?_⟩⟩
  obtain ⟨hslots, hhold, hdwq, hpowered⟩ := goHeld_memory (resetLow s) 0x01
  have hsheaves := goHeld_sheaves (resetLow s) 0x01
  obtain ⟨hactive, hstage⟩ := goHeld_md (resetLow s) 0x01
  obtain ⟨houtst, hinq⟩ := settled_goHeld (resetLow s) 0x01
  obtain ⟨hreactions, hqueue, hcur⟩ := goHeld_isolations (resetLow s) 0x01
  obtain ⟨-, -, -, -, hbeat⟩ := goHeld_record (resetLow s) 0x01
  have hstooks : ∀ k < 12, (stook (goHeld (resetLow s) 0x01) k).outq = [] ∧
      (stook (goHeld (resetLow s) 0x01) k).fill = [] ∧ (stook (goHeld (resetLow s) 0x01) k).drain = [] := by
    intro k hk
    simpa only [sheaves, Prod.mk.injEq] using hsheaves k hk
  exact ⟨hslots, hhold, hdwq, hpowered, hstooks, hactive, hstage, houtst, hinq, hreactions, hqueue, hcur, hbeat,
    goHeld_faults (resetLow s) 0x01⟩

end Sys2Proof.Proofs
end

section
/-!
The rules of the front end's state: a channel, a stook and a tally after an update of each; and O15, what the front end's
commands leave alone.
-/
namespace Sys2Proof.Proofs
open Sys2Proof Sys2Proof.Machine Sys2Proof.Laws

/-! ## Channels, stooks and tallies after an update -/

section
variable {s t : State}

theorem chan_of_chs (h : t.chs = s.chs) (c : Nat) : chan t c = chan s c := congrArg (pget Channel.dflt · c) h
theorem faultOnly_chs (h : FaultOnly s t) : t.chs = s.chs := by rw [h.1]
theorem faultOnly_stooks (h : FaultOnly s t) : t.stooks = s.stooks := by rw [h.1]

variable (s)

@[simp] theorem chan_setChan_same (c : Nat) (x : Channel) : chan (setChan s c x) c = x := by
  rw [chan_setChan, if_pos rfl]
theorem chan_setChan_other (x : Channel) {c d : Nat} (h : d ≠ c) : chan (setChan s c x) d = chan s d := by
  rw [chan_setChan, if_neg h]
@[simp] theorem stook_setStook_same (k : Nat) (x : Stook) : stook (setStook s k x) k = x := by
  rw [stook_setStook, if_pos rfl]
theorem stook_setStook_other (x : Stook) {k j : Nat} (h : j ≠ k) : stook (setStook s k x) j = stook s j := by
  rw [stook_setStook, if_neg h]
@[simp] theorem stook_setChan (c k : Nat) (x : Channel) : stook (setChan s c x) k = stook s k := rfl
@[simp] theorem chan_count (id inst hi lo n c : Nat) : chan (count s id inst hi lo n) c = chan s c := rfl
@[simp] theorem stook_count (id inst hi lo n k : Nat) : stook (count s id inst hi lo n) k = stook s k := rfl
@[simp] theorem tally_setChan (c id inst : Nat) (x : Channel) : tally (setChan s c x) id inst = tally s id inst := rfl

/-- A whole-word tally counts one event. -/
theorem tally_count_word (id inst n : Nat) :
    bits (tally (count s id inst 31 0 n) id inst) 31 0 = satAdd (2 ^ 32 - 1) (bits (tally s id inst) 31 0) n :=
  tally_count_same s id inst n (by decide)
/-- A count in one tally register leaves those of every other identifier. -/
theorem tally_count_otherId (hi lo n : Nat) {id inst id' inst' : Nat} (h : id' ≠ id) (hi' : inst' < 512)
    (hi₀ : inst < 512) : tally (count s id inst hi lo n) id' inst' = tally s id' inst' :=
  tally_count_other s id inst hi lo n fun e => h ((attrKey_inj hi' hi₀).1 e).1
theorem tally_countMax_otherId (hi lo n : Nat) {id inst id' inst' : Nat} (h : id' ≠ id) (hi' : inst' < 512)
    (hi₀ : inst < 512) : tally (countMax s id inst hi lo n) id' inst' = tally s id' inst' :=
  pget_pset_any _ _ _ _ fun e => h ((attrKey_inj hi' hi₀).1 e).1

/-! ## What the shared operations of the front end leave alone -/

@[simp] theorem wakeStook_chs (k : Nat) : (wakeStook s k).chs = s.chs := by
  unfold wakeStook
  dsimp only
  split
  · rw [pllRequest_chs]; rfl
  · rfl
@[simp] theorem wakeStook_tal (k : Nat) : (wakeStook s k).tal = s.tal := by
  unfold wakeStook
  dsimp only
  split
  · rw [pllRequest_tal]; rfl
  · rfl
@[simp] theorem chan_wakeStook (k c : Nat) : chan (wakeStook s k) c = chan s c := chan_of_chs (wakeStook_chs s k) c
@[simp] theorem tally_wakeStook (k id inst : Nat) : tally (wakeStook s k) id inst = tally s id inst :=
  tally_eq_of_tal (wakeStook_tal s k) id inst

/-- Settings that take effect write their own channel, whose latch they leave (R77, R78). -/
theorem tryAna_cases (c : Nat) : tryAna s c = s ∨
    ∃ x : Channel, x.latch = (chan s c).latch ∧ tryAna s c = setChan s c x := by
  unfold tryAna
  dsimp only
  split
  · exact .inl rfl
  · refine .inr ⟨_, ?_, rfl⟩
    rfl
@[simp] theorem latch_tryAna (c d : Nat) : (chan (tryAna s c) d).latch = (chan s d).latch := by
  obtain h | ⟨x, hx, h⟩ := tryAna_cases s c
  · rw [h]
  · rw [h, chan_setChan]
    split
    · next hd => rw [hx, hd]
    · rfl
@[simp] theorem tryAna_stooks (c : Nat) : (tryAna s c).stooks = s.stooks := by
  obtain h | ⟨x, -, h⟩ := tryAna_cases s c <;> rw [h]
  rfl
@[simp] theorem tryAna_tal (c : Nat) : (tryAna s c).tal = s.tal := by
  obtain h | ⟨x, -, h⟩ := tryAna_cases s c <;> rw [h]
  rfl

end

/-! ## O15 -/

/-- From `s` to `t` only channel `c`, its stook, the tallies and the clock request may change. -/
def OwnOnly (c : Nat) (s t : State) : Prop :=
  t = { s with chs := t.chs, stooks := t.stooks, tal := t.tal, talNew := t.talNew, clk := t.clk } ∧
    (∀ d, d ≠ c → chan t d = chan s d) ∧ (∀ k, k ≠ c / 16 → stook t k = stook s k)

section
variable {c : Nat} {s t u : State}

theorem ownOnly_refl (s : State) : OwnOnly c s s := ⟨rfl, fun _ _ => rfl, fun _ _ => rfl⟩
theorem ownOnly_trans (h : OwnOnly c s t) (g : OwnOnly c t u) : OwnOnly c s u := by
  obtain ⟨hst, hch, hstook⟩ := h
  obtain ⟨gst, gch, gstook⟩ := g
  exact ⟨by rw [gst, hst], fun d hd => (gch d hd).trans (hch d hd), fun k hk => (gstook k hk).trans (hstook k hk)⟩
theorem ownOnly_ite {p : Prop} [Decidable p] (h : OwnOnly c s t) (g : OwnOnly c s u) :
    OwnOnly c s (if p then t else u) := by split <;> assumption

variable (s)

theorem ownOnly_setChan (x : Channel) : OwnOnly c s (setChan s c x) :=
  ⟨rfl, fun _ hd => chan_setChan_other s x hd, fun _ _ => rfl⟩
theorem ownOnly_setStook (x : Stook) : OwnOnly c s (setStook s (c / 16) x) :=
  ⟨rfl, fun _ _ => rfl, fun _ hk => stook_setStook_other s x hk⟩
theorem ownOnly_count (id inst hi lo n : Nat) : OwnOnly c s (count s id inst hi lo n) :=
  ⟨rfl, fun _ _ => rfl, fun _ _ => rfl⟩
theorem ownOnly_pllRequest : OwnOnly c s (pllRequest s) := by
  unfold pllRequest
  exact ownOnly_ite ⟨rfl, fun _ _ => rfl, fun _ _ => rfl⟩ ⟨rfl, fun _ _ => rfl, fun _ _ => rfl⟩
theorem ownOnly_wakeStook : OwnOnly c s (wakeStook s (c / 16)) := by
  unfold wakeStook
  have hbusy : OwnOnly c s (setStook s (c / 16) { stook s (c / 16) with busy := true }) := ownOnly_setStook s _
  exact ownOnly_ite (ownOnly_trans hbusy (ownOnly_trans (ownOnly_setStook ..) (ownOnly_pllRequest _))) hbusy
theorem ownOnly_tryAna : OwnOnly c s (tryAna s c) := by
  obtain h | ⟨x, -, h⟩ := tryAna_cases s c
  · rw [h]; exact ownOnly_refl s
  · rw [h]; exact ownOnly_setChan s x
/-- A channel is written and an event of it counted. -/
theorem ownOnly_setChan_count (x : Channel) (id inst hi lo n : Nat) :
    OwnOnly c s (count (setChan s c x) id inst hi lo n) :=
  ownOnly_trans (ownOnly_setChan s x) (ownOnly_count ..)
theorem ownOnly_acceptedEdge (fine lag inFlight : Nat) (forced : Bool) :
    OwnOnly c s (acceptedEdge s c fine lag inFlight forced) := by
  unfold acceptedEdge
  exact ownOnly_ite (ownOnly_setChan_count ..) (ownOnly_ite (ownOnly_setChan_count ..)
    (ownOnly_trans (ownOnly_setChan ..) (ownOnly_wakeStook _)))
theorem ownOnly_hitEdge (fine lag inFlight : Nat) (forced : Bool) :
    OwnOnly c s (hitEdge s c fine lag inFlight forced) := by
  unfold hitEdge
  extract_lets x s₁ s₂
  have h₂ : OwnOnly c s s₂ := ownOnly_setChan_count ..
  exact ownOnly_ite h₂ (ownOnly_ite (ownOnly_trans h₂ (ownOnly_setChan_count ..))
    (ownOnly_trans h₂ (ownOnly_acceptedEdge ..)))
/-- A command at the pads leads, where it leads, to the state it names. -/
theorem atPads_next (h : atPads s u = .next t) : t = u := by
  unfold atPads at h
  split at h
  · exact (Host.Outcome.next.inj h).symm
  · cases h

end

section
variable {c : Chan} {s t : State}

theorem ownOnly_of_atPads {u : State} (hu : OwnOnly c.val s u) (h : atPads s u = .next t) : OwnOnly c.val s t :=
  atPads_next s h ▸ hu
theorem ownOnly_execHitEdge {level : Int} {fine lag : BitVec 13} {k : Fin 4}
    (h : exec (.hitEdge c level fine lag k) s = .next t) : OwnOnly c.val s t :=
  ownOnly_of_atPads (ownOnly_ite (ownOnly_hitEdge ..) (ownOnly_refl s)) h
theorem ownOnly_execDiscriminatorRelease {level : Int} (h : exec (.discriminatorRelease c level) s = .next t) :
    OwnOnly c.val s t :=
  ownOnly_of_atPads (ownOnly_ite (ownOnly_setChan ..) (ownOnly_refl s)) h
theorem ownOnly_execSampleConverted {code : BitVec 14} (h : exec (.sampleConverted c code) s = .next t) :
    OwnOnly c.val s t :=
  ownOnly_of_atPads (ownOnly_ite (ownOnly_trans (ownOnly_setChan ..) (ownOnly_tryAna _)) (ownOnly_refl s)) h
theorem ownOnly_execTdcStop {raw : BitVec 24} (h : exec (.tdcStop c raw) s = .next t) : OwnOnly c.val s t := by
  refine ownOnly_of_atPads (ownOnly_ite ?_ (ownOnly_refl s)) h
  split
  · exact ownOnly_setChan ..
  · exact ownOnly_refl s
theorem ownOnly_execEntryComplete (h : exec (.entryComplete c) s = .next t) : OwnOnly c.val s t :=
  ownOnly_of_atPads (ownOnly_setChan ..) h
theorem ownOnly_execStuckBackoffReset (h : exec (.stuckBackoffReset c) s = .next t) : OwnOnly c.val s t :=
  Host.Outcome.next.inj h ▸ ownOnly_ite (ownOnly_setChan ..) (ownOnly_refl s)

end

/-- Settles O15, row by row. -/
theorem frontEndFrame : Obligations.FrontEndFrame := by
  rintro c i s t (⟨level, fine, lag, k, rfl⟩ | ⟨level, rfl⟩ | ⟨code, rfl⟩ | ⟨raw, rfl⟩ | rfl | rfl) h
  · exact ownOnly_execHitEdge h
  · exact ownOnly_execDiscriminatorRelease h
  · exact ownOnly_execSampleConverted h
  · exact ownOnly_execTdcStop h
  · exact ownOnly_execEntryComplete h
  · exact ownOnly_execStuckBackoffReset h

end Sys2Proof.Proofs
end

section
/-!
O13: a hit edge (R47, R48, R57, R63, R64, R74): first the activation, which every edge of an enabled channel at rest is, then
what becomes of the edge.
-/
namespace Sys2Proof.Proofs
open Sys2Proof Sys2Proof.Machine Sys2Proof.Laws

/-! ## The activation -/

/-- The channel whose discriminator goes active at this beat (R47, R48). -/
def activeChannel (s : State) (c : Nat) : Channel :=
  let x := chan s c
  { x with
    active := true, edgeNow := true, since := s.tb.up, origin := none, stuckDone := !canAllocate s c,
    edges := if x.masked then x.edges else x.edges + 1, tapHeld := true, tapResume := none,
    tapSince := if x.tapHeld then x.tapSince else s.tb.up, heldEdges := x.heldEdges + 1 }
/-- The state in which that edge is accepted, or not: the edge counts in `CH_HITS`. -/
def activated (s : State) (c : Nat) : State := count (setChan s c (activeChannel s c)) A_CH_HITS c 31 0 1
/-- What an edge shows whatever becomes of it: the discriminator, and the count of hits. -/
def edgeShown (s : State) (c : Nat) : Bool × Nat × Nat := ((chan s c).active, (chan s c).since, tally s A_CH_HITS c)

section
variable (s : State) (c : Nat)

@[simp] theorem chan_activated : chan (activated s c) c = activeChannel s c := by
  rw [activated, chan_count, chan_setChan_same]
@[simp] theorem canAllocate_activated : canAllocate (activated s c) c = canAllocate s c := by
  unfold canAllocate
  rw [chan_activated]
  rfl
@[simp] theorem latchDepth_activated : latchDepth (activated s c) c = latchDepth s c := by
  unfold latchDepth fused
  rw [chan_activated]
  rfl
/-- The entry follows from settings that the activation leaves alone. -/
@[simp] theorem newEntry_activated (fine lag inFlight : Nat) (forced : Bool) :
    newEntry (activated s c) c fine lag inFlight forced = newEntry s c fine lag inFlight forced := by
  unfold newEntry spacing fused
  rw [chan_activated]
  rfl
theorem tally_activated {id inst : Nat} (h : id ≠ A_CH_HITS) (hi : inst < 512) (hc : c < 512) :
    tally (activated s c) id inst = tally s id inst := tally_count_otherId _ _ _ _ h hi hc
theorem edgeShown_activated : edgeShown (activated s c) c = (true, s.tb.up, tally (activated s c) A_CH_HITS c) := by
  unfold edgeShown
  rw [chan_activated]
  rfl
theorem hits_activated : bits (tally (activated s c) A_CH_HITS c) 31 0 =
    satAdd (2 ^ 32 - 1) (bits (tally s A_CH_HITS c) 31 0) 1 := tally_count_word ..

theorem hitEdge_eq (fine lag inFlight : Nat) (forced : Bool) : hitEdge s c fine lag inFlight forced =
    if !canAllocate s c then activated s c
    else if earlyEdge s.tb.up (chan s c) fine then
      count (setChan (activated s c) c (addPile (activeChannel s c) 1)) A_CH_PILEUP c 31 0 1
    else acceptedEdge (activated s c) c fine lag inFlight forced := by
  rw [← canAllocate_activated, ← chan_activated]
  rfl

end

/-! ## What becomes of an edge -/

section
variable {s : State} {c : Nat} (fine lag inFlight : Nat) (forced : Bool)

theorem hitEdge_barred (h : canAllocate s c = false) : hitEdge s c fine lag inFlight forced = activated s c := by
  rw [hitEdge_eq, h]
  rfl
theorem hitEdge_early {fine : Nat} (ha : canAllocate s c = true) (he : earlyEdge s.tb.up (chan s c) fine = true) :
    hitEdge s c fine lag inFlight forced =
      count (setChan (activated s c) c (addPile (activeChannel s c) 1)) A_CH_PILEUP c 31 0 1 := by
  rw [hitEdge_eq, ha, he]
  rfl
theorem hitEdge_accepted {fine : Nat} (ha : canAllocate s c = true)
    (he : earlyEdge s.tb.up (chan s c) fine = false) :
    hitEdge s c fine lag inFlight forced = acceptedEdge (activated s c) c fine lag inFlight forced := by
  rw [hitEdge_eq, ha, he]
  rfl

/-- The channel with the time of an accepted edge (R57). -/
def acceptedAt (x : Channel) (up fine : Nat) : Channel := { x with lastAccepted := some (up * 8192 + fine) }

/-- A full latch (R63). -/
theorem acceptedEdge_full (h : latchDepth s c ≤ latchUsed s (chan s c)) : acceptedEdge s c fine lag inFlight forced =
    count (setChan s c { addPile (acceptedAt (chan s c) s.tb.up fine) 1 with overflow := true }) A_CH_PILEUP c 31 0 1 :=
  if_pos h
/-- An edge that prescale skips (R74). -/
theorem acceptedEdge_skipped (h : latchUsed s (chan s c) < latchDepth s c)
    (hk : (chan s c).numbered % 2 ^ prescaleCode (chan s c) ≠ 0) : acceptedEdge s c fine lag inFlight forced =
    count (setChan s c { acceptedAt (chan s c) s.tb.up fine with
      numbered := (chan s c).numbered + 1, repSkip := (chan s c).repSkip + 1 }) A_CH_PRESCALED c 31 0 1 :=
  (if_neg (Nat.not_le.2 h)).trans (if_pos hk)
/-- An edge that allocates its entry (R63, R74). -/
theorem acceptedEdge_taken (h : latchUsed s (chan s c) < latchDepth s c)
    (hk : (chan s c).numbered % 2 ^ prescaleCode (chan s c) = 0) : acceptedEdge s c fine lag inFlight forced =
    wakeStook (setChan s c { acceptedAt (chan s c) s.tb.up fine with
      numbered := (chan s c).numbered + 1, latch := (chan s c).latch ++ [newEntry s c fine lag inFlight forced],
      origin := some (newEntry s c fine lag inFlight forced), pile := 0, overflow := false }) (c / 16) :=
  (if_neg (Nat.not_le.2 h)).trans (if_neg (not_not_intro hk))

/-- A channel rewritten with its discriminator as it was, and another tally counted. -/
theorem edgeShown_count_setChan {x : Channel} {id : Nat} (hx : x.active = (chan s c).active ∧ x.since = (chan s c).since)
    (hid : A_CH_HITS ≠ id) (hc : c < 512) : edgeShown (count (setChan s c x) id c 31 0 1) c = edgeShown s c := by
  unfold edgeShown
  rw [chan_count, chan_setChan_same, hx.1, hx.2, tally_count_otherId _ _ _ _ hid hc hc, tally_setChan]
theorem edgeShown_acceptedEdge (hc : c < 512) :
    edgeShown (acceptedEdge s c fine lag inFlight forced) c = edgeShown s c := by
  rcases Nat.lt_or_ge (latchUsed s (chan s c)) (latchDepth s c) with h | h
  · by_cases hk : (chan s c).numbered % 2 ^ prescaleCode (chan s c) = 0
    · rw [acceptedEdge_taken _ _ _ _ h hk, edgeShown, chan_wakeStook, chan_setChan_same, tally_wakeStook]
      rfl
    · rw [acceptedEdge_skipped _ _ _ _ h hk]
      exact edgeShown_count_setChan ⟨rfl, rfl⟩ (by decide) hc
  · rw [acceptedEdge_full _ _ _ _ h]
    exact edgeShown_count_setChan ⟨rfl, rfl⟩ (by decide) hc
theorem edgeShown_hitEdge (hc : c < 512) :
    edgeShown (hitEdge s c fine lag inFlight forced) c = edgeShown (activated s c) c := by
  rw [hitEdge_eq]
  split
  · rfl
  split
  · refine edgeShown_count_setChan ?_ (by decide) hc
    rw [chan_activated]
    exact ⟨rfl, rfl⟩
  · exact edgeShown_acceptedEdge _ _ _ _ hc

/-- The latch and the pile-up count after an accepted edge, by the room in the latch and by prescale. -/
theorem acceptedEdge_outcome (hc : c < 512) :
    let t := acceptedEdge s c fine lag inFlight forced
    (chan t c).lastAccepted = some (s.tb.up * 8192 + fine) ∧
    (latchDepth s c ≤ latchUsed s (chan s c) → (chan t c).latch = (chan s c).latch ∧ (chan t c).overflow = true ∧
      bits (tally t A_CH_PILEUP c) 31 0 = satAdd (2 ^ 32 - 1) (bits (tally s A_CH_PILEUP c) 31 0) 1) ∧
    (latchUsed s (chan s c) < latchDepth s c → tally t A_CH_PILEUP c = tally s A_CH_PILEUP c ∧
      (chan t c).latch = (chan s c).latch ++ (if (chan s c).numbered % 2 ^ prescaleCode (chan s c) = 0 then
        [newEntry s c fine lag inFlight forced] else [])) := by
  intro t
  rcases Nat.lt_or_ge (latchUsed s (chan s c)) (latchDepth s c) with h | h
  · have hroom : ¬ latchDepth s c ≤ latchUsed s (chan s c) := Nat.not_le.2 h
    by_cases hk : (chan s c).numbered % 2 ^ prescaleCode (chan s c) = 0
    · have ht : t = _ := acceptedEdge_taken fine lag inFlight forced h hk
      rw [ht, chan_wakeStook, chan_setChan_same, tally_wakeStook, if_pos hk]
      exact ⟨rfl, fun hf => absurd hf hroom, fun _ => ⟨rfl, rfl⟩⟩
    · have ht : t = _ := acceptedEdge_skipped fine lag inFlight forced h hk
      rw [ht, chan_count, chan_setChan_same, tally_count_otherId _ _ _ _ (by decide) hc hc, if_neg hk, List.append_nil]
      exact ⟨rfl, fun hf => absurd hf hroom, fun _ => ⟨rfl, rfl⟩⟩
  · have ht : t = _ := acceptedEdge_full fine lag inFlight forced h
    rw [ht, chan_count, chan_setChan_same, tally_count_word]
    exact ⟨rfl, fun _ => ⟨rfl, rfl, rfl⟩, fun hl => absurd h (Nat.not_le.2 hl)⟩

end

/-! ## O13 -/

section
variable {c : Chan} {level : Int} {fine lag : BitVec 13} {k : Fin 4} {s : State}

theorem execHitEdge_short (hp : padsFree s = true) (h : beyondThreshold s c.val level = false) :
    exec (.hitEdge c level fine lag k) s = .next s := by
  change execHitEdge c level fine lag k s = _
  simp [execHitEdge, atPads, hp, h]
theorem execHitEdge_forms (hp : padsFree s = true) (hpow : powered s = true) (he : enabled s c.val = true)
    (ha : (chan s c.val).active = false) (h : beyondThreshold s c.val level = true) :
    exec (.hitEdge c level fine lag k) s = .next (hitEdge s c.val fine.toNat lag.toNat k.val false) := by
  change execHitEdge c level fine lag k s = _
  simp [execHitEdge, atPads, hp, hpow, he, ha, h]

end

/-- Settles O13: the activation, then its edge by whether the channel can allocate, the dead time, the latch and prescale. -/
theorem hitEdges : Obligations.HitEdges := by
  intro c level fine lag k s hp hpow he ha
  refine ⟨execHitEdge_short hp, fun hb => ⟨_, execHitEdge_forms hp hpow he ha hb, ?_⟩⟩
  have hc : c.val < 512 := Nat.lt_trans c.isLt (by decide)
  have hshown := edgeShown_hitEdge (s := s) fine.toNat lag.toNat k.val false hc
  rw [edgeShown_activated] at hshown
  obtain ⟨hactive, hsince, hhits⟩ : _ ∧ _ ∧ _ := by simpa only [edgeShown, Prod.mk.injEq] using hshown
  have hpile := tally_activated s c.val (id := A_CH_PILEUP) (by decide) hc hc
  refine ⟨hactive, hsince, by rw [hhits, hits_activated], fun hn => ?_, fun hy hearly => ?_, fun hy hlate => ?_⟩
  · rw [hitEdge_barred _ _ _ _ hn, chan_activated, hpile]
    exact ⟨rfl, rfl⟩
  · rw [hitEdge_early _ _ _ hy hearly, chan_count, chan_setChan_same, tally_count_word, tally_setChan, hpile]
    exact ⟨rfl, rfl, rfl⟩
  · have hout := acceptedEdge_outcome (s := activated s c.val) fine.toNat lag.toNat k.val false hc
    rw [chan_activated, latchDepth_activated, newEntry_activated, hpile] at hout
    rw [hitEdge_accepted _ _ _ hy hlate]
    exact hout

end Sys2Proof.Proofs
end

section
/-!
O14: the release of a discriminator, samples, TDC records and complete entries (R47, R53, R61, R110), and stuck inputs with
their back-off (R70 to R72).
-/
namespace Sys2Proof.Proofs
open Sys2Proof Sys2Proof.Machine Sys2Proof.Laws

theorem atPads_free {s : State} (h : padsFree s = true) (t : State) : atPads s t = .next t := if_pos h

/-! ## Windows -/

section
variable {c : Chan} {s : State}

/-- The channel after its release; the tap's hold ends GATE_HOLD beats later (R249). -/
def releasedChannel (s : State) (c : Nat) : Channel :=
  { chan s c with
    active := false, edgeNow := true, released := s.tb.up,
    tapResume := some (s.tb.up + bits (reg s A_MON_CONFIG 0) 15 8) }
theorem execDiscriminatorRelease_eq {level : Int} (hp : padsFree s = true) (hpow : powered s = true)
    (ha : (chan s c.val).active = true) : exec (.discriminatorRelease c level) s =
      .next (if belowRelease s c.val level then setChan s c.val (releasedChannel s c.val) else s) := by
  change execDiscriminatorRelease c level s = _
  unfold execDiscriminatorRelease
  rw [atPads_free hp, hpow, ha]
  rfl
theorem release_rests {level : Int} (hp : padsFree s = true) (hpow : powered s = true)
    (ha : (chan s c.val).active = true) (hb : belowRelease s c.val level = true) :
    ∃ t, exec (.discriminatorRelease c level) s = .next t ∧ (chan t c.val).active = false ∧
      (chan t c.val).latch = (chan s c.val).latch := by
  rw [execDiscriminatorRelease_eq hp hpow ha, if_pos hb]
  refine ⟨_, rfl, ?_⟩
  rw [chan_setChan_same]
  exact ⟨rfl, rfl⟩
theorem release_waits {level : Int} (hp : padsFree s = true) (hpow : powered s = true)
    (ha : (chan s c.val).active = true) (hb : belowRelease s c.val level = false) :
    exec (.discriminatorRelease c level) s = .next s := by
  rw [execDiscriminatorRelease_eq hp hpow ha, hb]
  rfl
theorem sample_fills (code : BitVec 14) (hp : padsFree s = true) (hpow : powered s = true) (hh : s.modes.cur ≠ .held)
    (he : enabled s c.val = true) :
    ∃ t, exec (.sampleConverted c code) s = .next t ∧
      (chan t c.val).latch = (chan s c.val).latch.map (takeSample code) := by
  refine ⟨_, atPads_free hp _, ?_⟩
  rw [if_pos (by simp [hpow, hh, he]), latch_tryAna, chan_setChan_same]
theorem tdc_records (raw : BitVec 24) {e : Entry} {rest : List Entry} (hp : padsFree s = true) (hpow : powered s = true)
    (hh : s.modes.cur ≠ .held) (hl : (chan s c.val).latch = e :: rest) (he : e.raw = none) :
    ∃ t, exec (.tdcStop c raw) s = .next t ∧
      (chan t c.val).latch = { e with raw := some raw } :: rest.map (stopOne raw e.tick) := by
  have hoff : (chan s c.val).latch.find? (fun e => e.raw.isNone) = some e := by simp [hl, he]
  have hown : stopOne raw e.tick e = { e with raw := some raw } := by simp [stopOne, he]
  refine ⟨_, atPads_free hp _, ?_⟩
  rw [if_pos (by simp [hpow, hh])]
  simp only [hoff, chan_setChan_same]
  rw [hl, List.map_cons, hown]
theorem entry_completes {e : Entry} {rest : List Entry} (hp : padsFree s = true) (hl : (chan s c.val).latch = e :: rest)
    (hc : e.complete = false) (hs : e.samples.length = 16) (hr : e.raw.isSome = true) :
    ∃ t, exec (.entryComplete c) s = .next t ∧ (chan t c.val).latch = { e with complete := true } :: rest := by
  refine ⟨_, atPads_free hp _, ?_⟩
  rw [chan_setChan_same]
  change completeFirst (chan s c.val).latch = _
  simp [hl, completeFirst, hc, hs, hr]

end

/-! ## Stuck inputs -/

section
variable (s : State) (c : Nat)

/-- The channel with one more episode (R72), its fault raised or not. -/
def episodeChannel (x : Channel) (raised : Bool) : Channel :=
  { x with episodes := x.episodes + 1, episodesEver := satAdd 65535 x.episodesEver 1, stuckRaised := raised }
/-- An episode counts in its channel, which may raise its fault (R72, R75). -/
theorem chan_stuckEpisode : ∃ raised, chan (stuckEpisode s c) c = episodeChannel (chan s c) raised := by
  let counted := count (setChan s c (episodeChannel (chan s c) (chan s c).stuckRaised)) A_CH_STUCK_EPISODES c 15 0 1
  have hcounted : chan counted c = episodeChannel (chan s c) (chan s c).stuckRaised := by
    rw [chan_count, chan_setChan_same]
  unfold stuckEpisode
  dsimp only
  split
  · refine ⟨true, ?_⟩
    rw [chan_of_chs (faultOnly_chs (faultOnly_raise ..)), chan_setChan_same]
    exact congrArg (fun x : Channel => { x with stuckRaised := true }) hcounted
  · exact ⟨(chan s c).stuckRaised, hcounted⟩
theorem stuckEntry_chs : (stuckEntry s c).2.chs = s.chs := by
  unfold stuckEntry
  dsimp only
  split <;> rfl
/-- What an expiry leaves in the channel's mask and back-off (R70, R71). -/
theorem stuckExpiry_masks : (chan (stuckExpiry s c) c).masked = true ∧
    (chan (stuckExpiry s c) c).backoff = (chan s c).nextBackoff ∧
    (chan (stuckExpiry s c) c).nextBackoff = nextBackoff (chan s c).nextBackoff := by
  unfold stuckExpiry
  extract_lets first
  have hchs : (if first then stuckEntry s c else (newEntry s c 0 0 0 false, s)).2.chs = s.chs := by
    split
    · exact stuckEntry_chs s c
    · rfl
  generalize (if first then stuckEntry s c else (newEntry s c 0 0 0 false, s)) = p at hchs ⊢
  obtain ⟨e, u⟩ := p
  obtain ⟨raised, hepisode⟩ := chan_stuckEpisode u c
  rw [chan_of_chs hchs] at hepisode
  dsimp only
  rw [hepisode]
  split
  · rw [chan_setChan_same]
    exact ⟨rfl, rfl, rfl⟩
  split
  · rw [chan_setChan_same]
    exact ⟨rfl, rfl, rfl⟩
  · rw [chan_wakeStook, chan_setChan_same]
    exact ⟨rfl, rfl, rfl⟩

end

section
variable {c : Chan} {s : State}

theorem stuck_expires (ha : (chan s c.val).active = true) (hd : (chan s c.val).stuckDone = false)
    (hy : canAllocate s c.val = true) (hl : (chan s c.val).since + reg s A_CH_STUCK_LIMIT c.val < s.tb.up) :
    ∃ t, exec (.stuckLimitExpiry c) s = .next t ∧ (chan t c.val).masked = true ∧
      (chan t c.val).backoff = (chan s c.val).nextBackoff ∧
      (chan t c.val).nextBackoff = min 40000 (2 * (chan s c.val).nextBackoff) :=
  ⟨_, congrArg Host.Outcome.next (if_pos (by simp [ha, hd, hy, hl])), stuckExpiry_masks s c.val⟩
/-- The end of a back-off re-arms a discriminator at rest, and masks an active one again (R72). -/
theorem backoff_ends (hm : (chan s c.val).masked = true) (hat : atBoundary s = true)
    (hdue : deckleDue (deckle s) (chan s c.val).backoffEnd = true) :
    ∃ t, exec (.stuckBackoffEnd c) s = .next t ∧
      ((chan s c.val).active = false → (chan t c.val).masked = false ∧ (chan t c.val).latch = (chan s c.val).latch) ∧
      ((chan s c.val).active = true → (chan t c.val).masked = true ∧
        (chan t c.val).backoff = (chan s c.val).nextBackoff ∧ (chan t c.val).latch = (chan s c.val).latch) := by
  refine ⟨_, congrArg Host.Outcome.next (if_pos (by simp [hm, hat, hdue])), fun hrest => ?_, fun hactive => ?_⟩
  · rw [if_neg (by simp [hrest]), chan_setChan_same]
    exact ⟨rfl, rfl⟩
  · obtain ⟨raised, hepisode⟩ := chan_stuckEpisode s c.val
    rw [if_pos hactive]
    dsimp only
    rw [chan_setChan_same, hepisode]
    exact ⟨hm, rfl, rfl⟩
theorem backoff_resets (hm : (chan s c.val).masked = false) (he : (chan s c.val).episodes ≠ 0)
    (ha : (chan s c.val).armedSince + 40000 ≤ s.tb.dk) :
    ∃ t, exec (.stuckBackoffReset c) s = .next t ∧ (chan t c.val).nextBackoff = 40 ∧ (chan t c.val).episodes = 0 := by
  refine ⟨_, congrArg Host.Outcome.next (if_pos (by simp [hm, he, ha])), ?_⟩
  rw [chan_setChan_same]
  exact ⟨rfl, rfl⟩

end

/-- Settles O14: the four rows of a window, then the three of a stuck input. -/
theorem windowsAndStuckInputs : Obligations.WindowsAndStuckInputs :=
  ⟨⟨fun _ _ _ hp hpow ha => ⟨release_rests hp hpow ha, release_waits hp hpow ha⟩,
    fun _ code _ hp hpow hh he _ => sample_fills code hp hpow hh he,
    fun _ raw _ _ _ hp hpow hh hl he => tdc_records raw hp hpow hh hl he,
    fun _ _ _ _ hp hl hc hs hr => entry_completes hp hl hc hs hr⟩,
   fun _ _ => stuck_expires, fun _ _ => backoff_ends, fun _ _ => backoff_resets⟩

end Sys2Proof.Proofs
end

section
/-!
O56: the stook clocks start with the core PLL and sleep when idle (R66, R68, R398), and so does the Granary interface (R398).
-/
namespace Sys2Proof.Proofs
open Sys2Proof Sys2Proof.Machine Sys2Proof.Laws

section
variable {k : StookId} {s : State}

/-- The first edge after a wake (R66). -/
def clockStarted (s : State) (k : Nat) : State :=
  count (setStook s k { stook s k with
    clock := true, idle := 0, busy := true, wake := if latchesEmpty s k then none else (stook s k).wake })
    A_STOOK_WAKES k 31 0 1
theorem execStookClockStart_eq (hw : (stook s k.val).wake.isSome = true) (hc : (stook s k.val).clock = false) :
    exec (.stookClockStart k) s = .next (if s.clk.pll = 2 then clockStarted s k.val else s) := by
  change execStookClockStart k s = _
  simp only [execStookClockStart, hw, hc, Bool.not_false, Bool.true_and, decide_eq_true_eq]
  rfl
theorem stookClock_starts (hw : (stook s k.val).wake.isSome = true) (hc : (stook s k.val).clock = false)
    (hpll : s.clk.pll = 2) : ∃ t, exec (.stookClockStart k) s = .next t ∧ (stook t k.val).clock = true ∧
      (stook t k.val).fill = (stook s k.val).fill ∧ (stook t k.val).drain = (stook s k.val).drain ∧ t.chs = s.chs ∧
      bits (tally t A_STOOK_WAKES k.val) 31 0 = satAdd (2 ^ 32 - 1) (bits (tally s A_STOOK_WAKES k.val) 31 0) 1 := by
  rw [execStookClockStart_eq hw hc, if_pos hpll]
  refine ⟨_, rfl, ?_⟩
  rw [clockStarted, stook_count, stook_setStook_same, tally_count_word]
  exact ⟨rfl, rfl, rfl, rfl, rfl⟩
theorem stookClock_waits (hw : (stook s k.val).wake.isSome = true) (hc : (stook s k.val).clock = false)
    (hpll : s.clk.pll ≠ 2) : exec (.stookClockStart k) s = .next s := by
  rw [execStookClockStart_eq hw hc, if_neg hpll]

/-- What R68 and R398 ask of a stook before it sleeps, its latches apart. -/
def StookAtRest (s : State) (k : Nat) : Prop :=
  serviceMode s.modes.cur = true ∧ (stook s k).clock = true ∧ (stook s k).busy = false ∧ (stook s k).waitq = [] ∧
    bitAt (reg s A_CK_CONFIG 0) 2 = false ∧ reg s A_CK_SLEEP_DECKLES 0 ≤ (stook s k).idle
theorem execStookSleep_idle (h : StookAtRest s k.val) : exec (.stookSleep k) s = .next (if latchesEmpty s k.val then
    setStook s k.val { stook s k.val with clock := false, wake := none, prepSince := s.tb.dk } else s) := by
  obtain ⟨hm, hc, hb, hq, hon, hidle⟩ := h
  change execStookSleep k s = _
  simp only [execStookSleep, hm, hc, hb, hq, hon, hidle, Bool.not_false, Bool.true_and, decide_true, List.isEmpty_nil,
    Bool.and_true]
theorem stook_sleeps (h : StookAtRest s k.val) (he : latchesEmpty s k.val = true) :
    ∃ t, exec (.stookSleep k) s = .next t ∧ (stook t k.val).clock = false ∧ t.chs = s.chs ∧ t.gran = s.gran := by
  rw [execStookSleep_idle h, if_pos he]
  refine ⟨_, rfl, ?_⟩
  rw [stook_setStook_same]
  exact ⟨rfl, rfl, rfl⟩
theorem stook_keepsEntries (h : StookAtRest s k.val) (he : latchesEmpty s k.val = false) :
    exec (.stookSleep k) s = .next s := by
  rw [execStookSleep_idle h, he]
  rfl
/-- Outside service, with a sheaf that waits or with `STOOK_ON` no stook sleeps. -/
theorem stook_staysAwake (h : serviceMode s.modes.cur = false ∨ (stook s k.val).waitq ≠ [] ∨
    bitAt (reg s A_CK_CONFIG 0) 2 = true) : exec (.stookSleep k) s = .next s := by
  refine congrArg Host.Outcome.next (if_neg ?_)
  rcases h with h | h | h <;> simp [h]

/-- The Granary interface at a boundary of service, by whether it is idle (R398). -/
theorem execGranaryInterfaceSleep_eq (hat : atBoundary s = true) (hm : serviceMode s.modes.cur = true)
    (hc : s.gran.clock = true) : exec .granaryInterfaceSleep s = .next (
      if !s.gran.busy && !s.gran.bursting && decide (reg s A_CK_SLEEP_DECKLES 0 ≤ s.gran.idle) then
        { s with gran := { s.gran with clock := false, scrubSince := 0 } } else s) := by
  change execGranaryInterfaceSleep s = _
  simp only [execGranaryInterfaceSleep, hat, hm, hc, Bool.true_and]
theorem granary_sleeps (hat : atBoundary s = true) (hm : serviceMode s.modes.cur = true) (hc : s.gran.clock = true)
    (hb : s.gran.busy = false) (hburst : s.gran.bursting = false) (hidle : reg s A_CK_SLEEP_DECKLES 0 ≤ s.gran.idle) :
    ∃ t, exec .granaryInterfaceSleep s = .next t ∧ t.gran.clock = false ∧ t.gran.units = s.gran.units ∧
      t.gran.powered = s.gran.powered := by
  rw [execGranaryInterfaceSleep_eq hat hm hc, if_pos (by simp [hb, hburst, hidle])]
  exact ⟨_, rfl, rfl, rfl, rfl⟩
theorem granary_staysAwake (hat : atBoundary s = true) (hm : serviceMode s.modes.cur = true) (hc : s.gran.clock = true)
    (h : s.gran.busy = true ∨ s.gran.bursting = true) : exec .granaryInterfaceSleep s = .next s := by
  rw [execGranaryInterfaceSleep_eq hat hm hc, if_neg]
  rcases h with h | h <;> simp [h]

end

/-- Settles O56: the start of a stook's clock, the sleep of a stook, and that of the Granary interface. -/
theorem clockSleep : Obligations.ClockSleep := by
  refine ⟨fun k s hw hc => ⟨stookClock_starts hw hc, stookClock_waits hw hc⟩, fun k s hm hc hb hq hon hidle => ?_,
    fun k s => stook_staysAwake, fun s hat hm hc => ⟨granary_sleeps hat hm hc, granary_staysAwake hat hm hc⟩⟩
  have h : StookAtRest s k.val := ⟨hm, hc, hb, hq, hon, hidle⟩
  exact ⟨stook_sleeps h, stook_keepsEntries h⟩

end Sys2Proof.Proofs
end

section
/-!
A raise counts in the fault collector's tallies (attributes from `FLT_COUNT` on) and leaves the tallies of the units below them.
-/
namespace Sys2Proof.Proofs
open Sys2Proof Sys2Proof.Machine Sys2Proof.Laws

/-- The tallies of the attributes before the fault collector's counts. -/
def unitTallies (m : PMap Nat) : Nat → Nat := fun k => if k < A_FLT_COUNT * 512 then pget 0 m k else 0

section
variable (s : State)

theorem tally_of_unitTallies {s t : State} (h : unitTallies t.tal = unitTallies s.tal) {id inst : Nat}
    (hid : id < A_FLT_COUNT) (hi : inst < 512) : tally t id inst = tally s id inst := by
  have hkey : id * 512 + inst < A_FLT_COUNT * 512 := by omega
  have hk := congrFun h (id * 512 + inst)
  rwa [unitTallies, unitTallies, if_pos hkey, if_pos hkey] at hk
theorem unitTallies_ite {p : Prop} [Decidable p] {t u : State} {m : Nat → Nat} (ht : unitTallies t.tal = m)
    (hu : unitTallies u.tal = m) : unitTallies (if p then t else u).tal = m := by split <;> assumption

/-- A count of the collector's own. -/
theorem unitTallies_count (inst hi lo n : Nat) {id : Nat} (h : A_FLT_COUNT ≤ id) :
    unitTallies (count s id inst hi lo n).tal = unitTallies s.tal := by
  funext k
  unfold unitTallies
  split
  · next hk => exact pget_pset_any _ _ _ _ (by omega)
  · rfl
theorem assertErr_tal : (assertErr s).tal = s.tal := by
  have hclosed : ∀ (l : List (Req × Nat)) (s : State),
      (l.foldl (fun s e => closeCmd s e.1 0x54 0x0C 0 []) s).tal = s.tal := by
    intro l
    induction l with
    | nil => exact fun _ => rfl
    | cons e l ih => exact fun s => (ih _).trans (reply_tal ..)
  unfold assertErr
  split
  · exact hclosed ..
  · split <;> rfl
theorem causeRecovery_tal (code : Byte) : (causeRecovery s code).tal = s.tal := by
  unfold causeRecovery
  split <;> rfl
theorem recoveryFail_tal : (recoveryFail s).tal = s.tal := by
  unfold recoveryFail
  split <;> rfl
theorem unitTallies_escalateBeyond (key : Nat) : unitTallies (escalateBeyond s key).tal = unitTallies s.tal := by
  unfold escalateBeyond
  extract_lets s₁ s₂
  have h₂ : unitTallies s₂.tal = unitTallies s.tal := by
    rw [assertErr_tal]
    exact unitTallies_count _ _ _ _ _ (by decide)
  split
  · rw [causeRecovery_tal]; exact h₂
  · rw [causeRecovery_tal]; exact h₂
  · rw [recoveryFail_tal]; exact h₂
  · exact h₂
theorem unitTallies_queueAct (a : Act) : unitTallies (queueAct s a).tal = unitTallies s.tal := by
  unfold queueAct
  refine unitTallies_ite rfl (unitTallies_ite rfl (unitTallies_ite ?_ ?_))
  · exact unitTallies_escalateBeyond ..
  · exact unitTallies_count _ _ _ _ _ (by decide)
theorem unitTallies_logRaise (f : FaultRec) : unitTallies (logRaise s f).tal = unitTallies s.tal :=
  unitTallies_ite (t := s) rfl (unitTallies_count _ _ _ _ _ (by decide))
theorem unitTallies_react (f : FaultRec) : unitTallies (react s f).tal = unitTallies s.tal := by
  unfold react
  extract_lets m window target s₁ _ s₂ _ s₃ isolates long stop _ s₄ s₅
  have h₁ : unitTallies s₁.tal = unitTallies s.tal := unitTallies_ite (congrArg _ (assertErr_tal s)) rfl
  have h₂ : unitTallies s₂.tal = unitTallies s.tal := unitTallies_ite h₁ h₁
  have h₃ : unitTallies s₃.tal = unitTallies s.tal := unitTallies_ite h₂ h₂
  have h₄ : unitTallies s₄.tal = unitTallies s.tal := unitTallies_ite h₃ h₃
  have h₅ : unitTallies s₅.tal = unitTallies s.tal := unitTallies_ite h₄ h₄
  clear_value isolates s₅
  split
  · exact (unitTallies_queueAct ..).trans h₅
  · exact unitTallies_ite h₅ h₅
theorem unitTallies_raise (src inst ctx : Nat) : unitTallies (raise s src inst ctx).tal = unitTallies s.tal := by
  unfold raise
  refine unitTallies_ite rfl ?_
  have hcount : unitTallies (count s A_FLT_COUNT src 15 0 1).tal = unitTallies s.tal :=
    unitTallies_count _ _ _ _ _ (by decide)
  dsimp only
  split
  · exact hcount
  · rw [unitTallies_react, unitTallies_logRaise]
    split <;> exact hcount
/-- A raise leaves the tallies of every unit. -/
theorem tally_raise (src inst ctx : Nat) {id i : Nat} (hid : id < A_FLT_COUNT) (hi : i < 512) :
    tally (raise s src inst ctx) id i = tally s id i := tally_of_unitTallies (unitTallies_raise ..) hid hi

end

end Sys2Proof.Proofs
end

section
/-!
O20: the Winnower's reads (R62, R65, R70, R123, R134, R135) and the code of a charge (R129).
-/
namespace Sys2Proof.Proofs
open Sys2Proof Sys2Proof.Machine Sys2Proof.Laws

/-! ## Charges (R129) -/

section
variable {q : Nat}

theorem chargeCode_fine (h : q < 16384) : chargeCode q = (0, q) := if_pos h
theorem chargeCode_middle (h : 16384 ≤ q) (h' : q < 65536) : chargeCode q = (1, q / 4) := by
  rw [chargeCode, if_neg (by omega), if_pos h']
theorem chargeCode_coarse (h : 65536 ≤ q) (h' : q ≤ 262143) : chargeCode q = (2, q / 16) := by
  rw [chargeCode, if_neg (by omega), if_neg (by omega), Nat.min_eq_left (by omega)]
theorem chargeCode_accurate (hq : q ≤ 262143) : (chargeCode q).1 < 3 ∧ (chargeCode q).2 < 2 ^ 14 ∧
    (chargeCode q).2 * 4 ^ (chargeCode q).1 ≤ q ∧ q - (chargeCode q).2 * 4 ^ (chargeCode q).1 ≤ 15 ∧
    (q < 16384 → (chargeCode q).2 = q) := by
  rcases Nat.lt_or_ge q 16384 with h | h
  · rw [chargeCode_fine h]
    dsimp only
    omega
  rcases Nat.lt_or_ge q 65536 with h' | h'
  · rw [chargeCode_middle h h']
    dsimp only
    omega
  · rw [chargeCode_coarse h' hq]
    dsimp only
    omega

end

/-! ## The sheaf of an entry (R134, R135) -/

/-- Keep and long of an entry: a STUCK entry is both (R70, R134). -/
def keptLong (s : State) (c : Nat) (e : Entry) (f : Features) : Bool × Bool :=
  let cfg := wnReg s e A_WN_CONFIG c
  let x := chan s c
  if e.stuck then (true, true)
  else keepLong (wnReg s e A_WN_KEEP_TABLE (bits cfg 2 0))
    (keepFlags e f (e.overflow || x.carryOverflow) (satAdd 15 e.pile x.carryPile) (bitAt cfg 8)) f.p f.q
/-- The sheaf of an entry in a format: 1 short, 2 long, 3 stuck. -/
def hitSheaf (s : State) (c : Nat) (e : Entry) (f : Features) (type : Nat) : Sheaf :=
  let x := chan s c
  let cfg := wnReg s e A_WN_CONFIG c
  { src := c / 16, cls := if bitAt cfg 9 then 1 else 2, hit := some (c, timeBeat f.rep),
    words := hitWords type c (x.codes.getD (s.tb.dk - e.deckle) 0) e f (satAdd 15 e.pile x.carryPile) ++
      (if type = 1 then [] else longWords s c (bits cfg 11 10) x.chaffSince e f (e.overflow || x.carryOverflow)) }

section
variable {s : State} {c : Nat} {e : Entry} {f : Features} {x : Sheaf}

theorem winnow_eq (s : State) (c : Nat) (e : Entry) (f : Features) : winnow s c e f =
    if !(keptLong s c e f).1 then none
    else some (hitSheaf s c e f (if e.stuck then 3 else if (keptLong s c e f).2 then 2 else 1)) := rfl
theorem keptLong_stuck (h : e.stuck = true) : keptLong s c e f = (true, true) := if_pos h
theorem winnow_stuck (h : e.stuck = true) : winnow s c e f = some (hitSheaf s c e f 3) := by
  rw [winnow_eq, keptLong_stuck h, h]
  rfl
theorem winnow_some (h : winnow s c e f = some x) :
    x = hitSheaf s c e f (if e.stuck then 3 else if (keptLong s c e f).2 then 2 else 1) := by
  rw [winnow_eq] at h
  split at h
  · cases h
  · exact (Option.some.inj h).symm
theorem hitWords_length (type c prescale : Nat) (e : Entry) (f : Features) (pile : Nat) :
    (hitWords type c prescale e f pile).length = 2 := rfl
theorem longWords_length (s : State) (c kind chaff : Nat) (e : Entry) (f : Features) (overflow : Bool) :
    (longWords s c kind chaff e f overflow).length = 6 := rfl
/-- A short sheaf has 2 words, a long or stuck one 8 (R135). -/
theorem hitSheaf_length (type : Nat) : (hitSheaf s c e f type).words.length = if type = 1 then 2 else 8 := by
  unfold hitSheaf
  dsimp only
  rw [List.length_append, hitWords_length]
  split
  · rfl
  · rw [longWords_length]
theorem winnow_length (h : winnow s c e f = some x) : x.words.length = 2 ∨ x.words.length = 8 := by
  rw [winnow_some h, hitSheaf_length]
  exact ite_eq_or_eq _ _ _
/-- Every sheaf of an entry takes room in the output queue. -/
theorem winnow_entries (h : winnow s c e f = some x) : sheafEntries x ≠ 0 := by
  unfold sheafEntries
  rcases winnow_length h with hl | hl <;> rw [hl] <;> decide

end

/-! ## The entry leaves the latch (R62) -/

section
variable (s : State)

theorem wakeEnds_chs (k : Nat) : (wakeEnds s k).chs = s.chs := by
  unfold wakeEnds
  dsimp only
  split <;> rfl
theorem outq_wakeEnds (k j : Nat) : (stook (wakeEnds s k) j).outq = (stook s j).outq := by
  unfold wakeEnds
  dsimp only
  split
  · rfl
  · change (stook (setStook s k { stook s k with wake := none }) j).outq = _
    rw [stook_setStook]
    split
    · next hj => rw [hj]
    · rfl
theorem tally_wakeEnds {k id inst : Nat} (hid : id ≠ A_STOOK_WAKE_MAX) (hi : inst < 512) (hk : k < 512) :
    tally (wakeEnds s k) id inst = tally s id inst := by
  unfold wakeEnds
  dsimp only
  split
  · rfl
  · exact tally_countMax_otherId _ _ _ _ hid hi hk

/-- The channel of an entry that is read, where no STUCK entry waits. -/
def readChannel (x : Channel) (up : Nat) : Channel :=
  { x with latch := x.latch.drop 1, lastRead := some up, stuckWait := none }
theorem popLatch_eq {s : State} {c : Nat} (h : (chan s c).stuckWait = none) : popLatch s c =
    tryAna (tryAna (wakeEnds (setChan s c (readChannel (chan s c) s.tb.up)) (c / 16)) c) (partner c) := by
  unfold popLatch
  dsimp only
  rw [h]
  rfl
theorem latch_popLatch {s : State} {c : Nat} (h : (chan s c).stuckWait = none) :
    (chan (popLatch s c) c).latch = (chan s c).latch.drop 1 := by
  rw [popLatch_eq h, latch_tryAna, latch_tryAna, chan_of_chs (wakeEnds_chs ..), chan_setChan_same]
  rfl
theorem outq_popLatch (c k : Nat) : (stook (popLatch s c) k).outq = (stook s k).outq := by
  unfold popLatch
  dsimp only
  rw [stook_of_stooks (tryAna_stooks ..), stook_of_stooks (tryAna_stooks ..), outq_wakeEnds]
  rfl
theorem tally_popLatch {c id inst : Nat} (hid : id ≠ A_STOOK_WAKE_MAX) (hi : inst < 512) (hc : c < 512) :
    tally (popLatch s c) id inst = tally s id inst := by
  unfold popLatch
  dsimp only
  rw [tally_eq_of_tal (tryAna_tal ..), tally_eq_of_tal (tryAna_tal ..), tally_wakeEnds _ hid hi (by omega)]
  rfl

/-! ## The output queue -/

theorem mem_enqueue (x : Sheaf) (q : List Sheaf) : x ∈ enqueue s x q := by
  unfold enqueue
  exact List.mem_append_right _ (List.mem_cons_self ..)
theorem length_enqueue (x : Sheaf) (q : List Sheaf) : (enqueue s x q).length = q.length + 1 := by
  unfold enqueue
  rw [List.length_append, List.length_cons, ← Nat.add_assoc, ← List.length_append, List.takeWhile_append_dropWhile]
theorem outq_outQueue (k : Nat) (x : Sheaf) : (stook (outQueue s k x) k).outq = enqueue s x (stook s k).outq := by
  unfold outQueue
  rw [stook_setStook_same]
theorem chan_outQueue (k c : Nat) (x : Sheaf) : chan (outQueue s k x) c = chan s c := rfl
theorem tally_outQueue (k id inst : Nat) (x : Sheaf) : tally (outQueue s k x) id inst = tally s id inst := rfl

/-! ## An entry is processed (R134 to R136) -/

/-- What the Winnower finds about an entry is counted. -/
def noted (s : State) (c : Nat) (f : Features) : State :=
  let s := if f.invalid then count s A_TDC_INVALID c 15 0 1 else s
  let s := if f.cfdFailed then count s A_WN_CFD_FAIL c 15 0 1 else s
  if f.suspect then count s A_WN_SUSPECT c 15 0 1 else s
theorem ite_count_stooks {p : Prop} [Decidable p] (id inst hi lo n : Nat) :
    (if p then count s id inst hi lo n else s).stooks = s.stooks := by split <;> rfl
theorem noted_stooks (c : Nat) (f : Features) : (noted s c f).stooks = s.stooks := by
  unfold noted
  dsimp only
  rw [ite_count_stooks, ite_count_stooks, ite_count_stooks]
theorem tally_ite_count {p : Prop} [Decidable p] {c id id' inst hi : Nat} (h : id' ≠ id) (hi' : inst < 512)
    (hc : c < 512) : tally (if p then count s id c hi 0 1 else s) id' inst = tally s id' inst := by
  split
  · exact tally_count_otherId _ _ _ _ h hi' hc
  · rfl
theorem tally_noted {c id inst : Nat} (f : Features) (ht : id ≠ A_TDC_INVALID) (hf : id ≠ A_WN_CFD_FAIL)
    (hs : id ≠ A_WN_SUSPECT) (hi : inst < 512) (hc : c < 512) : tally (noted s c f) id inst = tally s id inst := by
  unfold noted
  dsimp only
  rw [tally_ite_count _ hs hi hc, tally_ite_count _ hf hi hc, tally_ite_count _ ht hi hc]

/-- The channel after a kept entry, and after chaff, which carries its pile-up and OVERFLOW on (R136, R148). -/
def keptChannel (x : Channel) : Channel :=
  { x with carryPile := 0, carryOverflow := false, chaffSince := 0, repKept := x.repKept + 1 }
def chaffChannel (x : Channel) (e : Entry) : Channel :=
  { x with carryPile := satAdd 15 e.pile x.carryPile, carryOverflow := e.overflow || x.carryOverflow,
           chaffSince := satAdd 65535 x.chaffSince 1, repChaff := x.repChaff + 1 }

variable {s} {c : Nat} {e : Entry} {x : Sheaf}

theorem processEntry_kept (h : winnow s c e (features s c e) = some x) : processEntry s c e =
    outQueue (count (popLatch (setChan (noted s c (features s c e)) c (keptChannel (chan s c))) c) A_WN_KEPT c 31 0 1)
      (c / 16) x := by
  unfold processEntry
  dsimp only
  rw [h]
  rfl
theorem processEntry_chaff (h : winnow s c e (features s c e) = none) : processEntry s c e =
    count (popLatch (setChan (noted s c (features s c e)) c (chaffChannel (chan s c) e)) c) A_WN_CHAFF c 31 0 1 := by
  unfold processEntry
  dsimp only
  rw [h]
  rfl

/-- The read of an entry of a channel whose record is rewritten to `y`: latch, queue and the two counts. -/
theorem read_noted {y : Channel} (hl : y.latch = (chan s c).latch) (hw : y.stuckWait = none) (hc : c < 512) (f : Features) :
    let u := popLatch (setChan (noted s c f) c y) c
    (chan u c).latch = (chan s c).latch.drop 1 ∧ (∀ k, (stook u k).outq = (stook s k).outq) ∧
      tally u A_WN_KEPT c = tally s A_WN_KEPT c ∧ tally u A_WN_CHAFF c = tally s A_WN_CHAFF c := by
  refine ⟨?_, fun k => ?_, ?_, ?_⟩
  · rw [latch_popLatch (by rw [chan_setChan_same]; exact hw), chan_setChan_same, hl]
  · rw [outq_popLatch, stook_setChan, stook_of_stooks (noted_stooks ..)]
  · rw [tally_popLatch _ (by decide) hc hc, tally_setChan, tally_noted _ _ (by decide) (by decide) (by decide) hc hc]
  · rw [tally_popLatch _ (by decide) hc hc, tally_setChan, tally_noted _ _ (by decide) (by decide) (by decide) hc hc]

end

/-! ## The four ends of a read (R62, R65, R123) -/

/-- Staging entries that the outcome of an entry takes; chaff takes none. -/
def sizeOf : Option Sheaf → Nat
  | some x => sheafEntries x
  | none => 0
/-- A read that stalls (R123). -/
def stalled (s : State) (k : Nat) : State := count (noteDone s 4 k) A_WN_STALLS k 31 0 1
/-- The counts of an uncorrectable entry (R65), before its fault is raised. -/
def entryLost (s : State) (c : Nat) : State :=
  count (count (popLatch (setChan s c (addPile (chan s c) 1)) c) A_CH_ENTRY_ERRORS c 15 0 1) A_CH_PILEUP c 31 0 1

section
variable {c : Chan} {e : Entry} {s : State} {x : Sheaf}

theorem execRead_clean (hr : readable s c.val = some e) : exec (.winnowerReadEntry c .clean) s =
    .next (if sizeOf (winnow s c.val e (features s c.val e)) ≠ 0 &&
        !queueTakes (stook s (c.val / 16)) (sizeOf (winnow s c.val e (features s c.val e))) then
      stalled s (c.val / 16) else processEntry s c.val e) := by
  change execWinnowerReadEntry c .clean s = _
  unfold execWinnowerReadEntry
  rw [hr]
  rfl
theorem execRead_lost (hr : readable s c.val = some e) : exec (.winnowerReadEntry c (.lost false)) s =
    .next (raise (entryLost s c.val) 25 c.val (bits (tally (entryLost s c.val) A_CH_ENTRY_ERRORS c.val) 15 0)) := by
  change execWinnowerReadEntry c (.lost false) s = _
  unfold execWinnowerReadEntry
  rw [hr]
  rfl

/-- A kept entry whose sheaf the queue takes. -/
theorem read_keeps (hr : readable s c.val = some e) (hw : (chan s c.val).stuckWait = none)
    (hx : winnow s c.val e (features s c.val e) = some x)
    (hq : queueTakes (stook s (c.val / 16)) (sheafEntries x) = true) :
    ∃ t, exec (.winnowerReadEntry c .clean) s = .next t ∧ (chan t c.val).latch = (chan s c.val).latch.drop 1 ∧
      x ∈ (stook t (c.val / 16)).outq ∧
      (stook t (c.val / 16)).outq.length = (stook s (c.val / 16)).outq.length + 1 ∧
      bits (tally t A_WN_KEPT c.val) 31 0 = satAdd (2 ^ 32 - 1) (bits (tally s A_WN_KEPT c.val) 31 0) 1 := by
  have hc : c.val < 512 := Nat.lt_trans c.isLt (by decide)
  obtain ⟨hlatch, houtq, hkept, -⟩ :=
    read_noted (y := keptChannel (chan s c.val)) rfl hw hc (features s c.val e)
  rw [execRead_clean hr, if_neg (by simp [hx, sizeOf, hq]), processEntry_kept hx]
  refine ⟨_, rfl, ?_, ?_, ?_, ?_⟩
  · rw [chan_outQueue, chan_count, hlatch]
  · rw [outq_outQueue]
    exact mem_enqueue ..
  · rw [outq_outQueue, length_enqueue, stook_count, houtq]
  · rw [tally_outQueue, tally_count_word, hkept]
theorem read_chaffs (hr : readable s c.val = some e) (hw : (chan s c.val).stuckWait = none)
    (hx : winnow s c.val e (features s c.val e) = none) :
    ∃ t, exec (.winnowerReadEntry c .clean) s = .next t ∧ (chan t c.val).latch = (chan s c.val).latch.drop 1 ∧
      (stook t (c.val / 16)).outq = (stook s (c.val / 16)).outq ∧
      bits (tally t A_WN_CHAFF c.val) 31 0 = satAdd (2 ^ 32 - 1) (bits (tally s A_WN_CHAFF c.val) 31 0) 1 := by
  have hc : c.val < 512 := Nat.lt_trans c.isLt (by decide)
  obtain ⟨hlatch, houtq, -, hchaff⟩ :=
    read_noted (y := chaffChannel (chan s c.val) e) rfl hw hc (features s c.val e)
  rw [execRead_clean hr, if_neg (by simp [hx, sizeOf]), processEntry_chaff hx]
  refine ⟨_, rfl, ?_, ?_, ?_⟩
  · rw [chan_count, hlatch]
  · rw [stook_count, houtq]
  · rw [tally_count_word, hchaff]
/-- An uncorrectable entry: its fault leaves the channel, the queue and the two counts. -/
theorem read_loses (hr : readable s c.val = some e) (hw : (chan s c.val).stuckWait = none) :
    ∃ t, exec (.winnowerReadEntry c (.lost false)) s = .next t ∧
      (chan t c.val).latch = (chan s c.val).latch.drop 1 ∧
      (stook t (c.val / 16)).outq = (stook s (c.val / 16)).outq ∧
      bits (tally t A_CH_PILEUP c.val) 31 0 = satAdd (2 ^ 32 - 1) (bits (tally s A_CH_PILEUP c.val) 31 0) 1 ∧
      bits (tally t A_CH_ENTRY_ERRORS c.val) 15 0 = satAdd 65535 (bits (tally s A_CH_ENTRY_ERRORS c.val) 15 0) 1 := by
  have hc : c.val < 512 := Nat.lt_trans c.isLt (by decide)
  have hfault := faultOnly_raise (entryLost s c.val) 25 c.val
    (bits (tally (entryLost s c.val) A_CH_ENTRY_ERRORS c.val) 15 0)
  have hwait : (chan (setChan s c.val (addPile (chan s c.val) 1)) c.val).stuckWait = none := by
    rw [chan_setChan_same]
    exact hw
  rw [execRead_lost hr]
  refine ⟨_, rfl, ?_, ?_, ?_, ?_⟩
  · rw [chan_of_chs (faultOnly_chs hfault), entryLost, chan_count, chan_count, latch_popLatch hwait, chan_setChan_same]
    rfl
  · rw [stook_of_stooks (faultOnly_stooks hfault), entryLost, stook_count, stook_count, outq_popLatch, stook_setChan]
  · rw [tally_raise _ _ _ _ (by decide) hc, entryLost, tally_count_word, tally_count_otherId _ _ _ _ (by decide) hc hc,
      tally_popLatch _ (by decide) hc hc, tally_setChan]
  · rw [tally_raise _ _ _ _ (by decide) hc, entryLost, tally_count_otherId _ _ _ _ (by decide) hc hc,
      tally_count_same _ _ _ _ (by decide), tally_popLatch _ (by decide) hc hc, tally_setChan]
    rfl
/-- An entry whose sheaf the queue cannot take stays. -/
theorem read_stalls (hr : readable s c.val = some e) (hx : winnow s c.val e (features s c.val e) = some x)
    (hq : queueTakes (stook s (c.val / 16)) (sheafEntries x) = false) :
    ∃ t, exec (.winnowerReadEntry c .clean) s = .next t ∧ t.chs = s.chs ∧ t.stooks = s.stooks ∧
      bits (tally t A_WN_STALLS (c.val / 16)) 31 0 =
        satAdd (2 ^ 32 - 1) (bits (tally s A_WN_STALLS (c.val / 16)) 31 0) 1 := by
  rw [execRead_clean hr, if_pos (by simp [hx, sizeOf, hq, winnow_entries hx])]
  exact ⟨_, rfl, rfl, rfl, tally_count_word ..⟩

end

/-- Settles O20: the four ends of a read, the sheaf of a kept entry, and the code of a charge. -/
theorem winnower : Obligations.Winnower := by
  refine ⟨fun c e s hr hw => ⟨fun x => read_keeps hr hw, read_chaffs hr hw, read_loses hr hw, fun x => read_stalls hr⟩,
    fun s c e f => ⟨fun hstuck => ?_, fun x hx => ⟨?_, ?_, winnow_length hx, fun hstuck => ?_⟩⟩,
    fun q => chargeCode_accurate⟩
  · rw [winnow_stuck hstuck]
    rfl
  · rw [winnow_some hx]
    rfl
  · rw [winnow_some hx]
    rfl
  · rw [winnow_some hx, hitSheaf_length, if_pos hstuck]
    rfl

end Sys2Proof.Proofs
end

section
/-!
What the boundary's work leaves of the time base: everything but the slew planned for the deckle and the measured frequency
ratio, which `timeDeckle` writes.
-/
namespace Sys2Proof.Proofs
open Sys2Proof Sys2Proof.Machine Sys2Proof.Laws

/-! ## How an operation is taken apart -/

theorem faultOnly_tb {s t : State} (h : FaultOnly s t) : t.tb = s.tb := by rw [h.1]
@[simp] theorem tb_ite (c : Prop) [Decidable c] (a b : State) : (if c then a else b).tb = if c then a.tb else b.tb := by
  split <;> rfl
@[simp] theorem tb_forNat (n : Nat) (f : Nat → State → State) (s : State) (h : ∀ k x, (f k x).tb = x.tb) :
    (forNat n f s).tb = s.tb := by
  induction n with
  | zero => rfl
  | succ n ih => rw [forNat, h, ih]
@[simp] theorem tb_foldl {α : Type} (l : List α) (f : State → α → State) (s : State) (h : ∀ x a, (f x a).tb = x.tb) :
    (l.foldl f s).tb = s.tb := by
  induction l generalizing s with
  | nil => rfl
  | cons a l ih => rw [List.foldl_cons, ih, h]

section
variable (s : State)

/-! ## Shared operations -/

@[simp] theorem raise_tb (src inst ctx : Nat) : (raise s src inst ctx).tb = s.tb := faultOnly_tb (faultOnly_raise ..)
@[simp] theorem levelBegin_tb (src inst ctx : Nat) : (levelBegin s src inst ctx).tb = s.tb :=
  faultOnly_tb (faultOnly_levelBegin ..)
@[simp] theorem closeCmd_tb (r : Req) (op st dt : Nat) (data : List PWord) : (closeCmd s r op st dt data).tb = s.tb :=
  faultOnly_tb (faultOnly_closeCmd ..)
@[simp] theorem outcome_tb (r : Req) (op st dt : Nat) (data : List PWord) : (outcome s r op st dt data).tb = s.tb := by
  rw [(outcome_queues ..).2]
@[simp] theorem fenceMarker_tb (kind index : Nat) (release : Bool) (src : Nat) :
    (fenceMarker s kind index release src).tb = s.tb := pushSheaf_tb ..
@[simp] theorem resumeMarker_tb (cause : Nat) (checkpoint : Deckle) : (resumeMarker s cause checkpoint).tb = s.tb :=
  pushSheaf_tb ..

/-! ## Couches -/

@[simp] theorem couchMessage_tb (c : Couch) (status detail : Nat) : (couchMessage s c status detail).tb = s.tb := by
  unfold couchMessage
  split <;> simp
@[simp] theorem failCouch_tb (c : Couch) (status detail : Nat) (st : Staging) (late : Bool) :
    (failCouch s c status detail st late).tb = s.tb := by
  simp [failCouch, endCouch]
@[simp] theorem cancelCouch_tb (p : Couch → Bool) : (cancelCouch s p).tb = s.tb := by
  unfold cancelCouch
  split <;> simp
@[simp] theorem couchBoundary_tb : (couchBoundary s).tb = s.tb := by
  unfold couchBoundary
  split <;> simp

/-! ## Channels and stooks -/

@[simp] theorem channelDeckle_tb (c : Nat) : (channelDeckle s c).tb = s.tb := by simp [channelDeckle]
@[simp] theorem channelsDeckle_tb : (channelsDeckle s).tb = s.tb := by simp [channelsDeckle]
@[simp] theorem replicaMeasured_tb (st p : Nat) : (replicaMeasured s st p).tb = s.tb := by
  unfold replicaMeasured
  dsimp only
  split <;> simp
@[simp] theorem replicasDeckle_tb (l : List (StookId × BitVec 32)) : (replicasDeckle s l).tb = s.tb := by
  unfold replicasDeckle
  rw [tb_foldl _ _ _ fun x a => by simp, tb_forNat _ _ _ fun k x => by split <;> simp]
@[simp] theorem errorsDeckle_tb (l : List (DlId × Nat)) : (errorsDeckle s l).tb = s.tb :=
  tb_foldl _ _ _ fun _ _ => rfl
@[simp] theorem phaseDeckle_tb : (phaseDeckle s).tb = s.tb := by simp [phaseDeckle]

/-! ## Lanes and the Granary -/

@[simp] theorem enterLane_tb (u : Nat) (st : LState) (x : Uplane) : (enterLane s u st x).tb = s.tb := by simp [enterLane]
@[simp] theorem negotiate_tb (u : Nat) : (negotiate s u).tb = s.tb := by simp [negotiate]
@[simp] theorem startTraining_tb (u gen : Nat) (mark : Bool) : (startTraining s u gen mark).tb = s.tb := by
  simp [startTraining]
@[simp] theorem startDraining_tb (u : Nat) (d : Drain) : (startDraining s u d).tb = s.tb := by simp [startDraining]
@[simp] theorem wakeLanes_tb : (wakeLanes s).tb = s.tb := by simp [wakeLanes]
@[simp] theorem raiseLanes_tb : (raiseLanes s).tb = s.tb := by simp [raiseLanes]
@[simp] theorem chooseVariant_tb : (chooseVariant s).tb = s.tb := by simp [chooseVariant]
@[simp] theorem variantAtBoundary_tb : (variantAtBoundary s).tb = s.tb := by simp [variantAtBoundary]
@[simp] theorem lanesDeckle_tb : (lanesDeckle s).tb = s.tb := by simp [lanesDeckle]
@[simp] theorem bankDeckle_tb : (bankDeckle s).tb = s.tb := by simp [bankDeckle]
@[simp] theorem granDeckle_tb : (granDeckle s).tb = s.tb := by simp [granDeckle, commitPointer]

/-! ## Calibration and the Seed Store -/

@[simp] theorem beginMeasurement_tb : (beginMeasurement s).tb = s.tb := by
  unfold beginMeasurement
  split
  · rfl
  · split
    · rfl
    · exact tb_foldl _ _ _ fun _ _ => rfl
@[simp] theorem slewDeckle_tb : (slewDeckle s).tb = s.tb := by
  rw [slewDeckle, beginMeasurement_tb]
  split <;> rfl
@[simp] theorem setBank_tb (b : Nat) (m : Memory) : (setBank s b m).tb = s.tb := by simp [setBank]
@[simp] theorem commitDeckle_tb : (commitDeckle s).tb = s.tb := by
  unfold commitDeckle
  split
  · split
    · rfl
    · exact setBank_tb ..
  · rfl

/-! ## Barns and fences -/

@[simp] theorem changeOwner_tb (cause : Nat) (st : Standby) : (changeOwner s cause st).tb = s.tb := by
  simp [changeOwner, latchOwner]
@[simp] theorem makeSwitch_tb : (makeSwitch s).tb = s.tb := by
  unfold makeSwitch
  split <;> simp
@[simp] theorem barnsDeckle_tb : (barnsDeckle s).tb = s.tb := by simp [barnsDeckle]
@[simp] theorem setFence_tb (t : Target) (v : Bool) : (setFence s t v).tb = s.tb := by
  unfold setFence
  split <;> rfl
@[simp] theorem endCommand_tb (a : Act) (status detail : Nat) : (endCommand s a status detail).tb = s.tb := by
  unfold endCommand
  dsimp only
  split <;> simp
@[simp] theorem markFence_tb (t : Target) (release : Bool) (src : Nat) : (markFence s t release src).tb = s.tb := by
  simp [markFence]
@[simp] theorem freeChannel_tb (c : Nat) : (freeChannel s c).tb = s.tb := by simp [freeChannel]
@[simp] theorem nextConversion_tb (k : Nat) : (nextConversion s k).tb = s.tb := by
  unfold nextConversion
  dsimp only
  repeat' split
  all_goals simp
@[simp] theorem resumeConverter_tb (k : Nat) : (resumeConverter s k).tb = s.tb :=
  (nextConversion_tb ..).trans (tb_forNat _ _ _ fun _ _ => rfl)
@[simp] theorem unisolate_tb (t : Target) : (unisolate s t).tb = s.tb := by
  unfold unisolate
  cases t with
  | channel c => exact freeChannel_tb ..
  | stook k =>
    dsimp only
    split
    · rfl
    · exact tb_forNat _ _ _ fun _ _ => freeChannel_tb ..
  | uplane u => simp only [tb_ite, negotiate_tb, ite_self]
  | converter k => simp only [tb_ite, resumeConverter_tb, ite_self]
  | downlane d => rfl
  | timingPort => rfl
  | triggerPort => rfl
@[simp] theorem releaseFences_tb : (releaseFences s).tb = s.tb := by simp [releaseFences]

/-! ## Clocks and NL64 -/

@[simp] theorem setLc_tb (p : Nat) (run lock idle : Bool) : (setLc s p run lock idle).tb = s.tb := rfl
@[simp] theorem lcDeckle_tb (p : Nat) : (lcDeckle s p).tb = s.tb := by simp [lcDeckle]
@[simp] theorem heldAwake_tb : (heldAwake s).tb = s.tb := by simp [heldAwake]
@[simp] theorem stookIdle_tb (k : Nat) : (stookIdle s k).tb = s.tb := (rfl)
@[simp] theorem clocksDeckle_tb : (clocksDeckle s).tb = s.tb := by simp [clocksDeckle, clocksBeat]
@[simp] theorem nlStart_tb : (nlStart s).tb = s.tb := rfl
@[simp] theorem nlEnd_tb : (nlEnd s).tb = s.tb := by simp [nlEnd]
@[simp] theorem nlResults_tb (all : Bool) : (nlResults s all).tb = s.tb :=
  tb_foldl _ _ _ fun _ _ => rfl
@[simp] theorem nlFrame_tb (ended : Deckle) : (nlFrame s ended).tb = s.tb := by simp [nlFrame]
@[simp] theorem nlDeckle_tb (ended : Deckle) : (nlDeckle s ended).tb = s.tb := by
  unfold nlDeckle
  extract_lets s₁ _ s₂
  have h₁ : s₁.tb = s.tb := nlFrame_tb ..
  have h₂ : s₂.tb = s₁.tb := by
    unfold s₂
    split <;> simp
  split <;> simp [h₁, h₂]
@[simp] theorem tapDeckle_tb : (tapDeckle s).tb = s.tb := rfl

/-! ## The boundary -/

@[simp] theorem serviceDeckle_tb : (serviceDeckle s).tb = s.tb := by simp [serviceDeckle]
/-- The slew of the deckle is planned, and the recovered clock's ratio measured; nothing else moves (R89, R104). -/
theorem timeDeckle_tb : ∃ plan ratio, (timeDeckle s).tb = { s.tb with plan := plan, freqRatio := ratio } := by
  unfold timeDeckle
  extract_lets lim owed _ planned
  split
  · exact ⟨_, _, rfl⟩
  · exact ⟨_, s.tb.freqRatio, rfl⟩
theorem deckleWork_tb (ended : Deckle) (l : List (StookId × BitVec 32)) (e : List (DlId × Nat)) :
    ∃ plan ratio, (deckleWork s ended l e).tb = { s.tb with plan := plan, freqRatio := ratio } := by
  have h : (deckleWork s ended l e).tb = (timeDeckle (errorsDeckle (replicasDeckle (channelsDeckle s) l) e)).tb := by
    simp [deckleWork]
  obtain ⟨plan, ratio, ht⟩ := timeDeckle_tb (errorsDeckle (replicasDeckle (channelsDeckle s) l) e)
  exact ⟨plan, ratio, by rw [h, ht]; simp⟩

end

end Sys2Proof.Proofs
end

section
/-!
What reference and quality, a step's record and a step change in the time base and the tallies (R85, R95 to R98, R109, R118).
-/
namespace Sys2Proof.Proofs
open Sys2Proof Sys2Proof.Machine Sys2Proof.Laws

/-! ## The time base but for what follows from the rest -/

/-- The time base without its reference and quality, the marks of its epoch sheaf, and what a deckle boundary writes. -/
def steered (t : TB) : TB :=
  { t with freqAdj := 0, ref := .refclk, quality := 0, lastQuality := 0, flags := 0, plan := 0, freqRatio := 0 }
/-- The record of a step that moves the count by `disp`. -/
def stepped (t : TB) (disp : Beat) : TB :=
  { t with steps := ((disp, t.up) :: t.steps).take 3, stepgen := (t.stepgen + 1) % 4 }

section
variable {t u : TB}
theorem steered_beat (h : steered t = steered u) : t.beat = u.beat := (congrArg TB.beat h :)
theorem steered_up (h : steered t = steered u) : t.up = u.up := (congrArg TB.up h :)
theorem steered_stepgen (h : steered t = steered u) : t.stepgen = u.stepgen := (congrArg TB.stepgen h :)
theorem steered_work (h : steered t = steered u) : t.work = u.work := (congrArg TB.work h :)
theorem steered_phase (h : steered t = steered u) : t.phase = u.phase := (congrArg TB.phase h :)
theorem steered_sync (h : steered t = steered u) : t.sync = u.sync := (congrArg TB.sync h :)
end

section
variable (s : State)

theorem steered_epochCause (bit : Nat) : steered (epochCause s bit).tb = steered s.tb := by
  unfold epochCause
  split <;> rfl
theorem steered_deckleWork (ended : Deckle) (l : List (StookId × BitVec 32)) (e : List (DlId × Nat)) :
    steered (deckleWork s ended l e).tb = steered s.tb := by
  obtain ⟨plan, ratio, h⟩ := deckleWork_tb s ended l e
  rw [h]
  rfl
/-- What `settleTime` makes of the time base: the reference that `refOf` names, with its frequency correction, and a quality
whose change is marked for the epoch sheaf. -/
theorem settleTime_tb : ∃ quality last flags, (settleTime s).tb = { s.tb with
    freqAdj := freqAdjOf s (refOf s), ref := refOf s, quality := quality, lastQuality := last, flags := flags } := by
  unfold settleTime
  extract_lets r _ s₁ q _ s₂
  have h₁ : s₁.tb = { s.tb with freqAdj := freqAdjOf s r, ref := r } := rfl
  have h₂ : ∃ quality last flags, s₂.tb =
      { s₁.tb with quality := quality, lastQuality := last, flags := flags } := by
    unfold s₂ epochCause
    split
    · exact ⟨q, s₁.tb.lastQuality, s₁.tb.flags, rfl⟩
    · exact ⟨q, _, _, rfl⟩
  split
  · exact ⟨_, _, _, rfl⟩
  · simpa [h₁] using h₂
@[simp] theorem steered_settleTime : steered (settleTime s).tb = steered s.tb := by
  obtain ⟨quality, last, flags, h⟩ := settleTime_tb s
  rw [h]
  rfl
theorem settleTime_ref : (settleTime s).tb.ref = refOf s := by
  obtain ⟨quality, last, flags, h⟩ := settleTime_tb s
  rw [h]

/-! ## A step -/

@[simp] theorem cancelFarRequest_tb : (cancelFarRequest s).tb = s.tb := by
  unfold cancelFarRequest
  repeat' split
  all_goals simp
/-- Outside HELD the step is marked for the epoch sheaf of its beat edge (R118). -/
theorem stepRecord_tb (h : s.modes.cur ≠ .held) (disp : Beat) : (stepRecord s disp).tb =
    { stepped s.tb disp with flags := s.tb.flags ||| 8, lastQuality := s.tb.quality } := by
  simp [stepRecord, epochCause, h, stepped]
theorem steered_stepRecord (disp : Beat) : steered (stepRecord s disp).tb = steered (stepped s.tb disp) := by
  unfold stepRecord
  rw [cancelCouch_tb, cancelFarRequest_tb, steered_epochCause]
  rfl
/-- The step edge receives `count` (R95): whether it ends a deckle or lies at a boundary, only `dk` tells. -/
theorem steered_takeStep (count : Beat) : ∃ dk, steered (takeStep s count).tb =
    steered (stepped { s.tb with beat := count, set := true, dk := dk } (count - s.tb.beat)) := by
  unfold takeStep
  extract_lets old mid _ s₁ s₂
  have h₂ : steered s₂.tb = steered (stepped s₁.tb (count - old)) :=
    (steered_settleTime _).trans (steered_stepRecord ..)
  refine ⟨s₁.tb.dk, Eq.trans ?_ h₂⟩
  split
  · exact steered_deckleWork ..
  · rw [couchBoundary_tb]

/-! ## Tallies -/

section
variable {id inst : Nat}

theorem tally_failCouch (hid : id < A_FLT_COUNT) (hc : id ≠ A_MD_COUCH_COUNT) (hi : inst < 512) (c : Couch)
    (status detail : Nat) (st : Staging) (late : Bool) :
    tally (failCouch s c status detail st late) id inst = tally s id inst := by
  have hmsg (s : State) : (couchMessage s c status detail).tal = s.tal := by
    unfold couchMessage
    split
    · rfl
    · split
      · exact reply_tal ..
      · rw [(outcome_queues ..).2]
  unfold failCouch
  rw [tally_raise _ _ _ _ hid hi, tally_eq_of_tal (hmsg _), tally_count_otherId _ _ _ _ hc hi (by decide)]
  rfl
theorem tally_cancelCouch (hid : id < A_FLT_COUNT) (hc : id ≠ A_MD_COUCH_COUNT) (hi : inst < 512) (p : Couch → Bool) :
    tally (cancelCouch s p) id inst = tally s id inst := by
  unfold cancelCouch
  repeat' split
  · exact tally_failCouch _ hid hc hi ..
  all_goals rfl
theorem epochCause_tal (bit : Nat) : (epochCause s bit).tal = s.tal := by
  unfold epochCause
  split <;> rfl
theorem tally_settleTime (hid : id < A_FLT_COUNT) (hc : id ≠ A_MD_COUCH_COUNT) (hi : inst < 512) :
    tally (settleTime s) id inst = tally s id inst := by
  unfold settleTime
  extract_lets r _ s₁ q _ s₂
  have h₂ : tally s₂ id inst = tally s id inst := tally_eq_of_tal (epochCause_tal ..) ..
  repeat' split
  · rfl
  · rw [tally_cancelCouch _ hid hc hi, h₂]
  · exact h₂
theorem cancelFarRequest_tal : (cancelFarRequest s).tal = s.tal := by
  unfold cancelFarRequest
  repeat' split
  · exact reply_tal ..
  all_goals rfl
/-- A step counts in `TB_STEPS` (R98). -/
theorem steps_stepRecord (disp : Beat) : bits (tally (stepRecord s disp) A_TB_STEPS 0) 15 0 =
    satAdd 65535 (bits (tally s A_TB_STEPS 0) 15 0) 1 := by
  unfold stepRecord
  rw [tally_cancelCouch _ (by decide) (by decide) (by decide), tally_eq_of_tal (cancelFarRequest_tal _),
    tally_eq_of_tal (epochCause_tal ..)]
  exact tally_count_same _ _ _ _ (by decide)
end

end

end Sys2Proof.Proofs
end

section
/-!
O17: SYNC pulses and words on their way, and what they do when they take effect (R90 to R92, R97, R98).
-/
namespace Sys2Proof.Proofs
open Sys2Proof Sys2Proof.Machine Sys2Proof.Laws

/-! ## Pulses and words arrive -/

section
variable {s : State}

theorem sync_pulse (hp : padsFree s = true) (hpow : powered s = true) (hh : s.modes.cur ≠ .held) (hg : timingGen s = 0) :
    exec .syncInPulse s = .next (queueSync s none) := by
  change execSyncInPulse s = _
  unfold execSyncInPulse
  rw [if_pos (by simp [hpow, hh, hg]), atPads_free hp]
/-- A field put into a 56-bit word is read back. -/
theorem bits_putBits {v hi lo field : Nat} (hl : lo ≤ hi) (hh : hi < 56) (hf : field < 2 ^ (hi + 1 - lo)) :
    bits (BitVec.ofNat 56 (putBits v hi lo field)).toNat hi lo = field := by
  have hcut : bits (putBits v hi lo field % 2 ^ 56) hi lo = bits (putBits v hi lo field) hi lo :=
    bits_congr fun i _ hi' => by rw [Nat.testBit_mod_two_pow]; simp only [show i < 56 by omega, decide_true, Bool.true_and]
  rw [BitVec.toNat_ofNat, hcut, putBits, Nat.mod_eq_of_lt hf]
  exact (bits_put hl hf).1
theorem sync_byte {i : Nat} (b : Byte) (hg : timingGen s = 1) (hi : i < 7) :
    (syncByte s i b).tb.asmSeen = s.tb.asmSeen ||| BitVec.ofNat 7 (2 ^ i) ∧
    bits (syncByte s i b).tb.asm.toNat (55 - 8 * i) (48 - 8 * i) = b.toNat := by
  rw [syncByte, if_neg (by omega), if_neg (by omega)]
  have hb : b.toNat < 2 ^ (55 - 8 * i + 1 - (48 - 8 * i)) := by
    rw [show 55 - 8 * i + 1 - (48 - 8 * i) = 8 by omega]
    exact b.isLt
  exact ⟨rfl, bits_putBits (by omega) (by omega) hb⟩
theorem mismatch_counts (s : State) : bits (tally (syncMismatch s) A_TB_SYNC_TALLY 0) 31 16 =
    satAdd 65535 (bits (tally s A_TB_SYNC_TALLY 0) 31 16) 1 := tally_count_same _ _ _ _ (by decide)
theorem sync_byte7 (b : Byte) (hg : timingGen s = 1) : syncByte s 7 b = syncMismatch s := by
  rw [syncByte, if_neg (by omega), if_pos rfl]
theorem sync_loadWord (hg : timingGen s = 1) (hseen : s.tb.asmSeen = 127) (hb : s.tb.asm.toNat % 1024 = 0) :
    syncLoad s 0x7FF = queueSync { s with tb := { s.tb with asmSeen := 0 } } (some s.tb.asm) := by
  have hwhole : (s.tb.asmSeen = BitVec.allOnes 7 && s.tb.asm.toNat % 1024 = 0) = true := by
    simp [hseen, hb, show (127 : BitVec 7) = BitVec.allOnes 7 from rfl]
  rw [syncLoad, if_neg (by omega), if_neg (by simp)]
  exact if_pos hwhole

/-! ## They take effect -/

/-- The first pulse or word that is due leaves the queue. -/
def syncTaken (s : State) (rest : List SyncDue) : State := { s with tb := { s.tb with sync := rest } }
@[simp] theorem reg_syncTaken (rest : List SyncDue) (id inst : Nat) : reg (syncTaken s rest) id inst = reg s id inst := rfl
@[simp] theorem tally_syncTaken (rest : List SyncDue) (id inst : Nat) :
    tally (syncTaken s rest) id inst = tally s id inst := rfl
theorem syncTaken_beat (rest : List SyncDue) : (syncTaken s rest).tb.beat = s.tb.beat := rfl
@[simp] theorem tally_disarm (id inst : Nat) : tally (disarm s) id inst = tally s id inst := rfl
/-- The count that a load sets: the word's, or for a pulse the preset (R90, R92). -/
def loadValue (s : State) (d : SyncDue) : Beat :=
  match d.word with
  | some w => w
  | none => BitVec.ofNat 56 (reg s A_TB_SYNC_PRESET 0)

variable {d : SyncDue} {rest : List SyncDue}

theorem execSync_armed (hs : s.tb.sync = d :: rest) (hd : d.due ≤ s.tb.up) (hg : timingGen s ≠ 2)
    (ha : bitAt (reg s A_TB_SYNC_CTRL 0) 0 = true) : exec .syncLoadOrCheck s = .next (if stepAllowed s then
      loadCount (disarm (syncTaken s rest)) (loadValue s d)
    else raise (syncMismatch (disarm (syncTaken s rest))) 28 0 1) := by
  change execSyncLoadOrCheck s = _
  have harmed : (bitAt (reg s A_TB_SYNC_CTRL 0) 0 && timingGen s ≠ 2) = true := by simp [ha, hg]
  unfold execSyncLoadOrCheck
  rw [hs]
  dsimp only
  rw [if_neg (by omega)]
  exact congrArg Host.Outcome.next (if_pos harmed)
theorem execSync_check (hs : s.tb.sync = d :: rest) (hd : d.due ≤ s.tb.up)
    (ha : bitAt (reg s A_TB_SYNC_CTRL 0) 0 = false) :
    exec .syncLoadOrCheck s = .next (checkCount (syncTaken s rest) d) := by
  change execSyncLoadOrCheck s = _
  have harmed : ¬ (bitAt (reg s A_TB_SYNC_CTRL 0) 0 && timingGen s ≠ 2) = true := by simp [ha]
  unfold execSyncLoadOrCheck
  rw [hs]
  dsimp only
  rw [if_neg (by omega)]
  exact congrArg Host.Outcome.next (if_neg harmed)

/-! ### An armed load -/

/-- ARM is clear in every state with the registers that `disarm` leaves. -/
theorem disarmed {t : State} (h : t.cfg = (disarm s).cfg) : bitAt (reg t A_TB_SYNC_CTRL 0) 0 = false := by
  rw [reg_eq_of_cfg h, disarm, reg_setReg_same]
  simp [bitAt]
/-- With the spacing kept, a load is a step to its count, and no load waits any more (R90, R98). -/
theorem loadCount_steps (h : spacingOk s s.tb.up = true) (v : Beat) : ∃ dk, steered (loadCount s v).tb = steered (stepped
    { s.tb with confirmed := true, work := none, beat := v, set := true, dk := dk } (v - s.tb.beat)) := by
  rw [loadCount, if_pos h]
  exact steered_takeStep ..
theorem sync_loads (hs : s.tb.sync = d :: rest) (hd : d.due ≤ s.tb.up) (hg : timingGen s ≠ 2)
    (ha : bitAt (reg s A_TB_SYNC_CTRL 0) 0 = true) (hsp : spacingOk s s.tb.up = true) (hst : stepAllowed s = true) :
    ∃ t, exec .syncLoadOrCheck s = .next t ∧ t.tb.beat = loadValue s d ∧ t.tb.sync = rest ∧
      bitAt (reg t A_TB_SYNC_CTRL 0) 0 = false := by
  obtain ⟨dk, h⟩ := loadCount_steps (s := disarm (syncTaken s rest)) hsp (loadValue s d)
  exact ⟨_, by rw [execSync_armed hs hd hg ha, if_pos hst], steered_beat h, steered_sync h,
    disarmed (cfg_loadCount ..)⟩
theorem sync_refused (hs : s.tb.sync = d :: rest) (hd : d.due ≤ s.tb.up) (hg : timingGen s ≠ 2)
    (ha : bitAt (reg s A_TB_SYNC_CTRL 0) 0 = true) (hst : stepAllowed s = false) :
    ∃ t, exec .syncLoadOrCheck s = .next t ∧ t.tb.beat = s.tb.beat ∧ bitAt (reg t A_TB_SYNC_CTRL 0) 0 = false ∧
      bits (tally t A_TB_SYNC_TALLY 0) 31 16 = satAdd 65535 (bits (tally s A_TB_SYNC_TALLY 0) 31 16) 1 := by
  refine ⟨_, by rw [execSync_armed hs hd hg ha, hst, if_neg (by decide)], ?_, ?_, ?_⟩
  · rw [raise_tb]
    rfl
  · exact disarmed ((faultOnly_cfg (faultOnly_raise ..)).trans (count_cfg ..))
  · rw [tally_raise _ _ _ _ (by decide) (by decide), mismatch_counts, tally_disarm, tally_syncTaken]

/-! ### A check -/

theorem checkCount_pulse (hd : d.due = s.tb.up) (hw : d.word = none) :
    (checkCount s d).tb.beat = s.tb.beat ∧
    (reg s A_TB_SYNC_PRESET 0 % 1024 = s.tb.beat.toNat % 1024 →
      bits (tally (checkCount s d) A_TB_SYNC_TALLY 0) 15 0 = satAdd 65535 (bits (tally s A_TB_SYNC_TALLY 0) 15 0) 1) ∧
    (reg s A_TB_SYNC_PRESET 0 % 1024 ≠ s.tb.beat.toNat % 1024 →
      bits (tally (checkCount s d) A_TB_SYNC_TALLY 0) 31 16 =
        satAdd 65535 (bits (tally s A_TB_SYNC_TALLY 0) 31 16) 1) := by
  unfold checkCount
  extract_lets want got own s₁
  have hwant : want = reg s A_TB_SYNC_PRESET 0 := by unfold want; rw [hw]
  have hgot : got = s.tb.beat.toNat := by
    unfold got
    rw [hd, Nat.sub_self, BitVec.sub_zero]
  rw [hwant, hgot]
  split
  next heq =>
    refine ⟨steady_beat (steady_settleTime _), fun _ => ?_, fun hne => absurd heq hne⟩
    rw [tally_settleTime _ (by decide) (by decide) (by decide)]
    exact tally_count_same _ _ _ _ (by decide)
  next hne =>
    refine ⟨steady_beat ((steady_settleTime _).trans (steady_raise ..)), fun heq => absurd heq hne, fun _ => ?_⟩
    · rw [tally_settleTime _ (by decide) (by decide) (by decide), tally_raise _ _ _ _ (by decide) (by decide)]
      exact mismatch_counts _

end

/-- Settles O17: what arrives, then the armed load, its refusal and the check. -/
theorem sync : Obligations.Sync := by
  refine ⟨⟨?_, fun s i b hg hi => sync_byte b hg hi, ?_, ?_⟩, ?_, ?_, ?_⟩
  · exact fun s hp hpow hh hg => ⟨_, sync_pulse hp hpow hh hg, rfl, rfl⟩
  · intro s b hg
    rw [sync_byte7 b hg]
    exact ⟨count_tb .., mismatch_counts s⟩
  · intro s hg hseen hb
    rw [sync_loadWord hg hseen hb]
    exact ⟨rfl, rfl⟩
  · exact fun s d rest hs hd hg ha hsp hst => sync_loads hs hd hg ha hsp hst
  · exact fun s d rest hs hd hg ha hst => sync_refused hs hd hg ha hst
  · intro s d rest hs hd ha hw
    have h := checkCount_pulse (s := syncTaken s rest) hd hw
    rw [reg_syncTaken, tally_syncTaken, syncTaken_beat] at h
    exact ⟨_, execSync_check hs hd.le ha, h⟩

end Sys2Proof.Proofs
end

section
/-!
O3: the state right after reset (R84, R350, R354, R393, R404, R419, R464, Table 0.2).
-/
namespace Sys2Proof.Proofs
open Sys2Proof Sys2Proof.Machine Sys2Proof.Laws

/-- No register is written yet: each holds the reset value of its table. -/
theorem reg_reset (id inst : Nat) : reg State.reset id inst = attrReset id inst := pget_nil _ (id * 512 + inst)
theorem tally_reset (id inst : Nat) : tally State.reset id inst = 0 := pget_nil 0 (id * 512 + inst)

/-- Settles O3: the fields by their values in `State.reset`, registers and tallies by their empty tables. -/
theorem resetState : Obligations.ResetState :=
  ⟨rfl, rfl, rfl, rfl, rfl, rfl, rfl, rfl, rfl, rfl, rfl, rfl, rfl, reg_reset, tally_reset, by decide, by decide,
    by decide, by decide, by decide, by decide⟩

end Sys2Proof.Proofs
end

section
/-!
What a raise does to the lines it asserts: the conditions that stand, and the raises counted by source (R352).
-/
namespace Sys2Proof.Proofs
open Sys2Proof Sys2Proof.Machine Sys2Proof.Laws

/-! ## What only an assertion changes -/

/-- The level conditions that stand, and `FLT_COUNT`. -/
def lines (s : State) : List Level × (Fin 512 → Nat) := (s.flt.levels, fun i => tally s A_FLT_COUNT i)

section
variable {s t : State}

theorem lines_eq (hl : t.flt.levels = s.flt.levels) (ht : t.tal = s.tal) : lines t = lines s := by
  unfold lines tally
  rw [hl, ht]
theorem lines_levels (h : lines t = lines s) : t.flt.levels = s.flt.levels := congrArg Prod.fst h
theorem lines_count (h : lines t = lines s) {i : Nat} (hi : i < 512) : tally t A_FLT_COUNT i = tally s A_FLT_COUNT i :=
  congrFun (congrArg Prod.snd h) ⟨i, hi⟩
theorem lines_ite {p : Prop} [Decidable p] {u : State} (ht : lines t = lines s) (hu : lines u = lines s) :
    lines (if p then t else u) = lines s := by split <;> assumption

variable (s)

theorem lines_tally {id inst : Nat} (hid : A_FLT_COUNT ≠ id) (hi : inst < 512) (hi' lo n : Nat) :
    lines (count s id inst hi' lo n) = lines s :=
  Prod.ext rfl (funext fun i => tally_count_otherId _ _ _ _ hid i.isLt hi)
theorem lines_assertErr : lines (assertErr s) = lines s := by
  refine lines_eq ?_ (assertErr_tal s)
  have hclosed : ∀ (l : List (Req × Nat)) (s : State),
      (l.foldl (fun s e => closeCmd s e.1 0x54 0x0C 0 []) s).flt = s.flt := by
    intro l
    induction l with
    | nil => exact fun _ => rfl
    | cons e l ih => exact fun s => (ih _).trans (reply_flt ..)
  unfold assertErr
  split
  · rw [hclosed]
  · split <;> rfl
theorem lines_causeRecovery (code : Byte) : lines (causeRecovery s code) = lines s := by
  unfold causeRecovery
  split <;> rfl
theorem lines_recoveryFail : lines (recoveryFail s) = lines s := by
  unfold recoveryFail
  split <;> rfl
theorem lines_escalateBeyond (key : Nat) : lines (escalateBeyond s key) = lines s := by
  unfold escalateBeyond
  extract_lets s₁ s₂
  have h₂ : lines s₂ = lines s := (lines_assertErr _).trans (lines_tally _ (by decide) (by decide) ..)
  split
  · exact (lines_causeRecovery ..).trans h₂
  · exact (lines_causeRecovery ..).trans h₂
  · exact (lines_recoveryFail _).trans h₂
  · exact h₂
theorem lines_endActions (key : Nat) : lines (endActions s key) = lines s := lines_eq rfl (endActions_tal ..)
theorem lines_queueAct (a : Act) : lines (queueAct s a) = lines s := by
  unfold queueAct
  refine lines_ite (lines_endActions ..) (lines_ite (lines_eq rfl rfl) (lines_ite ?_ ?_))
  · exact (lines_endActions ..).trans (lines_escalateBeyond ..)
  · exact (lines_endActions ..).trans (lines_tally _ (by decide) (by decide) ..)
theorem lines_logRaise (f : FaultRec) : lines (logRaise s f) = lines s :=
  lines_ite (t := s) rfl (lines_tally _ (by decide) (by decide) ..)
theorem lines_react (f : FaultRec) : lines (react s f) = lines s := by
  unfold react
  extract_lets m window target s₁ _ s₂ _ s₃ isolates long stop _ s₄ s₅
  have h₁ : lines s₁ = lines s := lines_ite (lines_assertErr s) rfl
  have h₂ : lines s₂ = lines s := lines_ite h₁ h₁
  have h₃ : lines s₃ = lines s := lines_ite h₂ h₂
  have h₄ : lines s₄ = lines s := lines_ite h₃ h₃
  have h₅ : lines s₅ = lines s := lines_ite h₄ h₄
  clear_value isolates s₅
  split
  · exact (lines_queueAct ..).trans h₅
  · exact lines_ite h₅ h₅

/-! ## An assertion -/

/-- The level condition stands. -/
def levelStands (s : State) (src inst : Nat) : Bool := s.flt.levels.any fun l => l.src = src && l.inst = inst

theorem levelStands_eq {s t : State} (h : t.flt.levels = s.flt.levels) (a b : Nat) :
    levelStands t a b = levelStands s a b := by
  unfold levelStands
  rw [h]
/-- A raise counts in `FLT_COUNT` of its source; a suppressed one marks its level, which goes on standing. -/
theorem raise_lines (src inst ctx : Nat) (hs : reservedSource src = false) :
    (∀ i < 512, tally (raise s src inst ctx) A_FLT_COUNT i = tally (count s A_FLT_COUNT src 15 0 1) A_FLT_COUNT i) ∧
    ∀ a b, levelStands (raise s src inst ctx) a b = levelStands s a b := by
  unfold raise
  rw [if_neg (by simp [hs])]
  have hflt : (count s A_FLT_COUNT src 15 0 1).flt = s.flt := count_flt ..
  generalize count s A_FLT_COUNT src 15 0 1 = x at hflt ⊢
  have hs₀ (a b : Nat) : levelStands s a b = levelStands x a b := levelStands_eq (congrArg Flt.levels hflt.symm) a b
  simp only [hs₀]
  split
  next r _ =>
    refine ⟨fun i _ => tally_eq_of_tal (by rfl) .., fun a b => ?_⟩
    unfold levelStands
    rw [List.any_map]
    congr 1
    funext l
    dsimp only [Function.comp]
    split <;> rfl
  next =>
    have h (y : State) (f : FaultRec) : lines (react (logRaise y f) f) = lines y :=
      (lines_react ..).trans (lines_logRaise ..)
    refine ⟨fun i hi => (lines_count (h ..) hi).trans ?_, fun a b => (levelStands_eq (lines_levels (h ..)) a b).trans ?_⟩
    · split <;> exact tally_eq_of_tal (by rfl) ..
    · split <;> rfl
theorem levelStands_raise (src inst ctx a b : Nat) : levelStands (raise s src inst ctx) a b = levelStands s a b := by
  cases hs : reservedSource src
  · exact (raise_lines s src inst ctx hs).2 a b
  · rw [raise, if_pos hs]
theorem count_raise {src : Nat} (inst ctx : Nat) (hs : reservedSource src = false) (hi : src < 512) :
    bits (tally (raise s src inst ctx) A_FLT_COUNT src) 15 0 =
      satAdd 65535 (bits (tally s A_FLT_COUNT src) 15 0) 1 := by
  rw [(raise_lines s src inst ctx hs).1 src hi]
  exact tally_count_same _ _ _ _ (by decide)
/-- A condition that begins stands; one that ends does not (R352). -/
theorem levelStands_levelBegin (src inst ctx : Nat) : levelStands (levelBegin s src inst ctx) src inst = true := by
  unfold levelBegin
  split
  · next h => exact h
  · rw [levelStands_raise]
    simp [levelStands]
theorem levelStands_levelEnd (src inst : Nat) : levelStands (levelEnd s src inst) src inst = false := by
  unfold levelStands levelEnd
  rw [List.any_eq_false]
  intro l hl
  simpa [imp_iff_not_or] using (List.mem_filter.1 hl).2
theorem levelStands_failCouch (c : Couch) (status detail : Nat) (st : Staging) (late : Bool) (a b : Nat) :
    levelStands (failCouch s c status detail st late) a b = levelStands s a b := by
  have hmsg (s : State) : (couchMessage s c status detail).flt = s.flt := by
    unfold couchMessage
    split
    · rfl
    · split
      · exact reply_flt ..
      · rw [(outcome_queues ..).2]
  unfold failCouch
  rw [levelStands_raise]
  exact levelStands_eq (congrArg Flt.levels (hmsg _)) a b
theorem levelStands_settleTime (a b : Nat) : levelStands (settleTime s) a b = levelStands s a b := by
  unfold settleTime
  extract_lets r _ s₁ q _ s₂
  have h₂ : s₂.flt = s.flt := by
    unfold s₂ epochCause
    split <;> rfl
  have h₃ : levelStands s₂ a b = levelStands s a b := levelStands_eq (congrArg Flt.levels h₂) a b
  repeat' split
  · rfl
  · refine Eq.trans ?_ h₃
    unfold cancelCouch
    repeat' split
    · exact levelStands_failCouch ..
    all_goals rfl
  · exact h₃

end

end Sys2Proof.Proofs
end

section
/-!
O18: servo steps, held-back loads and new epochs, the loss and return of REFCLK, periodic epoch sheaves, and the replicas of
sleeping stooks (R83, R85, R87, R95, R98, R111, R112, R118).
-/
namespace Sys2Proof.Proofs
open Sys2Proof Sys2Proof.Machine Sys2Proof.Laws

/-! ## Steps of the servo, and loads that waited (R95, R98) -/

section
variable {s : State} {n fine : Int} {v : Beat}

/-- The phase takes the rest of a servo step that is no longer pending (R95). -/
def servoApplied (s : State) (fine : Int) : State :=
  { s with tb := { s.tb with work := none, phase := s.tb.phase + fine } }
theorem execTimeStep_servo (hw : s.tb.work = some (.servo n fine)) : exec .timeStep s = .next
    (if spacingOk s s.tb.up && (s.tb.beat + BitVec.ofInt 56 n).toNat % 1024 = 0 then
      takeStep (servoApplied s fine) (s.tb.beat + BitVec.ofInt 56 n)
    else s) := by
  change execTimeStep s = _
  unfold execTimeStep
  rw [hw]
  rfl
theorem execTimeStep_load (hw : s.tb.work = some (.load v)) :
    exec .timeStep s = .next (if spacingOk s s.tb.up && atBoundary s then loadCount s v else s) := by
  change execTimeStep s = _
  unfold execTimeStep
  rw [hw]
theorem execTimeStep_none (hw : s.tb.work = none) : exec .timeStep s = .next s := by
  change execTimeStep s = _
  unfold execTimeStep
  rw [hw]

theorem servo_steps (hw : s.tb.work = some (.servo n fine)) (hsp : spacingOk s s.tb.up = true)
    (hb : (s.tb.beat + BitVec.ofInt 56 n).toNat % 1024 = 0) :
    ∃ t, exec .timeStep s = .next t ∧ t.tb.beat = s.tb.beat + BitVec.ofInt 56 n ∧ t.tb.work = none ∧
      t.tb.phase = s.tb.phase + fine ∧ t.tb.stepgen = (s.tb.stepgen + 1) % 4 ∧ t.tb.up = s.tb.up := by
  obtain ⟨dk, h⟩ := steered_takeStep (servoApplied s fine) (s.tb.beat + BitVec.ofInt 56 n)
  refine ⟨_, ?_, steered_beat h, steered_work h, steered_phase h, steered_stepgen h, (steered_up h :)⟩
  rw [execTimeStep_servo hw, if_pos (by rw [hsp, decide_eq_true hb]; rfl)]
theorem servo_waits (hw : s.tb.work = some (.servo n fine))
    (h : spacingOk s s.tb.up = false ∨ (s.tb.beat + BitVec.ofInt 56 n).toNat % 1024 ≠ 0) :
    exec .timeStep s = .next s := by
  rw [execTimeStep_servo hw, if_neg]
  rcases h with h | h
  · simp [h]
  · rw [decide_eq_false h]
    simp
theorem load_steps (hw : s.tb.work = some (.load v)) (hsp : spacingOk s s.tb.up = true) (hat : atBoundary s = true) :
    ∃ t, exec .timeStep s = .next t ∧ t.tb.beat = v ∧ t.tb.work = none ∧ t.tb.stepgen = (s.tb.stepgen + 1) % 4 := by
  obtain ⟨dk, h⟩ := loadCount_steps hsp v
  refine ⟨_, ?_, steered_beat h, steered_work h, steered_stepgen h⟩
  rw [execTimeStep_load hw, if_pos (by simp [hsp, hat])]
theorem load_waits (hw : s.tb.work = some (.load v)) (h : spacingOk s s.tb.up = false ∨ atBoundary s = false) :
    exec .timeStep s = .next s := by
  rw [execTimeStep_load hw, if_neg]
  rcases h with h | h <;> simp [h]

end

/-! ## A new epoch (R83) -/

section
variable {s : State} {e : Nat}

theorem execEpochChange_some (he : s.tb.epochNext = some e) :
    exec .epochChange s = .next (if atBoundary s && s.modes.cur ≠ .held then setEpoch s e else s) := by
  change execEpochChange s = _
  unfold execEpochChange
  rw [he]
theorem execEpochChange_none (he : s.tb.epochNext = none) : exec .epochChange s = .next s := by
  change execEpochChange s = _
  unfold execEpochChange
  rw [he]
theorem execEpochChange_due (he : s.tb.epochNext = some e) (hat : atBoundary s = true) (hh : s.modes.cur ≠ .held) :
    exec .epochChange s = .next (setEpoch s e) := by
  rw [execEpochChange_some he, if_pos (by simp [hat, hh])]
/-- The epoch `e` comes into force. -/
def epochInForce (s : State) (e : Nat) : State := { s with tb := { s.tb with epoch := e, epochNext := none } }
theorem setEpoch_steps (hne : e ≠ s.tb.epoch) (hat : atBoundary s = true) (hsp : spacingOk s s.tb.up = true) :
    setEpoch s e = stepRecord (epochInForce s e) 0 := by
  rw [setEpoch, if_neg hne, if_pos (by simp [hsp, hat])]
  rfl
theorem epoch_steps (he : s.tb.epochNext = some e) (hne : e ≠ s.tb.epoch) (hat : atBoundary s = true)
    (hh : s.modes.cur ≠ .held) (hsp : spacingOk s s.tb.up = true) :
    ∃ t, exec .epochChange s = .next t ∧ t.tb.epoch = e ∧ t.tb.epochNext = none ∧ t.tb.beat = s.tb.beat ∧
      t.tb.stepgen = (s.tb.stepgen + 1) % 4 ∧ t.tb.flags = s.tb.flags ||| 8 ∧
      bits (tally t A_TB_STEPS 0) 15 0 = satAdd 65535 (bits (tally s A_TB_STEPS 0) 15 0) 1 := by
  refine ⟨_, execEpochChange_due he hat hh, ?_⟩
  rw [setEpoch_steps hne hat hsp, steps_stepRecord, stepRecord_tb (epochInForce s e) hh]
  exact ⟨rfl, rfl, rfl, rfl, rfl, rfl⟩
theorem epoch_same (he : s.tb.epochNext = some s.tb.epoch) (hat : atBoundary s = true) (hh : s.modes.cur ≠ .held) :
    exec .epochChange s = .next { s with tb := { s.tb with epochNext := none } } := by
  rw [execEpochChange_due he hat hh, setEpoch, if_pos rfl]
theorem setEpoch_waits (he : s.tb.epochNext = some e) (hne : e ≠ s.tb.epoch) (hsp : spacingOk s s.tb.up = false) :
    setEpoch s e = s := by
  rw [setEpoch, if_neg hne, if_neg (by simp [hsp]), ← he]
theorem epoch_waits (he : s.tb.epochNext = some e) (hne : e ≠ s.tb.epoch)
    (h : atBoundary s = false ∨ s.modes.cur = .held ∨ spacingOk s s.tb.up = false) : exec .epochChange s = .next s := by
  rw [execEpochChange_some he]
  rcases h with h | h | h
  · rw [if_neg (by simp [h])]
  · rw [if_neg (by simp [h])]
  · rw [setEpoch_waits he hne h, ite_self]

end

/-! ## REFCLK (R85, R87) -/

section
variable {s : State}

theorem steered_refclk {t u : TB} (h : steered t = steered u) : t.refclk = u.refclk := (congrArg TB.refclk h :)
theorem refOf_absent (h : s.tb.refclk = false) : refOf s ≠ .refclk := by
  unfold refOf
  rw [h]
  split <;> decide
theorem refOf_present (h : s.tb.refclk = true) : refOf s ≠ .keeper := by
  unfold refOf
  rw [h]
  split <;> decide
/-- What a change of REFCLK leaves: its state, the reference that follows, and the condition of source 16. -/
theorem settled_refclk {x : State} {b : Bool} (hx : x.tb.refclk = b) (hbeat : x.tb.beat = s.tb.beat)
    (hl : levelStands x 16 0 = !b) : (settleTime x).tb.refclk = b ∧ (settleTime x).tb.beat = s.tb.beat ∧
      (settleTime x).tb.ref = refOf x ∧ levelStands (settleTime x) 16 0 = !b :=
  ⟨(steered_refclk (steered_settleTime x)).trans hx, (steered_beat (steered_settleTime x)).trans hbeat, settleTime_ref x,
    (levelStands_settleTime x 16 0).trans hl⟩
theorem refclk_loss (hp : padsFree s = true) (hpow : powered s = true) :
    ∃ t, exec .refclkLoss s = .next t ∧ t.tb.refclk = false ∧ t.tb.beat = s.tb.beat ∧ (s.tb.refclk = false → t = s) ∧
      (s.tb.refclk = true → t.tb.ref ≠ .refclk ∧ levelStands t 16 0 = true) := by
  refine ⟨_, (atPads_free hp _ : execRefclkLoss s = _), ?_⟩
  cases hr : s.tb.refclk
  · rw [if_neg (by simp)]
    exact ⟨hr, rfl, fun _ => rfl, fun h => nomatch h⟩
  · rw [if_pos (by simp [hpow])]
    generalize hx : levelBegin { s with tb := { s.tb with refclk := false, refclkEdges := 0 } } 16 0 0 = x
    have htb : x.tb = { s.tb with refclk := false, refclkEdges := 0 } := by rw [← hx, levelBegin_tb]
    have hl : levelStands x 16 0 = true := hx ▸ levelStands_levelBegin ..
    obtain ⟨hoff, hbeat, href, hstands⟩ := settled_refclk (s := s) (x := x) (b := false) (by rw [htb]) (by rw [htb]) hl
    exact ⟨hoff, hbeat, fun h => (nomatch h), fun _ => ⟨href ▸ refOf_absent (by rw [htb]), hstands⟩⟩
theorem refclk_return (hp : padsFree s = true) (hpow : powered s = true) :
    ∃ t, exec .refclkReturn s = .next t ∧ t.tb.refclk = true ∧ t.tb.beat = s.tb.beat ∧ (s.tb.refclk = true → t = s) ∧
      (s.tb.refclk = false → t.tb.ref ≠ .keeper ∧ levelStands t 16 0 = false) := by
  refine ⟨_, (atPads_free hp _ : execRefclkReturn s = _), ?_⟩
  cases hr : s.tb.refclk
  · rw [if_pos (by simp [hpow])]
    generalize hx : levelEnd { s with tb := { s.tb with refclk := true, refclkEdges := 4096 } } 16 0 = x
    have htb : x.tb = { s.tb with refclk := true, refclkEdges := 4096 } := by rw [← hx, levelEnd_tb]
    have hl : levelStands x 16 0 = false := hx ▸ levelStands_levelEnd ..
    obtain ⟨hon, hbeat, href, hends⟩ := settled_refclk (s := s) (x := x) (b := true) (by rw [htb]) (by rw [htb]) hl
    exact ⟨hon, hbeat, fun h => (nomatch h), fun _ => ⟨href ▸ refOf_present (by rw [htb]), hends⟩⟩
  · rw [if_neg (by simp)]
    exact ⟨hr, rfl, fun _ => rfl, fun h => nomatch h⟩

end

/-! ## Periodic epoch sheaves (R118) -/

section
variable {s : State}

theorem oneSlot_head (type cls src : Nat) (b : Beat) (w₁ w₂ : Nat) :
    (oneSlot type cls src b w₁).words.head? = (oneSlot type cls src b w₂).words.head? := rfl
/-- Of two sheaves of one beat edge the later takes the place of the earlier. -/
theorem replaceEpoch_twice {x y : Sheaf} (h : y.words.head? = x.words.head?) (q : List Sheaf) :
    replaceEpoch y (replaceEpoch x q) = replaceEpoch y q := by
  unfold replaceEpoch
  rw [h]
  by_cases hq : (q.any fun z => z.words.head? = x.words.head?) = true
  · have hany : ((q.map fun z => if z.words.head? = x.words.head? then x else z).any
        fun z => z.words.head? = x.words.head?) = true := by
      obtain ⟨z, hz, hzx⟩ := List.any_eq_true.1 hq
      exact List.any_eq_true.2 ⟨x, List.mem_map.2 ⟨z, hz, if_pos (of_decide_eq_true hzx)⟩, decide_eq_true rfl⟩
    rw [if_pos hq, if_pos hq, if_pos hany, List.map_map]
    refine List.map_congr_left fun z _ => ?_
    by_cases hz : z.words.head? = x.words.head?
    · simp [hz]
    · simp [hz]
  · have hany : ((q ++ [x]).any fun z => z.words.head? = x.words.head?) = true := by simp
    have hkeep : (q.map fun z => if z.words.head? = x.words.head? then y else z) = q := by
      refine (List.map_congr_left fun z hz => if_neg fun hzx => hq ?_).trans (List.map_id q)
      exact List.any_eq_true.2 ⟨z, hz, decide_eq_true hzx⟩
    rw [if_neg hq, if_neg hq, if_pos hany, List.map_append, hkeep]
    simp

/-- A cause of an epoch sheaf outside HELD: its bit is marked, and the sheaf written of the time base that is left. -/
theorem epochCause_marks (h : s.modes.cur ≠ .held) (bit : Nat) :
    (epochCause s bit).tb = { s.tb with flags := s.tb.flags ||| BitVec.ofNat 5 (2 ^ bit), lastQuality := s.tb.quality } ∧
    (epochCause s bit).modes = s.modes ∧ (epochCause s bit).gran.dwq =
      replaceEpoch (oneSlot 4 0 12 s.tb.beat (epochW1 (epochCause s bit))) s.gran.dwq := by
  rw [epochCause, if_neg h]
  exact ⟨rfl, rfl, rfl⟩
/-- The edge in force is a step edge. -/
def stepHere (s : State) : Bool :=
  match s.tb.steps with
  | e :: _ => e.2 = s.tb.up
  | [] => false
/-- The count has wrapped to 0 by counting. -/
def wrapped (s : State) : Bool := s.tb.beat.toNat = 0 && s.tb.up ≠ 0 && !stepHere s
theorem execEpochPeriodic_eq (hpow : powered s = true) : exec .epochPeriodic s = .next
    (if s.tb.beat.toNat % 2 ^ 32 = 0 then
      if wrapped s then epochCause (epochCause s 4) 0 else epochCause s 4
    else s) := by
  change execEpochPeriodic s = _
  unfold execEpochPeriodic
  extract_lets n here s₁
  have hhere : here = stepHere s := rfl
  by_cases hn : s.tb.beat.toNat % 2 ^ 32 = 0
  · have hs₁ : s₁ = epochCause s 4 := if_pos (by rw [decide_eq_true hn, hpow]; rfl)
    have hup : s₁.tb.up = s.tb.up := by rw [hs₁]; exact steered_up (steered_epochCause s 4)
    have hpow₁ : powered s₁ = true := by rw [hs₁, powered, steady_pwr (steady_epochCause s 4)]; exact hpow
    rw [if_pos hn, hpow₁, hup, hhere, hs₁, Bool.and_true]
    rfl
  · have hs₁ : s₁ = s := if_neg (by rw [decide_eq_false hn]; simp)
    have hzero : n ≠ 0 := fun h => hn (by rw [show s.tb.beat.toNat = 0 from h, Nat.zero_mod])
    rw [if_neg hn, decide_eq_false hzero, hs₁]
    rfl
theorem epoch_periodic (hpow : powered s = true) (hh : s.modes.cur ≠ .held) :
    ∃ t, exec .epochPeriodic s = .next t ∧ t.tb.beat = s.tb.beat ∧
      (s.tb.beat.toNat % 2 ^ 32 ≠ 0 → t = s) ∧
      (s.tb.beat.toNat % 2 ^ 32 = 0 →
        t.gran.dwq = replaceEpoch (oneSlot 4 0 12 s.tb.beat (epochW1 t)) s.gran.dwq ∧
        (s.tb.beat.toNat ≠ 0 → t.tb.flags = s.tb.flags ||| 16) ∧
        (s.tb.beat.toNat = 0 → s.tb.up ≠ 0 → s.tb.steps = [] → t.tb.flags = s.tb.flags ||| 16 ||| 1)) := by
  refine ⟨_, execEpochPeriodic_eq hpow, ?_⟩
  obtain ⟨htb, hmodes, hdwq⟩ := epochCause_marks hh 4
  by_cases hn : s.tb.beat.toNat % 2 ^ 32 = 0
  · rw [if_pos hn]
    by_cases hw : wrapped s = true
    · obtain ⟨htb', -, hdwq'⟩ := epochCause_marks (s := epochCause s 4) (by rw [hmodes]; exact hh) 0
      have hzero : s.tb.beat.toNat = 0 := by simp [wrapped] at hw; omega
      have hbeat : (epochCause s 4).tb.beat = s.tb.beat := by rw [htb]
      rw [if_pos hw]
      refine ⟨by rw [htb', htb], fun h => absurd hn h, fun _ => ⟨?_, fun h => absurd hzero h, fun _ _ _ => ?_⟩⟩
      · rw [hdwq', hdwq, hbeat, replaceEpoch_twice (oneSlot_head ..)]
      · rw [htb', htb]
        rfl
    · rw [if_neg hw]
      refine ⟨by rw [htb], fun h => absurd hn h, fun _ => ⟨hdwq, fun _ => by rw [htb]; rfl, fun hz hup hst => ?_⟩⟩
      exact absurd (by simp [wrapped, stepHere, hst, hz, hup]) hw
  · rw [if_neg hn]
    exact ⟨rfl, fun _ => rfl, fun h => absurd h hn⟩

end

/-! ## Replicas of sleeping stooks (R111, R112) -/

section
variable {s : State} {k p r : Nat}

theorem replica_first (hr : (stook s k).prepRetry = none) : replicaMeasured s k p = setStook s k
    (if (stook s k).prep = 0 || !apart p (stook s k).prep 200 then
      { stook s k with prepSince := s.tb.dk, prepNext := some p }
    else { stook s k with prepSince := s.tb.dk, prepRetry := some p }) := by
  unfold replicaMeasured
  simp only [hr]
  split <;> rfl
theorem replica_repeat (hr : (stook s k).prepRetry = some r) : replicaMeasured s k p =
    if !apart p r 5000 then setStook s k { stook s k with prepSince := s.tb.dk, prepNext := some r, prepRetry := none }
    else raise (setStook s k { stook s k with prepSince := s.tb.dk, prepRetry := none }) 26 k 0 := by
  unfold replicaMeasured
  simp only [hr]
variable {st : StookId} {q : BitVec 32}
theorem execReplica_due (hm : serviceMode s.modes.cur = true) (hc : (stook s st.val).clock = false) (hq : q ≠ 0)
    (hs : (stook s st.val).prepSince < s.tb.dk) (hdue : (stook s st.val).prepRetry.isSome = true ∨
      (stook s st.val).prepSince + bits (reg s A_TDC_REPLICA_PERIOD 0) 15 0 ≤ s.tb.dk) :
    exec (.replicaMeasureAsleep st q) s = .next (replicaMeasured s st.val q.toNat) := by
  have hdue' : ((stook s st.val).prepRetry.isSome ||
      decide ((stook s st.val).prepSince + bits (reg s A_TDC_REPLICA_PERIOD 0) 15 0 ≤ s.tb.dk)) = true := by
    simpa only [Bool.or_eq_true, decide_eq_true_eq] using hdue
  change execReplicaMeasureAsleep st q s = _
  unfold execReplicaMeasureAsleep
  dsimp only
  rw [if_pos]
  rw [hm, hc, hdue', decide_eq_true hq, decide_eq_true hs]
  rfl
theorem asleep_first (hm : serviceMode s.modes.cur = true) (hc : (stook s st.val).clock = false) (hq : q ≠ 0)
    (hs : (stook s st.val).prepSince < s.tb.dk) (hr : (stook s st.val).prepRetry = none)
    (hdue : (stook s st.val).prepSince + bits (reg s A_TDC_REPLICA_PERIOD 0) 15 0 ≤ s.tb.dk) :
    ∃ t, exec (.replicaMeasureAsleep st q) s = .next t ∧ (stook t st.val).prep = (stook s st.val).prep ∧
      (stook t st.val).prepSince = s.tb.dk ∧
      ((stook s st.val).prep = 0 ∨ apart q.toNat (stook s st.val).prep 200 = false →
        (stook t st.val).prepNext = some q.toNat ∧ (stook t st.val).prepRetry = none) ∧
      ((stook s st.val).prep ≠ 0 → apart q.toNat (stook s st.val).prep 200 = true →
        (stook t st.val).prepRetry = some q.toNat ∧ (stook t st.val).prepNext = (stook s st.val).prepNext) := by
  refine ⟨_, execReplica_due hm hc hq hs (.inr hdue), ?_⟩
  rw [replica_first hr, stook_setStook_same]
  by_cases h : ((stook s st.val).prep = 0 || !apart q.toNat (stook s st.val).prep 200) = true
  · rw [if_pos h]
    exact ⟨rfl, rfl, fun _ => ⟨rfl, hr⟩, fun h0 ha => absurd h (by simp [h0, ha])⟩
  · rw [if_neg h]
    exact ⟨rfl, rfl, fun h' => absurd (by simpa using h') h, fun _ _ => ⟨rfl, rfl⟩⟩
theorem asleep_repeat (hm : serviceMode s.modes.cur = true) (hc : (stook s st.val).clock = false) (hq : q ≠ 0)
    (hs : (stook s st.val).prepSince < s.tb.dk) (hr : (stook s st.val).prepRetry = some r) :
    ∃ t, exec (.replicaMeasureAsleep st q) s = .next t ∧ (stook t st.val).prep = (stook s st.val).prep ∧
      (stook t st.val).prepRetry = none ∧
      (apart q.toNat r 5000 = false → (stook t st.val).prepNext = some r) ∧
      (apart q.toNat r 5000 = true → (stook t st.val).prepNext = (stook s st.val).prepNext ∧
        bits (tally t A_FLT_COUNT 26) 15 0 = satAdd 65535 (bits (tally s A_FLT_COUNT 26) 15 0) 1) := by
  refine ⟨_, execReplica_due hm hc hq hs (.inl (by rw [hr]; rfl)), ?_⟩
  rw [replica_repeat hr]
  cases ha : apart q.toNat r 5000
  · rw [if_pos (show (!false) = true from rfl), stook_setStook_same]
    exact ⟨rfl, rfl, fun _ => rfl, fun h => nomatch h⟩
  · rw [if_neg (by decide), stook_of_stooks (faultOnly_stooks (faultOnly_raise ..)), stook_setStook_same]
    refine ⟨rfl, rfl, fun h => (nomatch h), fun _ => ⟨rfl, ?_⟩⟩
    rw [count_raise _ _ _ (by decide) (by decide), tally_eq_of_tal (setStook_tal ..)]

end

/-- Settles O18: the steps, REFCLK and the periodic sheaves, then the replicas. -/
theorem stepsAndReferences : Obligations.StepsAndReferences := by
  refine ⟨⟨?_, ?_, ?_, ?_, ?_, ?_, ?_, ?_, ?_⟩, ⟨?_, ?_, ?_⟩, ?_⟩
  · exact fun s n fine hw hsp hb => servo_steps hw hsp hb
  · exact fun s n fine hw h => servo_waits hw h
  · exact fun s v hw hsp hat => load_steps hw hsp hat
  · exact fun s v hw h => load_waits hw h
  · exact fun s hw => execTimeStep_none hw
  · exact fun s e he hne hat hh hsp => epoch_steps he hne hat hh hsp
  · exact fun s he hat hh => epoch_same he hat hh
  · exact fun s e he hne h => epoch_waits he hne h
  · exact fun s he => execEpochChange_none he
  · exact fun s hp hpow => refclk_loss hp hpow
  · exact fun s hp hpow => refclk_return hp hpow
  · exact fun s hpow hh => epoch_periodic hpow hh
  · exact fun st q s hm hc hq hs => ⟨fun hr hdue => asleep_first hm hc hq hs hr hdue, fun r hr => asleep_repeat hm hc hq hs hr⟩

end Sys2Proof.Proofs
end

section
/-!
O19: the messages of the selected master and the offsets they form, Delay_Req, the selection of a master and its loss, the
link of the timing port, and the end of holdover (R99 to R101, R103, R106).
-/
namespace Sys2Proof.Proofs
open Sys2Proof Sys2Proof.Machine Sys2Proof.Laws

/-! ## A message is heard and counted (R99) -/

section
variable {s : State} {h : PtpHeader}

theorem ptpCount_tb (s : State) (i : Nat) : (ptpCount s i).tb = s.tb := count_tb ..
theorem ptpCount_cfg (s : State) (i : Nat) : (ptpCount s i).cfg = s.cfg := count_cfg ..
theorem ptpCount_cal (s : State) (i : Nat) : (ptpCount s i).cal = s.cal := count_cal ..
/-- A message that the port hears, in its own domain, is processed. -/
theorem ptp_hears (hpow : powered s = true) (hon : ptpOn s = true) (hl : s.tb.linkUp = true)
    (hd : ptpDomainOk s h = true) (x y : State) :
    (if !(powered s && ptpOn s && s.tb.linkUp) then s else if !ptpDomainOk s h then x else y) = y := by
  rw [hpow, hon, hl, hd]
  rfl
theorem followed_of_tb {t : State} (htb : t.tb = s.tb) : followed t h = followed s h := by
  rw [followed, followed, htb]
theorem ptp_discarded (w : Bool) (hp : padsFree s = true) (hpow : powered s = true) (hon : ptpOn s = true)
    (hl : s.tb.linkUp = true) : exec (.ptpDiscardedMessage w) s = .next (ptpCount s (if w then 5 else 4)) := by
  refine (atPads_free hp _ : execPtpDiscardedMessage w s = _).trans ?_
  rw [hpow, hon, hl]
  rfl

end

/-! ## The servo takes an offset (R101, R104, R105) -/

/-- The offset was formed, and no two-step Sync waits for its Follow_Up. -/
def Measured (o : Int) (t : TB) : Prop := t.offset = o ∧ t.twoStep = none

section
variable {o : Int} {s : State}

theorem measured_of_steered {t u : TB} (h : steered t = steered u) (hu : Measured o u) : Measured o t :=
  ⟨(congrArg TB.offset h :).trans hu.1, (congrArg TB.twoStep h :).trans hu.2⟩
theorem measured_settleTime (h : Measured o s.tb) : Measured o (settleTime s).tb :=
  measured_of_steered (steered_settleTime s) h
theorem measured_ite {c : Prop} [Decidable c] {t u : State} (ht : Measured o t.tb) (hu : Measured o u.tb) :
    Measured o (if c then t else u).tb := by split <;> assumption
theorem measured_slewOffset (x move : Int) (h : Measured o s.tb) : Measured o (slewOffset s x move).tb := by
  unfold slewOffset
  refine measured_ite ?_ h
  rw [levelBegin_tb]
  exact h
theorem measured_actOnOffset (x move : Int) (h : Measured o s.tb) : Measured o (actOnOffset s x move).tb :=
  measured_ite ⟨h.1, rfl⟩ (measured_slewOffset x move h)
theorem measured_steerFrequency (h : Measured o s.tb) : Measured o (steerFrequency s).tb := measured_ite h h
theorem measured_servoOffset (h : s.tb.twoStep = none) : Measured o (servoOffset s o).tb := by
  unfold servoOffset
  extract_lets offs _ s₁ x s₂ _ lim move before s₃ n _
  have h₁ : Measured o s₁.tb := measured_steerFrequency ⟨rfl, h⟩
  have h₂ : Measured o s₂.tb := measured_ite h₁ (measured_actOnOffset _ _ h₁)
  have h₃ : Measured o s₃.tb := measured_actOnOffset _ _ h₁
  split
  · exact measured_ite (measured_settleTime h₂) h₂
  · exact measured_ite (measured_settleTime h₃) h₃
  · exact h₁
/-- The offset that the timestamps t₁ and t₂ form: device time minus master time (R101). -/
def offsetOf (s : State) (t1 t2 corr : Int) : Int := t2 - t1 - corr - sx 32 (reg s A_PTP_ASYMMETRY 0) - pathDelay s
theorem measured_formOffset (t1 t2 corr : Int) (h : s.tb.twoStep = none) :
    Measured (offsetOf s t1 t2 corr) (formOffset s t1 t2 corr).tb := measured_servoOffset h
theorem offsetOf_eq {t : State} (hcfg : t.cfg = s.cfg) (hd : t.tb.delays = s.tb.delays) (t1 t2 corr : Int) :
    offsetOf t t1 t2 corr = offsetOf s t1 t2 corr := by
  rw [offsetOf, offsetOf, reg_eq_of_cfg hcfg, pathDelay, pathDelay, hd]

end

/-! ## Sync and Follow_Up (R100, R101) -/

/-- The master `h` names is noted as heard by a Sync of interval `k`. -/
def syncHeard (s : State) (h : PtpHeader) (k : Int) : State :=
  editForeign (editForeign (ptpCount s 0) h.source fun f => { f with syncOk := true }) h.source
    fun f => { f with lastSync := s.tb.up, syncInterval := k }
/-- `x` becomes the two-step Sync that waits for its Follow_Up. -/
def withTwoStep (s : State) (x : Option (PtpHeader × Int)) : State := { s with tb := { s.tb with twoStep := x } }

section
variable {s : State} {h : PtpHeader}

theorem withTwoStep_twoStep (s : State) (x : Option (PtpHeader × Int)) : (withTwoStep s x).tb.twoStep = x := rfl
theorem withTwoStep_delays (s : State) (x : Option (PtpHeader × Int)) :
    (withTwoStep s x).tb.delays = s.tb.delays := rfl
theorem withTwoStep_cfg (s : State) (x : Option (PtpHeader × Int)) : (withTwoStep s x).cfg = s.cfg := rfl
theorem syncHeard_tb (k : Int) : ∃ l, (syncHeard s h k).tb = { s.tb with foreign := l } := by
  unfold syncHeard
  have htb := ptpCount_tb s 0
  generalize ptpCount s 0 = x at htb ⊢
  rw [← htb]
  exact ⟨_, rfl⟩
theorem syncHeard_cfg (k : Int) : (syncHeard s h k).cfg = s.cfg := ptpCount_cfg s 0
variable {k : Int}
/-- A Sync of the followed master: a one-step one forms the offset, a two-step one waits. -/
theorem execPtpSync_followed (hp : padsFree s = true) (hpow : powered s = true) (hon : ptpOn s = true)
    (hl : s.tb.linkUp = true) (hd : ptpDomainOk s h = true) (hf : followed s h = true) (hk : -7 ≤ k) (hk' : k ≤ 0)
    (t2 : Int) : (∀ t1, exec (.ptpSync h k (some t1) t2) s =
      .next (formOffset (withTwoStep (syncHeard s h k) none) t1 (atBallIn s t2) (corrTicks h.corr))) ∧
    exec (.ptpSync h k none t2) s = .next (withTwoStep (syncHeard s h k) (some (h, atBallIn s t2))) := by
  have hok : (decide (-7 ≤ k) && decide (k ≤ 0)) = true := by rw [decide_eq_true hk, decide_eq_true hk']; rfl
  have hbody (t1 : Option Int) : exec (.ptpSync h k t1 t2) s = .next (match t1 with
      | some t => formOffset (withTwoStep (syncHeard s h k) none) t (atBallIn s t2) (corrTicks h.corr)
      | none => withTwoStep (syncHeard s h k) (some (h, atBallIn s t2))) := by
    refine (atPads_free hp _ : execPtpSync h k t1 t2 s = _).trans ?_
    rw [ptp_hears hpow hon hl hd, hok]
    unfold syncHeard
    have htb := ptpCount_tb s 0
    have hcal := ptpCount_cal s 0
    generalize ptpCount s 0 = x at htb hcal ⊢
    have hfx : followed x h = true := (followed_of_tb htb).trans hf
    rw [show atBallIn s t2 = atBallIn x t2 by rw [atBallIn, atBallIn, hcal], ← htb]
    dsimp only
    rw [if_neg (by decide), if_neg]
    · rfl
    · rw [show followed (editForeign x h.source fun f => { f with syncOk := true }) h = followed x h from rfl, hfx]
      decide
  exact ⟨fun t1 => hbody (some t1), hbody none⟩
theorem sync_oneStep (hp : padsFree s = true) (hpow : powered s = true) (hon : ptpOn s = true)
    (hl : s.tb.linkUp = true) (hd : ptpDomainOk s h = true) (hf : followed s h = true) (hk : -7 ≤ k) (hk' : k ≤ 0)
    (t1 t2 : Int) : ∃ t, exec (.ptpSync h k (some t1) t2) s = .next t ∧
      t.tb.offset = offsetOf s t1 (atBallIn s t2) (corrTicks h.corr) := by
  obtain ⟨l, htb⟩ := syncHeard_tb (s := s) (h := h) k
  have hcfg := syncHeard_cfg (s := s) (h := h) k
  have hexec := (execPtpSync_followed hp hpow hon hl hd hf hk hk' t2).1 t1
  generalize syncHeard s h k = x at htb hcfg hexec
  have hdelays : (withTwoStep x none).tb.delays = s.tb.delays := by rw [withTwoStep_delays, htb]
  refine ⟨_, hexec, (measured_formOffset t1 _ _ (withTwoStep_twoStep x none)).1.trans ?_⟩
  exact offsetOf_eq ((withTwoStep_cfg x none).trans hcfg) hdelays ..
theorem sync_twoStep (hp : padsFree s = true) (hpow : powered s = true) (hon : ptpOn s = true)
    (hl : s.tb.linkUp = true) (hd : ptpDomainOk s h = true) (hf : followed s h = true) (hk : -7 ≤ k) (hk' : k ≤ 0)
    (t2 : Int) : ∃ t, exec (.ptpSync h k none t2) s = .next t ∧ t.tb.twoStep = some (h, atBallIn s t2) ∧
      t.tb.offset = s.tb.offset := by
  obtain ⟨l, htb⟩ := syncHeard_tb (s := s) (h := h) k
  refine ⟨_, (execPtpSync_followed hp hpow hon hl hd hf hk hk' t2).2, rfl, ?_⟩
  simp only [withTwoStep, htb]
theorem followUp_forms {g : PtpHeader} {t1 t2 : Int} (hp : padsFree s = true) (hpow : powered s = true)
    (hon : ptpOn s = true) (hl : s.tb.linkUp = true) (hd : ptpDomainOk s h = true) (hf : followed s h = true)
    (ht : s.tb.twoStep = some (g, t2)) (hsrc : g.source = h.source) (hseq : g.seq = h.seq) :
    ∃ t, exec (.ptpFollowUp h t1) s = .next t ∧ t.tb.twoStep = none ∧
      t.tb.offset = offsetOf s t1 t2 (corrTicks g.corr + corrTicks h.corr) := by
  have hexec : exec (.ptpFollowUp h t1) s = .next
      (formOffset (withTwoStep (ptpCount s 1) none) t1 t2 (corrTicks g.corr + corrTicks h.corr)) := by
    refine (atPads_free hp _ : execPtpFollowUp h t1 s = _).trans ?_
    rw [ptp_hears hpow hon hl hd]
    have htb := ptpCount_tb s 1
    generalize ptpCount s 1 = x at htb ⊢
    have hfx : followed x h = true := (followed_of_tb htb).trans hf
    rw [← htb] at ht
    dsimp only
    rw [ht]
    exact congrArg Host.Outcome.next (if_pos (by simp [hsrc, hseq, hfx]))
  have hm := measured_formOffset t1 t2 (corrTicks g.corr + corrTicks h.corr) (withTwoStep_twoStep (ptpCount s 1) none)
  refine ⟨_, hexec, hm.2, hm.1.trans (offsetOf_eq ((withTwoStep_cfg ..).trans (ptpCount_cfg s 1)) ?_ ..)⟩
  rw [withTwoStep_delays, ptpCount_tb]

/-! ## Delay_Resp and Delay_Req (R99, R101) -/

theorem delayResp_joins {k t3 t4 d : Int} (hp : padsFree s = true) (hpow : powered s = true) (hon : ptpOn s = true)
    (hl : s.tb.linkUp = true) (hd : ptpDomainOk s h = true) (hf : followed s h = true)
    (hr : s.tb.delayReq = some (h.seq, t3)) (hs : s.tb.syncDiff = some d) :
    ∃ t, exec (.ptpDelayResp h (ownPort s) k t4) s = .next t ∧ t.tb.delayReq = none ∧
      t.tb.delayInterval = clampInt (-7) 3 k ∧ t.tb.delays =
      (roundDiv (d + (t4 - t3 - corrTicks h.corr + sx 32 (reg s A_PTP_ASYMMETRY 0))) 2 :: s.tb.delays).take 16 := by
  have hexec : ∃ x : State, x.tb = s.tb ∧ exec (.ptpDelayResp h (ownPort s) k t4) s = .next { x with tb := { x.tb with
      delays := (roundDiv (d + (t4 - t3 - corrTicks h.corr + sx 32 (reg s A_PTP_ASYMMETRY 0))) 2 :: x.tb.delays).take 16
      delayReq := none, delayInterval := clampInt (-7) 3 k } } := by
    refine ⟨ptpCount s 2, ptpCount_tb s 2, (atPads_free hp _ : execPtpDelayResp h (ownPort s) k t4 s = _).trans ?_⟩
    rw [ptp_hears hpow hon hl hd]
    have htb := ptpCount_tb s 2
    have hcal := ptpCount_cal s 2
    have hcfg := ptpCount_cfg s 2
    generalize ptpCount s 2 = x at htb hcal hcfg ⊢
    have hfx : followed x h = true := (followed_of_tb htb).trans hf
    rw [show ownPort s = ownPort x by rw [ownPort, ownPort, hcal], ← reg_eq_of_cfg hcfg]
    rw [← htb] at hr hs
    dsimp only
    rw [hr, hs]
    exact congrArg Host.Outcome.next (if_pos (by simp [hfx]))
  obtain ⟨x, hx, hexec⟩ := hexec
  exact ⟨_, hexec, rfl, rfl, by rw [← hx]⟩

theorem delayWait_le (s : State) : delayWait s ≤ 2 * logBeats s.tb.delayInterval := by
  unfold delayWait
  refine Nat.div_le_of_le_mul ?_
  rw [Nat.mul_comm 65536]
  exact Nat.mul_le_mul_left _ (by omega)
variable {t3 : Int}
theorem delayReq_goes (hp : padsFree s = true) (hpow : powered s = true) (hon : ptpOn s = true)
    (hl : s.tb.linkUp = true) (hm : s.tb.master.isSome = true) (hdue : s.tb.delayDue ≤ s.tb.up) :
    ∃ t, exec (.delayReqSend t3) s = .next t ∧
       t.tb.delayReq = some (s.tb.delaySeq, atBallOut s t3) ∧ t.tb.delaySeq = s.tb.delaySeq + 1 ∧
       s.tb.up ≤ t.tb.delayDue ∧ t.tb.delayDue ≤ s.tb.up + 2 * logBeats s.tb.delayInterval := by
  obtain ⟨x, htb, hcal, hexec⟩ : ∃ x : State, x.tb = s.tb ∧ x.cal = s.cal ∧ exec (.delayReqSend t3) s = .next
      { x with free := x.free + 1, tb := { x.tb with
        delayReq := some (x.tb.delaySeq, atBallOut x t3), delaySeq := x.tb.delaySeq + 1,
        delayDue := x.tb.up + delayWait x } } := by
    refine ⟨ptpCount (if s.tb.delayReq.isSome then ptpCount s 7 else s) 6, ?_, ?_,
      (atPads_free hp _ : execDelayReqSend t3 s = _).trans ?_⟩
    · rw [ptpCount_tb]
      split
      · exact ptpCount_tb ..
      · rfl
    · rw [ptpCount_cal]
      split
      · exact ptpCount_cal ..
      · rfl
    · rw [if_pos (by simp [hpow, hon, hl, hm, hdue])]
  have hwait := delayWait_le x
  refine ⟨_, hexec, ?_, ?_, ?_, ?_⟩
  · rw [← htb, atBallOut, atBallOut, hcal]
  · rw [← htb]
  · rw [← htb]
    exact Nat.le_add_right ..
  · rw [← htb]
    exact Nat.add_le_add_left hwait _
theorem delayReq_waits (hp : padsFree s = true) (hdue : s.tb.up < s.tb.delayDue) :
    exec (.delayReqSend t3) s = .next s := by
  refine (atPads_free hp _ : execDelayReqSend t3 s = _).trans ?_
  rw [if_neg (by simp [hdue])]

end

/-! ## A first master (R99, R103) -/

section
variable {s : State} {f : Foreign}

theorem steered_master {t u : TB} (h : steered t = steered u) : t.master = u.master := (congrArg TB.master h :)
theorem steered_servo {t u : TB} (h : steered t = steered u) : t.servo = u.servo := (congrArg TB.servo h :)
/-- The only foreign master, when it qualifies and none is selected yet, is selected and acquired. -/
theorem settleMaster_first {id : BitVec 80} (hs : s.tb.foreign = [f]) (hm : s.tb.master = none)
    (hq : qualified s f = true) :
    (settleMaster s id).tb.master = some f.id ∧ (settleMaster s id).tb.servo = .acquire := by
  have hbest : bestMaster s = some f := by
    rw [bestMaster, hs, List.filter_cons_of_pos hq]
    rfl
  have hstay (out : Bool) : (if out && s.tb.master = some id then loseMaster s .listen else s) = s := by
    rw [hm]
    simp
  unfold settleMaster
  dsimp only
  rw [hstay, selectMaster, hbest]
  dsimp only
  rw [if_neg (by rw [hm]; simp)]
  exact ⟨steered_master (steered_settleTime _), steered_servo (steered_settleTime _)⟩
/-- The entry of a master that has sent a second Announce. -/
def announcedAgain (f : Foreign) (ds : PtpDataset) (k : Int) (up : Nat) : Foreign :=
  { f with ds := ds, interval := k, seen := (up :: f.seen).take 2, announceOk := true }
variable {h : PtpHeader} {k : Int} {ds : PtpDataset} {b : Nat}
theorem announce_selects (hp : padsFree s = true) (hpow : powered s = true) (hon : ptpOn s = true)
    (hl : s.tb.linkUp = true) (hd : ptpDomainOk s h = true) (hk : -3 ≤ k) (hk' : k ≤ 3) (hm : s.tb.master = none)
    (hs : s.tb.foreign = [f]) (hid : f.id = h.source) (hok : f.syncOk = true) (hseen : f.seen = [b])
    (hup : s.tb.up ≤ b + 4 * logBeats k) :
    ∃ t, exec (.ptpAnnounce h k true ds) s = .next t ∧ t.tb.master = some h.source ∧ t.tb.servo = .acquire := by
  have hinterval : (true && decide (-3 ≤ k) && decide (k ≤ 3)) = true := by
    rw [decide_eq_true hk, decide_eq_true hk']; rfl
  obtain ⟨x, htb, hexec⟩ : ∃ x : State, x.tb = { s.tb with foreign := [announcedAgain f ds k s.tb.up] } ∧
      exec (.ptpAnnounce h k true ds) s = .next (settleMaster x h.source) := by
    refine ⟨{ ptpCount s 3 with tb := { s.tb with foreign := [announcedAgain f ds k s.tb.up] } }, rfl,
      (atPads_free hp _ : execPtpAnnounce h k true ds s = _).trans ?_⟩
    rw [ptp_hears hpow hon hl hd, hinterval]
    have hcount := ptpCount_tb s 3
    generalize ptpCount s 3 = y at hcount ⊢
    dsimp only
    rw [hcount, hs]
    simp [hid, announcedAgain]
  have hq : qualified x (announcedAgain f ds k s.tb.up) = true := by
    simp only [qualified, announcedAgain, hok, hseen, htb]
    simp [hup]
  obtain ⟨hmaster, hservo⟩ := settleMaster_first (id := h.source) (by rw [htb]) (by rw [htb]; exact hm) hq
  exact ⟨_, hexec, hmaster.trans (congrArg some hid), hservo⟩

end

/-! ## Loss of the master and of the link (R103, R106) -/

section
variable {s : State}

theorem steered_linkUp {t u : TB} (h : steered t = steered u) : t.linkUp = u.linkUp := (congrArg TB.linkUp h :)
theorem steered_linkDownAt {t u : TB} (h : steered t = steered u) : t.linkDownAt = u.linkDownAt :=
  (congrArg TB.linkDownAt h :)
theorem steered_loseMaster (s : State) (next : Servo) :
    ∃ l, steered (loseMaster s next).tb = steered (dropMaster { s.tb with foreign := l } next) := by
  unfold loseMaster
  extract_lets s₁ s₂
  have h₂ : ∃ l, s₂.tb = { s.tb with foreign := l } := by
    unfold s₂
    split
    · exact ⟨_, rfl⟩
    · exact ⟨s.tb.foreign, rfl⟩
  obtain ⟨l, h₂⟩ := h₂
  exact ⟨l, (steered_settleTime _).trans (by rw [← h₂])⟩
/-- Without a master the servo is in `next`; the count and the link are as they were. -/
theorem loseMaster_leaves (s : State) (next : Servo) : (loseMaster s next).tb.master = none ∧
    (loseMaster s next).tb.servo = next ∧ (loseMaster s next).tb.beat = s.tb.beat ∧
    (loseMaster s next).tb.linkUp = s.tb.linkUp ∧ (loseMaster s next).tb.linkDownAt = s.tb.linkDownAt := by
  obtain ⟨l, h⟩ := steered_loseMaster s next
  exact ⟨steered_master h, steered_servo h, (steered_beat h :), (steered_linkUp h :), (steered_linkDownAt h :)⟩
/-- The link is found down at this beat. -/
def linkFallen (s : State) : State := { s with tb := { s.tb with linkUp := false, linkDownAt := s.tb.up } }
theorem master_lost (hp : padsFree s = true) (hpow : powered s = true) (hon : ptpOn s = true)
    (hm : s.tb.master.isSome = true) :
    ∃ t, exec .masterLoss s = .next t ∧ t.tb.master = none ∧ t.tb.servo = .listen ∧ t.tb.beat = s.tb.beat := by
  obtain ⟨hmaster, hservo, hbeat, -, -⟩ := loseMaster_leaves (if masterTimedOut s then s else linkFallen s) .listen
  refine ⟨_, (atPads_free hp _ : execMasterLoss s = _), ?_⟩
  rw [if_pos (by simp [hpow, hon, hm])]
  exact ⟨hmaster, hservo, hbeat.trans (by split <;> rfl)⟩
theorem holdover_ends {b : Nat} (hlost : s.tb.lostAt = some b) (he : s.tb.expired = false)
    (hup : b + bits (reg s A_TB_HOLDOVER_TIME 0) 15 0 * 40960000 ≤ s.tb.up) :
    ∃ t, exec .holdoverExpiry s = .next t ∧ t.tb.expired = true ∧ t.tb.beat = s.tb.beat := by
  have hexec : exec .holdoverExpiry s = .next (settleTime { s with tb := { s.tb with expired := true } }) := by
    change execHoldoverExpiry s = _
    unfold execHoldoverExpiry
    rw [hlost]
    dsimp only
    exact congrArg Host.Outcome.next (if_pos (by rw [he, Config.beatsPerSecond, decide_eq_true hup]; rfl))
  have h := steered_settleTime { s with tb := { s.tb with expired := true } }
  exact ⟨_, hexec, (congrArg TB.expired h :), (steered_beat h :)⟩
/-- The state that a link down leaves, by how it was found (R103, R106). -/
def linkDown (s : State) : State :=
  if s.tb.linkUp then
    if ptpOn s && s.tb.master.isSome then loseMaster (linkFallen s) .listen else linkFallen s
  else if ptpOn s && s.tb.servo ≠ .faulty && linkLongDown s then settleTime (portFaulty s)
  else s
theorem execTpLinkDown_eq (hp : padsFree s = true) (hpow : powered s = true) :
    exec .tpLinkDown s = .next (linkDown s) := by
  refine (atPads_free hp _ : execTpLinkDown s = _).trans ?_
  rw [hpow]
  rfl
theorem steered_portFaulty (s : State) :
    steered (settleTime (portFaulty s)).tb = steered { dropMaster s.tb .faulty with foreign := [] } := by
  rw [steered_settleTime, portFaulty, levelBegin_tb]
theorem linkDown_falls (hl : s.tb.linkUp = true) : (linkDown s).tb.linkUp = false ∧
    (linkDown s).tb.linkDownAt = s.tb.up ∧ (ptpOn s = true → (linkDown s).tb.master = none ∧
      (s.tb.master.isSome = true → (linkDown s).tb.servo = .listen)) := by
  obtain ⟨hmaster, hservo, -, hlink, hat⟩ := loseMaster_leaves (linkFallen s) .listen
  rw [linkDown, if_pos hl]
  by_cases hc : (ptpOn s && s.tb.master.isSome) = true
  · rw [if_pos hc]
    exact ⟨hlink, hat, fun _ => ⟨hmaster, fun _ => hservo⟩⟩
  · rw [if_neg hc]
    refine ⟨rfl, rfl, fun hon => ?_⟩
    have hnone : s.tb.master.isSome = false := by simpa [hon] using hc
    exact ⟨Option.isNone_iff_eq_none.1 (Option.isSome_eq_false_iff.1 hnone), fun h => absurd h (by rw [hnone]; decide)⟩
theorem linkDown_lasts (hl : s.tb.linkUp = false) : (linkDown s).tb.linkUp = false ∧
    (ptpOn s = true → s.tb.servo ≠ .faulty → s.tb.linkDownAt + 40960000 < s.tb.up →
      (linkDown s).tb.servo = .faulty ∧ (linkDown s).tb.master = none) := by
  have h := steered_portFaulty s
  rw [linkDown, if_neg (by rw [hl]; decide)]
  by_cases hc : (ptpOn s && s.tb.servo ≠ .faulty && linkLongDown s) = true
  · rw [if_pos hc]
    exact ⟨(steered_linkUp h).trans hl, fun _ _ _ => ⟨steered_servo h, steered_master h⟩⟩
  · rw [if_neg hc]
    refine ⟨hl, fun hon hf hlong => absurd ?_ hc⟩
    have hdown : linkLongDown s = true := by
      rw [linkLongDown, hl, Config.beatsPerSecond, decide_eq_true hlong]
      rfl
    rw [hon, hdown, decide_eq_true hf]
    rfl
theorem link_down (hp : padsFree s = true) (hpow : powered s = true) :
    ∃ t, exec .tpLinkDown s = .next t ∧ t.tb.linkUp = false ∧
      (ptpOn s = true → s.tb.linkUp = true → t.tb.linkDownAt = s.tb.up ∧ t.tb.master = none ∧
        (s.tb.master.isSome = true → t.tb.servo = .listen)) ∧
      (ptpOn s = true → s.tb.linkUp = false → s.tb.servo ≠ .faulty → s.tb.linkDownAt + 40960000 < s.tb.up →
        t.tb.servo = .faulty ∧ t.tb.master = none) := by
  refine ⟨_, execTpLinkDown_eq hp hpow, ?_⟩
  cases hl : s.tb.linkUp
  · obtain ⟨hdown, hfaulty⟩ := linkDown_lasts hl
    exact ⟨hdown, fun _ h => absurd h (by decide), fun hon _ => hfaulty hon⟩
  · obtain ⟨hdown, hat, hlost⟩ := linkDown_falls hl
    exact ⟨hdown, fun hon _ => ⟨hat, hlost hon⟩, fun _ h => absurd h (by decide)⟩
theorem link_up (hp : padsFree s = true) (hpow : powered s = true) :
    ∃ t, exec .tpLinkUp s = .next t ∧ t.tb.linkUp = true ∧
      (ptpOn s = true → s.tb.servo = .faulty → t.tb.servo = .listen) := by
  refine ⟨_, (atPads_free hp _ : execTpLinkUp s = _), ?_⟩
  rw [if_neg (by rw [hpow]; decide)]
  by_cases hc : (ptpOn s && s.tb.servo = .faulty) = true
  · rw [if_pos hc]
    exact ⟨steered_linkUp (steered_settleTime _), fun _ _ => steered_servo (steered_settleTime _)⟩
  · rw [if_neg hc]
    exact ⟨rfl, fun hon hf => absurd (by rw [hon, decide_eq_true hf]; rfl) hc⟩

end

/-- Settles O19: the messages of the master and Delay_Req, then selection, loss and the link. -/
theorem precisionTime : Obligations.PrecisionTime := by
  refine ⟨⟨?_, ?_, ?_, ?_, ?_, ?_⟩, ?_, ?_, ?_, ?_, ?_⟩
  · exact fun h k t1 t2 s hp hpow hon hl hd hf hk hk' => sync_oneStep hp hpow hon hl hd hf hk hk' t1 t2
  · exact fun h k t2 s hp hpow hon hl hd hf hk hk' => sync_twoStep hp hpow hon hl hd hf hk hk' t2
  · exact fun h g t1 t2 s hp hpow hon hl hd hf ht hsrc hseq => followUp_forms hp hpow hon hl hd hf ht hsrc hseq
  · exact fun h k t3 t4 d s hp hpow hon hl hd hf hr hs => delayResp_joins hp hpow hon hl hd hf hr hs
  · exact fun t3 s hp hpow hon hl hm => ⟨delayReq_goes hp hpow hon hl hm, delayReq_waits hp⟩
  · exact fun w s hp hpow hon hl => ⟨_, ptp_discarded w hp hpow hon hl, ptpCount_tb .., tally_count_word ..⟩
  · exact fun h k ds f b s hp hpow hon hl hd hk hk' hm hs hid hok hseen _ hup =>
      announce_selects hp hpow hon hl hd hk hk' hm hs hid hok hseen hup
  · exact fun s hp hpow hon hm => master_lost hp hpow hon hm
  · exact fun s b hlost he hup => holdover_ends hlost he hup
  · exact fun s hp hpow => link_down hp hpow
  · exact fun s hp hpow => link_up hp hpow

end Sys2Proof.Proofs
end

section
/-!
O28: the merge schedule fills the quires, which close and are sent; the links' reports (R146, R229, R230, R243).
-/
namespace Sys2Proof.Proofs
open Sys2Proof Sys2Proof.Machine Sys2Proof.Laws

/-! ## Lanes after an update -/

section
variable {s t : State}

theorem lane_of_lanes (h : t.lanes = s.lanes) (u : Nat) : lane t u = lane s u := congrArg (pget Uplane.dflt · u) h
theorem faultOnly_lanes (h : FaultOnly s t) : t.lanes = s.lanes := by rw [h.1]

variable (s)

@[simp] theorem lane_setLane_same (u : Nat) (x : Uplane) : lane (setLane s u x) u = x := by
  rw [lane_setLane, if_pos rfl]
@[simp] theorem lane_count (id inst hi lo n u : Nat) : lane (count s id inst hi lo n) u = lane s u := rfl
theorem lane_setLane_other (x : Uplane) {u v : Nat} (h : v ≠ u) : lane (setLane s u x) v = lane s v := by
  rw [lane_setLane, if_neg h]

end

/-! ## What a discard leaves -/

/-- The stored units and the sheaves that wait for their direct writer. -/
def storedQueued (s : State) : List GUnit × List Sheaf := (s.gran.units, s.gran.dwq)

section
variable (s : State)

theorem storedQueued_useGranary : storedQueued (useGranary s) = storedQueued s := by
  unfold useGranary wakeGranary
  split
  · rfl
  · unfold pllRequest
    dsimp only
    split <;> rfl
theorem pushSheaf_running {s : State} (h : s.modes.cur ≠ .held) (x : Sheaf) :
    pushSheaf s x = { s with gran := { s.gran with dwq := s.gran.dwq ++ [x] } } := if_neg h
/-- A known loss is counted, raised and announced behind the sheaves that wait; the fault collector and the tallies aside,
nothing else changes (R146). -/
theorem guardLost_known {s : State} (h : s.modes.cur ≠ .held) (finder src seq : Nat) :
    ∃ t, FaultOnly s t ∧ guardLost s finder src seq false = { t with gran := { s.gran with dwq := s.gran.dwq ++
      [oneSlot 9 0 finder s.tb.beat (4 * 2 ^ 56 + src * 2 ^ 52 + seq * 2 ^ 36)] } } := by
  have hraise := faultOnly_trans (faultOnly_count s A_WN_GUARD src 15 0 1)
    (faultOnly_raise (count s A_WN_GUARD src 15 0 1) 12 src seq)
  have hcur := faultOnly_cur hraise
  have hgran := faultOnly_gran hraise
  have htb := faultOnly_tb hraise
  refine ⟨_, hraise, ?_⟩
  unfold guardLost controlLoss
  simp only [Bool.false_eq_true, if_false]
  generalize raise (count s A_WN_GUARD src 15 0 1) 12 src seq = t at *
  rw [pushSheaf_running (by rwa [hcur]), hgran, htb, show bnat false = 0 from rfl, Nat.zero_mul, Nat.add_zero]

end

/-! ## One unit joins the open quire (R193, R230) -/

/-- The lane has room for n more slots in its open quire: a quire that they would overfill closes first. -/
def makeRoom (s : State) (u n : Nat) : State :=
  if quireCap (lane s u) < (lane s u).opnSlots + n then closeQuire s u else s
/-- The unit joins the open quire. -/
def joinQuire (s : State) (u : Nat) (x : GUnit) : State :=
  setLane s u { lane s u with opn := (lane s u).opn ++ [x.arr], opnSlots := (lane s u).opnSlots + x.slots.length }
/-- The unit that a lane takes, by what the guard code found in it. -/
def takeRead (s : State) (u : Nat) (x : GUnit) (builder : Bool) : Guard → State
  | .clean => joinQuire (takeUnit (makeRoom s u x.slots.length) u x.arr) u x
  | .corrected n => joinQuire (count (takeUnit (makeRoom s u x.slots.length) u x.arr) A_WN_GUARD x.src 31 16 n) u x
  | .lost unknown => discardRead (takeUnit (makeRoom s u x.slots.length) u x.arr) u x builder unknown
/-- The lane can take unit x: it has slots, they fit into the transfers left, and its quire can close if it must. -/
def Takes (s : State) (u room : Nat) (x : GUnit) : Prop :=
  (1 ≤ x.slots.length ∧ x.slots.length ≤ room) ∧
    ¬ (quireCap (lane s u) < (lane s u).opnSlots + x.slots.length ∧ 4 ≤ (lane s u).closed.length)

section
variable {s : State} {u scope : Nat} {x : GUnit}

theorem selectUnit_noteDone (s : State) (kind k u scope : Nat) :
    selectUnit (noteDone s kind k) u scope = selectUnit s u scope := by
  unfold selectUnit
  rw [noteDone_gran, noteDone_tb]
theorem mergeLoop_idle (h : selectUnit s u scope = none) (fuel room moved : Nat) (g : Guard) (builder : Bool) :
    mergeLoop fuel u scope room moved g builder s = (moved, s) := by
  cases fuel with
  | zero => rfl
  | succ fuel => rw [mergeLoop, h]
theorem mergeLoop_takes {room : Nat} (h : selectUnit s u scope = some x) (hx : Takes s u room x) (fuel moved : Nat) (g : Guard)
    (builder : Bool) : mergeLoop (fuel + 1) u scope room moved g builder s =
      mergeLoop fuel u scope (room - x.slots.length) (moved + x.slots.length) .clean builder (takeRead s u x builder g) := by
  obtain ⟨hn, hfull⟩ := hx
  rw [mergeLoop, h]
  dsimp only
  rw [if_neg (by simp only [Bool.or_eq_true, decide_eq_true_eq]; omega), if_neg (by simpa using hfull)]
  cases g <;> rfl
theorem mergeLoop_stops {room : Nat} (h : selectUnit s u scope = some x) (hx : ¬ Takes s u room x) (fuel moved : Nat) (g : Guard)
    (builder : Bool) : mergeLoop (fuel + 1) u scope room moved g builder s = (moved, s) := by
  rw [mergeLoop, h]
  dsimp only
  split
  · rfl
  · next hn =>
    simp only [Bool.or_eq_true, decide_eq_true_eq] at hn
    rw [if_pos]
    by_contra hfull
    simp only [Bool.and_eq_true, decide_eq_true_eq] at hfull
    exact hx ⟨by omega, by simpa using hfull⟩

end

/-! ## What the merge leaves of the units, the queue and the lane -/

/-- From `s` to `t` lane u's quires keep their units and stay at four closed ones at most; the stored units keep their
arrival numbers and the direct writers' sheaves wait on. -/
structure MergeFrame (u : Nat) (s t : State) : Prop where
  arrs : t.gran.units.map GUnit.arr = s.gran.units.map GUnit.arr
  dwq : t.gran.dwq = s.gran.dwq
  units : laneUnits (lane s u) ⊆ laneUnits (lane t u)
  closed : (lane s u).closed.length ≤ 4 → (lane t u).closed.length ≤ 4

section
variable {s t : State} {u : Nat}

theorem mergeFrame_refl (u : Nat) (s : State) : MergeFrame u s s := ⟨rfl, rfl, List.Subset.refl _, id⟩
theorem mergeFrame_trans {r : State} (h : MergeFrame u s t) (g : MergeFrame u t r) : MergeFrame u s r :=
  ⟨g.arrs.trans h.arrs, g.dwq.trans h.dwq, List.Subset.trans h.units g.units, fun hc => g.closed (h.closed hc)⟩

/-- A closing moves the units of the open quire into the last closed one. -/
theorem laneUnits_closeQuire (s : State) (u : Nat) : laneUnits (lane (closeQuire s u) u) = laneUnits (lane s u) := by
  unfold closeQuire
  dsimp only
  split
  · rw [lane_setLane_same]
    rfl
  · rw [lane_setLane_same]
    simp [laneUnits]
theorem closed_closeQuire (s : State) (u : Nat) :
    (lane (closeQuire s u) u).closed.length ≤ (lane s u).closed.length + 1 := by
  unfold closeQuire
  dsimp only
  split
  · rw [lane_setLane_same]
    exact Nat.le_succ _
  · rw [lane_setLane_same, List.length_append]
    exact Nat.le_refl _
theorem closeQuire_gran (s : State) (u : Nat) : (closeQuire s u).gran = s.gran := by
  unfold closeQuire
  dsimp only
  split <;> rfl
theorem makeRoom_frame {room : Nat} {x : GUnit} (hx : Takes s u room x) : MergeFrame u s (makeRoom s u x.slots.length) := by
  unfold makeRoom
  split
  · next hfull =>
    have hfour : (lane s u).closed.length < 4 := Nat.lt_of_not_le fun h => hx.2 ⟨hfull, h⟩
    refine ⟨?_, ?_, ?_, fun _ => Nat.le_trans (closed_closeQuire s u) hfour⟩
    · rw [closeQuire_gran]
    · rw [closeQuire_gran]
    · rw [laneUnits_closeQuire]
      exact List.Subset.refl _
  · exact mergeFrame_refl u s
theorem takeUnit_lanes (s : State) (u arr : Nat) : (takeUnit s u arr).lanes = s.lanes := useGranary_lanes _
theorem takeUnit_frame (s : State) (u arr : Nat) : MergeFrame u s (takeUnit s u arr) := by
  have hkept := storedQueued_useGranary (touchBanks s (match unitAt s arr with | some x => x.slots | none => []))
  have hunits := congrArg Prod.fst hkept
  constructor
  · refine (List.map_map ..).trans ((congrArg _ hunits).trans (List.map_congr_left fun x _ => ?_))
    dsimp only [Function.comp]
    repeat' split
    all_goals rfl
  · exact congrArg Prod.snd hkept
  · rw [lane_of_lanes (takeUnit_lanes s u arr)]
    exact List.Subset.refl _
  · rw [lane_of_lanes (takeUnit_lanes s u arr)]
    exact id
theorem laneUnits_joinQuire (s : State) (u : Nat) (x : GUnit) :
    laneUnits (lane (joinQuire s u x) u) = laneUnits (lane s u) ++ [x.arr] := by
  rw [joinQuire, lane_setLane_same]
  exact (List.append_assoc ..).symm
theorem joinQuire_frame (s : State) (u : Nat) (x : GUnit) : MergeFrame u s (joinQuire s u x) := by
  refine ⟨rfl, rfl, ?_, ?_⟩
  · rw [laneUnits_joinQuire]
    exact List.subset_append_left ..
  · rw [joinQuire, lane_setLane_same]
    exact id
/-- The lane's open quire has room and the unit is IN_FLIGHT. -/
theorem taken_frame {room : Nat} {x : GUnit} (hx : Takes s u room x) :
    MergeFrame u s (takeUnit (makeRoom s u x.slots.length) u x.arr) :=
  mergeFrame_trans (makeRoom_frame hx) (takeUnit_frame ..)
theorem takeRead_clean_frame {room : Nat} {x : GUnit} (hx : Takes s u room x) (builder : Bool) :
    MergeFrame u s (takeRead s u x builder .clean) := mergeFrame_trans (taken_frame hx) (joinQuire_frame ..)
/-- Units without a loss: the quires only grow. -/
theorem mergeLoop_frame (u scope : Nat) (builder : Bool) : ∀ (fuel room moved : Nat) (s : State),
    MergeFrame u s (mergeLoop fuel u scope room moved .clean builder s).2 ∧
      moved ≤ (mergeLoop fuel u scope room moved .clean builder s).1 := by
  intro fuel
  induction fuel with
  | zero => exact fun room moved s => ⟨mergeFrame_refl u s, Nat.le_refl _⟩
  | succ fuel ih =>
    intro room moved s
    cases hsel : selectUnit s u scope with
    | none =>
      rw [mergeLoop_idle hsel]
      exact ⟨mergeFrame_refl u s, Nat.le_refl _⟩
    | some x =>
      by_cases hx : Takes s u room x
      · rw [mergeLoop_takes hsel hx]
        obtain ⟨hframe, hmoved⟩ := ih (room - x.slots.length) (moved + x.slots.length) (takeRead s u x builder .clean)
        exact ⟨mergeFrame_trans (takeRead_clean_frame hx builder) hframe, by omega⟩
      · rw [mergeLoop_stops hsel hx]
        exact ⟨mergeFrame_refl u s, Nat.le_refl _⟩

end

/-! ## A unit that is read with a loss (R146) -/

section
variable {s : State} {u : Nat} {x : GUnit}

theorem discardRead_lanes (s : State) (u : Nat) (x : GUnit) (builder unknown : Bool) :
    (discardRead s u x builder unknown).lanes = s.lanes := by
  unfold discardRead
  split
  · rfl
  · unfold guardLost controlLoss
    dsimp only
    rw [pushSheaf_lanes, faultOnly_lanes (faultOnly_raise ..)]
    split <;> rfl
/-- A unit that no lane has in flight goes, and its loss is announced. -/
theorem discardRead_known (h : s.modes.cur ≠ .held) (hfly : x.flying = []) (u : Nat) (builder : Bool) :
    (∀ w ∈ (discardRead s u x builder false).gran.units, w.arr ≠ x.arr) ∧
      oneSlot 9 0 (finderOf builder) s.tb.beat (4 * 2 ^ 56 + x.src * 2 ^ 52 + x.seq.toNat * 2 ^ 36) ∈
        (discardRead s u x builder false).gran.dwq := by
  obtain ⟨t, -, ht⟩ := guardLost_known (s := keepUnits s fun y => y.arr ≠ x.arr) h (finderOf builder) x.src x.seq.toNat
  rw [discardRead, hfly, if_neg (by simp), ht]
  exact ⟨fun w hw => by simpa using (List.mem_filter.1 hw).2, List.mem_append_right _ (List.mem_cons_self ..)⟩
theorem makeRoom_modes_tb (s : State) (u n : Nat) :
    (makeRoom s u n).modes = s.modes ∧ (makeRoom s u n).tb = s.tb := by
  unfold makeRoom closeQuire
  dsimp only
  repeat' split
  all_goals exact ⟨rfl, rfl⟩
theorem takeUnit_tb (s : State) (u arr : Nat) : (takeUnit s u arr).tb = s.tb := useGranary_tb _
theorem takeUnit_modes (s : State) (u arr : Nat) : (takeUnit s u arr).modes = s.modes := useGranary_modes _

/-- Whatever is found in the unit, at most four quires stand closed. -/
theorem takeRead_closed {room : Nat} (hx : Takes s u room x) (hc : (lane s u).closed.length ≤ 4) (builder : Bool) (g : Guard) :
    (lane (takeRead s u x builder g) u).closed.length ≤ 4 := by
  have htaken := (taken_frame hx).closed hc
  cases g with
  | clean => exact (joinQuire_frame ..).closed htaken
  | corrected n => exact (joinQuire_frame ..).closed (by rwa [lane_count])
  | lost unknown =>
    rw [takeRead, lane_of_lanes (discardRead_lanes ..)]
    exact htaken
theorem takeRead_clean_mem (s : State) (u : Nat) (x : GUnit) (builder : Bool) :
    x.arr ∈ laneUnits (lane (takeRead s u x builder .clean) u) := by
  rw [takeRead, laneUnits_joinQuire]
  exact List.mem_append_right _ (List.mem_cons_self ..)
theorem takeRead_lost (h : s.modes.cur ≠ .held) (hfly : x.flying = []) (u : Nat) (builder : Bool) :
    (∀ w ∈ (takeRead s u x builder (.lost false)).gran.units, w.arr ≠ x.arr) ∧
      oneSlot 9 0 (finderOf builder) s.tb.beat (4 * 2 ^ 56 + x.src * 2 ^ 52 + x.seq.toNat * 2 ^ 36) ∈
        (takeRead s u x builder (.lost false)).gran.dwq := by
  have hcur : (takeUnit (makeRoom s u x.slots.length) u x.arr).modes.cur ≠ .held := by
    rwa [takeUnit_modes, (makeRoom_modes_tb ..).1]
  have hlost := discardRead_known hcur hfly u builder
  rwa [takeUnit_tb, (makeRoom_modes_tb ..).2] at hlost

end

/-! ## An entry of the schedule (R229) -/

section
variable {k : BitVec 12} {e : Nat} {found : Guard} {builder : Bool} {s : State}

theorem selecting_merging (h : selecting s = true) : merging s = true := (Bool.and_eq_true_iff.1 h).1
theorem merging_cur (h : merging s = true) : s.modes.cur ≠ .held := by
  simp only [merging, Bool.and_eq_true, decide_eq_true_eq] at h
  exact h.1.1
/-- A tally's upper word counts one event. -/
theorem tally_count_high (s : State) (id inst n : Nat) :
    bits (tally (count s id inst 63 32 n) id inst) 63 32 = satAdd (2 ^ 32 - 1) (bits (tally s id inst) 63 32) n :=
  tally_count_same s id inst n (by decide)
theorem mergeEntry_waits {u : Nat} (h : 4 ≤ (lane s u).closed.length) (scope : Nat) (g : Guard) (builder : Bool) :
    mergeEntry s u scope g builder = count s A_MG_SKIPS u 63 32 1 := if_pos h
theorem mergeEntry_idle {u scope : Nat} (h : (lane s u).closed.length < 4) (hsel : selectUnit s u scope = none) (g : Guard)
    (builder : Bool) : mergeEntry s u scope g builder = count s A_MG_SKIPS u 31 0 1 := by
  rw [mergeEntry, if_neg (by omega), mergeLoop_idle hsel]
  rfl
theorem mergeEntry_takes {u scope : Nat} {x : GUnit} (h : (lane s u).closed.length < 4) (hsel : selectUnit s u scope = some x)
    (hn : 1 ≤ x.slots.length) (hn' : x.slots.length ≤ 5) (g : Guard) (builder : Bool) :
    MergeFrame u (takeRead s u x builder g) (mergeEntry s u scope g builder) := by
  have hx : Takes s u 5 x := ⟨⟨hn, hn'⟩, fun hfull => by omega⟩
  obtain ⟨hframe, hmoved⟩ :=
    mergeLoop_frame u scope builder 5 (5 - x.slots.length) (0 + x.slots.length) (takeRead s u x builder g)
  rw [mergeEntry, if_neg (by omega), mergeLoop_takes hsel hx]
  dsimp only
  rwa [if_neg (by omega)]

/-- Entry k of the variant in force, in its beat, for an ACTIVE lane. -/
theorem exec_mergeScheduleEntry (he : e = (pget 0 s.mg.sched ((s.mg.variant.toNat - 1) * 4096 + k.toNat)).toNat)
    (hsel : selecting s = true) (hv : s.mg.variant ≠ 0) (hbeat : s.tb.beat.toNat % 1024 = k.toNat / 4)
    (hfresh : fresh s (8 + k.toNat / 512) (k.toNat % 512) = true) (hvalid : bitAt e 7 = true)
    (hst : (lane s (bits e 6 5)).st = .active) : exec (.mergeScheduleEntry k found builder) s =
      .next (mergeEntry (noteDone s (8 + k.toNat / 512) (k.toNat % 512)) (bits e 6 5) (reg s A_MG_SCOPE (bits e 4 0)) found
        builder) := by
  have hv' : s.mg.variant.toNat ≠ 0 := fun h => hv (BitVec.eq_of_toNat_eq h)
  subst he
  refine congrArg Host.Outcome.next (if_pos ?_)
  simp only [Bool.and_eq_true, decide_eq_true_eq]
  exact ⟨⟨⟨⟨⟨hsel, hv'⟩, hbeat⟩, hfresh⟩, hvalid⟩, hst⟩

end

/-! ## A closing (R230) -/

section
variable {s : State} {u : Nat}

theorem closingDue_opn {x : Uplane} (h : closingDue s x = true) : x.opn.isEmpty = false := by
  simp only [closingDue, Bool.and_eq_true, Bool.not_eq_true'] at h
  exact h.1
theorem lane_closeQuire (h : (lane s u).opn.isEmpty = false) : lane (closeQuire s u) u =
    { lane s u with opn := [], opnSlots := 0, closeDue := false, qnum := (lane s u).qnum + 1,
                    closed := (lane s u).closed ++ [{
        units := (lane s u).opn, slots := (lane s u).opnSlots, qnum := (lane s u).qnum, deckle := deckle s,
        quality := s.tb.quality, owner := s.barns.owner, sent := false }] } := by
  rw [closeQuire, h]
  exact lane_setLane_same ..
/-- A closing that is due closes the open quire, or waits while four stand closed. -/
theorem exec_quireClose (u : Lane) (hm : merging (settleRequests s) = true)
    (hdue : closingDue (settleRequests s) (lane (settleRequests s) u.val) = true) : exec (.quireClose u) s =
      .next (if 4 ≤ (lane (settleRequests s) u.val).closed.length then
        setLane (settleRequests s) u.val { lane (settleRequests s) u.val with closeDue := true }
      else closeQuire (settleRequests s) u.val) := by
  refine congrArg Host.Outcome.next (if_pos ?_)
  rw [hm, hdue]
  rfl

/-! ## A quire is sent (R230) -/

/-- The send of quire q: its line, its mark, and the mark of its units. -/
def sendQuire (s : State) (u : Nat) (q : Quire) : State :=
  mapUnits (setLane s u { lane s u with closed := markSent q.qnum (lane s u).closed, line := quireBytes s u q,
                                        repSlots := (lane s u).repSlots + q.slots, repQuires := (lane s u).repQuires + 1 })
    fun y => if q.units.contains y.arr && !y.sentOn.contains u then { y with sentOn := y.sentOn ++ [u] } else y
theorem exec_quireSend (u : Lane) {q : Quire} (hq : (lane s u.val).closed.find? (fun x => !x.sent) = some q)
    (hm : merging s = true) (hst : (lane s u.val).st = .active ∨ (lane s u.val).st = .draining)
    (hreply : pendingReply s u.val = none) : exec (.quireSend u) s =
      .next (if windowAllows (lane s u.val) q then
        count (count (sendQuire s u.val q) A_LK_TRAFFIC u.val 31 0 q.slots) A_LK_TRAFFIC u.val 63 32 1
      else s) := by
  have hst' : (decide ((lane s u.val).st = .active) || decide ((lane s u.val).st = .draining)) = true := by simpa using hst
  change execQuireSend u s = _
  unfold execQuireSend
  dsimp only
  rw [hq, hreply, hm, hst']
  simp only [Bool.true_and, Option.isNone_none, Bool.and_true]
  rfl

end

/-! ## The links' reports (R243) -/

/-- The two reports of a planned lane, whose counts begin again. -/
def reportLane (u : Nat) (s : State) : State :=
  if planned s u then
    let x := lane s u
    let s := pushSheaf s (report 14 s.tb.beat 0x40 u x.repSlots x.repQuires)
    let s := pushSheaf s (report 14 s.tb.beat 0x41 u x.repUnits x.repRewinds)
    setLane s u { x with repSlots := 0, repQuires := 0, repUnits := 0, repRewinds := 0 }
  else s

section
variable {s : State}

theorem pushSheaf_dwq (h : s.modes.cur ≠ .held) (x : Sheaf) : (pushSheaf s x).gran.dwq = s.gran.dwq ++ [x] := by
  rw [pushSheaf_running h]
/-- The two reports of lane u as `s` has its counts stand in `t`'s queue, and in `t` the counts begin again. -/
def LaneReported (s t : State) (u : Nat) : Prop :=
  (lane t u).repSlots = 0 ∧ (lane t u).repQuires = 0 ∧
    report 14 s.tb.beat 0x40 u (lane s u).repSlots (lane s u).repQuires ∈ t.gran.dwq ∧
    report 14 s.tb.beat 0x41 u (lane s u).repUnits (lane s u).repRewinds ∈ t.gran.dwq
/-- What a lane's report leaves: the mode, the beat and the plan of the lanes. -/
def reportBase (s : State) : Modes × TB × PMap Nat × Nl := (s.modes, s.tb, s.cfg, s.nl)

theorem planned_of_base {t : State} (h : reportBase t = reportBase s) (u : Nat) : planned t u = planned s u := by
  simp only [reportBase, Prod.mk.injEq] at h
  obtain ⟨-, -, hcfg, hnl⟩ := h
  rw [planned, planned, hnl, reg_eq_of_cfg hcfg]
theorem reportBase_reportLane (u : Nat) (s : State) : reportBase (reportLane u s) = reportBase s := by
  unfold reportLane
  split
  · simp [reportBase]
  · rfl
theorem lane_reportLane_other {u v : Nat} (hv : v ≠ u) (s : State) : lane (reportLane u s) v = lane s v := by
  unfold reportLane
  split
  · rw [lane_setLane_other _ _ hv, lane_of_lanes (pushSheaf_lanes ..), lane_of_lanes (pushSheaf_lanes ..)]
  · rfl
theorem dwq_reportLane (h : s.modes.cur ≠ .held) (u : Nat) : s.gran.dwq ⊆ (reportLane u s).gran.dwq := by
  unfold reportLane
  split
  · rw [setLane_gran, pushSheaf_dwq (by rwa [pushSheaf_modes]), pushSheaf_dwq h]
    exact List.Subset.trans (List.subset_append_left ..) (List.subset_append_left ..)
  · exact List.Subset.refl _
theorem laneReported_reportLane (h : s.modes.cur ≠ .held) {u : Nat} (hp : planned s u = true) :
    LaneReported s (reportLane u s) u := by
  rw [reportLane, if_pos hp]
  dsimp only
  rw [LaneReported, lane_setLane_same, setLane_gran, pushSheaf_dwq (by rwa [pushSheaf_modes]), pushSheaf_dwq h, pushSheaf_tb]
  simp
/-- The reports of the lanes below n, one after another. -/
theorem forNat_reportLane (h : s.modes.cur ≠ .held) (n : Nat) : reportBase (forNat n reportLane s) = reportBase s ∧
    (∀ v, n ≤ v → lane (forNat n reportLane s) v = lane s v) ∧
    ∀ v, v < n → planned s v = true → LaneReported s (forNat n reportLane s) v := by
  induction n with
  | zero => exact ⟨rfl, fun _ _ => rfl, fun v hv => absurd hv (Nat.not_lt_zero v)⟩
  | succ n ih =>
    obtain ⟨hbase, habove, hbelow⟩ := ih
    rw [forNat]
    generalize forNat n reportLane s = t at *
    have htb : t.tb = s.tb := congrArg (fun b => b.2.1) hbase
    have hcur : t.modes.cur ≠ .held := by
      rw [show t.modes = s.modes from congrArg Prod.fst hbase]
      exact h
    refine ⟨(reportBase_reportLane n t).trans hbase, fun v hv => ?_, fun v hv hp => ?_⟩
    · rw [lane_reportLane_other (by omega), habove v (by omega)]
    · rcases Nat.lt_succ_iff_lt_or_eq.1 hv with hlt | rfl
      · obtain ⟨hslots, hquires, htraffic, hunits⟩ := hbelow v hlt hp
        rw [LaneReported, lane_reportLane_other (by omega)]
        exact ⟨hslots, hquires, dwq_reportLane hcur n htraffic, dwq_reportLane hcur n hunits⟩
      · have hown := laneReported_reportLane hcur ((planned_of_base hbase v).trans hp)
        rwa [LaneReported, htb, habove v (Nat.le_refl v)] at hown
theorem exec_linkReport (hcur : s.modes.cur ≠ .held) (hdue : periodDue s (reg s A_LK_REPORT_PERIOD 0) = true)
    (hfresh : fresh s 3 0 = true) : exec .linkReport s = .next (forNat 4 reportLane (noteDone s 3 0)) := by
  change execLinkReport s = _
  unfold execLinkReport
  rw [hdue, hfresh, decide_eq_true hcur]
  exact congrArg Host.Outcome.next (if_pos rfl)

end

/-! ## O28 -/

section
variable {s : State}

/-- A unit that fits is taken into the lane's quires or, found uncorrectable, discarded and announced. -/
theorem entry_takes {u scope : Nat} {x : GUnit} (hcur : s.modes.cur ≠ .held) (hfour : (lane s u).closed.length < 4)
    (hx : selectUnit s u scope = some x) (hn : 1 ≤ x.slots.length) (hn' : x.slots.length ≤ 5) (found : Guard)
    (builder : Bool) :
    (lane (mergeEntry s u scope found builder) u).closed.length ≤ 4 ∧
    (found = .clean → x.arr ∈ laneUnits (lane (mergeEntry s u scope found builder) u)) ∧
    (found = .lost false → x.flying = [] → (∀ w ∈ (mergeEntry s u scope found builder).gran.units, w.arr ≠ x.arr) ∧
      oneSlot 9 0 (finderOf builder) s.tb.beat (4 * 2 ^ 56 + x.src * 2 ^ 52 + x.seq.toNat * 2 ^ 36) ∈
        (mergeEntry s u scope found builder).gran.dwq) := by
  have hframe := mergeEntry_takes hfour hx hn hn' found builder
  have htakes : Takes s u 5 x := ⟨⟨hn, hn'⟩, fun hfull => Nat.not_le_of_lt hfour hfull.2⟩
  refine ⟨hframe.closed (takeRead_closed htakes (Nat.le_of_lt hfour) builder found), ?_, ?_⟩
  · rintro rfl
    exact hframe.units (takeRead_clean_mem ..)
  · rintro rfl hfly
    obtain ⟨hgone, htold⟩ := takeRead_lost hcur hfly u builder
    refine ⟨fun w hw heq => ?_, hframe.dwq ▸ htold⟩
    have harr : x.arr ∈ (takeRead s u x builder (.lost false)).gran.units.map GUnit.arr :=
      hframe.arrs ▸ heq ▸ List.mem_map_of_mem hw
    obtain ⟨v, hv, hvx⟩ := List.mem_map.1 harr
    exact hgone v hv hvx
theorem quire_closes (u : Lane) (hm : merging (settleRequests s) = true)
    (hdue : closingDue (settleRequests s) (lane (settleRequests s) u.val) = true) :
    ((lane (settleRequests s) u.val).closed.length < 4 → ∃ t, exec (.quireClose u) s = .next t ∧ (lane t u.val).opn = [] ∧
      (lane t u.val).qnum = (lane (settleRequests s) u.val).qnum + 1 ∧
      (lane t u.val).closed = (lane (settleRequests s) u.val).closed ++ [{
        units := (lane (settleRequests s) u.val).opn, slots := (lane (settleRequests s) u.val).opnSlots,
        qnum := (lane (settleRequests s) u.val).qnum, deckle := deckle (settleRequests s),
        quality := (settleRequests s).tb.quality, owner := (settleRequests s).barns.owner, sent := false }]) ∧
    (4 ≤ (lane (settleRequests s) u.val).closed.length → ∃ t, exec (.quireClose u) s = .next t ∧
      (lane t u.val).closed = (lane (settleRequests s) u.val).closed ∧
      (lane t u.val).opn = (lane (settleRequests s) u.val).opn ∧ (lane t u.val).closeDue = true) := by
  have hexec := exec_quireClose u hm hdue
  refine ⟨fun hfour => ⟨_, hexec, ?_⟩, fun hfour => ⟨_, hexec, ?_⟩⟩
  · rw [if_neg (by omega), lane_closeQuire (closingDue_opn hdue)]
    exact ⟨rfl, rfl, rfl⟩
  · rw [if_pos hfour, lane_setLane_same]
    exact ⟨rfl, rfl, rfl⟩
theorem quire_sent (u : Lane) {q : Quire} (hq : (lane s u.val).closed.find? (fun x => !x.sent) = some q)
    (hm : merging s = true) (hst : (lane s u.val).st = .active ∨ (lane s u.val).st = .draining)
    (hreply : pendingReply s u.val = none) (hin : windowAllows (lane s u.val) q = true) :
    ∃ t, exec (.quireSend u) s = .next t ∧ (lane t u.val).line = quireBytes s u.val q ∧
      (lane t u.val).closed = markSent q.qnum (lane s u.val).closed ∧ (lane t u.val).cred = (lane s u.val).cred ∧
      bits (tally t A_LK_TRAFFIC u.val) 31 0 = satAdd (2 ^ 32 - 1) (bits (tally s A_LK_TRAFFIC u.val) 31 0) q.slots := by
  have hlane : lane (sendQuire s u.val q) u.val = { lane s u.val with
      closed := markSent q.qnum (lane s u.val).closed, line := quireBytes s u.val q,
      repSlots := (lane s u.val).repSlots + q.slots, repQuires := (lane s u.val).repQuires + 1 } := lane_setLane_same ..
  refine ⟨_, exec_quireSend u hq hm hst hreply, ?_⟩
  rw [if_pos hin]
  rw [lane_count, lane_count, hlane, tally_count_field _ _ _ _ (by decide) (by decide), tally_count_word,
    tally_eq_of_tal (s := s) rfl]
  exact ⟨rfl, rfl, rfl, rfl⟩
theorem lane_reported (hcur : s.modes.cur ≠ .held) (hdue : periodDue s (reg s A_LK_REPORT_PERIOD 0) = true)
    (hfresh : fresh s 3 0 = true) {u : Nat} (hu : u < 4) (hp : planned s u = true) :
    ∃ t, exec .linkReport s = .next t ∧ LaneReported s t u := by
  obtain ⟨-, -, hreported⟩ := forNat_reportLane (s := noteDone s 3 0) hcur 4
  exact ⟨_, exec_linkReport hcur hdue hfresh, hreported u hu hp⟩

end

/-- Settles O28: the ends of a schedule entry, the closing, the send, and the reports of the links. -/
theorem mergeAndQuires : Obligations.MergeAndQuires := by
  refine ⟨fun k e found builder s he hsel hv hbeat hfresh hvalid hst => ?_, ?_, ?_, ?_⟩
  · have hexec := exec_mergeScheduleEntry (found := found) (builder := builder) he hsel hv hbeat hfresh hvalid hst
    have hcur := merging_cur (selecting_merging hsel)
    refine ⟨fun hfour => ⟨_, hexec, ?_⟩, fun hfour hnone => ⟨_, hexec, ?_⟩, fun x hfour hx hn hn' => ⟨_, hexec, ?_⟩⟩
    · rw [mergeEntry_waits (s := noteDone ..) hfour, tally_count_high]
      exact ⟨count_gran .., count_lanes .., rfl⟩
    · rw [mergeEntry_idle (s := noteDone ..) hfour ((selectUnit_noteDone ..).trans hnone), tally_count_word]
      exact ⟨count_gran .., count_lanes .., rfl⟩
    · exact entry_takes (s := noteDone ..) hcur hfour ((selectUnit_noteDone ..).trans hx) hn hn' found builder
  · rintro u s _ rfl hm hdue
    exact quire_closes u hm hdue
  · refine fun u q s hq hm hst hreply => ⟨quire_sent u hq hm hst hreply, fun hout => ?_⟩
    rw [exec_quireSend u hq hm hst hreply, if_neg (by rw [hout]; decide)]
  · exact fun s u hcur hdue hfresh hu hp => lane_reported hcur hdue hfresh hu hp

end Sys2Proof.Proofs
end

section
/-!
O21: finished sheaves take their numbers and enter staging; a channel's tally reports fall due (R122, R123, R141, R155).
-/
namespace Sys2Proof.Proofs
open Sys2Proof Sys2Proof.Machine Sys2Proof.Laws

/-! ## What waits for the output queue (R123) -/

/-- The sheaves of a stook that are queued or wait for the queue, oldest first. -/
def lined (k : Stook) : List Sheaf := k.outq ++ k.waitq.map Prod.snd

/-- Sheaves pass from the waiting ones into the queue: none is lost, none overtakes, and the rest of the stook but its note of
work stays. -/
theorem takeWaiting_frame (n up : Nat) (k : Stook) : lined (takeWaiting n up k) = lined k ∧
    k.outq <+: (takeWaiting n up k).outq ∧ (takeWaiting n up k).fill = k.fill := by
  induction n generalizing k with
  | zero => exact ⟨rfl, List.prefix_refl _, rfl⟩
  | succ n ih =>
    unfold takeWaiting
    split
    · exact ⟨rfl, List.prefix_refl _, rfl⟩
    · next b x rest hw =>
      split
      · obtain ⟨hlined, hprefix, hfill⟩ := ih { k with outq := k.outq ++ [x], waitq := rest, busy := true }
        refine ⟨hlined.trans ?_, (List.prefix_append ..).trans hprefix, hfill⟩
        simp [lined, hw]
      · exact ⟨rfl, List.prefix_refl _, rfl⟩
/-- One sheaf waits, is due and fits. -/
theorem takeWaiting_one {k : Stook} {b up : Nat} {x : Sheaf} (hw : k.waitq = [(b, x)]) (hb : b ≤ up)
    (hroom : outqEntries k + sheafEntries x ≤ 32) :
    takeWaiting 1 up k = { k with outq := k.outq ++ [x], waitq := [], busy := true } := by
  rw [takeWaiting, hw]
  dsimp only
  rw [if_pos (by simp [hb, hroom]), takeWaiting]

/-- The sheaf waits for the output queue from beat `due` on. -/
def waitsFrom (k : Stook) (due : Nat) (x : Sheaf) : Stook := { k with waitq := k.waitq ++ [(due, x)], busy := true }

section
variable (s : State)

theorem refillQueue_cases (st : Nat) : refillQueue s st = s ∨
    refillQueue s st = setStook s st (takeWaiting (stook s st).waitq.length s.tb.up (stook s st)) := by
  unfold refillQueue
  exact ite_eq_or_eq ..
theorem refillQueue_frame (st : Nat) : lined (stook (refillQueue s st) st) = lined (stook s st) ∧
    (stook s st).outq <+: (stook (refillQueue s st) st).outq ∧
    (stook (refillQueue s st) st).fill = (stook s st).fill := by
  obtain h | h := refillQueue_cases s st
  · rw [h]
    exact ⟨rfl, List.prefix_refl _, rfl⟩
  · rw [h, stook_setStook_same]
    exact takeWaiting_frame ..
theorem refillQueue_idle {s : State} {st : Nat} (h : (stook s st).waitq = []) : refillQueue s st = s := by
  rw [refillQueue, h]
  rfl
theorem refillQueue_gran (st : Nat) : (refillQueue s st).gran = s.gran := by
  obtain h | h := refillQueue_cases s st <;> rw [h]
  rfl

/-- A refill writes its stook only. -/
theorem refillQueue_stooks (st : Nat) : refillQueue s st = { s with stooks := (refillQueue s st).stooks } := by
  obtain h | h := refillQueue_cases s st <;> rw [h]
  rfl
theorem outLater_eq (st due : Nat) (x : Sheaf) :
    outLater s st due x = refillQueue (setStook s st (waitsFrom (stook s st) due x)) st := rfl
theorem outLater_stooks (st due : Nat) (x : Sheaf) :
    outLater s st due x = { s with stooks := (outLater s st due x).stooks } := refillQueue_stooks (setStook s st _) st
theorem outLater_chs (st due : Nat) (x : Sheaf) : (outLater s st due x).chs = s.chs := by rw [outLater_stooks]
theorem outLater_tb (st due : Nat) (x : Sheaf) : (outLater s st due x).tb = s.tb := by rw [outLater_stooks]
/-- A report takes its place behind all that is queued or waits. -/
theorem lined_outLater (st due : Nat) (x : Sheaf) :
    lined (stook (outLater s st due x) st) = lined (stook s st) ++ [x] := by
  obtain ⟨hlined, -, -⟩ := refillQueue_frame
    (setStook s st (waitsFrom (stook s st) due x)) st
  refine hlined.trans ?_
  rw [stook_setStook_same]
  simp [lined, waitsFrom]

/-- A stook's clock that runs, by the mode and the core PLL. -/
theorem stookRuns_congr {s t : State} {st : Nat} (hmodes : t.modes = s.modes)
    (hclock : (stook t st).clock = (stook s st).clock) (hpll : serviceMode s.modes.cur = false → t.clk = s.clk) :
    stookRuns t st = stookRuns s st := by
  unfold stookRuns
  rw [hmodes, hclock]
  cases hm : serviceMode s.modes.cur
  · rw [hpll hm]
  · rfl

variable {s} {st due : Nat} {x : Sheaf}

/-- In a stook that runs, with nothing before it, a report that is due and fits is queued at once. -/
theorem stook_outLater (hruns : stookRuns s st = true) (hw : (stook s st).waitq = []) (hdue : due ≤ s.tb.up)
    (hroom : outqEntries (stook s st) + sheafEntries x ≤ 32) : stook (outLater s st due x) st =
      { stook s st with outq := (stook s st).outq ++ [x], waitq := [], busy := true } := by
  have hwait : stook (setStook s st (waitsFrom (stook s st) due x)) st = waitsFrom (stook s st) due x :=
    stook_setStook_same ..
  have hwaitq : (waitsFrom (stook s st) due x).waitq = [(due, x)] := by
    rw [waitsFrom, hw]
    rfl
  have hruns' : stookRuns (setStook s st (waitsFrom (stook s st) due x)) st = true :=
    (stookRuns_congr (s := s) (t := setStook ..) rfl (by rw [hwait]; rfl) fun _ => rfl).trans hruns
  rw [outLater_eq, refillQueue, hwait, hruns', hwaitq]
  dsimp only
  rw [if_neg (by simp), stook_setStook_same]
  exact takeWaiting_one hwaitq hdue hroom

/-- The queue of a stook that runs is one report longer, and nothing waits for it. -/
theorem outLater_queues (hruns : stookRuns s st = true) (hw : (stook s st).waitq = []) (hdue : due ≤ s.tb.up)
    (hroom : outqEntries (stook s st) + sheafEntries x ≤ 32) : stookRuns (outLater s st due x) st = true ∧
      (stook (outLater s st due x) st).waitq = [] ∧
      (stook (outLater s st due x) st).outq = (stook s st).outq ++ [x] := by
  have hstook := stook_outLater hruns hw hdue hroom
  refine ⟨?_, by rw [hstook], by rw [hstook]⟩
  rw [stookRuns_congr (s := s) (by rw [outLater_stooks]) (by rw [hstook]) fun _ => by rw [outLater_stooks]]
  exact hruns

end

/-! ## A sheaf enters staging (R122, R141) -/

section
variable {s : State} {x : Sheaf} {rest : List Sheaf}

/-- The stook whose oldest sheaf has entered the filling bank under number q. -/
def stagedStook (s : State) (k : Stook) (x : Sheaf) (rest : List Sheaf) : Stook :=
  { k with outq := rest, fill := k.fill ++ [(number s x).1], busy := true, moved := movedNow s k + sheafEntries x,
           movedUp := s.tb.up }
theorem exec_sheafToStaging (st : StookId) (hq : (stook s st.val).outq = x :: rest) (hruns : stookRuns s st.val = true) :
    exec (.sheafToStaging st) s = .next (if fillEntries (stook s st.val) + sheafEntries x ≤ 128 ∧
        movedNow s (stook s st.val) + sheafEntries x ≤ 4 then
      refillQueue (setStook (bumpSeq s x.src) st.val (stagedStook s (stook s st.val) x rest)) st.val
    else s) := by
  change execSheafToStaging st s = _
  unfold execSheafToStaging
  dsimp only
  rw [hq, hruns]
  simp only [Bool.true_and, Bool.and_eq_true, decide_eq_true_eq]
  rfl
theorem sheaf_staged (st : StookId) (hq : (stook s st.val).outq = x :: rest) (hruns : stookRuns s st.val = true)
    (hfill : fillEntries (stook s st.val) + sheafEntries x ≤ 128)
    (hmoved : movedNow s (stook s st.val) + sheafEntries x ≤ 4) :
    ∃ t n, exec (.sheafToStaging st) s = .next t ∧ rest <+: (stook t st.val).outq ∧
      ((stook s st.val).waitq = [] → (stook t st.val).outq = rest) ∧
      (stook t st.val).fill = (stook s st.val).fill ++ [n] ∧ n.sheaf.src = x.src ∧ n.sheaf.cls = x.cls ∧
      n.seq = BitVec.ofNat 16 (pget 0 s.gran.seq x.src) ∧
      pget 0 t.gran.seq x.src = (pget 0 s.gran.seq x.src + 1) % 2 ^ 16 := by
  have hstook : stook (setStook (bumpSeq s x.src) st.val (stagedStook s (stook s st.val) x rest)) st.val =
      stagedStook s (stook s st.val) x rest := stook_setStook_same ..
  obtain ⟨-, hprefix, hbank⟩ :=
    refillQueue_frame (setStook (bumpSeq s x.src) st.val (stagedStook s (stook s st.val) x rest)) st.val
  rw [hstook] at hprefix hbank
  refine ⟨_, (number s x).1, exec_sheafToStaging st hq hruns, ?_⟩
  rw [if_pos ⟨hfill, hmoved⟩]
  refine ⟨hprefix, fun hw => ?_, hbank, rfl, rfl, rfl, ?_⟩
  · rw [refillQueue_idle (by rw [hstook]; exact hw), hstook]
    rfl
  · rw [refillQueue_gran]
    exact pget_pset_same ..

end

/-! ## A channel's reports (R155) -/

/-- The channel's counts begin again, and its stook is woken. -/
def reportBegun (s : State) (c : Nat) : State :=
  wakeStook (setChan (noteDone s 1 c) c { chan s c with repKept := 0, repChaff := 0, repPile := 0, repSkip := 0 }) (c / 16)
/-- The two reports of a channel. -/
def keepReport (s : State) (c : Nat) : Sheaf := report (c / 16) s.tb.beat 0x10 c (chan s c).repKept (chan s c).repChaff
def lossReport (s : State) (c : Nat) : Sheaf := report (c / 16) s.tb.beat 0x11 c (chan s c).repPile (chan s c).repSkip

section
variable {s : State} {c : Nat}

/-- A wake notes the work and the request of its stook. -/
theorem stook_wakeStook (s : State) (k : Nat) :
    ∃ w, stook (wakeStook s k) k = { stook s k with busy := true, wake := w } := by
  unfold wakeStook
  dsimp only
  split
  · refine ⟨some s.tb.up, ?_⟩
    rw [stook_of_stooks (pllRequest_stooks ..), stook_setStook_same]
    rfl
  · exact ⟨(stook s k).wake, stook_setStook_same ..⟩
theorem wakeStook_tb_modes (s : State) (k : Nat) : (wakeStook s k).tb = s.tb ∧ (wakeStook s k).modes = s.modes := by
  unfold wakeStook
  dsimp only
  split
  · exact ⟨pllRequest_tb _, pllRequest_modes _⟩
  · exact ⟨rfl, rfl⟩
theorem wakeStook_clk {s : State} (h : serviceMode s.modes.cur = false) (k : Nat) : (wakeStook s k).clk = s.clk := by
  unfold wakeStook
  dsimp only
  rw [if_neg (by simp [h])]
  rfl
theorem exec_tallyReport (c : Chan) (hcur : s.modes.cur ≠ .held) (hb : atBoundary s = true)
    (hp : reg s A_WN_TALLY_PERIOD 0 ≠ 0)
    (hphase : (deckle s).toNat % reg s A_WN_TALLY_PERIOD 0 = c.val * reg s A_WN_TALLY_PERIOD 0 / 192)
    (hfence : fencedStook s (c.val / 16) = false) (hfresh : fresh s 1 c.val = true) : exec (.tallyReport c) s =
      .next (outLater (outLater (reportBegun s c.val) (c.val / 16) s.tb.up (keepReport s c.val)) (c.val / 16) s.tb.up
        (lossReport s c.val)) := by
  change execTallyReport c s = _
  unfold execTallyReport
  dsimp only
  rw [if_pos (by simp [hcur, hb, hp, hphase, hfence, hfresh])]
  unfold keepReport lossReport
  rw [outLater_tb, (wakeStook_tb_modes _ _).1]
  rfl
theorem stook_reportBegun (s : State) (c : Nat) :
    ∃ w, stook (reportBegun s c) (c / 16) = { stook s (c / 16) with busy := true, wake := w } := stook_wakeStook ..
theorem stookRuns_reportBegun (s : State) (c : Nat) : stookRuns (reportBegun s c) (c / 16) = stookRuns s (c / 16) := by
  obtain ⟨w, hstook⟩ := stook_reportBegun s c
  exact stookRuns_congr (wakeStook_tb_modes _ _).2 (by rw [hstook]) fun h =>
    wakeStook_clk (s := setChan (noteDone s 1 c) c _) h _

theorem sheafEntries_report (src : Nat) (b : Beat) (kind inst a v : Nat) :
    sheafEntries (report src b kind inst a v) = 1 := by
  rw [sheafEntries, show (report src b kind inst a v).words.length = 2 from rfl]
/-- Both reports stand in the queue or wait for it, behind all that stood there. -/
theorem reports_lined (s : State) (c : Nat) : lined (stook (outLater (outLater (reportBegun s c) (c / 16) s.tb.up
    (keepReport s c)) (c / 16) s.tb.up (lossReport s c)) (c / 16)) =
      lined (stook s (c / 16)) ++ [keepReport s c] ++ [lossReport s c] := by
  obtain ⟨w, hstook⟩ := stook_reportBegun s c
  rw [lined_outLater, lined_outLater, hstook]
  rfl
theorem outqEntries_of_outq {k l : Stook} {x : Sheaf} (h : l.outq = k.outq ++ [x]) :
    outqEntries l = outqEntries k + sheafEntries x := by
  simp [outqEntries, sheafEntries, h]
/-- In a stook that runs, with nothing before them and room for both, the reports are queued at once. -/
theorem reports_queued (hruns : stookRuns s (c / 16) = true) (hw : (stook s (c / 16)).waitq = [])
    (hroom : outqEntries (stook s (c / 16)) ≤ 30) : (stook (outLater (outLater (reportBegun s c) (c / 16) s.tb.up
      (keepReport s c)) (c / 16) s.tb.up (lossReport s c)) (c / 16)).outq =
        (stook s (c / 16)).outq ++ [keepReport s c] ++ [lossReport s c] := by
  obtain ⟨w, hstook⟩ := stook_reportBegun s c
  have htb : (reportBegun s c).tb = s.tb := (wakeStook_tb_modes _ _).1
  have hkeep : sheafEntries (keepReport s c) = 1 := sheafEntries_report ..
  have hloss : sheafEntries (lossReport s c) = 1 := sheafEntries_report ..
  have hentries : outqEntries (stook (reportBegun s c) (c / 16)) = outqEntries (stook s (c / 16)) := by
    rw [hstook]
    rfl
  obtain ⟨hruns₁, hwait₁, houtq₁⟩ := outLater_queues (x := keepReport s c) (due := s.tb.up)
    ((stookRuns_reportBegun s c).trans hruns) (by rw [hstook]; exact hw) (by rw [htb]) (by omega)
  have hentries₁ := outqEntries_of_outq houtq₁
  obtain ⟨-, -, houtq₂⟩ := outLater_queues (x := lossReport s c) (due := s.tb.up) hruns₁ hwait₁
    (by rw [outLater_tb, htb]) (by omega)
  rw [houtq₂, houtq₁, hstook]
theorem report_mem {l : List Sheaf} {x : Sheaf} (hx : x ∈ [keepReport s c, lossReport s c]) :
    x ∈ l ++ [keepReport s c] ++ [lossReport s c] := by
  rw [List.append_assoc]
  exact List.mem_append_right l hx
/-- The counts begin again. -/
theorem chan_reported (s : State) (c : Nat) : chan (outLater (outLater (reportBegun s c) (c / 16) s.tb.up
    (keepReport s c)) (c / 16) s.tb.up (lossReport s c)) c =
      { chan s c with repKept := 0, repChaff := 0, repPile := 0, repSkip := 0 } := by
  rw [chan_of_chs (outLater_chs ..), chan_of_chs (outLater_chs ..), reportBegun, chan_wakeStook, chan_setChan_same]

end

/-- Settles O21: a sheaf enters staging or stays; the two reports of a channel. -/
theorem sheavesAndReports : Obligations.SheavesAndReports := by
  refine ⟨fun st x rest s hq hruns => ⟨sheaf_staged st hq hruns, fun hfull => ?_⟩,
    fun c s hcur hb hp hphase hfence hfresh =>
      ⟨_, exec_tallyReport c hcur hb hp hphase hfence hfresh, fun x hx => ⟨?_, fun hruns hw hroom => ?_⟩, ?_⟩⟩
  · rw [exec_sheafToStaging st hq hruns, if_neg (by omega)]
  · change x ∈ lined (stook _ _)
    rw [reports_lined]
    exact report_mem hx
  · rw [reports_queued hruns hw hroom]
    exact report_mem hx
  · rw [chan_reported]
    exact ⟨rfl, rfl, rfl, rfl⟩

end Sys2Proof.Proofs
end

section
/-!
O25: `WN_GUARD` of a source number that no sheaf of the spec has is stored where `FLT_COUNT` of source 12 is, and the loss of its
staged sheaf, which raises source 12, is counted there twice (R146, R352).
-/
namespace Sys2Proof.Proofs
open Sys2Proof Sys2Proof.Machine Sys2Proof.Laws

/-- A tally stands under its identifier * 512 plus its unit's number: `WN_GUARD` of this source is `FLT_COUNT` of 12. -/
def straySource : Nat := (A_FLT_COUNT - A_WN_GUARD) * 512 + 12
def straySheaf : Numbered := { sheaf := { src := straySource, cls := 2, words := [0, 0], hit := none }, seq := 0 }
/-- Calibration mode, with that sheaf alone in the draining bank of stook 0, after the requests of the beat. -/
def strayState : State :=
  setStook { State.reset with modes := { State.reset.modes with cur := .cal } } 0 { Stook.dflt with drain := [straySheaf] }

theorem tally_straySource (s : State) : tally s A_WN_GUARD straySource = tally s A_FLT_COUNT 12 := rfl
theorem settleRequests_strayState : settleRequests strayState = strayState := if_pos rfl
theorem drain_strayState : (stook strayState 0).drain = [straySheaf] := rfl
theorem exec_strayState : exec (.stagingDrain 0 (.lost false)) strayState = .next (drainStaging strayState 0 (.lost false)) := by
  change writeRow strayState (drainStaging · 0 (.lost false)) = _
  rw [writeRow, settleRequests_strayState]
  exact congrArg Host.Outcome.next (if_neg (by decide))
/-- The stage counts the loss, and the collector counts the fault that it raises, in one entry. -/
theorem drained_strayState : tally (drainStaging strayState 0 (.lost false)) A_WN_GUARD straySource = 2 := by
  rw [tally_straySource]
  decide

/-- Refutes O25: its clause on an uncorrectable sheaf takes the sheaf's source from any number, and the lost sheaf of
`strayState` leaves 2, not 1, in its source's `WN_GUARD`, which was 0. -/
theorem not_staging : ¬ Obligations.Staging := by
  rintro ⟨-, -, hlost⟩
  obtain ⟨t, hexec, -, -, -, hcount⟩ :=
    hlost 0 straySheaf [] strayState strayState (by decide) settleRequests_strayState.symm drain_strayState
  cases exec_strayState.symm.trans hexec
  rw [show straySheaf.sheaf.src = straySource from rfl, drained_strayState] at hcount
  exact absurd hcount (by decide)

end Sys2Proof.Proofs
end

section
/-!
O22: the words of the trigger port (R157 to R159, R163), the answers (R164 to R166) and loss of signal (R183).
-/
namespace Sys2Proof.Proofs
open Sys2Proof Sys2Proof.Machine Sys2Proof.Laws

/-! ## Fields of a word, most significant bit first (R157) -/

section
variable (w m x : Nat)

/-- A field's first bit is the value's highest, so its last is the lowest: the rest is the field of the value's half. -/
theorem wordField_succ : wordField w (m + 1) x = x % 2 * 2 ^ (w + m) + wordField w m (x / 2) := by
  have hlow : (if bitAt x 0 then 2 ^ (w + (m + 1) - 1 - 0) else 0) = x % 2 * 2 ^ (w + m) := by
    rcases Nat.mod_two_eq_zero_or_one x with h | h <;> simp [bitAt, h]
  have hbit (j : Nat) : bitAt x (j + 1) = bitAt (x / 2) j := by
    simp only [bitAt, Nat.pow_succ', Nat.div_div_eq_div_mul]
  have hexp (j : Nat) : w + (m + 1) - 1 - (j + 1) = w + m - 1 - j := by omega
  simp only [wordField, List.range_succ_eq_map, List.map_cons, List.sum_cons, List.map_map, Function.comp_def, hlow,
    Nat.succ_eq_add_one, hbit, hexp]
/-- A field lies from its place on. -/
theorem wordField_shift : wordField w m x = 2 ^ w * wordField 0 m x := by
  induction m generalizing x with
  | zero => rfl
  | succ m ih => rw [wordField_succ, wordField_succ, ih, Nat.zero_add, pow_add]; ring
theorem wordField_lt : wordField 0 m x < 2 ^ m := by
  induction m generalizing x with
  | zero => exact Nat.one_pos
  | succ m ih =>
    have hrest := ih (x / 2)
    have htop : x % 2 * 2 ^ m ≤ 1 * 2 ^ m := Nat.mul_le_mul_right _ (by omega)
    rw [wordField_succ, Nat.zero_add, pow_succ]
    omega
/-- Nothing else of the word reaches the field between what lies below it and above it. -/
theorem word_div {r : Nat} (hr : r < 2 ^ w) (h : Nat) : (r + wordField w m x + 2 ^ (w + m) * h) / 2 ^ (w + m) = h := by
  have hlow : r + wordField w m x < 2 ^ (w + m) := by
    have hmul : 2 ^ w * (wordField 0 m x + 1) ≤ 2 ^ w * 2 ^ m := Nat.mul_le_mul_left _ (wordField_lt m x)
    rw [Nat.mul_succ] at hmul
    rw [wordField_shift, pow_add]
    omega
  rw [Nat.add_mul_div_left _ _ (by positivity), Nat.div_eq_of_lt hlow, Nat.zero_add]

theorem sentField_succ (v : Nat) : sentField v w (m + 1) = sentField v w m * 2 + v / 2 ^ (w + m) % 2 := by
  simp [sentField, List.range_succ]
/-- A field that is sent is read back. -/
theorem sentField_wordField {r : Nat} (hr : r < 2 ^ w) (h : Nat) :
    sentField (r + wordField w m x + 2 ^ (w + m) * h) w m = x % 2 ^ m := by
  induction m generalizing x h with
  | zero => simp [sentField, Nat.mod_one]
  | succ m ih =>
    have htail : r + wordField w (m + 1) x + 2 ^ (w + (m + 1)) * h =
        r + wordField w m (x / 2) + 2 ^ (w + m) * (x % 2 + 2 * h) := by
      rw [wordField_succ, ← Nat.add_assoc w, pow_succ]
      ring
    rw [sentField_succ, htail, ih, word_div _ _ _ hr, pow_succ', Nat.mod_mul]
    omega

end

/-! ## TG_IN (R157, R159) -/

section
variable (op : BitVec 3) (cls : BitVec 1) (operand : BitVec 12)

/-- The word that carries these fields. -/
def tgInWord : Nat := wordField 0 3 op.toNat + wordField 3 1 cls.toNat + wordField 4 12 operand.toNat

theorem tgInWord_lt : tgInWord op cls operand < 2 ^ 16 := by
  have hop := wordField_lt 3 op.toNat
  have hcls := wordField_lt 1 cls.toNat
  have hoperand := wordField_lt 12 operand.toNat
  rw [tgInWord, wordField_shift 3, wordField_shift 4]
  omega
theorem sentField_opcode : sentField (tgInWord op cls operand) 0 3 = op.toNat := by
  have hsplit : tgInWord op cls operand = 0 + wordField 0 3 op.toNat +
      2 ^ (0 + 3) * (wordField 0 1 cls.toNat + 2 * wordField 0 12 operand.toNat) := by
    rw [tgInWord, wordField_shift 3, wordField_shift 4]
    ring
  rw [hsplit, sentField_wordField _ _ _ (by decide), Nat.mod_eq_of_lt op.isLt]
theorem sentField_class : sentField (tgInWord op cls operand) 3 1 = cls.toNat := by
  have hsplit : tgInWord op cls operand = wordField 0 3 op.toNat + wordField 3 1 cls.toNat +
      2 ^ (3 + 1) * wordField 0 12 operand.toNat := by
    rw [tgInWord, wordField_shift 4]
  rw [hsplit, sentField_wordField _ _ _ (wordField_lt 3 _), Nat.mod_eq_of_lt cls.isLt]
theorem sentField_operand : sentField (tgInWord op cls operand) 4 12 = operand.toNat := by
  have hlow : wordField 0 3 op.toNat + wordField 3 1 cls.toNat < 2 ^ 4 := by
    have hop := wordField_lt 3 op.toNat
    have hcls := wordField_lt 1 cls.toNat
    rw [wordField_shift 3]
    omega
  have hsplit : tgInWord op cls operand = wordField 0 3 op.toNat + wordField 3 1 cls.toNat +
      wordField 4 12 operand.toNat + 2 ^ (4 + 12) * 0 := rfl
  rw [hsplit, sentField_wordField _ _ _ hlow, Nat.mod_eq_of_lt operand.isLt]

/-- Bit 11 of a SYNC word's operand tells a load word from a byte word (R91). -/
theorem syncOperand_load : operand.getLsbD 11 = !decide (operand.toNat < 2048) := by
  have hlt := operand.isLt
  rw [BitVec.getLsbD, Nat.testBit_eq_decide_div_mod_eq, ← decide_not]
  exact decide_eq_decide.2 (by omega)
/-- The operand's fields of Table 5.3, cut out as numbers. -/
theorem ofNat_div_eq_extract (lo n : Nat) : BitVec.ofNat n (operand.toNat / 2 ^ lo) = operand.extractLsb' lo n := by
  apply BitVec.eq_of_toNat_eq
  rw [BitVec.toNat_ofNat, BitVec.extractLsb'_toNat, Nat.shiftRight_eq_div_pow]
theorem ofNat_mod_eq_extract (n : Nat) : BitVec.ofNat n (operand.toNat % 2 ^ n) = operand.extractLsb' 0 n := by
  rw [← ofNat_div_eq_extract, pow_zero, Nat.div_one]
  exact BitVec.eq_of_toNat_eq (by simp)

/-- A TG_IN word spells the command of its opcode, with the operand's fields. -/
theorem tgInCommand_word : tgInCommand (BitVec.ofNat 16 (tgInWord op cls operand)) =
    (if op = 0 then .tgIdle cls operand
      else if op = 1 then .tgAccept cls (operand.extractLsb' 6 6) (operand.extractLsb' 0 6)
      else if op = 2 then .tgDiscard cls operand
      else if op = 3 then
        if operand.getLsbD 11 then .tgSyncLoadWord cls (operand.extractLsb' 0 11)
        else .tgSyncByteWord cls (operand.extractLsb' 8 3) (operand.extractLsb' 0 8)
      else if op = 4 then .tgPing cls operand
      else if op = 5 then .tgReservedOpcode 0 cls operand
      else if op = 6 then .tgReservedOpcode 1 cls operand
      else .tgReservedOpcode 2 cls operand) := by
  have hhigh₆ : BitVec.ofNat 6 (operand.toNat / 64) = operand.extractLsb' 6 6 := ofNat_div_eq_extract operand 6 6
  have hlow₆ : BitVec.ofNat 6 (operand.toNat % 64) = operand.extractLsb' 0 6 := ofNat_mod_eq_extract operand 6
  have hindex : BitVec.ofNat 3 (operand.toNat / 256) = operand.extractLsb' 8 3 := ofNat_div_eq_extract operand 8 3
  have hbyte : BitVec.ofNat 8 (operand.toNat % 256) = operand.extractLsb' 0 8 := ofNat_mod_eq_extract operand 8
  have hload : BitVec.ofNat 11 (operand.toNat % 2048) = operand.extractLsb' 0 11 := ofNat_mod_eq_extract operand 11
  have hop : op = 0 ∨ op = 1 ∨ op = 2 ∨ op = 3 ∨ op = 4 ∨ op = 5 ∨ op = 6 ∨ op = 7 := by revert op; decide
  simp only [tgInCommand, BitVec.toNat_ofNat, Nat.mod_eq_of_lt (tgInWord_lt ..), sentField_opcode, sentField_class,
    sentField_operand, syncOperand_load, BitVec.ofNat_toNat, BitVec.setWidth_eq, hhigh₆, hlow₆, hindex, hbyte, hload]
  rcases hop with rfl | rfl | rfl | rfl | rfl | rfl | rfl | rfl
  case inr.inr.inr.inl =>
    change (if operand.toNat < 2048 then _ else _) = if (!decide (operand.toNat < 2048)) = true then _ else _
    by_cases h : operand.toNat < 2048 <;> simp only [h] <;> rfl
  all_goals rfl

end

/-! ## TG_OUT (R158, R163) -/

/-- The primitive that TG_OUT carries: that of three beats before, and none in HELD. -/
def primSent (s : State) : Prim :=
  if s.modes.cur = .held then { mult := 0, groups := 0, stale := false }
  else s.thr.pipe.getD 3 { mult := 0, groups := 0, stale := false }
/-- A TG_OUT word without its parity bit. -/
def outFields (p : Prim) (boundary : Bool) (a : Nat) : Nat :=
  wordField 0 6 p.mult + p.groups.toNat * 2 ^ 6 + wordField 10 3 a + bnat p.stale * 2 ^ 13 + bnat boundary * 2 ^ 14
/-- The parity bit that makes the number of ones odd. -/
def parityBit (v : Nat) : Nat := if onesIn v % 2 = 0 then 1 else 0

section
variable (s : State) {a : Nat}

theorem bnat_le (b : Bool) : bnat b ≤ 1 := by cases b <;> decide
theorem parityBit_le (v : Nat) : parityBit v ≤ 1 := by
  unfold parityBit
  split <;> decide
theorem outFields_eq (p : Prim) (b : Bool) (a : Nat) : outFields p b a = wordField 0 6 p.mult + p.groups.toNat * 64 +
    wordField 0 3 a * 1024 + bnat p.stale * 8192 + bnat b * 16384 := by
  rw [outFields, wordField_shift 10]
  ring
theorem outFields_lt (p : Prim) (b : Bool) (a : Nat) : outFields p b a < 2 ^ 15 := by
  have hmult := wordField_lt 6 p.mult
  have hgroups := p.groups.isLt
  have hanswer := wordField_lt 3 a
  have hstale := bnat_le p.stale
  have hdeckle := bnat_le b
  rw [outFields_eq]
  omega
theorem tgOutWord_toNat : (tgOutWord s a).toNat =
    outFields (primSent s) (atBoundary s) a + 2 ^ 15 * parityBit (outFields (primSent s) (atBoundary s) a) := by
  have hfields := outFields_lt (primSent s) (atBoundary s) a
  have hword : tgOutWord s a = BitVec.ofNat 16 (outFields (primSent s) (atBoundary s) a +
      if onesIn (outFields (primSent s) (atBoundary s) a) % 2 = 0 then 2 ^ 15 else 0) := rfl
  rw [hword, BitVec.toNat_ofNat, parityBit]
  split <;> omega

theorem bitAt_add_parity {v p k : Nat} (hk : k < 15) : bitAt (v + 2 ^ 15 * p) k = bitAt v k := by
  have hsplit : 2 ^ 15 * p = 2 ^ k * (2 * (2 ^ (14 - k) * p)) := by
    rw [show 15 = k + (1 + (14 - k)) by omega, pow_add, pow_add]
    ring
  rw [bitAt, bitAt, hsplit, Nat.add_mul_div_left _ _ (by positivity), Nat.add_mul_mod_self_left]
/-- Bit 15 adds itself to the ones of the bits below it. -/
theorem onesIn_add_parity {v p : Nat} (hv : v < 2 ^ 15) (hp : p ≤ 1) : onesIn (v + 2 ^ 15 * p) = onesIn v + p := by
  have hlow : (List.range 15).filter (fun k => bitAt (v + 2 ^ 15 * p) k) = (List.range 15).filter fun k => bitAt v k :=
    List.filter_congr fun k hk => bitAt_add_parity (List.mem_range.1 hk)
  have htop : bitAt v 15 = false := by rw [bitAt, Nat.div_eq_of_lt hv]; rfl
  have hbit : bitAt (v + 2 ^ 15 * p) 15 = decide (p = 1) := by
    rw [bitAt, Nat.add_mul_div_left _ _ (by decide), Nat.div_eq_of_lt hv, Nat.zero_add, Nat.mod_eq_of_lt (by omega)]
    rfl
  rw [onesIn, onesIn, List.range_succ, List.filter_append, List.filter_append, hlow, List.filter_singleton,
    List.filter_singleton, htop, hbit]
  have hp' : p = 0 ∨ p = 1 := by omega
  rcases hp' with rfl | rfl <;> simp
theorem tgOutWord_odd : onesIn (tgOutWord s a).toNat % 2 = 1 := by
  rw [tgOutWord_toNat, onesIn_add_parity (outFields_lt ..) (parityBit_le _), parityBit]
  split <;> omega

theorem getLsbD_eq_bitAt (x : BitVec 16) (k : Nat) : x.getLsbD k = bitAt x.toNat k := by
  rw [BitVec.getLsbD, Nat.testBit_eq_decide_div_mod_eq]
  rfl
/-- The ANSWER bits of a TG_OUT word spell the answer. -/
theorem tgOutWord_answer (ha : a < 8) : sentField (tgOutWord s a).toNat 10 3 = a := by
  have hmult := wordField_lt 6 (primSent s).mult
  have hgroups := (primSent s).groups.isLt
  have hsplit : (tgOutWord s a).toNat = wordField 0 6 (primSent s).mult + (primSent s).groups.toNat * 2 ^ 6 +
      wordField 10 3 a + 2 ^ (10 + 3) * (bnat (primSent s).stale + bnat (atBoundary s) * 2 +
        4 * parityBit (outFields (primSent s) (atBoundary s) a)) := by
    rw [tgOutWord_toNat, outFields]
    ring
  rw [hsplit, sentField_wordField _ _ _ (by omega)]
  exact Nat.mod_eq_of_lt ha
/-- A field of three bits, bit by bit. -/
theorem sentField_three (v w : Nat) :
    sentField v w 3 = 4 * bnat (bitAt v w) + 2 * bnat (bitAt v (w + 1)) + bnat (bitAt v (w + 2)) := by
  have hbit (k : Nat) : v / 2 ^ k % 2 = bnat (bitAt v k) := by
    rcases Nat.mod_two_eq_zero_or_one (v / 2 ^ k) with h | h <;> simp [bnat, bitAt, h]
  rw [sentField_succ, sentField_succ, sentField_succ, hbit, hbit, hbit, show sentField v w 0 = 0 from rfl, Nat.add_zero]
  omega
theorem bitAt_three : ∀ x y z : Bool, bitAt (4 * bnat x + 2 * bnat y + bnat z) 2 = x ∧
    bitAt (4 * bnat x + 2 * bnat y + bnat z) 1 = y ∧ bitAt (4 * bnat x + 2 * bnat y + bnat z) 0 = z := by decide
theorem tgOutWord_answerBits (ha : a < 8) : (tgOutWord s a).getLsbD 10 = bitAt a 2 ∧
    (tgOutWord s a).getLsbD 11 = bitAt a 1 ∧ (tgOutWord s a).getLsbD 12 = bitAt a 0 := by
  have hspelt := tgOutWord_answer s ha
  obtain ⟨h₂, h₁, h₀⟩ := bitAt_three (bitAt (tgOutWord s a).toNat 10) (bitAt (tgOutWord s a).toNat 11)
    (bitAt (tgOutWord s a).toNat 12)
  rw [← sentField_three _ 10, hspelt] at h₂ h₁ h₀
  rw [getLsbD_eq_bitAt, getLsbD_eq_bitAt, getLsbD_eq_bitAt, h₂, h₁, h₀]
  exact ⟨rfl, rfl, rfl⟩
theorem tgOutWord_deckle : (tgOutWord s a).getLsbD 14 = atBoundary s := by
  have hmult := wordField_lt 6 (primSent s).mult
  have hgroups := (primSent s).groups.isLt
  have hanswer := wordField_lt 3 a
  have hstale := bnat_le (primSent s).stale
  rw [getLsbD_eq_bitAt, tgOutWord_toNat, bitAt_add_parity (by decide), outFields_eq, bitAt,
    show (_ + bnat (atBoundary s) * 16384) / 2 ^ 14 = bnat (atBoundary s) by omega]
  cases atBoundary s <;> rfl
/-- In HELD the primitive's bits and STALE are 0. -/
theorem tgOutWord_held (hcur : s.modes.cur = .held) :
    (tgOutWord s a).toNat % 1024 = 0 ∧ (tgOutWord s a).getLsbD 13 = false := by
  have hprim : primSent s = { mult := 0, groups := 0, stale := false } := if_pos hcur
  have hanswer := wordField_lt 3 a
  have hfields : outFields (primSent s) (atBoundary s) a = wordField 0 3 a * 1024 + bnat (atBoundary s) * 16384 := by
    rw [outFields_eq, hprim]
    simp [wordField, bitAt, bnat]
  refine ⟨by rw [tgOutWord_toNat, hfields]; omega, ?_⟩
  rw [getLsbD_eq_bitAt, tgOutWord_toNat, bitAt_add_parity (by decide), hfields, bitAt, beq_eq_false_iff_ne]
  omega

end

/-! ## The answer to a word (R164 to R166) -/

theorem faultOnly_thr {s t : State} (h : FaultOnly s t) : t.thr = s.thr := by rw [h.1]
@[simp] theorem raise_thr (s : State) (src inst ctx : Nat) : (raise s src inst ctx).thr = s.thr :=
  faultOnly_thr (faultOnly_raise ..)

section
variable {s : State}

theorem answerOf_held (h : s.modes.cur = .held) (op cls : Nat) : answerOf s op cls = (5, 0) := if_pos h
theorem answerOf_replaced (h : s.modes.cur ≠ .held) (ht : s.barns.takeover.isSome = true) (op cls : Nat) :
    answerOf s op cls = (if op = 0 then 0 else 6, 0) := by
  rw [answerOf, if_neg h, vectorReplaced, if_pos ht]
theorem answerOf_table (h : s.modes.cur ≠ .held) (ht : s.barns.takeover = none) (op cls : Nat) :
    answerOf s op cls = (answerEntry s op cls / 32 % 8, answerEntry s op cls % 32) := by
  rw [answerOf, if_neg h, vectorReplaced, if_neg (by simp [ht]), bits, bits, pow_zero, Nat.div_one]
  rfl
theorem answerOf_lt (s : State) (op cls : Nat) : (answerOf s op cls).1 < 8 := by
  unfold answerOf
  split
  · decide
  split
  · dsimp only
    split <;> decide
  · exact Nat.mod_lt _ (by decide)

/-- An answer writes the TG_OUT word and the tallies. -/
theorem answerWord_frame (s : State) (op cls : Nat) : answerWord s op cls =
    { s with thr := { s.thr with out := tgOutWord s (answerOf s op cls).1, worded := true }
             tal := (answerWord s op cls).tal, talNew := (answerWord s op cls).talNew } := by
  unfold answerWord countAnswer
  dsimp only
  split
  · rfl
  split <;> rfl
theorem answerWord_thr (s : State) (op cls : Nat) :
    (answerWord s op cls).thr = { s.thr with out := tgOutWord s (answerOf s op cls).1, worded := true } := by
  rw [answerWord_frame]
theorem answerWord_tb (s : State) (op cls : Nat) : (answerWord s op cls).tb = s.tb := by rw [answerWord_frame]
theorem answerWord_gran (s : State) (op cls : Nat) : (answerWord s op cls).gran = s.gran := by rw [answerWord_frame]
theorem answerWord_modes (s : State) (op cls : Nat) : (answerWord s op cls).modes = s.modes := by rw [answerWord_frame]
theorem answerWord_reg (s : State) (op cls id inst : Nat) : reg (answerWord s op cls) id inst = reg s id inst :=
  reg_eq_of_cfg (by rw [answerWord_frame]) ..
/-- The tallies of an answer: its own, `TH_REFUSED` and `TH_UNKNOWN`. -/
theorem tally_answerWord {id inst : Nat} (s : State) (op cls : Nat) (hr : id ≠ A_TH_REFUSED) (hu : id ≠ A_TH_UNKNOWN)
    (hi : inst < 512) : tally (answerWord s op cls) id inst =
      tally (count s A_TH_ANSWERS (answerOf s op cls).1 31 0 1) id inst := by
  have hans : answerOf { s with thr := { s.thr with out := tgOutWord s (answerOf s op cls).1, worded := true } } op cls =
      answerOf s op cls := rfl
  unfold answerWord countAnswer
  dsimp only
  rw [hans]
  split
  · exact tally_count_otherId _ _ _ _ hr hi (by decide)
  split
  · exact tally_count_otherId _ _ _ _ hu hi (by decide)
  · rfl
theorem answers_answerWord (s : State) (op cls : Nat) :
    bits (tally (answerWord s op cls) A_TH_ANSWERS (answerOf s op cls).1) 31 0 =
      satAdd (2 ^ 32 - 1) (bits (tally s A_TH_ANSWERS (answerOf s op cls).1) 31 0) 1 := by
  rw [tally_answerWord _ _ _ (by decide) (by decide) ((answerOf_lt ..).trans (by decide)), tally_count_word]
theorem tally_answerWord_other {id inst : Nat} (s : State) (op cls : Nat) (ha : id ≠ A_TH_ANSWERS) (hr : id ≠ A_TH_REFUSED)
    (hu : id ≠ A_TH_UNKNOWN) (hi : inst < 512) : tally (answerWord s op cls) id inst = tally s id inst := by
  rw [tally_answerWord _ _ _ hr hu hi, tally_count_otherId _ _ _ _ ha hi ((answerOf_lt ..).trans (by decide))]

/-- A word that reaches a driven receiver is answered, and its action follows. -/
theorem tgWord_driven (hp : padsFree s = true) (hpow : powered s = true) (hu : s.thr.undriven = false) (op cls : Nat)
    (k : Nat → State → State) : tgWord s op cls k = .next (k (answerOf s op cls).2 (answerWord s op cls)) := by
  rw [tgWord, atPads_free hp, if_neg (by simp [hpow]), if_neg (by simp [hu])]

/-! ## SYNC words (R91, R92, R160) -/

theorem syncByte_thr (s : State) (i : Nat) (b : Byte) : (syncByte s i b).thr = s.thr := by
  unfold syncByte
  split
  · rfl
  split <;> rfl
theorem syncLoad_thr (s : State) (low : Nat) : (syncLoad s low).thr = s.thr := by
  unfold syncLoad
  split
  · rfl
  split
  · rfl
  dsimp only
  split
  · rfl
  · exact raise_thr ..
theorem exec_tgSyncByteWord (hp : padsFree s = true) (hpow : powered s = true) (hu : s.thr.undriven = false)
    (cls : BitVec 1) (k : BitVec 3) (b : Byte) : exec (.tgSyncByteWord cls k b) s = .next (if s.modes.cur = .held then
      answerWord s 3 cls.toNat else syncByte (answerWord s 3 cls.toNat) k.toNat b) := by
  change execTgSyncByteWord cls k b s = _
  rw [execTgSyncByteWord, tgWord_driven hp hpow hu, answerWord_modes]
theorem exec_tgSyncLoadWord (hp : padsFree s = true) (hpow : powered s = true) (hu : s.thr.undriven = false)
    (cls : BitVec 1) (low : BitVec 11) : exec (.tgSyncLoadWord cls low) s = .next (if s.modes.cur = .held then
      answerWord s 3 cls.toNat else syncLoad (answerWord s 3 cls.toNat) low.toNat) := by
  change execTgSyncLoadWord cls low s = _
  rw [execTgSyncLoadWord, tgWord_driven hp hpow hu, answerWord_modes]
/-- SYNC words are answered in the vector's word; in HELD they do not reach the time base. -/
theorem syncWord_answered {f : State → State} (hf : ∀ x, (f x).thr = x.thr) (cls : Nat) :
    (if s.modes.cur = .held then answerWord s 3 cls else f (answerWord s 3 cls)).thr.out =
        tgOutWord s (answerOf s 3 cls).1 ∧
      (s.modes.cur = .held →
        (if s.modes.cur = .held then answerWord s 3 cls else f (answerWord s 3 cls)).tb = s.tb) := by
  split
  · exact ⟨by rw [answerWord_thr], fun _ => answerWord_tb ..⟩
  · next hcur => exact ⟨by rw [hf, answerWord_thr], fun h => absurd h hcur⟩
theorem timingGen_answerWord (s : State) (op cls : Nat) : timingGen (answerWord s op cls) = timingGen s := by
  rw [timingGen, timingGen, answerWord_reg]

/-! ## Words that are answered and do nothing else (R159, R160) -/

/-- IDLE, PING and the reserved opcodes: the answer alone. -/
theorem exec_answeredOnly (hp : padsFree s = true) (hpow : powered s = true) (hu : s.thr.undriven = false)
    {cls : BitVec 1} {operand : BitVec 12} {i : Instr} {op : Nat}
    (hi : (i = .tgIdle cls operand ∧ op = 0) ∨ (i = .tgPing cls operand ∧ op = 4) ∨
      ∃ k : Fin 3, i = .tgReservedOpcode k cls operand ∧ op = 5 + k.val) :
    exec i s = .next (answerWord s op cls.toNat) := by
  obtain ⟨rfl, rfl⟩ | ⟨rfl, rfl⟩ | ⟨k, rfl, rfl⟩ := hi
  · exact tgWord_driven hp hpow hu 0 cls.toNat fun _ s => s
  · exact tgWord_driven hp hpow hu 4 cls.toNat fun _ s => s
  · exact tgWord_driven hp hpow hu (5 + k.val) cls.toNat fun _ s => s

/-! ## Loss of signal (R183) -/

theorem exec_tgLossOfSignal (hp : padsFree s = true) (hpow : powered s = true) (hlos : s.thr.los = false) :
    exec .tgLossOfSignal s =
      .next (raise { s with thr := { s.thr with los := true, locked := false } } 31 0 1) := by
  change execTgLossOfSignal s = _
  rw [execTgLossOfSignal, atPads_free hp, if_pos (by simp [hpow, hlos])]
theorem exec_tgSignalReturn (hp : padsFree s = true) (hpow : powered s = true) :
    exec .tgSignalReturn s = .next { s with thr := { s.thr with los := false, undriven := false } } := by
  change execTgSignalReturn s = _
  rw [execTgSignalReturn, atPads_free hp, if_pos hpow]

end

/-- Settles O22: the word that is received, its answer, the word that is sent, what an answered word does, and the signal. -/
theorem triggerAnswers : Obligations.TriggerAnswers := by
  refine ⟨tgInCommand_word, fun s op cls _ _ => ⟨fun h => answerOf_held h op cls, fun h ht => answerOf_replaced h ht op cls,
    fun h ht => answerOf_table h ht op cls⟩, fun s a ha => ?_, fun cls operand s hp hpow hu => ⟨?_, ?_, ?_⟩, ?_, ?_⟩
  · obtain ⟨h₂, h₁, h₀⟩ := tgOutWord_answerBits s ha
    exact ⟨tgOutWord_odd s, h₂, h₁, h₀, tgOutWord_deckle s, tgOutWord_held s⟩
  · intro i op hi
    refine ⟨_, exec_answeredOnly hp hpow hu hi, by rw [answerWord_thr], ?_, ?_, answers_answerWord ..⟩
    · rw [answerWord_thr]
      exact answerWord_frame ..
    · rw [answerWord_thr]
  · intro k b
    obtain ⟨hout, hheld⟩ := syncWord_answered (s := s) (f := (syncByte · k.toNat b)) (fun x => syncByte_thr x _ _) cls.toNat
    refine ⟨_, exec_tgSyncByteWord hp hpow hu cls k b, hout, hheld, fun hcur hgen hk => ?_⟩
    rw [if_neg hcur, (sync_byte b ((timingGen_answerWord ..).trans hgen) hk).1, answerWord_tb]
  · obtain ⟨hout, hheld⟩ := syncWord_answered (s := s) (f := (syncLoad · 0x7FF)) (fun x => syncLoad_thr x _) cls.toNat
    refine ⟨_, exec_tgSyncLoadWord hp hpow hu cls 0x7FF, hout, hheld, fun hcur hgen hseen hasm => ?_⟩
    have htb := answerWord_tb s 3 cls.toNat
    have hload := sync_loadWord ((timingGen_answerWord s 3 cls.toNat).trans hgen) (by rw [htb, hseen]) (by rw [htb, hasm])
    rw [if_neg hcur]
    refine (congrArg (fun x => x.tb.sync) hload).trans ?_
    dsimp only [queueSync]
    rw [htb]
    exact congrArg (fun d => s.tb.sync ++ [(⟨s.tb.up + bits d 15 8, some s.tb.asm⟩ : SyncDue)]) (answerWord_reg ..)
  · exact fun s hp hpow hlos => ⟨_, exec_tgLossOfSignal hp hpow hlos, by rw [raise_thr], by rw [raise_thr]⟩
  · exact fun s hp hpow => ⟨_, exec_tgSignalReturn hp hpow, rfl, rfl, rfl, rfl⟩

end Sys2Proof.Proofs
end

section
/-!
O23: windows (R170 to R174) and the expiry of pending units (R176 to R179).
-/
namespace Sys2Proof.Proofs
open Sys2Proof Sys2Proof.Machine Sys2Proof.Laws

/-! ## Marking and chaff (R175, R176) -/

section
variable {s : State}

/-- A pending unit that a window in force marks becomes ELIGIBLE. -/
def markedUnit (s : State) (u : GUnit) : GUnit := if u.st = .pending && marked s u then { u with st := .eligible } else u

theorem marked_congr {t : State} (hthr : t.thr = s.thr) (htb : t.tb = s.tb) : marked t = marked s := by
  unfold marked
  rw [hthr, htb]
theorem expired_congr {t : State} (htb : t.tb = s.tb) : expired t = expired s := by
  unfold expired
  rw [htb]
theorem faultOnly_countEach (id : Nat) (l : List GUnit) (s : State) :
    FaultOnly s (l.foldl (fun s u => count s id u.src 31 0 1) s) :=
  faultOnly_foldl _ (fun s u => faultOnly_count s id u.src 31 0 1) l s
/-- Marking changes the units' states and counts. -/
theorem markUnits_effect (s : State) : (markUnits s).gran = { s.gran with units := s.gran.units.map (markedUnit s) } ∧
    (markUnits s).thr = s.thr ∧ (markUnits s).tb = s.tb := by
  have hcount := faultOnly_countEach A_TH_MATCHED (s.gran.units.filter fun u => u.st = .pending && marked s u) s
  have hmarked := marked_congr (faultOnly_thr hcount) (faultOnly_tb hcount)
  refine ⟨?_, (faultOnly_thr hcount :), (faultOnly_tb hcount :)⟩
  unfold markUnits mapUnits
  dsimp only
  rw [hmarked, faultOnly_gran hcount]
  rfl
/-- Chaff leaves the store; the rest of it, and all else but a count, stays. -/
theorem chaffUnits_effect (s : State) (p : GUnit → Bool) : (chaffUnits s p).gran =
      { s.gran with units := s.gran.units.filter fun u => !(u.st = .pending && p u) } ∧
    (chaffUnits s p).thr = s.thr ∧ (chaffUnits s p).tb = s.tb := by
  have hcount := faultOnly_countEach A_TH_EXPIRED (s.gran.units.filter fun u => u.st = .pending && p u) s
  refine ⟨?_, (faultOnly_thr hcount :), (faultOnly_tb hcount :)⟩
  unfold chaffUnits keepUnits
  dsimp only
  rw [faultOnly_gran hcount]
theorem markedUnit_identity (s : State) (u : GUnit) : (markedUnit s u).arr = u.arr ∧ (markedUnit s u).words = u.words := by
  unfold markedUnit
  split <;> exact ⟨rfl, rfl⟩
/-- What is still pending after the marking was pending and is not marked. -/
theorem markedUnit_pending {u : GUnit} (h : (markedUnit s u).st = .pending) :
    markedUnit s u = u ∧ marked s u = false := by
  unfold markedUnit at h ⊢
  split at h
  · cases h
  · next hkept => exact ⟨if_neg hkept, by simpa [h] using hkept⟩
/-- After the marking and the chaff of `p`, no pending unit is marked or picked by `p`, and each unit is one that stood
there. -/
theorem chaffed_marked {p : GUnit → Bool} :
    (∀ u ∈ (chaffUnits (markUnits s) p).gran.units, u.st = .pending → p u = false ∧ marked s u = false) ∧
    (∀ u ∈ (chaffUnits (markUnits s) p).gran.units, ∃ v ∈ s.gran.units, u.arr = v.arr ∧ u.words = v.words) := by
  have hunits : (chaffUnits (markUnits s) p).gran.units =
      (s.gran.units.map (markedUnit s)).filter fun u => !(u.st = .pending && p u) := by
    rw [(chaffUnits_effect ..).1, (markUnits_effect s).1]
  rw [hunits]
  refine ⟨fun u hu hst => ?_, fun u hu => ?_⟩
  · obtain ⟨hmem, hkept⟩ := List.mem_filter.1 hu
    obtain ⟨v, -, rfl⟩ := List.mem_map.1 hmem
    obtain ⟨hsame, hmark⟩ := markedUnit_pending hst
    exact ⟨by simpa [hst] using hkept, by rw [hsame, hmark]⟩
  · obtain ⟨v, hv, rfl⟩ := List.mem_map.1 (List.mem_filter.1 hu).1
    exact ⟨v, hv, markedUnit_identity s v⟩

end

/-! ## Triggers (R170, R172, R176) -/

section
variable {s : State}

/-- A window waits for its beat. -/
def windowOpened (s : State) (w : Window) : State := { s with thr := { s.thr with waiting := s.thr.waiting ++ [w] } }

theorem windowFor_congr {t : State} (htb : t.tb = s.tb) : windowFor t = windowFor s := by
  unfold windowFor
  rw [htb]
/-- A granted trigger of a valid type opens its window; one of an undefined type raises a fault. -/
theorem exec_tgAccept (hp : padsFree s = true) (hpow : powered s = true) (hu : s.thr.undriven = false)
    (cls : BitVec 1) (type offset : BitVec 6) (hact : (answerOf s 1 cls.toNat).2 = 1) :
    exec (.tgAccept cls type offset) s = .next
      (if bitAt (reg s A_TH_TRIGGER_TABLE type.toNat) 63 then
        windowOpened (count (answerWord s 1 cls.toNat) A_TH_ACCEPTS 0 31 0 1)
          (windowFor s (reg s A_TH_TRIGGER_TABLE type.toNat) offset.toNat false)
      else raise (count (answerWord s 1 cls.toNat) A_TH_EXCEPTIONS 0 15 0 1) 30 0 0) := by
  have hwindow : windowFor (count (answerWord s 1 cls.toNat) A_TH_ACCEPTS 0 31 0 1) = windowFor s :=
    windowFor_congr (answerWord_tb ..)
  change execTgAccept cls type offset s = _
  rw [execTgAccept, tgWord_driven hp hpow hu, hact, if_pos (.inl rfl), answerWord_reg]
  dsimp only
  rw [hwindow]
  cases bitAt (reg s A_TH_TRIGGER_TABLE type.toNat) 63 <;> rfl
theorem exec_tgDiscard (hp : padsFree s = true) (hpow : powered s = true) (hu : s.thr.undriven = false)
    (cls : BitVec 1) (age : BitVec 12) (hact : (answerOf s 2 cls.toNat).2 = 4) : exec (.tgDiscard cls age) s = .next
      (let t := answerWord s 2 cls.toNat
       { t with thr := { t.thr with expires := t.thr.expires ++
         [{ before := t.tb.beat - BitVec.ofNat 56 (32 * age.toNat), due := t.tb.up + 8 }] } }) := by
  change execTgDiscard cls age s = _
  rw [execTgDiscard, tgWord_driven hp hpow hu, hact]
  rfl
/-- A trigger of an undefined type counts in `TH_EXCEPTIONS`; the fault that it raises does not. -/
theorem exceptions_undefinedType (s : State) (cls : Nat) :
    bits (tally (raise (count (answerWord s 1 cls) A_TH_EXCEPTIONS 0 15 0 1) 30 0 0) A_TH_EXCEPTIONS 0) 15 0 =
      satAdd 65535 (bits (tally s A_TH_EXCEPTIONS 0) 15 0) 1 := by
  rw [tally_raise _ _ _ _ (by decide) (by decide), tally_count_same _ _ _ _ (by decide),
    tally_answerWord_other _ _ _ (by decide) (by decide) (by decide) (by decide)]
  rfl

end

/-! ## Windows come and go (R173, R174) -/

section
variable {s : State}

/-- No window waits. -/
def noneWaiting (s : State) : State := { s with thr := { s.thr with waiting := [] } }

theorem enterDue_none (h : s.thr.waiting = []) : enterDue s = s := by
  have hwaiting : noneWaiting s = s := by rw [noneWaiting, ← h]
  rw [enterDue, h]
  exact hwaiting
theorem enterDue_one {w : Window} (h : s.thr.waiting = [w]) (hdue : w.force ≤ s.tb.up) :
    enterDue s = enterWindow (noneWaiting s) w := by
  simp [enterDue, noneWaiting, h, hdue]
theorem enterWindow_free (w : Window) (h : s.thr.store.length < 512) : (enterWindow s w).thr =
    { s.thr with store := s.thr.store ++ [w], storeMax := max s.thr.storeMax (s.thr.store.length + 1) } := by
  rw [enterWindow, if_pos h]
  exact (markUnits_effect _).2.1
/-- A full store merges the window into the one most recently stored. -/
theorem enterWindow_full {l : List Window} {x : Window} (w : Window) (hstore : s.thr.store = l ++ [x])
    (h : 512 ≤ s.thr.store.length) : (enterWindow s w).thr = { s.thr with store := l ++ [mergeWindows x w] } := by
  rw [enterWindow, if_neg (by omega)]
  dsimp only
  rw [(markUnits_effect _).2.1, raise_thr, count_thr, hstore, List.dropLast_concat, List.getLast?_concat]
  rfl

end

/-! ## Expiry (R176, R178, R179) -/

section
variable {s : State}

/-- No early expiry is scheduled. -/
def noneScheduled (s : State) : State := { s with thr := { s.thr with expires := [] } }

theorem exec_earlyExpiry {e : Expire} (he : s.thr.expires = [e]) (hdue : e.due ≤ s.tb.up) (hw : s.thr.waiting = [])
    (hx : expiring s = true) : exec .earlyExpiry s =
      .next (chaffUnits (markUnits (noneScheduled s)) (hitBefore s.tb.beat e.before)) := by
  have hnone : enterDue (noneScheduled s) = noneScheduled s := enterDue_none hw
  have hbeat : (markUnits (noneScheduled s)).tb.beat = s.tb.beat := congrArg TB.beat (markUnits_effect _).2.2
  have hcome : s.thr.expires.filter (fun e => e.due ≤ s.tb.up) = [e] := by simp [he, hdue]
  have hleft : s.thr.expires.filter (fun e => !(e.due ≤ s.tb.up)) = [] := by simp [he, hdue]
  change execEarlyExpiry s = _
  rw [execEarlyExpiry, hcome, hleft, if_pos hx]
  change Host.Outcome.next (chaffUnits (markUnits (enterDue (noneScheduled s)))
    (hitBefore (markUnits (enterDue (noneScheduled s))).tb.beat e.before)) = _
  rw [hnone, hbeat]
theorem exec_pendingExpiry (hb : atBoundary s = true) (hw : s.thr.waiting = []) (hx : expiring s = true) :
    exec .pendingExpiry s = .next (chaffUnits (markUnits s) (expired s)) := by
  change execPendingExpiry s = _
  rw [execPendingExpiry, if_pos (by simp [hb, hx]), enterDue_none hw, expireUnits,
    ← expired_congr (markUnits_effect s).2.2]
theorem expiry_stands (hx : expiring s = false) : exec .earlyExpiry s = .next s ∧ exec .pendingExpiry s = .next s := by
  change execEarlyExpiry s = _ ∧ execPendingExpiry s = _
  simp [execEarlyExpiry, execPendingExpiry, hx]

end

/-- Settles O23: the triggers, the windows of the store, and the two expiries. -/
theorem triggerWindows : Obligations.TriggerWindows := by
  refine ⟨⟨fun cls type offset s hp hpow hu hact => ⟨fun hvalid => ?_, fun hvalid => ?_⟩,
      fun cls age s hp hpow hu hact => ?_⟩,
    ⟨fun w s hw hdue => ⟨fun hfree => ?_, fun l x hstore hfull => ?_⟩, fun s => ?_⟩,
    fun s e he hdue hw hx => ?_, fun s hx => expiry_stands hx, fun s hb hx hw => ?_⟩
  · have hexec := exec_tgAccept hp hpow hu cls type offset hact
    rw [if_pos hvalid] at hexec
    refine ⟨_, windowFor s (reg s A_TH_TRIGGER_TABLE type.toNat) offset.toNat false, hexec, ?_, rfl, rfl, rfl, rfl, rfl⟩
    rw [windowOpened, count_thr, answerWord_thr]
  · have hexec := exec_tgAccept hp hpow hu cls type offset hact
    rw [if_neg (by simp [hvalid])] at hexec
    exact ⟨_, hexec, by rw [raise_thr, count_thr, answerWord_thr], exceptions_undefinedType s cls.toNat⟩
  · refine ⟨_, exec_tgDiscard hp hpow hu cls age hact, answerWord_gran .., ?_⟩
    dsimp only
    rw [answerWord_thr, answerWord_tb]
  · refine ⟨_, congrArg Host.Outcome.next (enterDue_one hw hdue), ?_⟩
    rw [enterWindow_free (s := noneWaiting s) w hfree]
    exact ⟨rfl, rfl⟩
  · refine ⟨_, congrArg Host.Outcome.next (enterDue_one hw hdue), ?_⟩
    rw [enterWindow_full (s := noneWaiting s) w hstore hfull]
    exact ⟨rfl, rfl, rfl, rfl⟩
  · refine ⟨_, rfl, fun w hw => ?_, fun w hw hkeep => ?_, rfl⟩
    · simpa using hw
    · simp [hw, hkeep]
  · refine ⟨_, exec_earlyExpiry he hdue hw hx, ?_, chaffed_marked⟩
    rw [(chaffUnits_effect ..).2.1, (markUnits_effect _).2.1]
    rfl
  · exact ⟨_, exec_pendingExpiry hb hw hx, chaffed_marked⟩

end Sys2Proof.Proofs
end

section
/-!
O27: the states of an uplane (R203, R224, R225, R227, R228, R235).
-/
namespace Sys2Proof.Proofs
open Sys2Proof Sys2Proof.Machine Sys2Proof.Laws

/-! ## What the shared operations leave of the lanes and of the units to return -/

section
variable (s : State)

@[simp] theorem pushSheaf_back (x : Sheaf) : (pushSheaf s x).gran.back = s.gran.back := by
  unfold pushSheaf
  split <;> rfl
theorem lane_enterLane_same (u : Nat) (st : LState) (x : Uplane) :
    lane (enterLane s u st x) u = { x with st := st, since := s.tb.dk } := by
  rw [enterLane, lane_of_lanes (pushSheaf_lanes ..), lane_setLane_same]
theorem lane_enterLane_other (st : LState) (x : Uplane) {u v : Nat} (h : v ≠ u) :
    lane (enterLane s u st x) v = lane s v := by
  rw [enterLane, lane_of_lanes (pushSheaf_lanes ..), lane_setLane_other _ _ h]
theorem enterLane_back (u : Nat) (st : LState) (x : Uplane) : (enterLane s u st x).gran.back = s.gran.back :=
  pushSheaf_back ..
theorem chooseVariant_lanes_back :
    (chooseVariant s).lanes = s.lanes ∧ (chooseVariant s).gran.back = s.gran.back := by
  unfold chooseVariant
  dsimp only
  split
  · exact ⟨rfl, rfl⟩
  · exact ⟨pushSheaf_lanes .., pushSheaf_back ..⟩
theorem variantAtBoundary_lanes_back :
    (variantAtBoundary s).lanes = s.lanes ∧ (variantAtBoundary s).gran.back = s.gran.back := by
  unfold variantAtBoundary
  split
  · exact chooseVariant_lanes_back s
  · exact ⟨rfl, rfl⟩
theorem lane_variantAtBoundary (u : Nat) : lane (variantAtBoundary s) u = lane s u :=
  lane_of_lanes (variantAtBoundary_lanes_back s).1 u

/-- A lane that trains anew, from this boundary or the next. -/
theorem lane_startTraining (u gen : Nat) (mark : Bool) : ∃ d, lane (startTraining s u gen mark) u =
    { lane s u with st := .training, gen := gen, drain := none, trainEnd := none, confirmed := none, idleSet := 1,
                    lastSet := if mark then 4 else 0, since := d } := by
  unfold startTraining
  extract_lets _ t _
  have hlane : lane t u = _ := lane_enterLane_same ..
  by_cases hb : atBoundary t = true
  · rw [if_pos hb]
    exact ⟨_, hlane⟩
  · rw [if_neg hb]
    exact ⟨_, (lane_setLane_same ..).trans (congrArg (fun x : Uplane => { x with since := t.tb.dk + 1 }) hlane)⟩
theorem lane_startDraining_same (u : Nat) (d : Drain) :
    lane (startDraining s u d) u = { lane s u with drain := some d, st := .draining, since := s.tb.dk } :=
  lane_enterLane_same ..
theorem lane_startDraining_other (d : Drain) {u v : Nat} (h : v ≠ u) : lane (startDraining s u d) v = lane s v :=
  lane_enterLane_other _ _ _ h

end

/-! ## The answer to an announce (R224, R225) -/

/-- A valid AGG_ANNOUNCE: generation, format and ring lie in the ranges that the lane announced. -/
def ValidAnswer (s : State) (u v : Nat) : Prop :=
  1 ≤ bits v 53 52 ∧ bits v 53 52 ≤ ulGenHi s u ∧ 2 ≤ bits v 51 48 ∧ bits v 51 48 ≤ formatMax s u ∧ 4 ≤ bits v 39 35 ∧
    bits v 39 35 ≤ 16
/-- The lane's effective generations. -/
def answeredHi (s : State) (u v : Nat) : Nat := min (ulGenHi s u) (bits v 53 52)
def answeredLo (s : State) (u v : Nat) : Nat := min (ulGenLo s u) (answeredHi s u v)
/-- The lane with what the answer says. -/
def answeredLane (s : State) (u v : Nat) : Uplane :=
  { lane s u with
    negGen := bits v 53 52, effHi := answeredHi s u v, effLo := answeredLo s u v, fmt := bits v 51 48,
    ringLog2 := bits v 39 35, cred := BitVec.ofNat 32 (bits v 31 0), qnum := BitVec.ofNat 32 (bits v 31 0),
    rwg := BitVec.ofNat 2 (bits v 34 33) + 1, prevRwg := some (BitVec.ofNat 2 (bits v 34 33)), aggProto := bits v 47 40,
    negotiated := true }
/-- The answer noted, with the condition of a lane below its plan. -/
def answerNoted (s : State) (u v : Nat) : State :=
  if answeredHi s u v < ulGenHi s u || answeredLo s u v < ulGenLo s u then
    levelBegin (setLane s u (answeredLane s u v)) 44 u (answeredHi s u v)
  else levelEnd (setLane s u (answeredLane s u v)) 44 u

section
variable {s : State} {u v : Nat}

theorem takeAnnounce_valid (h : ValidAnswer s u v) : takeAnnounce s u v = startTraining (answerNoted s u v) u
    (if serviceMode (answerNoted s u v).modes.cur then answeredLo s u v else answeredHi s u v) true := by
  obtain ⟨hgen, hhi, hfmt, hmax, hring, hring'⟩ := h
  refine (if_neg ?_).trans rfl
  simp only [Bool.or_eq_true, decide_eq_true_eq]
  omega
theorem takeAnnounce_invalid (h : ¬ ValidAnswer s u v) : takeAnnounce s u v = count s A_LK_UL_ERRORS u 47 32 1 := by
  refine if_pos ?_
  simp only [Bool.or_eq_true, decide_eq_true_eq]
  unfold ValidAnswer at h
  omega
theorem answerNoted_cur : (answerNoted s u v).modes.cur = s.modes.cur := by
  unfold answerNoted
  split
  · exact faultOnly_cur (s := setLane s u (answeredLane s u v)) (faultOnly_levelBegin ..)
  · rfl
theorem lane_answerNoted : lane (answerNoted s u v) u = answeredLane s u v := by
  unfold answerNoted
  split
  · rw [lane_of_lanes (faultOnly_lanes (faultOnly_levelBegin ..)), lane_setLane_same]
  · exact lane_setLane_same ..
theorem exec_aggAnnounceFrame {bytes : List Byte} (d : DlId) (hp : padsFree s = true) (hd : dlReceives s d.val = true)
    (hv : frame64 0x45 bytes = some v) (hst : (lane s (bits v 55 54)).st = .negotiating) (ht : s.barns.takeover = none) :
    exec (.aggAnnounceFrame d bytes) s = .next (takeAnnounce s (bits v 55 54) v) := by
  change execAggAnnounceFrame d bytes s = _
  simp [execAggAnnounceFrame, atPads, hp, hd, hv, hst, ht]

end

/-! ## Training and activation (R225) -/

section
variable {s : State}

theorem ranOut_iff (ht : s.barns.takeover = none) (start n : Nat) : ranOut s start n = decide (start + n ≤ s.tb.dk) := by
  simp [ranOut, ht]
theorem exec_trainingEnd (u : Lane) (hst : (lane s u.val).st = .training) (hend : (lane s u.val).trainEnd = none)
    (ht : s.barns.takeover = none)
    (hdue : (lane s u.val).since + bits (reg s A_LK_TRAIN_DECKLES 0) 3 0 ≤ s.tb.dk) :
    exec (.trainingEnd u) s = .next (setLane s u.val { lane s u.val with trainEnd := some s.tb.dk, idleSet := 1 }) :=
  congrArg Host.Outcome.next (if_pos (by simp [hst, hend, ranOut_iff ht, hdue]))
theorem exec_laneActivate (u : Lane) {b : Nat} (hst : (lane s u.val).st = .training)
    (hconf : (lane s u.val).confirmed = some b) (hb : b < s.tb.up) (hbound : atBoundary s = true) :
    exec (.laneActivate u) s = .next (variantAtBoundary (activate s u.val)) := by
  change execLaneActivate u s = _
  simp [execLaneActivate, hst, hconf, hb, hbound]
theorem lane_activate (s : State) (u : Nat) : lane (activate s u) u =
    { lane s u with drain := none, trainEnd := none, confirmed := none, idleSet := 1, st := .active, since := s.tb.dk } :=
  lane_enterLane_same ..

/-! ## Failures (R228) -/

/-- Lane u has failed: its quires are empty, and the units they held return at the next beat. -/
def LaneFails (s t : State) (u : Nat) : Prop :=
  (lane t u).st = .failed ∧ (lane t u).opn = [] ∧ (lane t u).closed = [] ∧ (u, laneUnits (lane s u)) ∈ t.gran.back

theorem failLane_fails (s : State) (u ctx : Nat) : LaneFails s (failLane s u ctx) u := by
  unfold failLane
  dsimp only
  have hraise := fun t => faultOnly_raise t 32 u ctx
  have hquires : lane (returnLater s u) u = { lane s u with
      opn := [], opnSlots := 0, closeDue := false, closed := [],
      repUnits := (lane s u).repUnits + (laneUnits (lane s u)).length } := lane_setLane_same ..
  rw [LaneFails, lane_of_lanes (faultOnly_lanes (hraise _)), faultOnly_gran (hraise _), lane_enterLane_same, enterLane_back,
    lane_count, hquires]
  exact ⟨rfl, rfl, rfl, List.mem_append_right _ (List.mem_cons_self ..)⟩
theorem laneFails_variant {t : State} {u : Nat} (h : LaneFails s t u) : LaneFails s (variantAtBoundary t) u := by
  rwa [LaneFails, lane_variantAtBoundary, (variantAtBoundary_lanes_back t).2]

theorem exec_negotiationTimeout (u : Lane) (hst : (lane s u.val).st = .negotiating)
    (hdue : (lane s u.val).since + 4000 ≤ s.tb.dk) : exec (.negotiationTimeout u) s = .next (failLane s u.val 4) :=
  congrArg Host.Outcome.next (if_pos (by simp [hst, hdue]))
theorem exec_trainingConfirmTimeout (u : Lane) {e : Nat} (ht : s.barns.takeover = none)
    (hst : (lane s u.val).st = .training) (hconf : (lane s u.val).confirmed = none)
    (hend : (lane s u.val).trainEnd = some e) (hdue : e + 40 ≤ s.tb.dk) :
    exec (.trainingConfirmTimeout u) s = .next (failLane s u.val 4) := by
  change execTrainingConfirmTimeout u s = _
  simp [execTrainingConfirmTimeout, hst, hconf, hend, ranOut_iff ht, hdue]
theorem exec_creditTimeout (u : Lane) (ht : s.barns.takeover = none) (hst : (lane s u.val).st = .active)
    (hfly : inFlight (lane s u.val) = true) (hcur : s.modes.cur ≠ .recovery) (hlock : (dlane s 0).locked = true)
    (hdue : (lane s u.val).credAt + bits (reg s A_LK_CREDIT_TIMEOUT 0) 15 0 ≤ s.tb.dk) :
    exec (.creditTimeout u) s = .next (variantAtBoundary (failLane s u.val 3)) :=
  congrArg Host.Outcome.next (if_pos (by simp [hst, hfly, hcur, hlock, ranOut_iff ht, hdue]))
theorem exec_laneTransmitterFault (u : Lane) (hst : (lane s u.val).st = .negotiating ∨ (lane s u.val).st = .training ∨
    (lane s u.val).st = .active ∨ (lane s u.val).st = .draining) :
    exec (.laneTransmitterFault u) s = .next (failLane s u.val 2) := by
  refine congrArg Host.Outcome.next (if_neg ?_)
  rcases hst with h | h | h | h <;> rw [h] <;> decide
theorem exec_laneFailedRetry (u : Lane) (hst : (lane s u.val).st = .failed)
    (hdue : (lane s u.val).since + 40000 ≤ s.tb.dk) : exec (.laneFailedRetry u) s = .next (negotiate s u.val) :=
  congrArg Host.Outcome.next (if_pos (by simp [hst, hdue]))
theorem lane_negotiate {u : Nat} (h : planned s u = true) :
    (lane (negotiate s u) u).st = .negotiating ∧ (lane (negotiate s u) u).gen = 1 := by
  have hlane : lane (negotiate s u) u = lane (enterLane ..) u := rfl
  rw [hlane, lane_enterLane_same, h]
  exact ⟨rfl, rfl⟩

end

/-! ## The return of the units (R203) -/

/-- A unit after the return of number `arr` from lane u. -/
def returnedUnit (u : Nat) (failed : Bool) (arr : Nat) (y : GUnit) : GUnit :=
  if y.arr = arr then
    if isBroadcast y then
      { y with flying := y.flying.erase u, owed := if failed then y.owed.erase u else y.owed }
    else { y with st := .eligible }
  else y
/-- A unit whose broadcast is owed to lane u no more. -/
def disownedUnit (u : Nat) (y : GUnit) : GUnit :=
  if isBroadcast y then { y with owed := y.owed.erase u, flying := y.flying.erase u } else y
/-- No unit of this number is in flight or pending, but for a broadcast one. -/
def Returned (arr : Nat) (s : State) : Prop := ∀ w ∈ s.gran.units, w.arr = arr → isBroadcast w = false → w.st = .eligible

section
variable {s : State} {u arr a : Nat} {failed : Bool}

theorem returnUnit_units : (returnUnit s u failed arr).gran.units ⊆ s.gran.units.map (returnedUnit u failed arr) :=
  List.Subset.trans (List.filter_subset_self _) dropPoisoned_units
theorem disownLane_units : (disownLane s u).gran.units ⊆ s.gran.units.map (disownedUnit u) :=
  List.Subset.trans (List.filter_subset_self _) dropPoisoned_units
theorem discardPoisoned_foldl_back (l : List GUnit) (s : State) :
    (l.foldl discardPoisoned s).gran.back = s.gran.back := by
  induction l generalizing s with
  | nil => rfl
  | cons x l ih =>
    rw [List.foldl_cons, ih]
    unfold discardPoisoned guardLost controlLoss
    dsimp only
    rw [pushSheaf_back, faultOnly_gran (faultOnly_raise ..)]
    split <;> rfl
theorem returnUnit_back : (returnUnit s u failed arr).gran.back = s.gran.back := discardPoisoned_foldl_back ..
theorem disownLane_back : (disownLane s u).gran.back = s.gran.back := discardPoisoned_foldl_back ..

theorem returnedUnit_same (y : GUnit) : (returnedUnit u failed arr y).arr = y.arr ∧
    isBroadcast (returnedUnit u failed arr y) = isBroadcast y := by
  unfold returnedUnit
  repeat' split
  all_goals exact ⟨rfl, rfl⟩
theorem returnedUnit_st {y : GUnit} (h : isBroadcast y = false) (hst : y.arr = arr ∨ y.st = .eligible) :
    (returnedUnit u failed arr y).st = .eligible := by
  unfold returnedUnit
  split
  · rw [h]
    rfl
  · next harr => exact hst.resolve_left harr
theorem disownedUnit_same (y : GUnit) : (disownedUnit u y).arr = y.arr ∧ (disownedUnit u y).st = y.st ∧
    isBroadcast (disownedUnit u y) = isBroadcast y := by
  unfold disownedUnit
  split <;> exact ⟨rfl, rfl, rfl⟩

/-- The units of one number are returned, and those returned before stay so. -/
theorem returned_returnUnit (h : a = arr ∨ Returned a s) : Returned a (returnUnit s u failed arr) := by
  intro w hw harr hb
  obtain ⟨y, hy, rfl⟩ := List.mem_map.1 (returnUnit_units hw)
  obtain ⟨hsame, hcast⟩ := returnedUnit_same (u := u) (failed := failed) (arr := arr) y
  rw [hsame] at harr
  rw [hcast] at hb
  exact returnedUnit_st hb (h.imp (fun h => harr.trans h) fun h => h y hy harr hb)
theorem returned_disownLane (h : Returned a s) : Returned a (disownLane s u) := by
  intro w hw harr hb
  obtain ⟨y, hy, rfl⟩ := List.mem_map.1 (disownLane_units hw)
  obtain ⟨hsame, hst, hcast⟩ := disownedUnit_same (u := u) y
  rw [hst]
  exact h y hy (hsame.symm.trans harr) (hcast.symm.trans hb)
theorem returned_foldl (l : List Nat) (s : State) (h : a ∈ l ∨ Returned a s) :
    Returned a (l.foldl (fun s a => returnUnit s u failed a) s) := by
  induction l generalizing s with
  | nil => exact h.resolve_left (List.not_mem_nil)
  | cons b l ih =>
    refine ih _ ?_
    rcases h with h | h
    · rcases List.mem_cons.1 h with rfl | h
      · exact .inr (returned_returnUnit (.inl rfl))
      · exact .inl h
    · exact .inr (returned_returnUnit (.inr h))
theorem back_foldl (l : List Nat) (s : State) :
    (l.foldl (fun s a => returnUnit s u failed a) s).gran.back = s.gran.back := by
  induction l generalizing s with
  | nil => rfl
  | cons b l ih => rw [List.foldl_cons, ih, returnUnit_back]
/-- No return waits. -/
def noneBack (s : State) : State := { s with gran := { s.gran with back := [] } }
theorem applyReturns_one {l : List Nat} (h : s.gran.back = [(u, l)]) :
    applyReturns s = disownLane (l.foldl (fun s a => returnUnit s u true a) (noneBack s)) u := by
  rw [applyReturns, h]
  rfl

end

/-! ## Sleep and change of generation (R235) -/

/-- UL1 and up go to sleep. -/
def sleepOther (k : Nat) (s : State) : State :=
  if (lane s (k + 1)).st = .active then startDraining s (k + 1) .sleep else s

section
variable {s : State}

theorem exec_laneSleepEntry (hb : atBoundary s = true) (hm : serviceMode s.modes.cur = true) :
    exec .laneSleepEntry s = .next (variantAtBoundary (sleepLanes s)) :=
  congrArg Host.Outcome.next (if_pos (by rw [hb, hm]; rfl))
/-- The pair has been released for the deckles of `LK_SLEEP_DECKLES`, and UL0 is ACTIVE. -/
def SleepDue (s : State) : Prop := s.gran.wm1.asserted = false ∧
  bits (reg s A_LK_SLEEP_DECKLES 0) 15 0 ≤ s.gran.wm1.releasedDeckles ∧ (lane s 0).st = .active
theorem sleepLanes_high (h : SleepDue s) (hgen : (lane s 0).effLo < (lane s 0).gen) :
    sleepLanes s = startDraining s 0 (.gen (lane s 0).effLo) := by
  obtain ⟨hrel, hdue, hst⟩ := h
  simp [sleepLanes, hrel, hdue, hst, hgen, lane_startDraining_same]
theorem sleepLanes_low (h : SleepDue s) (hgen : (lane s 0).gen = (lane s 0).effLo) :
    sleepLanes s = forNat 3 sleepOther s := by
  obtain ⟨hrel, hdue, hst⟩ := h
  unfold sleepLanes
  simp only [hrel, hdue, hst, hgen, decide_true, Bool.not_false, Bool.and_self, if_true, Nat.lt_irrefl, decide_false,
    Bool.and_false, Bool.false_eq_true, if_false]
  rfl
theorem lane_sleepOther_other {k v : Nat} (h : v ≠ k + 1) (s : State) : lane (sleepOther k s) v = lane s v := by
  unfold sleepOther
  split
  · exact lane_startDraining_other _ _ h
  · rfl
theorem lane_sleepOther_same {k : Nat} (h : (lane s (k + 1)).st = .active) : lane (sleepOther k s) (k + 1) =
    { lane s (k + 1) with drain := some .sleep, st := .draining, since := s.tb.dk } := by
  rw [sleepOther, if_pos h, lane_startDraining_same]
/-- The ACTIVE ones of the n lanes after UL0 drain, and every other lane is as it was. -/
theorem forNat_sleepOther (n : Nat) (s : State) :
    (∀ k < n, (lane s (k + 1)).st = .active → (lane (forNat n sleepOther s) (k + 1)).st = .draining ∧
      (lane (forNat n sleepOther s) (k + 1)).drain = some .sleep) ∧
    ∀ v, v = 0 ∨ n < v → lane (forNat n sleepOther s) v = lane s v := by
  induction n with
  | zero => exact ⟨fun k hk => absurd hk k.not_lt_zero, fun _ _ => rfl⟩
  | succ n ih =>
    obtain ⟨hbelow, hothers⟩ := ih
    rw [forNat]
    refine ⟨fun k hk hst => ?_, fun v hv => ?_⟩
    · rcases Nat.lt_succ_iff_lt_or_eq.1 hk with hlt | rfl
      · rw [lane_sleepOther_other (by omega)]
        exact hbelow k hlt hst
      · rw [lane_sleepOther_same (by rwa [hothers _ (.inr (Nat.lt_succ_self k))])]
        exact ⟨rfl, rfl⟩
    · rw [lane_sleepOther_other (by omega), hothers v (by omega)]

/-- What a lane with nothing in flight and nothing owed does at the end of its drain. -/
def drained (s : State) (u : Nat) : State :=
  match (lane s u).drain with
  | some .sleep => enterLane s u .sleep { lane s u with drain := none, idleSet := 0, lastSet := 3, line := [] }
  | some (.gen g) => startTraining s u g true
  | _ => negotiate s u
theorem exec_drainComplete (u : Lane) (hst : (lane s u.val).st = .draining) (hfly : inFlight (lane s u.val) = false)
    (ht : s.barns.takeover = none) (howed : ∀ w ∈ s.gran.units, w.owed.contains u.val = false) :
    exec (.drainComplete u) s = .next (drained s u.val) := by
  have howes : (s.gran.units.any fun y => isBroadcast y && y.owed.contains u.val) = false := by
    rw [List.any_eq_false]
    intro w hw
    rw [howed w hw, Bool.and_false]
    decide
  refine congrArg Host.Outcome.next ((if_pos ?_).trans rfl)
  rw [hst, hfly, howes, ht]
  rfl

end

/-- Settles O27: the answer, training, the failures and the returns; then sleep and the ends of a drain. -/
theorem laneStates : Obligations.LaneStates := by
  refine ⟨⟨?_, ?_, ?_, ?_, ?_, ?_, ?_⟩, ?_, ?_⟩
  · intro d bytes v s hp hd hv hst ht hgen hhi hfmt hmax hring hring'
    obtain ⟨since, hlane⟩ := lane_startTraining (answerNoted s (bits v 55 54) v) (bits v 55 54)
      (if serviceMode s.modes.cur then answeredLo s (bits v 55 54) v else answeredHi s (bits v 55 54) v) true
    refine ⟨_, exec_aggAnnounceFrame d hp hd hv hst ht, ?_⟩
    rw [takeAnnounce_valid ⟨hgen, hhi, hfmt, hmax, hring, hring'⟩, answerNoted_cur, hlane, lane_answerNoted]
    exact ⟨rfl, rfl, rfl, rfl, rfl, rfl, rfl, rfl, rfl⟩
  · intro d bytes v s hp hd hv hst ht hbad
    rw [exec_aggAnnounceFrame d hp hd hv hst ht, takeAnnounce_invalid]
    unfold ValidAnswer
    omega
  · intro u s hst hend ht hdue
    refine ⟨_, exec_trainingEnd u hst hend ht hdue, ?_⟩
    rw [lane_setLane_same]
    exact ⟨rfl, hst⟩
  · intro u b s hst hconf hb hbound
    refine ⟨_, exec_laneActivate u hst hconf hb hbound, ?_⟩
    rw [lane_variantAtBoundary, lane_activate]
  · intro u i s ht hi
    change ∃ t, exec i s = .next t ∧ LaneFails s t u.val
    rcases hi with ⟨rfl, hst, hdue⟩ | ⟨rfl, hst, hconf, e, hend, hdue⟩ | ⟨rfl, hst, hfly, hcur, hlock, hdue⟩ | ⟨rfl, hst⟩
    · exact ⟨_, exec_negotiationTimeout u hst hdue, failLane_fails ..⟩
    · exact ⟨_, exec_trainingConfirmTimeout u ht hst hconf hend hdue, failLane_fails ..⟩
    · exact ⟨_, exec_creditTimeout u ht hst hfly hcur hlock hdue, laneFails_variant (failLane_fails ..)⟩
    · exact ⟨_, exec_laneTransmitterFault u hst, failLane_fails ..⟩
  · intro u l s hback
    rw [applyReturns_one hback]
    refine ⟨?_, fun w hw hl hb => returned_disownLane (returned_foldl l _ (.inl hl)) w hw rfl hb⟩
    rw [disownLane_back, back_foldl]
    rfl
  · intro u s hst hdue hplan
    exact ⟨_, exec_laneFailedRetry u hst hdue, lane_negotiate hplan⟩
  · intro s hb hm hrel hdue hst
    refine ⟨fun hgen => ⟨_, exec_laneSleepEntry hb hm, ?_⟩, fun hgen => ⟨_, exec_laneSleepEntry hb hm, ?_⟩⟩
    · rw [lane_variantAtBoundary, lane_variantAtBoundary, sleepLanes_high ⟨hrel, hdue, hst⟩ hgen, lane_startDraining_same,
        lane_startDraining_other _ _ (by decide)]
      exact ⟨rfl, rfl, rfl⟩
    · obtain ⟨hothers, hfirst⟩ := forNat_sleepOther 3 s
      simp only [lane_variantAtBoundary, sleepLanes_low ⟨hrel, hdue, hst⟩ hgen]
      exact ⟨by rw [hfirst 0 (.inl rfl), hst], hothers⟩
  · intro u s hst hfly ht howed
    have hexec := exec_drainComplete u hst hfly ht howed
    refine ⟨fun hsleep => ⟨_, hexec, ?_⟩, fun g hgen => ⟨_, hexec, ?_⟩⟩
    · rw [drained, hsleep]
      dsimp only
      rw [lane_enterLane_same]
      exact ⟨rfl, rfl, rfl, rfl⟩
    · obtain ⟨since, hlane⟩ := lane_startTraining s u.val g true
      rw [drained, hgen]
      dsimp only
      rw [hlane]
      exact ⟨rfl, rfl, rfl, rfl⟩

end Sys2Proof.Proofs
end

section
/-!
What a P0 write leaves: its unit stands in the Granary or waits for the hold (R197, R200, R201), and the lanes, the mode and
the time base are as they were.
-/
namespace Sys2Proof.Proofs
open Sys2Proof Sys2Proof.Machine Sys2Proof.Laws

/-! ## Outside the Granary -/

/-- What the writes of the Granary leave as it was. -/
def outside (s : State) : PMap Uplane × Mode × TB := (s.lanes, s.modes.cur, s.tb)

theorem outside_eq {s t : State} (h : outside t = outside s) : t.lanes = s.lanes ∧ t.modes.cur = s.modes.cur ∧ t.tb = s.tb := by
  simpa only [outside, Prod.mk.injEq] using h
theorem outside_of_faultOnly {s t : State} (h : FaultOnly s t) : outside t = outside s := by
  rw [outside, faultOnly_lanes h, faultOnly_cur h, faultOnly_tb h, outside]

section
variable (s : State)

theorem outside_useGranary : outside (useGranary s) = outside s := by simp [outside]
theorem outside_powerBanks (n : Nat) : outside (powerBanks n s) = outside s := by
  induction n generalizing s with
  | zero => rfl
  | succ n ih =>
    unfold powerBanks
    repeat' split
    · exact ih _
    · rfl
    · rfl
theorem outside_placeUnit (u : GUnit) (slots : List Nat) : outside (placeUnit s u slots) = outside s :=
  (outside_powerBanks ..).trans (outside_useGranary _)
theorem outside_loseUnits (gone : List GUnit) : outside (loseUnits s gone) = outside s := by
  have hlost (s : State) (src cls : Nat) : outside (lost s src cls) = outside s := by
    unfold lost
    dsimp only
    split <;> rfl
  change outside (gone.foldl (fun s u => lost s u.src u.cls) s) = _
  induction gone generalizing s with
  | nil => rfl
  | cons u gone ih => exact (ih _).trans (hlost ..)
theorem outside_extendOpen {s t : State} {c : Nat} {h : Beat} (e : extendOpen s c h = some t) : outside t = outside s := by
  unfold extendOpen at e
  dsimp only at e
  split at e
  · cases e
    rfl
  · cases e
    rfl
  · cases e

/-- The unit that has been evicted is lost and counted. -/
def evicted (s : State) (v : GUnit) : State := count (loseUnits s [v]) A_GR_EVICT 0 31 0 1
theorem gapOpen_of_openGap {u : GUnit} {c : Nat} (h : (openGap [u] c).isSome = true) : u.gapOpen = true := by
  simp only [openGap, List.find?_singleton, Option.isSome_ite, Bool.and_eq_true] at h
  exact h.1
/-- All that an eviction for unit u can leave outside the Granary, and of u. -/
theorem evict_cases (v u : GUnit) : ∃ t w, evict s v u = (raise t 13 0 (poolUsed t), w) ∧ outside t = outside s ∧
    (w = u ∨ ∃ h, u.gapOpen = true ∧ w = extendGap h u) := by
  have hlost : outside (markerTransfer (evicted s v)) = outside s := outside_loseUnits s [v]
  unfold evict
  dsimp only
  split
  · exact ⟨_, _, rfl, hlost, .inl rfl⟩
  · next c h _ =>
    split
    · next hopen =>
      exact ⟨_, _, rfl, hlost, .inr ⟨h, gapOpen_of_openGap hopen, rfl⟩⟩
    · split
      · next hext => exact ⟨_, _, rfl, (outside_extendOpen hext).trans hlost, .inl rfl⟩
      · exact ⟨_, _, rfl, (outside_placeUnit ..).trans hlost, .inl rfl⟩
theorem outside_evict (v u : GUnit) : outside (evict s v u).1 = outside s := by
  obtain ⟨t, w, h, hout, -⟩ := evict_cases s v u
  rw [h]
  exact (outside_of_faultOnly (faultOnly_raise ..)).trans hout
theorem outside_placeP0 (n : Nat) (u : GUnit) : outside (placeP0 n s u).1 = outside s := by
  induction n generalizing s u with
  | zero => rfl
  | succ n ih =>
    unfold placeP0
    dsimp only
    repeat' split
    · exact (outside_placeUnit ..).trans (outside_loseUnits ..)
    · exact outside_placeUnit ..
    · exact (ih ..).trans (outside_evict ..)
    · rfl
theorem outside_flushHold (n : Nat) : outside (flushHold n s) = outside s := by
  induction n generalizing s with
  | zero => rfl
  | succ n ih =>
    unfold flushHold
    split
    · rfl
    next u rest _ =>
    have hplace := outside_placeP0 { s with gran := { s.gran with hold := rest } } (evictFuel s) { u with ready := s.tb.up + 1 }
    repeat' split
    · rfl
    · next t h _ =>
      rw [h] at hplace
      exact (ih _).trans hplace
    · next t h _ =>
      rw [h] at hplace
      exact (ih _).trans hplace
    · next t v h =>
      rw [h] at hplace
      exact hplace

end

/-! ## The units of the Granary after a placement -/

/-- What a sweep leaves of the units (R195). -/
def swept (l : List GUnit) : List GUnit :=
  l.filter fun u => !(isBroadcast u && u.owed.isEmpty && u.flying.isEmpty &&
    !(isEpoch u && (l.filter isEpoch).getLast?.map GUnit.arr = some u.arr))

theorem powerBanks_units (n : Nat) (s : State) : (powerBanks n s).gran.units = s.gran.units := by
  induction n generalizing s with
  | zero => rfl
  | succ n ih =>
    unfold powerBanks
    repeat' split
    · exact ih _
    · rfl
    · rfl
theorem useGranary_units (s : State) : (useGranary s).gran.units = s.gran.units := congrArg Prod.fst (storedQueued_useGranary s)
theorem placeUnit_units (s : State) (u : GUnit) (slots : List Nat) :
    (placeUnit s u slots).gran.units = swept (insertUnit { u with slots := slots } s.gran.units) := by
  refine (powerBanks_units ..).trans (congrArg swept ?_)
  exact useGranary_units _
theorem mem_swept {u : GUnit} {l : List GUnit} (h : u ∈ l) (howed : isBroadcast u = true → u.owed ≠ []) : u ∈ swept l := by
  refine List.mem_filter.2 ⟨h, ?_⟩
  cases hb : isBroadcast u
  · rfl
  · rw [List.isEmpty_eq_false_iff.2 (howed hb)]
    rfl
theorem mem_insertUnit (u : GUnit) (l : List GUnit) : u ∈ insertUnit u l := by
  induction l with
  | nil => exact List.mem_singleton_self u
  | cons x l ih =>
    unfold insertUnit
    split
    · exact List.mem_cons_self ..
    · exact List.mem_cons_of_mem _ ih

/-! ## The unit of a sheaf -/

/-- TYPE of a unit's first word. -/
def unitType (u : GUnit) : Nat := bits ((u.words.headD 0).toNat) 63 60
/-- Unit u is that of sheaf x, with the words of x but for the drops that a GAP marker records, and owed to a lane when it
is broadcast. -/
structure Carries (x : Numbered) (u : GUnit) : Prop where
  src : u.src = x.sheaf.src
  seq : u.seq = x.seq
  type : unitType u = sheafType x.sheaf
  words : sheafType x.sheaf ≠ 7 → u.words = x.sheaf.words
  gap : u.gapOpen = true → sheafType x.sheaf = 7
  owed : sheafType x.sheaf = 4 ∨ sheafType x.sheaf = 8 → u.owed ≠ []

/-- A field put into a word leaves the bits above it. -/
theorem bits_putBits_above {v hi lo hi' lo' : Nat} (f : Nat) (h : lo ≤ hi) (h' : hi < lo') :
    bits (putBits v hi lo f) hi' lo' = bits v hi' lo' :=
  bits_congr fun i hi₁ _ => (bits_put h (Nat.mod_lt f (by positivity))).2 i (.inr (by omega))
theorem bits_mod {v hi lo w : Nat} (h : hi < w) : bits (v % 2 ^ w) hi lo = bits v hi lo :=
  bits_congr fun i _ hi' => by rw [Nat.testBit_mod_two_pow, decide_eq_true (by omega), Bool.true_and]
theorem unitType_extendGap (h : Beat) (u : GUnit) : unitType (extendGap h u) = unitType u := by
  unfold extendGap
  split
  · next w0 w1 _ hwords =>
    simp only [unitType, hwords, List.headD_cons, BitVec.toNat_ofNat]
    rw [bits_mod (by decide), bits_putBits_above _ (by decide) (by decide)]
  · rfl
theorem extendGap_same (h : Beat) (u : GUnit) : (extendGap h u).src = u.src ∧ (extendGap h u).seq = u.seq ∧
    (extendGap h u).owed = u.owed := by
  unfold extendGap
  split <;> exact ⟨rfl, rfl, rfl⟩

section
variable {x : Numbered} {u : GUnit}

theorem carries_extendGap (h : Beat) (hc : Carries x u) (hopen : u.gapOpen = true) : Carries x (extendGap h u) := by
  obtain ⟨hsrc, hseq, howed⟩ := extendGap_same h u
  have hgap := hc.gap hopen
  exact ⟨hsrc.trans hc.src, hseq.trans hc.seq, (unitType_extendGap h u).trans hc.type, fun h => absurd hgap h, fun _ => hgap,
    fun h => howed ▸ hc.owed h⟩
theorem carries_unitOf {s : State} (h : activeLanes s ≠ [] ∨ sheafType x.sheaf ≠ 4 ∧ sheafType x.sheaf ≠ 8) (ready : Nat) :
    Carries x (unitOf s x ready) := by
  unfold unitOf
  dsimp only
  split
  · next ht =>
    have ht' : sheafType x.sheaf = 4 ∨ sheafType x.sheaf = 8 := by simpa using ht
    exact ⟨rfl, rfl, rfl, fun _ => rfl, fun hopen => of_decide_eq_true hopen, fun _ => h.resolve_right (by omega)⟩
  · next ht => exact ⟨rfl, rfl, rfl, fun _ => rfl, fun hopen => of_decide_eq_true hopen, fun ht' => absurd (by simpa using ht') ht⟩
theorem carries_broadcast (hc : Carries x u) (hb : isBroadcast u = true) : u.owed ≠ [] := by
  refine hc.owed ?_
  rw [← hc.type]
  simpa [isBroadcast, unitType] using hb
/-- A unit that is placed stands in the Granary. -/
theorem placeUnit_stores (hc : Carries x u) (s : State) (slots : List Nat) :
    ∃ v ∈ (placeUnit s u slots).gran.units, Carries x v := by
  have hslots : Carries x { u with slots := slots } := { hc with }
  refine ⟨{ u with slots := slots }, ?_, hslots⟩
  rw [placeUnit_units]
  exact mem_swept (mem_insertUnit ..) (carries_broadcast hslots)
theorem carries_evict (hc : Carries x u) (s : State) (v : GUnit) : Carries x (evict s v u).2 := by
  obtain ⟨t, w, h, -, rfl | ⟨b, hopen, rfl⟩⟩ := evict_cases s v u
  · rw [h]
    exact hc
  · rw [h]
    exact carries_extendGap b hc hopen
/-- The unit is placed, or comes back (R200). -/
theorem placeP0_carries (n : Nat) (s : State) (hc : Carries x u) :
    ((placeP0 n s u).2 = none → ∃ v ∈ (placeP0 n s u).1.gran.units, Carries x v) ∧
    ∀ v, (placeP0 n s u).2 = some v → Carries x v := by
  induction n generalizing s u with
  | zero => exact ⟨fun h => (nomatch h), fun v h => Option.some.inj h ▸ hc⟩
  | succ n ih =>
    unfold placeP0
    dsimp only
    repeat' split
    · exact ⟨fun _ => placeUnit_stores hc .., fun v h => (nomatch h)⟩
    · exact ⟨fun _ => placeUnit_stores hc .., fun v h => (nomatch h)⟩
    · exact ih _ (carries_evict hc ..)
    · exact ⟨fun h => (nomatch h), fun v h => Option.some.inj h ▸ hc⟩
theorem writeP0_carries {s : State} (hc : Carries x (unitOf s x (s.tb.up + 1))) :
    ∃ v, (v ∈ (writeP0 s x).gran.units ∨ v ∈ (writeP0 s x).gran.hold) ∧ Carries x v := by
  obtain ⟨hplaced, hback⟩ := placeP0_carries (evictFuel s) (bumpArrival s) hc
  unfold writeP0
  split
  · next t h =>
    rw [h] at hplaced
    obtain ⟨v, hv, hcv⟩ := hplaced rfl
    exact ⟨v, .inl hv, hcv⟩
  · next t v h =>
    rw [h] at hback
    refine ⟨v, .inr ?_, hback v rfl⟩
    rw [faultOnly_gran (faultOnly_levelBegin ..)]
    exact List.mem_append_right _ (List.mem_singleton_self v)
theorem resolveWrite_p0 {s t : State} {ready : Nat} (hcls : x.sheaf.cls = 0) (h : resolveWrite s x ready = some t) :
    t = writeP0 (flushHold 64 (powerBanks 64 s)) x := by
  unfold resolveWrite at h
  dsimp only at h
  rw [if_pos hcls] at h
  split at h
  · cases h
  · exact (Option.some.inj h).symm
theorem activeLanes_congr {s t : State} (h : t.lanes = s.lanes) : activeLanes t = activeLanes s := by
  unfold activeLanes
  simp only [lane_of_lanes h]

end

/-! ## The direct writers (R189, R190, R201) -/

/-- The write of a direct writer is done: its sheaf leaves the queue, its transfers are counted. -/
def directDone (r : State) (x : Sheaf) : State :=
  { r with gran := { r.gran with dwq := dropSheaf x r.gran.dwq, direct := r.gran.direct + (x.words.length + 1) / 2 } }

section
variable {s w : State} {pick : List Sheaf → Option Sheaf} {x : Sheaf}

theorem directWrite_picked (hpick : pick w.gran.dwq = some x) : directWrite w pick =
    if 2048 < w.gran.direct + (x.words.length + 1) / 2 then w
    else match resolveWrite (number w x).2 (number w x).1 (w.tb.up + 1) with
      | none => w
      | some r => directDone r x := by
  unfold directWrite
  rw [hpick]
  rfl
theorem directWrite_spent (hpick : pick w.gran.dwq = some x) (hshare : 2048 < w.gran.direct + (x.words.length + 1) / 2) :
    directWrite w pick = w := by
  rw [directWrite_picked hpick, if_pos hshare]
theorem directWrite_waits (hpick : pick w.gran.dwq = some x)
    (hres : resolveWrite (number w x).2 (number w x).1 (w.tb.up + 1) = none) : directWrite w pick = w := by
  rw [directWrite_picked hpick, hres]
  exact ite_self w
theorem directWrite_written {r : State} (hpick : pick w.gran.dwq = some x)
    (hshare : w.gran.direct + (x.words.length + 1) / 2 ≤ 2048)
    (hres : resolveWrite (number w x).2 (number w x).1 (w.tb.up + 1) = some r) : directWrite w pick = directDone r x := by
  rw [directWrite_picked hpick, if_neg (by omega), hres]

theorem exec_granaryWrite (hcur : s.modes.cur ≠ .held) : exec .granaryWrite s =
    .next (directWrite (settleRequests s) (nextDirect (holdFull (settleRequests s)))) :=
  congrArg Host.Outcome.next (if_neg hcur)
theorem exec_deferredP0Write (hcur : s.modes.cur ≠ .held) : exec .deferredP0Write s =
    .next (if holdFull (settleRequests s) then settleRequests s
      else directWrite (settleRequests s) fun q => (directHeads q).find? fun y => decide (y.cls = 0)) :=
  congrArg Host.Outcome.next (if_neg hcur)

end

/-- Settles O24: what a resolved P0 write leaves; then the two rows of the direct writers. -/
theorem granaryWrites : Obligations.GranaryWrites := by
  refine ⟨fun s t x ready hcls howed hres => ?_, ?_⟩
  · obtain ⟨hlanes, -, -⟩ := outside_eq ((outside_flushHold (powerBanks 64 s) 64).trans (outside_powerBanks s 64))
    rw [← activeLanes_congr hlanes] at howed
    obtain rfl := resolveWrite_p0 hcls hres
    obtain ⟨u, hu, hc⟩ := writeP0_carries (carries_unitOf howed _)
    exact ⟨u, hu, hc.src, hc.seq, hc.words⟩
  · rintro x s _ hcur rfl
    refine ⟨fun hpick => ⟨fun hshare => ⟨fun r hres => ?_, fun hres => ?_⟩, fun hshare => ?_⟩,
      fun hpick => ⟨fun hfull => ?_, fun r hfull hshare hres => ?_⟩⟩
    · refine ⟨_, exec_granaryWrite hcur, ?_⟩
      rw [directWrite_written hpick hshare hres]
      exact ⟨rfl, rfl, rfl, rfl⟩
    · rw [exec_granaryWrite hcur, directWrite_waits hpick hres]
    · rw [exec_granaryWrite hcur, directWrite_spent hpick hshare]
    · rw [exec_deferredP0Write hcur, if_pos hfull]
    · refine ⟨_, exec_deferredP0Write hcur, ?_⟩
      rw [if_neg (by rw [hfull]; decide), directWrite_written hpick hshare hres]
      exact ⟨rfl, rfl⟩

end Sys2Proof.Proofs
end

section
/-!
O26: a flush of the P0 hold that evicts extends the channel's GAP marker where it is open, and one that is held is then no longer
the unit that waited (R199 to R201, log entry 29).
-/
namespace Sys2Proof.Proofs
open Sys2Proof Sys2Proof.Machine Sys2Proof.Laws

/-! ## The P0 row of Table 6.3, branch by branch -/

/-- The P0 hold as h. -/
def withHold (s : State) (h : List GUnit) : State := { s with gran := { s.gran with hold := h } }

section
variable {s : State} {u v : GUnit}

theorem loseUnits_nil (s : State) : loseUnits s [] = s := by
  change { s with gran := { s.gran with units := s.gran.units.filter fun _ => true } } = s
  rw [List.filter_true]
/-- A general slot is free, and no unit must go for it. -/
theorem placeP0_free (n : Nat) (hgone : victims s 1 [3, 2] = []) (hfree : freeGeneral s ≠ 0) :
    placeP0 (n + 1) s u = (placeUnit s u (takeGeneral s 1), none) := by
  have hprovides : provides s 1 [] = true := decide_eq_true (Nat.one_le_iff_ne_zero.2 hfree)
  rw [placeP0, hgone, if_pos hprovides, loseUnits_nil]
theorem provides_none (hfree : freeGeneral s = 0) : provides s 1 [] = false := by
  rw [provides, hfree]
  rfl
/-- No general slot is free and none can be taken but from P1, and the pool is full: the newest P1 unit is evicted. -/
theorem placeP0_evicts (n : Nat) (hgone : victims s 1 [3, 2] = []) (hfree : freeGeneral s = 0) (hpool : poolUsed s = 256)
    (hnew : newestP1 s = some v) : placeP0 (n + 1) s u = placeP0 n (evict s v u).1 (evict s v u).2 := by
  rw [placeP0, hgone, provides_none hfree, hpool, hnew]
  rfl
theorem p0NeedsHold_free (hgone : victims s 1 [3, 2] = []) (hfree : freeGeneral s ≠ 0) : p0NeedsHold s = false := by
  have hprovides : provides s 1 [] = true := decide_eq_true (Nat.one_le_iff_ne_zero.2 hfree)
  rw [p0NeedsHold, hgone, hprovides]
  rfl
theorem p0NeedsHold_full (hgone : victims s 1 [3, 2] = []) (hfree : freeGeneral s = 0) (hpool : poolUsed s = 256) :
    p0NeedsHold s = (newestP1 s).isNone := by
  rw [p0NeedsHold, hgone, provides_none hfree, hpool]
  rfl
/-- The oldest held unit is placed, and others are held. -/
theorem flushHold_placed {t : State} {rest : List GUnit} (n : Nat) (hhold : s.gran.hold = u :: rest)
    (hneeds : p0NeedsHold s = false) (hplace : placeP0 (evictFuel s) (withHold s rest)
      { u with ready := s.tb.up + 1 } = (t, none)) (hleft : t.gran.hold ≠ []) : flushHold (n + 1) s = flushHold n t := by
  conv_lhs => unfold flushHold
  split
  · next h => cases hhold.symm.trans h
  next u' rest' h =>
  obtain ⟨rfl, rfl⟩ := List.cons.inj (hhold.symm.trans h)
  split
  · next hheld => cases hneeds.symm.trans hheld
  split
  · next t' e =>
    obtain rfl := (Prod.mk.inj (hplace.symm.trans e)).1
    rw [if_neg (by simpa using hleft)]
  · next t' v e => cases hplace.symm.trans e
theorem flushHold_stops (n : Nat) (hneeds : p0NeedsHold s = true) : flushHold (n + 1) s = s := by
  conv_lhs => unfold flushHold
  split
  · rfl
  · rw [if_pos hneeds]

end

/-! ## The lowest free slots -/

theorem foldl_same {α β : Type} {f : α → β → α} (l : List β) (h : ∀ a, ∀ b ∈ l, f a b = a) (a : α) : l.foldl f a = a := by
  induction l with
  | nil => rfl
  | cons b l ih =>
    rw [List.foldl_cons, h a b (List.mem_cons_self ..)]
    exact ih fun a c hc => h a c (List.mem_cons_of_mem _ hc)

section
variable {used : List Nat} {hi k : Nat}

theorem freeFrom_free (fuel : Nat) (hk : k < hi) (hfree : k ∉ used) : freeFrom used hi (fuel + 1) k 1 = [k] := by
  have hnone : freeFrom used hi fuel (k + 1) 0 = [] := by
    cases fuel with
    | zero => rfl
    | succ fuel => exact if_pos (.inl rfl)
  rw [freeFrom, if_neg (by omega), if_neg (by simpa using hfree), Nat.sub_self, hnone]
theorem freeFrom_used (fuel : Nat) (hk : k < hi) (hused : k ∈ used) :
    freeFrom used hi (fuel + 1) k 1 = freeFrom used hi fuel (k + 1) 1 := by
  rw [freeFrom, if_neg (by omega), if_pos (by simpa using hused)]

end

/-! ## A crowded Granary -/

/-- A CONTROL sheaf's unit with arrival number n. -/
def control (n : Nat) : GUnit :=
  { arr := n, cls := 0, src := 14, seq := BitVec.ofNat 16 n, slots := [], st := .eligible,
    words := [BitVec.ofNat 64 (9 * 2 ^ 60), 0], hit := none, owed := [], flying := [], sentOn := [], maxLat := 0, ready := 0,
    poisoned := none, gapOpen := false }
/-- Every slot of bank 0 but 256 and 257. -/
def crowdSlots : List Nat := List.range 256 ++ List.range' 258 32510
/-- One P0 unit in each of them. -/
def crowd : List GUnit := crowdSlots.map fun k => { control k with slots := [k] }
/-- A P1 hit sheaf of channel 0, in slot 257. -/
def victim : GUnit :=
  { control 40000 with cls := 1, src := 0, words := [BitVec.ofNat 64 (2 ^ 60), 0], hit := some (0, 0), slots := [257] }
/-- The open GAP marker of channel 0, of one drop, in the hold. -/
def heldGap : GUnit :=
  { control 40003 with src := 13, words := [sheafW0 7 0 13, gapW1 0 0 1], hit := some (0, 0), gapOpen := true }
/-- Calibration mode and bank 0 alone; slot 256 is free, and three P0 units are held, of which the last is the marker. -/
def crowdedState : State :=
  { State.reset with
    modes := { State.reset.modes with cur := .cal }
    gran := { State.reset.gran with units := crowd ++ [victim], hold := [control 40001, control 40002, heldGap] } }

/-- The crowd and the units of l are stored, those of h held, in the mode and with the bank of `crowdedState`. -/
structure Crowded (s : State) (l h : List GUnit) : Prop where
  cur : s.modes.cur = .cal
  up : s.tb.up = 0
  powered : s.gran.powered = 1
  units : s.gran.units = crowd ++ l
  hold : s.gran.hold = h

/-- A unit that is neither broadcast nor an open marker, and of class P0 or P1. -/
def plain (u : GUnit) : Bool := !isBroadcast u && !u.gapOpen && u.cls ≤ 1
/-- General slots, and slots of the reserved pool, among these. -/
def generals (l : List Nat) : Nat := (l.filter (256 ≤ ·)).length
def pools (l : List Nat) : Nat := (l.filter (· < 256)).length

theorem mem_crowdSlots {k : Nat} : k ∈ crowdSlots ↔ k < 256 ∨ 258 ≤ k ∧ k < 32768 := by
  rw [crowdSlots, List.mem_append, List.mem_range, List.mem_range'_1]
theorem generals_append (l m : List Nat) : generals (l ++ m) = generals l + generals m := by
  rw [generals, List.filter_append, List.length_append]
  rfl
theorem pools_append (l m : List Nat) : pools (l ++ m) = pools l + pools m := by
  rw [pools, List.filter_append, List.length_append]
  rfl
theorem generals_crowdSlots : generals crowdSlots = 32510 := by
  have hpool : (List.range 256).filter (256 ≤ ·) = [] := List.filter_eq_nil_iff.2 fun k hk => by simpa using hk
  have hgen : (List.range' 258 32510).filter (256 ≤ ·) = List.range' 258 32510 :=
    List.filter_eq_self.2 fun k hk => decide_eq_true (by have := (List.mem_range'_1.1 hk).1; omega)
  rw [crowdSlots, generals_append, generals, hpool, generals, hgen, List.length_range']
  rfl
theorem pools_crowdSlots : pools crowdSlots = 256 := by
  have hpool : (List.range 256).filter (· < 256) = List.range 256 := List.filter_eq_self.2 fun k hk => by simpa using hk
  have hgen : (List.range' 258 32510).filter (· < 256) = [] :=
    List.filter_eq_nil_iff.2 fun k hk => by have := (List.mem_range'_1.1 hk).1; simp; omega
  rw [crowdSlots, pools_append, pools, hpool, pools, hgen, List.length_range]
  rfl
theorem crowd_slots : crowd.flatMap GUnit.slots = crowdSlots := by
  rw [crowd, List.flatMap_map]
  exact List.flatMap_singleton' crowdSlots
theorem crowd_unit {u : GUnit} (h : u ∈ crowd) : plain u = true ∧ u.cls = 0 ∧ u.arr < 32768 := by
  obtain ⟨k, hk, rfl⟩ := List.mem_map.1 h
  have hk' := mem_crowdSlots.1 hk
  exact ⟨by simp [plain, control, isBroadcast, bits], rfl, show k < 32768 by omega⟩
theorem crowd_plain {l : List GUnit} (hl : l.all plain = true) : ∀ u ∈ crowd ++ l, plain u = true := by
  intro u hu
  rcases List.mem_append.1 hu with h | h
  · exact (crowd_unit h).1
  · exact List.all_eq_true.1 hl u h
theorem plain_parts {u : GUnit} (h : plain u = true) : isBroadcast u = false ∧ u.gapOpen = false ∧ u.cls ≤ 1 := by
  simpa [plain, and_assoc] using h

section
variable {s : State} {l h : List GUnit} {u : GUnit}

theorem crowded_usedSlots (hs : Crowded s l h) : usedSlots s = crowdSlots ++ l.flatMap GUnit.slots := by
  rw [usedSlots, hs.units, List.flatMap_append, crowd_slots]
theorem crowded_freeGeneral (hs : Crowded s l h) : freeGeneral s = 2 - generals (l.flatMap GUnit.slots) := by
  change popcount64 s.gran.powered * 32768 - 256 - generals (usedSlots s) = _
  rw [crowded_usedSlots hs, generals_append, generals_crowdSlots, hs.powered, show popcount64 1 = 1 by decide]
  omega
theorem crowded_poolUsed (hs : Crowded s l h) : poolUsed s = 256 + pools (l.flatMap GUnit.slots) := by
  change pools (usedSlots s) = _
  rw [crowded_usedSlots hs, pools_append, pools_crowdSlots]
/-- No unit of class P2 or P3 can go. -/
theorem crowded_victims (hs : Crowded s l h) (hl : l.all plain = true) : victims s 1 [3, 2] = [] := by
  have hnone : ([3, 2].flatMap fun c => s.gran.units.filter fun u => u.cls = c && freeable s u) = [] := by
    refine List.flatMap_eq_nil_iff.2 fun c hc => List.filter_eq_nil_iff.2 fun u hu => ?_
    rw [hs.units] at hu
    obtain ⟨-, -, hcls⟩ := plain_parts (crowd_plain hl u hu)
    have hc' : c = 3 ∨ c = 2 := by simpa using hc
    simp only [Bool.and_eq_true, decide_eq_true_eq]
    omega
  unfold victims
  dsimp only
  rw [hnone]
  rfl
/-- Only the units beside the crowd can be of class P1. -/
theorem crowded_newestP1 (hs : Crowded s l h) :
    newestP1 s = (l.filter fun u => u.cls = 1 && freeable s u).getLast? := by
  have hcrowd : (crowd.filter fun u => u.cls = 1 && freeable s u) = [] := by
    refine List.filter_eq_nil_iff.2 fun u hu => ?_
    rw [(crowd_unit hu).2.1]
    simp
  rw [newestP1, hs.units, List.filter_append, hcrowd, List.nil_append]
/-- Bank 0 alone is searched. -/
theorem takeGeneral_bank0 (hp : s.gran.powered = 1) :
    takeGeneral s 1 = freeFrom (usedSlots s) 32768 (1 + (usedSlots s).length) 256 1 := by
  have hoff : ∀ b ∈ (List.range 63).map Nat.succ, (1 : BitVec 64).getLsbD b = false := by decide
  unfold takeGeneral
  dsimp only
  rw [hp, show List.range 64 = 0 :: (List.range 63).map Nat.succ by decide, List.foldl_cons,
    foldl_same _ fun got b hb => if_neg (by rw [hoff b hb, Bool.false_and]; decide)]
  rfl
theorem takeGeneral_first (hs : Crowded s l h) (hfree : 256 ∉ l.flatMap GUnit.slots) : takeGeneral s 1 = [256] := by
  have hunused : 256 ∉ usedSlots s := by
    rw [crowded_usedSlots hs, List.mem_append, mem_crowdSlots]
    rintro (hc | hc)
    · omega
    · exact hfree hc
  rw [takeGeneral_bank0 hs.powered, Nat.add_comm]
  exact freeFrom_free _ (by decide) hunused
theorem takeGeneral_second (hs : Crowded s l h) (hused : 256 ∈ l.flatMap GUnit.slots) (hfree : 257 ∉ l.flatMap GUnit.slots) :
    takeGeneral s 1 = [257] := by
  have hin : 256 ∈ usedSlots s := by
    rw [crowded_usedSlots hs]
    exact List.mem_append_right _ hused
  have hunused : 257 ∉ usedSlots s := by
    rw [crowded_usedSlots hs, List.mem_append, mem_crowdSlots]
    rintro (hc | hc)
    · omega
    · exact hfree hc
  obtain ⟨n, hn⟩ : ∃ n, (usedSlots s).length = n + 1 := Nat.exists_eq_add_one.2 (List.length_pos_of_mem hin)
  rw [takeGeneral_bank0 hs.powered, hn, Nat.add_comm, freeFrom_used _ (by decide) hin]
  exact freeFrom_free _ (by decide) hunused

/-! ## What a placement and an eviction leave of it -/

theorem crowded_hold (hs : Crowded s l h) (h' : List GUnit) :
    Crowded (withHold s h') l h' := { hs with hold := rfl }
theorem crowded_faultOnly {t : State} (hs : Crowded s l h) (hf : FaultOnly s t) : Crowded t l h := by
  have hgran := faultOnly_gran hf
  exact ⟨(faultOnly_cur hf).trans hs.cur, (congrArg TB.up (faultOnly_tb hf)).trans hs.up, hgran ▸ hs.powered, hgran ▸ hs.units,
    hgran ▸ hs.hold⟩
theorem powerBanks_idle (hm : serviceMode s.modes.cur = false) (n : Nat) : powerBanks n s = s := by
  cases n with
  | zero => rfl
  | succ n => exact if_neg (by rw [hm, Bool.false_and]; decide)
theorem useGranary_hold_powered (s : State) :
    (useGranary s).gran.hold = s.gran.hold ∧ (useGranary s).gran.powered = s.gran.powered := by
  unfold useGranary wakeGranary
  split
  · exact ⟨rfl, rfl⟩
  · rw [pllRequest_gran]
    exact ⟨rfl, rfl⟩
/-- A unit newer than every other one stands last. -/
theorem insertUnit_newest (hu : u.arr < 2 ^ 39) (hl : ∀ x ∈ l, x.arr < u.arr) : insertUnit u l = l ++ [u] := by
  induction l with
  | nil => rfl
  | cons x l ih =>
    have hx := hl x (List.mem_cons_self ..)
    have hbefore : arrBefore u.arr x.arr = false := by
      simp only [arrBefore, Bool.and_eq_false_iff, decide_eq_false_iff_not]
      omega
    rw [insertUnit, hbefore, ih fun y hy => hl y (List.mem_cons_of_mem _ hy)]
    rfl
theorem swept_plain (hl : ∀ x ∈ l, plain x = true) : swept l = l := by
  refine List.filter_eq_self.2 fun x hx => ?_
  rw [(plain_parts (hl x hx)).1]
  rfl
theorem placeUnit_idle (hm : serviceMode s.modes.cur = false) (u : GUnit) (slots : List Nat) :
    (placeUnit s u slots).gran.hold = s.gran.hold ∧ (placeUnit s u slots).gran.powered = s.gran.powered := by
  have hidle {t : State} (h : t.modes = s.modes) : (powerBanks 64 t).gran = t.gran :=
    congrArg State.gran (powerBanks_idle (by rw [h, hm]) 64)
  change (powerBanks 64 _).gran.hold = _ ∧ (powerBanks 64 _).gran.powered = _
  rw [hidle]
  · exact useGranary_hold_powered _
  · exact useGranary_modes _
theorem crowded_placeUnit (hs : Crowded s l h) (hl : l.all plain = true) (hu : plain u = true)
    (hnew : l.all (fun x => x.arr < u.arr) = true) (hlo : 32768 ≤ u.arr) (hhi : u.arr < 2 ^ 39) (slots : List Nat) :
    Crowded (placeUnit s u slots) (l ++ [{ u with slots := slots }]) h := by
  obtain ⟨-, hcur, htb⟩ := outside_eq (outside_placeUnit s u slots)
  obtain ⟨hhold, hpowered⟩ := placeUnit_idle (s := s) (by rw [hs.cur]; rfl) u slots
  refine ⟨hcur.trans hs.cur, (congrArg TB.up htb).trans hs.up, hpowered.trans hs.powered, ?_, hhold.trans hs.hold⟩
  have hplain : plain { u with slots := slots } = true := hu
  have holder : ∀ x ∈ crowd ++ l, x.arr < u.arr := by
    intro x hx
    rcases List.mem_append.1 hx with h | h
    · exact Nat.lt_of_lt_of_le (crowd_unit h).2.2 hlo
    · exact of_decide_eq_true (List.all_eq_true.1 hnew x h)
  rw [placeUnit_units, hs.units, insertUnit_newest (u := { u with slots := slots }) hhi holder, List.append_assoc]
  exact swept_plain (crowd_plain (by rw [List.all_append, hl, List.all_cons, hplain]; rfl))

/-- The victim is lost and its slot free. -/
theorem crowded_evicted (hs : Crowded s (victim :: l) h) (hl : l.all (fun x => x.arr ≠ victim.arr) = true) :
    Crowded (evicted s victim) l h := by
  have hkept : (crowd ++ l).filter (fun u => !([victim].any fun g => g.arr = u.arr)) = crowd ++ l := by
    refine List.filter_eq_self.2 fun x hx => ?_
    have hne : victim.arr ≠ x.arr := by
      rcases List.mem_append.1 hx with hc | hc
      · exact Nat.ne_of_gt (Nat.lt_of_lt_of_le (crowd_unit hc).2.2 (by decide))
      · exact Ne.symm (of_decide_eq_true (List.all_eq_true.1 hl x hc))
    simp [hne]
  refine ⟨hs.cur, hs.up, hs.powered, ?_, hs.hold⟩
  change s.gran.units.filter (fun u => !([victim].any fun g => g.arr = u.arr)) = _
  rw [← hkept, hs.units, List.filter_append, List.filter_append]
  rfl
/-- No marker is open in a slot: the held one is extended. -/
theorem extendOpen_held {c : Nat} {g : GUnit} (b : Beat) (hs : Crowded s l h) (hl : l.all plain = true)
    (hg : openGap h c = some g) : extendOpen s c b =
      some (withHold s (h.map fun y => if y.arr = g.arr then extendGap b y else y)) := by
  have hnone : openGap s.gran.units c = none := by
    refine List.find?_eq_none.2 fun x hx => ?_
    rw [hs.units] at hx
    rw [(plain_parts (crowd_plain hl x hx)).2.1, Bool.false_and]
    decide
  rw [extendOpen, hnone, hs.hold, hg]
  rfl
theorem openGap_closed {u : GUnit} (hu : u.gapOpen = false) (c : Nat) : (openGap [u] c).isSome = false := by
  rw [openGap, List.find?_singleton, hu]
  rfl
/-- An eviction that extends a marker elsewhere leaves its own unit as it is. -/
theorem evict_extends {c : Nat} {b : Beat} {t : State} {v : GUnit} (hhit : v.hit = some (c, b)) (hu : u.gapOpen = false)
    (hext : extendOpen (markerTransfer (evicted s v)) c b = some t) : evict s v u = (raise t 13 0 (poolUsed t), u) := by
  unfold evicted at hext
  unfold evict
  dsimp only
  rw [hhit]
  dsimp only
  rw [if_neg (by rw [openGap_closed hu]; decide), hext]
/-- The eviction of the victim extends the held marker of its channel. -/
theorem crowded_evict {g : GUnit} (hs : Crowded s (victim :: l) h) (hl : l.all plain = true)
    (harr : l.all (fun x => x.arr ≠ victim.arr) = true) (hg : openGap h 0 = some g) (hu : u.gapOpen = false) :
    ∃ t, evict s victim u = (t, u) ∧ Crowded t l (h.map fun y => if y.arr = g.arr then extendGap 0 y else y) := by
  have hs₁ : Crowded (markerTransfer (evicted s victim)) l h := { crowded_evicted hs harr with }
  exact ⟨_, evict_extends rfl hu (extendOpen_held 0 hs₁ hl hg), crowded_faultOnly (crowded_hold hs₁ _) (faultOnly_raise ..)⟩

end

/-! ## The flush -/

/-- The first held unit in slot 256, the second in slot 257; the marker after a second drop. -/
def placedA : GUnit := { control 40001 with ready := 1, slots := [256] }
def placedB : GUnit := { control 40002 with ready := 1, slots := [257] }
def extendedGap : GUnit := extendGap 0 heldGap

section
variable {s : State}

theorem newestP1_victim {h : List GUnit} (hs : Crowded s [victim, placedA] h) : newestP1 s = some victim := by
  rw [crowded_newestP1 hs]
  unfold freeable
  rw [hs.up]
  rfl
/-- The first held unit takes the free slot. -/
theorem flush_first (n : Nat) (hs : Crowded s [victim] [control 40001, control 40002, heldGap]) :
    ∃ t, Crowded t [victim, placedA] [control 40002, heldGap] ∧ flushHold (n + 1) s = flushHold n t := by
  have hs₁ := crowded_hold hs [control 40002, heldGap]
  have hfree : freeGeneral s ≠ 0 := by
    rw [crowded_freeGeneral hs]
    decide
  have hfree₁ := (crowded_freeGeneral hs₁).trans (crowded_freeGeneral hs).symm
  have hplain : [victim].all plain = true := by decide
  have ht := crowded_placeUnit (u := { control 40001 with ready := 1 }) hs₁ hplain (by decide) (by decide) (by decide)
    (by decide) [256]
  refine ⟨_, ht, flushHold_placed n hs.hold (p0NeedsHold_free (crowded_victims hs hplain) hfree) ?_ ?_⟩
  · rw [hs.up, evictFuel, placeP0_free _ (crowded_victims hs₁ hplain) (hfree₁ ▸ hfree),
      takeGeneral_first hs₁ (by decide)]
  · rw [ht.hold]
    exact List.cons_ne_nil _ _
/-- The second one has the victim evicted and takes its slot; the held marker is extended. -/
theorem flush_second (n : Nat) (hs : Crowded s [victim, placedA] [control 40002, heldGap]) :
    ∃ t, Crowded t [placedA, placedB] [extendedGap] ∧ flushHold (n + 1) s = flushHold n t := by
  have hs₁ := crowded_hold hs [heldGap]
  have hplain : [victim, placedA].all plain = true := by decide
  have hneeds : p0NeedsHold s = false := by
    rw [p0NeedsHold_full (crowded_victims hs hplain) (crowded_freeGeneral hs) (crowded_poolUsed hs), newestP1_victim hs]
    rfl
  obtain ⟨t, hevict, hs₂⟩ : ∃ t, evict (withHold s [heldGap]) victim { control 40002 with ready := 1 } =
      (t, { control 40002 with ready := 1 }) ∧ Crowded t [placedA] [extendedGap] :=
    crowded_evict hs₁ (by decide) (by decide) (g := heldGap) rfl rfl
  have ht := crowded_placeUnit (u := { control 40002 with ready := 1 }) hs₂ (by decide) (by decide) (by decide) (by decide)
    (by decide) [257]
  have hfuel : evictFuel s = crowd.length + 1 + 1 + 1 := by simp [evictFuel, hs.units]
  have hfree₂ : freeGeneral t ≠ 0 := by
    rw [crowded_freeGeneral hs₂]
    decide
  refine ⟨_, ht, flushHold_placed n hs.hold hneeds ?_ ?_⟩
  · rw [hs.up, hfuel, placeP0_evicts _ (crowded_victims hs₁ hplain) (crowded_freeGeneral hs₁) (crowded_poolUsed hs₁)
      (newestP1_victim hs₁), hevict,
      placeP0_free _ (crowded_victims hs₂ (by decide)) hfree₂, takeGeneral_second hs₂ (by decide) (by decide)]
  · rw [ht.hold]
    exact List.cons_ne_nil _ _
/-- The marker stays: nothing is left to evict. -/
theorem flush_third (n : Nat) (hs : Crowded s [placedA, placedB] [extendedGap]) : flushHold (n + 1) s = s := by
  have hnew : newestP1 s = none := by
    rw [crowded_newestP1 hs]
    rfl
  refine flushHold_stops n ?_
  rw [p0NeedsHold_full (crowded_victims hs (by decide)) (crowded_freeGeneral hs) (crowded_poolUsed hs), hnew]
  rfl

end

theorem crowded_crowdedState : Crowded crowdedState [victim] [control 40001, control 40002, heldGap] := ⟨rfl, rfl, rfl, rfl, rfl⟩
theorem settleRequests_crowdedState : settleRequests crowdedState = crowdedState := if_pos rfl
/-- After the flush the marker waits alone, with the victim's hit counted in it. -/
theorem flushed_crowdedState : (flushHold 64 crowdedState).gran.hold = [extendedGap] := by
  obtain ⟨t₁, ht₁, h₁⟩ := flush_first 63 crowded_crowdedState
  obtain ⟨t₂, ht₂, h₂⟩ := flush_second 62 ht₁
  rw [h₁, h₂, flush_third 61 ht₂, ht₂.hold]
theorem exec_crowdedState : exec .p0HoldWrite crowdedState = .next (flushHold 64 crowdedState) := by
  change writeRow crowdedState (flushHold 64) = _
  rw [writeRow, settleRequests_crowdedState]
  exact congrArg Host.Outcome.next (if_neg (by decide))

/-- Refutes O26: its clause on the held units takes those that stay held from those that waited, and in `crowdedState` the
marker that stays has recorded one drop more. -/
theorem not_granaryUpkeep : ¬ Obligations.GranaryUpkeep := by
  rintro ⟨⟨hflush, -⟩, -⟩
  have hfree : freeGeneral crowdedState ≠ 0 := by
    rw [crowded_freeGeneral crowded_crowdedState]
    decide
  obtain ⟨t, hexec, hsuffix, -⟩ := hflush (control 40001) [control 40002, heldGap] crowdedState crowdedState (by decide)
    settleRequests_crowdedState.symm crowded_crowdedState.hold hfree (by decide)
  obtain rfl := Host.Outcome.next.inj (exec_crowdedState.symm.trans hexec)
  rw [flushed_crowdedState] at hsuffix
  exact absurd (hsuffix.subset (List.mem_singleton_self _)) (by decide)

end Sys2Proof.Proofs
end

section
/-!
O42: COMMAND frames and REPLY frames (R240, R241, R330, R332, R336, R377).
-/
namespace Sys2Proof.Proofs
open Sys2Proof Sys2Proof.Machine Sys2Proof.Laws

/-! ## What only counts -/

/-- t differs from s in nothing but the tallies. -/
def TalliesOnly (s t : State) : Prop := ∃ tal talNew, t = { s with tal := tal, talNew := talNew }
theorem talliesOnly_count (s : State) (id inst hi lo n : Nat) : TalliesOnly s (count s id inst hi lo n) := ⟨_, _, rfl⟩
theorem talliesOnly_trans {s t u : State} (h : TalliesOnly s t) (g : TalliesOnly t u) : TalliesOnly s u := by
  obtain ⟨_, _, rfl⟩ := h
  obtain ⟨tal, talNew, rfl⟩ := g
  exact ⟨tal, talNew, rfl⟩

/-! ## What a delivered packet does (R330, R336, R377) -/

section
variable {s : State} {p : Port} {size : Nat} {bs : List Byte}

theorem enqueuePacket_mem (s : State) (p : Port) (i : Packet) : (s.tb.up, p, i) ∈ (enqueuePacket s p i).cmd.inq :=
  List.mem_append_right _ List.mem_cons_self
theorem enqueuePacket_length (s : State) (p : Port) (i : Packet) :
    (enqueuePacket s p i).cmd.inq.length = s.cmd.inq.length + 1 := by
  have hsplit := fun q => congrArg List.length (List.takeWhile_append_dropWhile (p := q) (l := s.cmd.inq))
  simp only [List.length_append] at hsplit
  rw [← hsplit, enqueuePacket, List.length_append, List.length_cons, Nat.add_assoc]
theorem reply_cmd (s : State) {r : Req} (h : r.port ≠ .spi) (op st dt : Nat) (data : List PWord) :
    (reply s r op st dt data).cmd = { s.cmd with laneQ := s.cmd.laneQ ++ [replyMsg r op st dt data] } := by
  rw [(reply_queues s r op st dt data).2, if_neg h, if_neg h]
/-- The note of a bad packet is in its port's tallies and last bad header. -/
theorem noteBad_eq (s : State) (p : Port) (status h : Nat) : ∃ tal talNew bad, noteBad s p status h =
    { s with tal := tal, talNew := talNew, cmd := { s.cmd with lastBad := bad } } := by
  unfold noteBad
  dsimp only
  split
  · exact ⟨_, _, _, rfl⟩
  · split <;> exact ⟨_, _, _, rfl⟩
theorem grangersStopped_noteBad (s : State) (p : Port) (status h : Nat) :
    grangersStopped (noteBad s p status h) = grangersStopped s := by
  obtain ⟨_, _, _, heq⟩ := noteBad_eq s p status h
  rw [heq]
  rfl

/-- The packet that a header spells, with its sender. -/
def reqOf (p : Port) (bs : List Byte) : Req := { port := p, tag := BitVec.ofNat 8 (bits (headerWord bs) 23 16) }
theorem receivePacket_passes {i : Instr} (h : checkPacket s p size bs = .inl i) :
    receivePacket s p size bs = enqueuePacket s p (.command i) := by
  rw [receivePacket, h]
theorem receivePacket_fails {status detail : Nat} (h : checkPacket s p size bs = .inr (status, detail))
    (hrun : grangersStopped s = false) : receivePacket s p size bs =
      reply (noteBad s p status (headerWord bs)) (reqOf p bs) (bits (headerWord bs) 31 24) status detail [] := by
  rw [receivePacket, h]
  exact if_neg (by rw [grangersStopped_noteBad, hrun]; decide)
theorem receivePacket_failsStopped {status detail : Nat} (h : checkPacket s p size bs = .inr (status, detail))
    (hstop : grangersStopped s = true) : receivePacket s p size bs =
      enqueuePacket (noteBad s p status (headerWord bs)) p
        (.failed (reqOf p bs) (bits (headerWord bs) 31 24) status detail) := by
  rw [receivePacket, h]
  exact if_pos ((grangersStopped_noteBad ..).trans hstop)
/-- The checks of a packet depend on the mode record alone. -/
theorem checkPacket_of_modes {t : State} (h : t.modes = s.modes) : checkPacket t p size bs = checkPacket s p size bs := by
  unfold checkPacket modeByte
  rw [h]

end

/-! ## COMMAND frames (R240, R332) -/

/-- The port of a downlane's COMMAND frames. -/
def portOf (d : DlId) : Port := if d.val = 0 then .dl0 else .dl1
theorem portOf_lane (d : DlId) : portOf d ≠ .spi := by
  unfold portOf
  split <;> decide
/-- A sound COMMAND frame counted, for its downlane and for its port. -/
def commandCounted (s : State) (d : DlId) : State :=
  count (count s A_LK_CTRL_COUNT d.val 31 0 1) A_CMD_PORT_COUNT (portCode (portOf d)) 31 0 1

section
variable {s : State} {d : DlId} {bytes : List Byte}

theorem talliesOnly_commandCounted (s : State) (d : DlId) : TalliesOnly s (commandCounted s d) :=
  talliesOnly_trans (talliesOnly_count ..) (talliesOnly_count ..)
theorem exec_commandFrame_discarded (hp : padsFree s = true) (hd : dlReceives s d.val = true) (h : framePacket bytes = none) :
    exec (.commandFrame d bytes) s = .next (count s A_LK_DL_ERRORS d.val 15 0 1) := by
  change execCommandFrame d bytes s = _
  simp [execCommandFrame, atPads, hp, hd, h, dlDiscard]

variable {size : Nat} {packet : List Byte} (hp : padsFree s = true) (hd : dlReceives s d.val = true)
  (hf : framePacket bytes = some (size, packet))
include hp hd hf

theorem exec_commandFrame : exec (.commandFrame d bytes) s =
    .next (downlanePacket (count s A_LK_CTRL_COUNT d.val 31 0 1) (portOf d) size packet) := by
  change execCommandFrame d bytes s = _
  simp [execCommandFrame, atPads, hp, hd, hf, portOf]
theorem exec_commandFrame_room (h : queued s (portOf d) < 8) :
    exec (.commandFrame d bytes) s = .next (receivePacket (commandCounted s d) (portOf d) size packet) :=
  (exec_commandFrame hp hd hf).trans (congrArg Host.Outcome.next (if_pos h))
theorem exec_commandFrame_full (h : 8 ≤ queued s (portOf d)) : exec (.commandFrame d bytes) s =
    .next (reply (count (commandCounted s d) A_CMD_PORT_ERRORS (portCode (portOf d)) 47 32 1) (reqOf (portOf d) packet)
      (bits (headerWord packet) 31 24) 1 0xFF []) :=
  (exec_commandFrame hp hd hf).trans (congrArg Host.Outcome.next (if_neg (Nat.not_lt.2 h)))

end

/-! ## REPLY frames (R241) -/

/-- Message m taken from the queue onto the line of uplane u. -/
def replyOnLine (s : State) (u : Nat) (m : Msg) : State :=
  setLane { s with cmd := { s.cmd with laneQ := dropMsg m s.cmd.laneQ } } u
    { lane s u with line := packetFrame 0x41 (msgBytes m) }
/-- Its count, for the port that it answers and for that port's downlane. -/
def replyCounted (s : State) (m : Msg) : State :=
  match m.origin with
  | some p =>
    let t := count s A_CMD_PORT_COUNT (portCode p) 63 32 1
    if portCode p < 2 then count t A_LK_CTRL_COUNT (portCode p) 63 32 1 else t
  | none => s

section
variable {s : State} {m : Msg}

theorem talliesOnly_replyCounted (s : State) (m : Msg) : TalliesOnly s (replyCounted s m) := by
  unfold replyCounted
  split
  · dsimp only
    split
    · exact talliesOnly_trans (talliesOnly_count ..) (talliesOnly_count ..)
    · exact talliesOnly_count ..
  · exact ⟨_, _, rfl⟩
theorem replyCounted_same (s : State) (m : Msg) :
    (replyCounted s m).cmd = s.cmd ∧ (replyCounted s m).lanes = s.lanes ∧ (replyCounted s m).gran = s.gran := by
  obtain ⟨_, _, heq⟩ := talliesOnly_replyCounted s m
  rw [heq]
  exact ⟨rfl, rfl, rfl⟩
theorem exec_replyFrameSend (u : Lane) (hm : pendingReply s u.val = some m) (hpow : powered s = true)
    (ht : s.barns.takeover = none) : exec (.replyFrameSend u) s = .next (replyCounted (replyOnLine s u.val m) m) := by
  change execReplyFrameSend u s = _
  rw [execReplyFrameSend, hm]
  exact congrArg Host.Outcome.next (if_neg (by rw [ht, hpow]; decide))
theorem exec_replyFrameSend_waits (u : Lane) (hm : pendingReply s u.val = some m) (ht : s.barns.takeover.isSome = true) :
    exec (.replyFrameSend u) s = .next s := by
  change execReplyFrameSend u s = _
  rw [execReplyFrameSend, hm]
  exact congrArg Host.Outcome.next (if_pos (by rw [ht]; rfl))

end

/-- Settles O42: the frame that is not sound, the packet that passes, fails at once, fails while the Grangers stand still or
finds its queue full; then the REPLY frame. -/
theorem commandAndReplyFrames : Obligations.CommandAndReplyFrames := by
  refine ⟨fun d bytes s hp hd => ⟨exec_commandFrame_discarded hp hd, ?_⟩, ?_⟩
  · rintro size packet _ _ hf rfl rfl
    refine ⟨fun hroom => ?_, fun hfull => ?_⟩
    · rw [exec_commandFrame_room hp hd hf hroom]
      have hcheck : checkPacket (commandCounted s d) (portOf d) size packet = checkPacket s (portOf d) size packet :=
        checkPacket_of_modes ((count_modes ..).trans (count_modes ..))
      obtain ⟨_, _, hs⟩ := talliesOnly_commandCounted s d
      rw [hs] at hcheck ⊢
      refine ⟨fun i hi => ⟨_, rfl, ?_⟩, fun status detail hbad => ⟨fun hrun => ⟨_, rfl, ?_⟩, fun hstop => ⟨_, rfl, ?_⟩⟩⟩
      · rw [receivePacket_passes (hcheck.trans hi)]
        exact ⟨enqueuePacket_mem .., enqueuePacket_length .., rfl, rfl⟩
      · obtain ⟨_, _, _, hnote⟩ := noteBad_eq _ (portOf d) status (headerWord packet)
        rw [receivePacket_fails (hcheck.trans hbad) hrun, hnote, reply_cmd _ (portOf_lane d)]
        exact ⟨rfl, rfl⟩
      · obtain ⟨_, _, _, hnote⟩ := noteBad_eq _ (portOf d) status (headerWord packet)
        rw [receivePacket_failsStopped (hcheck.trans hbad) hstop, hnote]
        exact ⟨rfl, enqueuePacket_mem ..⟩
    · rw [exec_commandFrame_full hp hd hf hfull]
      refine ⟨_, rfl, ?_⟩
      obtain ⟨_, _, hs⟩ := talliesOnly_trans (talliesOnly_commandCounted s d)
        (talliesOnly_count _ A_CMD_PORT_ERRORS (portCode (portOf d)) 47 32 1)
      rw [hs, reply_cmd _ (portOf_lane d)]
      exact ⟨rfl, rfl⟩
  · intro u m s hm hpow
    refine ⟨fun ht => ⟨_, exec_replyFrameSend u hm hpow ht, ?_⟩, exec_replyFrameSend_waits u hm⟩
    obtain ⟨hcmd, hlanes, hgran⟩ := replyCounted_same (replyOnLine s u.val m) m
    rw [hcmd, lane_of_lanes hlanes, hgran, replyOnLine, lane_setLane_same]
    exact ⟨rfl, rfl, rfl, rfl⟩

end Sys2Proof.Proofs
end

section
/-!
O29: CREDIT frames, and the lock of a downlane (R222, R225, R228, R234, R242).
-/
namespace Sys2Proof.Proofs
open Sys2Proof Sys2Proof.Machine Sys2Proof.Laws

/-! ## The units that a release leaves (R203, R215) -/

/-- The arrival numbers of the stored units. -/
def arrivals (s : State) : List Nat := s.gran.units.map GUnit.arr
/-- The unit that arrival number a finds, where there is one, is no broadcast one. -/
def FindsPlain (a : Nat) (l : List GUnit) : Prop := ∀ x, l.find? (fun y => y.arr = a) = some x → isBroadcast x = false
/-- A unit whose broadcast number arr lane u has credited. -/
def creditedUnit (u arr : Nat) (y : GUnit) : GUnit :=
  if y.arr = arr then { y with owed := y.owed.erase u, flying := y.flying.erase u } else y

section
variable {s : State} {u arr a : Nat} {l : List GUnit}

theorem creditedUnit_same (y : GUnit) :
    (creditedUnit u arr y).arr = y.arr ∧ isBroadcast (creditedUnit u arr y) = isBroadcast y := by
  unfold creditedUnit
  split <;> exact ⟨rfl, rfl⟩
theorem unitAt_arr {x : GUnit} (h : unitAt s a = some x) : x.arr = a := by
  simpa using List.find?_some h
theorem findsPlain_credited (h : FindsPlain a l) : FindsPlain a (l.map (creditedUnit u arr)) := by
  intro x hx
  have hfind : (fun y : GUnit => decide (y.arr = a)) ∘ creditedUnit u arr = fun y => decide (y.arr = a) :=
    funext fun y => by rw [Function.comp_apply, (creditedUnit_same y).1]
  rw [List.find?_map, hfind] at hx
  obtain ⟨y, hy, rfl⟩ := Option.map_eq_some_iff.1 hx
  exact (creditedUnit_same y).2.trans (h y hy)
theorem findsPlain_cons (y : GUnit) :
    FindsPlain a (y :: l) ↔ if y.arr = a then isBroadcast y = false else FindsPlain a l := by
  unfold FindsPlain
  rw [List.find?_cons]
  by_cases h : y.arr = a <;> simp [h]
/-- A filter that keeps every plain unit of the number leaves the one it finds. -/
theorem findsPlain_filter {p : GUnit → Bool} (hp : ∀ y, y.arr = a → isBroadcast y = false → p y = true)
    (h : FindsPlain a l) : FindsPlain a (l.filter p) := by
  induction l with
  | nil => exact h
  | cons y l ih =>
    rw [findsPlain_cons] at h
    by_cases harr : y.arr = a
    · rw [if_pos harr] at h
      rwa [List.filter_cons_of_pos (hp y harr h), findsPlain_cons, if_pos harr]
    · rw [if_neg harr] at h
      rw [List.filter_cons]
      split
      · rw [findsPlain_cons, if_neg harr]
        exact ih h
      · exact ih h
theorem findsPlain_remove (b : Nat) (h : FindsPlain a l) : FindsPlain a (l.filter fun y => y.arr ≠ b) := by
  by_cases hb : a = b
  · intro x hx
    have hne : x.arr ≠ b := by simpa using (List.mem_filter.1 (List.mem_of_find?_eq_some hx)).2
    have harr : x.arr = a := by simpa using List.find?_some hx
    exact absurd (harr.trans hb) hne
  · exact findsPlain_filter (fun y harr _ => decide_eq_true (harr ▸ hb)) h

theorem guardLost_lanes (s : State) (finder src seq : Nat) (unknown : Bool) :
    (guardLost s finder src seq unknown).lanes = s.lanes := by
  unfold guardLost controlLoss
  dsimp only
  rw [pushSheaf_lanes, faultOnly_lanes (faultOnly_raise ..)]
  split <;> rfl
theorem discardPoisoned_units (s : State) (x : GUnit) :
    (discardPoisoned s x).gran.units = s.gran.units.filter fun y => y.arr ≠ x.arr := guardLost_units ..
theorem dropPoisoned_lanes (s : State) : (dropPoisoned s).lanes = s.lanes := by
  unfold dropPoisoned
  generalize s.gran.units.filter _ = l
  induction l generalizing s with
  | nil => rfl
  | cons x l ih => exact (ih _).trans (guardLost_lanes ..)
theorem findsPlain_dropPoisoned (h : FindsPlain a s.gran.units) : FindsPlain a (dropPoisoned s).gran.units := by
  unfold dropPoisoned
  generalize s.gran.units.filter _ = l
  induction l generalizing s with
  | nil => exact h
  | cons x l ih =>
    refine ih ?_
    rw [discardPoisoned_units]
    exact findsPlain_remove _ h
theorem findsPlain_sweepBroadcast (h : FindsPlain a s.gran.units) : FindsPlain a (sweepBroadcast s).gran.units :=
  findsPlain_filter (fun y _ hb => by rw [hb]; rfl) h

theorem releaseUnit_none (h : unitAt s arr = none) : releaseUnit s u arr = s := by
  rw [releaseUnit, h]
theorem releaseUnit_broadcast {x : GUnit} (h : unitAt s arr = some x) (hb : isBroadcast x = true) :
    releaseUnit s u arr = sweepBroadcast (dropPoisoned (mapUnits s (creditedUnit u arr))) := by
  rw [releaseUnit, h]
  exact if_pos hb
/-- A plain unit goes; found uncorrectable, its loss is announced besides. -/
theorem releaseUnit_plain {x : GUnit} (h : unitAt s arr = some x) (hb : isBroadcast x = false) :
    (releaseUnit s u arr).gran.units = s.gran.units.filter (fun y => y.arr ≠ arr) ∧
      (releaseUnit s u arr).lanes = s.lanes := by
  have harr := unitAt_arr h
  simp only [releaseUnit, h, hb, Bool.false_eq_true, if_false]
  split
  · rw [discardPoisoned_units, harr, useGranary_units, discardPoisoned, guardLost_lanes]
    exact ⟨rfl, useGranary_lanes _⟩
  · exact ⟨congrArg (List.filter _) (useGranary_units s), useGranary_lanes _⟩
theorem releaseUnit_lanes (s : State) (u arr : Nat) : (releaseUnit s u arr).lanes = s.lanes := by
  cases h : unitAt s arr with
  | none => rw [releaseUnit_none h]
  | some x =>
    cases hb : isBroadcast x with
    | true =>
      rw [releaseUnit_broadcast h hb]
      exact dropPoisoned_lanes _
    | false => exact (releaseUnit_plain h hb).2
theorem releaseUnit_arrivals (s : State) (u arr : Nat) : arrivals (releaseUnit s u arr) ⊆ arrivals s := by
  cases h : unitAt s arr with
  | none => rw [releaseUnit_none h]; exact List.Subset.refl _
  | some x =>
    cases hb : isBroadcast x with
    | true =>
      rw [releaseUnit_broadcast h hb]
      have hunits : (sweepBroadcast (dropPoisoned (mapUnits s (creditedUnit u arr)))).gran.units ⊆
          s.gran.units.map (creditedUnit u arr) := List.Subset.trans (List.filter_subset_self _) dropPoisoned_units
      intro a ha
      obtain ⟨w, hw, rfl⟩ := List.mem_map.1 ha
      obtain ⟨y, hy, rfl⟩ := List.mem_map.1 (hunits hw)
      rw [(creditedUnit_same y).1]
      exact List.mem_map_of_mem hy
    | false =>
      rw [arrivals, (releaseUnit_plain h hb).1]
      exact List.map_subset _ (List.filter_subset_self _)
theorem findsPlain_releaseUnit (h : FindsPlain a s.gran.units) : FindsPlain a (releaseUnit s u arr).gran.units := by
  cases hfind : unitAt s arr with
  | none => rwa [releaseUnit_none hfind]
  | some x =>
    cases hb : isBroadcast x with
    | true =>
      rw [releaseUnit_broadcast hfind hb]
      exact findsPlain_sweepBroadcast (findsPlain_dropPoisoned (findsPlain_credited h))
    | false =>
      rw [(releaseUnit_plain hfind hb).1]
      exact findsPlain_remove _ h
/-- Released, a plain unit is gone. -/
theorem releaseUnit_gone (h : FindsPlain a s.gran.units) : a ∉ arrivals (releaseUnit s u a) := by
  cases hfind : unitAt s a with
  | none =>
    rw [releaseUnit_none hfind, arrivals, List.mem_map]
    rintro ⟨y, hy, rfl⟩
    exact List.find?_eq_none.1 hfind y hy (decide_eq_true rfl)
  | some x =>
    rw [arrivals, (releaseUnit_plain hfind (h x hfind)).1, List.mem_map]
    rintro ⟨y, hy, rfl⟩
    exact of_decide_eq_true (List.mem_filter.1 hy).2 rfl

theorem releases_lanes (l : List Nat) (s : State) :
    (l.foldl (fun s a => releaseUnit s u a) s).lanes = s.lanes := by
  induction l generalizing s with
  | nil => rfl
  | cons b l ih => exact (ih _).trans (releaseUnit_lanes ..)
theorem releases_arrivals (l : List Nat) (s : State) :
    arrivals (l.foldl (fun s a => releaseUnit s u a) s) ⊆ arrivals s := by
  induction l generalizing s with
  | nil => exact List.Subset.refl _
  | cons b l ih => exact List.Subset.trans (ih _) (releaseUnit_arrivals ..)
/-- The plain units of the numbers released are gone. -/
theorem releases_gone {l : List Nat} (h : FindsPlain a s.gran.units) (ha : a ∈ l) :
    a ∉ arrivals (l.foldl (fun s a => releaseUnit s u a) s) := by
  induction l generalizing s with
  | nil => exact absurd ha List.not_mem_nil
  | cons b l ih =>
    rcases List.mem_cons.1 ha with rfl | hl
    · exact fun hmem => releaseUnit_gone h (releases_arrivals l _ hmem)
    · exact ih (findsPlain_releaseUnit h) hl

/-! ## The units that a rewind returns (R194) -/

theorem returnUnit_lanes (s : State) (u : Nat) (failed : Bool) (arr : Nat) :
    (returnUnit s u failed arr).lanes = s.lanes := dropPoisoned_lanes _
theorem returnUnits_lanes (s : State) (u : Nat) : (returnUnits s u).lanes = (emptyQuires s u).lanes := by
  unfold returnUnits
  generalize laneUnits (lane s u) = l
  generalize emptyQuires s u = t
  induction l generalizing t with
  | nil => rfl
  | cons b l ih => exact (ih _).trans (returnUnit_lanes ..)
/-- A lane after a rewind to c. -/
theorem lane_rewindLane (s : State) (u : Nat) (c : BitVec 32) (rwg : BitVec 2) (prev : Option (BitVec 2)) :
    lane (rewindLane s u c rwg prev) u = { lane s u with
      opn := [], opnSlots := 0, closeDue := false, closed := [],
      repUnits := (lane s u).repUnits + (laneUnits (lane s u)).length, qnum := c, rwg := rwg, prevRwg := prev,
      repRewinds := (lane s u).repRewinds + 1 } := by
  have hempty : lane (returnUnits s u) u = { lane s u with
      opn := [], opnSlots := 0, closeDue := false, closed := [],
      repUnits := (lane s u).repUnits + (laneUnits (lane s u)).length } := by
    rw [lane_of_lanes (returnUnits_lanes s u), emptyQuires, lane_count, lane_setLane_same]
  rw [rewindLane, lane_setLane_same, hempty]

end

/-! ## A CREDIT frame for a lane in service (R234) -/

/-- The lane, its credit timeout begun anew. -/
def creditSeen (s : State) (u : Nat) : State := setLane s u { lane s u with credAt := s.tb.dk }
/-- A frame with the RWG in force and no RW ends the lane's rewind. -/
def rewindEnded (s : State) (u : Nat) : State := setLane s u { lane s u with prevRwg := none }

section
variable {s : State} {u v : Nat} {c : BitVec 32}

/-- The quires whose number lies below c are credited. -/
def below (c : BitVec 32) (x : Uplane) (q : Quire) : Bool := (q.qnum - x.cred).toNat < (c - x.cred).toNat
theorem lane_creditTo (s : State) (u : Nat) (c : BitVec 32) : lane (creditTo s u c) u =
    { lane s u with cred := c, closed := (lane s u).closed.filter fun q => !below c (lane s u) q } :=
  (lane_of_lanes (releases_lanes ..) u).trans (lane_setLane_same ..)
theorem creditTo_gone {q : Quire} {a : Nat} (hq : q ∈ (lane s u).closed) (hbelow : below c (lane s u) q = true)
    (ha : a ∈ q.units) (hplain : FindsPlain a s.gran.units) : a ∉ arrivals (creditTo s u c) :=
  releases_gone (s := setLane s u _) hplain
    (List.mem_flatMap.2 ⟨q, List.mem_filter.2 ⟨hq, hbelow⟩, ha⟩)

/-- The lane as a plain credit finds it. -/
theorem lane_rewindEnded (s : State) (u : Nat) : lane (rewindEnded (creditSeen s u) u) u =
    { lane s u with credAt := s.tb.dk, prevRwg := none } := by
  rw [rewindEnded, creditSeen, lane_setLane_same, lane_setLane_same]

/-- A plain credit takes the plain units of the quires below c. -/
theorem creditPlain_gone {q : Quire} {a : Nat} {x : GUnit} (hq : q ∈ (lane s u).closed)
    (hbelow : below c (lane s u) q = true) (ha : a ∈ q.units) (hx : unitAt s a = some x) (hb : isBroadcast x = false) :
    a ∉ arrivals (creditTo (rewindEnded (creditSeen s u) u) u c) := by
  have hseen : below c (lane (rewindEnded (creditSeen s u) u) u) q = true := by
    rw [lane_rewindEnded]
    exact hbelow
  exact creditTo_gone (by rwa [lane_rewindEnded]) hseen ha fun y hy => Option.some.inj (hx.symm.trans hy) ▸ hb

/-- The RWG of the frame fits nothing that the lane is in. -/
theorem creditLane_unfit (hr : BitVec.ofNat 2 (bits v 51 50) ≠ (lane s u).rwg)
    (hrw : bitAt v 53 = true → BitVec.ofNat 2 (bits v 51 50) ≠ (lane s u).rwg + 1)
    (hprev : (lane s u).prevRwg ≠ some (BitVec.ofNat 2 (bits v 51 50))) :
    creditLane s u v = ignoreCredit (creditSeen s u) u := by
  refine if_pos ?_
  cases h : bitAt v 53 with
  | false => simp [hr, hprev]
  | true => simpa [hr, hprev] using hrw h

variable (hfit : (BitVec.ofNat 32 (bits v 31 0) - (lane s u).cred).toNat ≤ ((lane s u).qnum - (lane s u).cred).toNat)
include hfit

theorem creditLane_plain (hrw : bitAt v 53 = false) (hr : BitVec.ofNat 2 (bits v 51 50) = (lane s u).rwg) :
    creditLane s u v = creditTo (rewindEnded (creditSeen s u) u) u (BitVec.ofNat 32 (bits v 31 0)) := by
  simp [-BitVec.toNat_sub, creditLane, creditSeen, rewindEnded, hrw, hr, Nat.not_lt.2 hfit]
theorem creditLane_rewind (hrw : bitAt v 53 = true) (hr : BitVec.ofNat 2 (bits v 51 50) = (lane s u).rwg + 1) :
    creditLane s u v = count (rewindLane (creditTo (creditSeen s u) u (BitVec.ofNat 32 (bits v 31 0))) u
      (BitVec.ofNat 32 (bits v 31 0)) ((lane s u).rwg + 1) (some (lane s u).rwg)) A_LK_REWINDS u 15 0 1 := by
  simp [-BitVec.toNat_sub, creditLane, creditSeen, hrw, hr, Nat.not_lt.2 hfit]

end

/-! ## The frame and its lane (R225, R228) -/

theorem wakeGranary_units (s : State) : (wakeGranary s).gran.units = s.gran.units := by
  unfold wakeGranary
  split
  · rfl
  · exact (congrArg Gran.units (pllRequest_gran _)).trans rfl
@[simp] theorem lane_wakeGranary (s : State) (u : Nat) : lane (wakeGranary s) u = lane s u :=
  lane_of_lanes (wakeGranary_lanes s) u

section
variable {s : State} {d : DlId} {bytes : List Byte} {v : Nat}

theorem exec_creditFrame (hp : padsFree s = true) (hd : dlReceives s d.val = true) (hcur : s.modes.cur ≠ .held)
    (hv : frame64 0x42 bytes = some v) : exec (.creditFrame d bytes) s = .next (takeCredit s v) := by
  change execCreditFrame d bytes s = _
  simp [execCreditFrame, atPads, hp, hd, hcur, hv]
theorem takeCredit_service (ht : s.barns.takeover = none)
    (hst : (lane s (bits v 55 54)).st = .active ∨ (lane s (bits v 55 54)).st = .draining) : takeCredit s v =
      if bitAt v 52 then failLane (creditLane (wakeGranary s) (bits v 55 54) v) (bits v 55 54) 1
      else creditLane (wakeGranary s) (bits v 55 54) v := by
  rcases hst with hst | hst <;> simp [takeCredit, ht, hst]
theorem takeCredit_training (ht : s.barns.takeover = none) (hst : (lane s (bits v 55 54)).st = .training)
    (hend : (lane s (bits v 55 54)).trainEnd.isSome = true) (hconf : (lane s (bits v 55 54)).confirmed = none)
    (hdown : bitAt v 52 = false) : takeCredit s v = setLane s (bits v 55 54)
      { lane s (bits v 55 54) with confirmed := some s.tb.up, credAt := s.tb.dk } := by
  simp [takeCredit, ht, hst, hend, hconf, hdown]
theorem takeCredit_idle (hst : (lane s (bits v 55 54)).st = .off ∨ (lane s (bits v 55 54)).st = .negotiating ∨
    (lane s (bits v 55 54)).st = .sleep ∨ (lane s (bits v 55 54)).st = .failed ∨ (lane s (bits v 55 54)).st = .fenced) :
    takeCredit s v = s := by
  rcases hst with hst | hst | hst | hst | hst <;> simp [takeCredit, hst]

end

/-! ## Frames that are not whole (R222) -/

section
variable {s : State} {d : DlId} {bytes : List Byte} (hp : padsFree s = true) (hd : dlReceives s d.val = true)
include hp hd

theorem exec_creditFrame_discarded (h : frame64 0x42 bytes = none) :
    exec (.creditFrame d bytes) s = .next (count s A_LK_DL_ERRORS d.val 15 0 1) := by
  change execCreditFrame d bytes s = _
  simp [execCreditFrame, atPads, hp, hd, h, dlDiscard]
theorem exec_aggAnnounceFrame_discarded (h : frame64 0x45 bytes = none) :
    exec (.aggAnnounceFrame d bytes) s = .next (count s A_LK_DL_ERRORS d.val 15 0 1) := by
  change execAggAnnounceFrame d bytes s = _
  simp [execAggAnnounceFrame, atPads, hp, hd, h, dlDiscard]

end

/-! ## The lock of a downlane (R242) -/

section
variable {s : State}

@[simp] theorem dlane_setDlane_same (s : State) (d : Nat) (x : Downlane) : dlane (setDlane s d x) d = x := by
  rw [dlane_setDlane, if_pos rfl]
theorem faultOnly_dls {t : State} (h : FaultOnly s t) : t.dls = s.dls := by rw [h.1]
theorem dlane_of_dls {t : State} (h : t.dls = s.dls) (d : Nat) : dlane t d = dlane s d := congrArg (pget Downlane.dflt · d) h
theorem tally_levelBegin (s : State) (src inst ctx : Nat) {id i : Nat} (hid : id < A_FLT_COUNT) (hi : i < 512) :
    tally (levelBegin s src inst ctx) id i = tally s id i := by
  unfold levelBegin
  split
  · rfl
  · exact tally_raise _ _ _ _ hid hi
theorem exec_downlaneLock (d : DlId) (hp : padsFree s = true) (hpow : powered s = true) :
    exec (.downlaneLock d) s = .next (levelEnd (setDlane s d.val { locked := true, lost := false }) 33 d.val) := by
  change execDownlaneLock d s = _
  rw [execDownlaneLock, atPads_free hp, if_pos hpow]
/-- The downlane without its lock, counted. -/
def lockLost (s : State) (d : Nat) : State :=
  count (setDlane s d { locked := false, lost := true }) A_LK_DL_ERRORS d 47 32 1
theorem exec_downlaneLockLoss (d : DlId) (hp : padsFree s = true) (hpow : powered s = true) :
    exec (.downlaneLockLoss d) s = .next (loseDownlane s d.val) := by
  change execDownlaneLockLoss d s = _
  rw [execDownlaneLockLoss, atPads_free hp, if_pos hpow]
/-- The level that may begin with the loss changes neither the lock nor the tallies of the links. -/
theorem loseDownlane_same (d : DlId) (hlost : (dlane s d.val).lost = false) :
    dlane (loseDownlane s d.val) d.val = dlane (lockLost s d.val) d.val ∧
      tally (loseDownlane s d.val) A_LK_DL_ERRORS d.val = tally (lockLost s d.val) A_LK_DL_ERRORS d.val := by
  unfold loseDownlane
  rw [if_neg (by rw [hlost]; decide)]
  dsimp only
  split
  · exact ⟨dlane_of_dls (faultOnly_dls (faultOnly_levelBegin ..)) _,
      tally_levelBegin _ _ _ _ (by decide) (by omega)⟩
  · exact ⟨rfl, rfl⟩

end

/-- Settles O29: the plain credit and the rewind; then the other frames of a lane, the frames that are not whole, and the lock
of a downlane. -/
theorem creditsAndDownlanes : Obligations.CreditsAndDownlanes := by
  refine ⟨?_, ?_, ?_, ?_⟩
  · intro d bytes v s hp hd hcur ht hv hst hdown hfit
    have hexec : exec (.creditFrame d bytes) s = .next (creditLane (wakeGranary s) (bits v 55 54) v) := by
      rw [exec_creditFrame hp hd hcur hv, takeCredit_service ht hst, hdown]
      rfl
    rw [← lane_wakeGranary] at hfit ⊢
    have hunitAt : ∀ a, unitAt s a = unitAt (wakeGranary s) a := fun a => by rw [unitAt, unitAt, wakeGranary_units]
    simp only [hunitAt]
    refine ⟨fun hrw hr => ⟨_, hexec, ?_⟩, fun hrw hr => ⟨_, hexec, ?_⟩⟩
    · rw [creditLane_plain hfit hrw hr, lane_creditTo, lane_rewindEnded]
      refine ⟨rfl, rfl, rfl, fun q hq hlow => ⟨fun hmem => ?_, fun a ha x hx hb w hw harr => ?_⟩⟩
      · have hkept := (List.mem_filter.1 hmem).2
        rw [below, decide_eq_true hlow] at hkept
        exact Bool.false_ne_true hkept
      · exact creditPlain_gone hq (decide_eq_true hlow) ha hx hb (List.mem_map.2 ⟨w, hw, harr⟩)
    · rw [creditLane_rewind hfit hrw hr, lane_count, lane_rewindLane, lane_creditTo, creditSeen, lane_setLane_same]
      exact ⟨rfl, rfl, rfl, rfl, rfl, rfl⟩
  · intro d bytes v s hp hd hcur ht hv
    have hexec := exec_creditFrame hp hd hcur hv
    refine ⟨fun hst hdown hr hrw hprev => ⟨_, hexec, ?_⟩, fun hst hdown => ⟨_, hexec, ?_⟩,
      fun hst hend hconf hdown => ⟨_, hexec, ?_⟩, fun hst => by rw [hexec, takeCredit_idle hst]⟩
    · rw [← lane_wakeGranary] at hr hrw hprev
      rw [takeCredit_service ht (.inl hst), hdown, if_neg Bool.false_ne_true, creditLane_unfit hr hrw hprev, ignoreCredit]
      refine ⟨wakeGranary_units s, ?_, ?_⟩
      · rw [lane_count, creditSeen, lane_setLane_same, lane_wakeGranary, wakeGranary_tb]
      · rw [tally_count_same _ _ _ _ (Nat.zero_le 15),
          tally_eq_of_tal (t := creditSeen (wakeGranary s) (bits v 55 54)) (wakeGranary_tal s)]
        rfl
    · rw [takeCredit_service ht hst, hdown, if_pos rfl]
      exact (failLane_fails ..).1
    · rw [takeCredit_training ht hst hend hconf hdown, lane_setLane_same]
  · intro d bytes s hp hd
    exact ⟨exec_creditFrame_discarded hp hd, exec_aggAnnounceFrame_discarded hp hd⟩
  · intro d s hp hpow
    refine ⟨⟨_, exec_downlaneLock d hp hpow, ?_⟩, fun hlost => ⟨_, exec_downlaneLockLoss d hp hpow, ?_⟩⟩
    · rw [dlane_of_dls (levelEnd_dls ..), dlane_setDlane_same]
      exact ⟨rfl, rfl⟩
    · obtain ⟨hdlane, htally⟩ := loseDownlane_same d hlost
      rw [hdlane, htally, lockLost, dlane_of_dls (count_dls ..), dlane_setDlane_same]
      exact ⟨rfl, rfl, tally_count_same _ _ _ _ (by decide)⟩

end Sys2Proof.Proofs
end

section
/-!
The rules of the monitor path's state: a converter, a result and a test DAC after an update, the reply of a command that ends,
and the conversion that a free converter begins.
-/
namespace Sys2Proof.Proofs
open Sys2Proof Sys2Proof.Machine Sys2Proof.Laws

/-! ## Converters, results and test DACs after an update -/

section
variable {s t : State}

theorem faultOnly_mon (h : FaultOnly s t) : t.mon = s.mon := by rw [h.1]
theorem faultOnly_cal (h : FaultOnly s t) : t.cal = s.cal := by rw [h.1]
theorem mc_of_mon (h : t.mon = s.mon) (k : Nat) : mc t k = mc s k := by rw [mc, mc, h]
theorem monRec_of_results (h : t.mon.results = s.mon.results) (i : Nat) : monRec t i = monRec s i := by
  rw [monRec, monRec, h]
theorem tdac_of_mon (h : t.mon = s.mon) (k : Nat) : tdac t k = tdac s k := by rw [tdac, tdac, h]

variable (s)

@[simp] theorem mc_setMc_same (k : Nat) (x : Mc) : mc (setMc s k x) k = x := by rw [mc_setMc, if_pos rfl]
@[simp] theorem monRec_setMonRec_same (i : Nat) (x : MonRec) : monRec (setMonRec s i x) i = x := by
  rw [monRec_setMonRec, if_pos rfl]
@[simp] theorem tdac_setTdac_same (k : Nat) (x : Tdac) : tdac (setTdac s k x) k = x := by rw [tdac_setTdac, if_pos rfl]
theorem tdac_setTdac_other (x : Tdac) {k j : Nat} (h : j ≠ k) : tdac (setTdac s k x) j = tdac s j := by
  rw [tdac_setTdac, if_neg h]

/-! ## The reply of a command that ends (R330, R336) -/

theorem closeCmd_replies (r : Req) (op st dt : Nat) (data : List PWord) :
    replyMsg r op st dt data ∈ msgsOf (closeCmd s r op st dt data) r.port := replyMsg_mem_msgsOf_reply ..
/-- Messages on their way stay behind a further reply. -/
theorem msgsOf_closeCmd (r : Req) (op st dt : Nat) (data : List PWord) (p : Port) :
    msgsOf s p ⊆ msgsOf (closeCmd s r op st dt data) p := by
  rw [closeCmd, (reply_queues ..).2]
  cases p <;> dsimp only [msgsOf] <;> split <;> simp
@[simp] theorem closeCmd_mon (r : Req) (op st dt : Nat) (data : List PWord) :
    (closeCmd s r op st dt data).mon = s.mon := faultOnly_mon (faultOnly_closeCmd ..)
@[simp] theorem closeCmd_chs (r : Req) (op st dt : Nat) (data : List PWord) :
    (closeCmd s r op st dt data).chs = s.chs := faultOnly_chs (faultOnly_closeCmd ..)

end

/-! ## The next conversion (R255, R257) -/

/-- The converter may begin a conversion: not in HELD, not fenced, not claimed. -/
def Converts (s : State) (k : Nat) : Prop := s.modes.cur ≠ .held ∧ convFenced s k = false ∧ (mc s k).claimed = false

section
variable {s : State} {k : Nat}

theorem nextConversion_injects (h : Converts s k) {q : Inject} {rest : List Inject} (hinj : (mc s k).inj = q :: rest) :
    nextConversion s k =
      setMc s k { mc s k with run := some (convAt s q.input (mc s k).pos q.five (some q.req)), inj := rest } := by
  obtain ⟨hcur, hfence, hclaim⟩ := h
  simp [nextConversion, hcur, hfence, hclaim, hinj]
theorem nextConversion_restarts (h : Converts s k) (hinj : (mc s k).inj = []) (hw : (mc s k).claimWaits = false)
    {a : Conversion} (ha : (mc s k).aborted = some a) : nextConversion s k =
      setMc s k { mc s k with run := some (convAt s a.input a.entry a.five none), aborted := none, pos := a.entry } := by
  obtain ⟨hcur, hfence, hclaim⟩ := h
  simp [nextConversion, hcur, hfence, hclaim, hinj, hw, ha]
/-- A converter without a conversion runs the next one of its list, if it has one. -/
theorem nextConversion_scans (h : Converts s k) (hinj : (mc s k).inj = []) (hw : (mc s k).claimWaits = false)
    (ha : (mc s k).aborted = none) (hrun : (mc s k).run = none) :
    (mc (nextConversion s k) k).run = scanConv s k (mc s k).pos := by
  obtain ⟨hcur, hfence, hclaim⟩ := h
  cases hc : scanConv s k (mc s k).pos with
  | none => simp [nextConversion, hcur, hfence, hclaim, hinj, hw, ha, hc, hrun]
  | some c => simp [nextConversion, hcur, hfence, hclaim, hinj, hw, ha, hc]
/-- Beginning a conversion writes its own converter, whose result waits on. -/
theorem nextConversion_cases (s : State) (k : Nat) : nextConversion s k = s ∨
    ∃ x : Mc, x.result = (mc s k).result ∧ nextConversion s k = setMc s k x := by
  unfold nextConversion
  dsimp only
  split
  · exact .inl rfl
  split
  · refine .inr ⟨_, ?_, rfl⟩
    rfl
  split
  · exact .inl rfl
  split
  · refine .inr ⟨_, ?_, rfl⟩
    rfl
  split
  · refine .inr ⟨_, ?_, rfl⟩
    rfl
  · exact .inl rfl
theorem nextConversion_result (s : State) (k : Nat) : (mc (nextConversion s k) k).result = (mc s k).result := by
  obtain h | ⟨x, hx, h⟩ := nextConversion_cases s k
  · rw [h]
  · rw [h, mc_setMc_same, hx]
theorem nextConversion_frame (s : State) (k : Nat) :
    nextConversion s k = { s with mon := { s.mon with mcs := (nextConversion s k).mon.mcs } } := by
  obtain h | ⟨x, -, h⟩ := nextConversion_cases s k
  · rw [h]
  · rw [h]
    rfl

end

end Sys2Proof.Proofs
end

section
/-!
O30: windows, injected conversions, results and the baselines they set (R245, R249, R252, R255, R257 to R261).
-/
namespace Sys2Proof.Proofs
open Sys2Proof Sys2Proof.Machine Sys2Proof.Laws

/-! ## The end of a window (R245, R249, R252) -/

/-- The result of the window of conversion c that ends now. -/
def windowResult (s : State) (k : Nat) (raw : Int) (c : Conversion) : ConvResult :=
  { conv := c, beat := s.tb.beat, stale := (mc s k).claimed || c.stale, result := (monResult s k c.input raw).1
    gated := c.gatedBeats + if c.input < 192 then tapBeats (chan s c.input) c.start c.stop else 0
    overrange := (monResult s k c.input raw).2, due := s.tb.up + 16 }
/-- The result waits, and the converter is free. -/
def windowEnded (s : State) (k : Nat) (raw : Int) (c : Conversion) : State :=
  setMc s k { mc s k with result := some (windowResult s k raw c), run := none }

section
variable {s : State} {k : Conv} {c : Conversion} (raw : Int)

theorem exec_monitorWindowEnd_early (hrun : (mc s k.val).run = some c) (h : s.tb.up < c.stop) :
    exec (.monitorWindowEnd k raw) s = .next s := by
  change execMonitorWindowEnd k raw s = _
  simp [execMonitorWindowEnd, hrun, h]
theorem exec_monitorWindowEnd_claimed (hrun : (mc s k.val).run = some c) (h : c.stop ≤ s.tb.up)
    (hc : (mc s k.val).claimed = true) : exec (.monitorWindowEnd k raw) s = .next (setMc s k.val { mc s k.val with
      result := some (windowResult s k.val raw c), run := scanConv s k.val c.entry }) := by
  change execMonitorWindowEnd k raw s = _
  simp [execMonitorWindowEnd, hrun, Nat.not_lt.2 h, hc, windowResult]
theorem exec_monitorWindowEnd_free (hrun : (mc s k.val).run = some c) (h : c.stop ≤ s.tb.up)
    (hc : (mc s k.val).claimed = false) :
    exec (.monitorWindowEnd k raw) s = .next (nextConversion (windowEnded s k.val raw c) k.val) := by
  change execMonitorWindowEnd k raw s = _
  simp [execMonitorWindowEnd, hrun, Nat.not_lt.2 h, hc, windowResult, windowEnded]
/-- The converter's record but for its result and its run is what it was. -/
theorem mc_windowEnded (s : State) (k : Nat) (raw : Int) (c : Conversion) : mc (windowEnded s k raw c) k =
    { mc s k with result := some (windowResult s k raw c), run := none } := mc_setMc_same ..
theorem converts_windowEnded {j : Nat} (hcur : s.modes.cur ≠ .held) (hf : convFenced s j = false)
    (hc : (mc s j).claimed = false) : Converts (windowEnded s j raw c) j :=
  ⟨hcur, hf, by rw [mc_windowEnded]; exact hc⟩
end

/-- The three things that a free converter may begin behind its window, in their order (R255, R257). -/
theorem window_next {s : State} {k : Nat} {c : Conversion} (raw : Int) (hcur : s.modes.cur ≠ .held) (hf : convFenced s k = false)
    (hc : (mc s k).claimed = false) :
    (∀ q rest, (mc s k).inj = q :: rest → (mc (nextConversion (windowEnded s k raw c) k) k).inj = rest ∧
      (mc (nextConversion (windowEnded s k raw c) k) k).run =
        some (convAt s q.input (mc s k).pos q.five (some q.req))) ∧
    (∀ a, (mc s k).inj = [] → (mc s k).claimWaits = false → (mc s k).aborted = some a →
      (mc (nextConversion (windowEnded s k raw c) k) k).aborted = none ∧
      (mc (nextConversion (windowEnded s k raw c) k) k).run = some (convAt s a.input a.entry a.five none)) ∧
    ((mc s k).inj = [] → (mc s k).claimWaits = false → (mc s k).aborted = none →
      (mc (nextConversion (windowEnded s k raw c) k) k).run = scanConv s k (mc s k).pos) := by
  have hm := mc_windowEnded s k raw c
  have hready : Converts (windowEnded s k raw c) k := converts_windowEnded raw hcur hf hc
  refine ⟨fun q rest hinj => ?_, fun a hinj hw ha => ?_, fun hinj hw ha => ?_⟩
  · rw [nextConversion_injects hready (by rw [hm]; exact hinj), mc_setMc_same, hm]
    exact ⟨rfl, rfl⟩
  · rw [nextConversion_restarts hready (by rw [hm]; exact hinj) (by rw [hm]; exact hw) (by rw [hm]; exact ha), mc_setMc_same]
    exact ⟨rfl, rfl⟩
  · rw [nextConversion_scans hready (by rw [hm]; exact hinj) (by rw [hm]; exact hw) (by rw [hm]; exact ha) (by rw [hm]), hm]
    rfl

/-! ## An injected request takes the converter (R257) -/

/-- The scan conversion c gives way, and is counted. -/
def scanAborted (s : State) (k : Nat) (c : Conversion) : State :=
  count (setMc s k { mc s k with run := none, aborted := some c }) A_MON_ABORTS k 15 0 1
theorem mc_scanAborted (s : State) (k : Nat) (c : Conversion) :
    mc (scanAborted s k c) k = { mc s k with run := none, aborted := some c } := mc_setMc_same ..
theorem exec_injectAbortEdge {s : State} {k : Conv} {q : Inject} {rest : List Inject} {c : Conversion}
    (hinj : (mc s k.val).inj = q :: rest) (hc : (mc s k.val).claimed = false) (hacc : q.acc + 1 ≤ s.tb.up)
    (hres : (mc s k.val).result = none) (hrun : (mc s k.val).run = some c) (hscan : c.injected = none) :
    exec (.injectAbortEdge k) s = .next (nextConversion (scanAborted s k.val c) k.val) := by
  change execInjectAbortEdge k s = _
  simp [execInjectAbortEdge, hinj, hc, Nat.not_lt.2 hacc, hres, hrun, hscan, scanAborted]

/-! ## Results (R251, R253, R258, R259) -/

/-- The result is on its way. -/
def resultTaken (s : State) (k : Nat) : State := setMc s k { mc s k with result := none }

section
variable (s : State)

theorem monReport_frame (i : Nat) (b : Beat) (m : MonRec) (injected : Bool) :
    monReport s i b m injected = { s with gran := (monReport s i b m injected).gran } := by
  unfold monReport pushSheaf
  dsimp only
  repeat' split
  all_goals rfl
@[simp] theorem monReport_mon (i : Nat) (b : Beat) (m : MonRec) (injected : Bool) :
    (monReport s i b m injected).mon = s.mon := by rw [monReport_frame]
@[simp] theorem monReport_chs (i : Nat) (b : Beat) (m : MonRec) (injected : Bool) :
    (monReport s i b m injected).chs = s.chs := by rw [monReport_frame]
@[simp] theorem feedBaseline_mon (c : Nat) (m : MonRec) : (feedBaseline s c m).mon = s.mon := by
  unfold feedBaseline
  split <;> rfl
@[simp] theorem checkTemp_mon : (checkTemp s).mon = s.mon := by
  unfold checkTemp
  dsimp only
  split
  · rfl
  split
  · rw [faultOnly_mon (faultOnly_raise ..)]
  split <;> rfl
theorem checkLimits_results (p : Nat) (v : Int) : (checkLimits s p v).mon.results = s.mon.results := by
  unfold checkLimits
  dsimp only
  split
  · split
    · rfl
    · rw [faultOnly_mon (faultOnly_levelBegin ..)]
      rfl
  · rfl
/-- A clean result sets the target of a channel whose baseline is fed (R260). -/
theorem feedBaseline_target {s : State} {c : Nat} {m : MonRec} (hg : m.gated = false) (ho : m.overrange = false)
    (hb : bitAt (reg s A_MON_CH_CTRL c) 0 = true) :
    (chan (feedBaseline s c m) c).baseTarget = baseTargetOf (chan s c).ana.gain m.result := by
  unfold feedBaseline
  dsimp only
  rw [if_neg (by simp [hg, ho, hb]), chan_setChan_same]

end

section
variable {s : State} {k : Conv} {r : ConvResult} (hres : (mc s k.val).result = some r) (hdue : r.due ≤ s.tb.up)
include hres hdue

theorem exec_monitorResultDelivered_injected {q : Req} (hq : r.conv.injected = some q) :
    exec (.monitorResultDelivered k) s = .next (deliverInjected (resultTaken s k.val) k.val r q) := by
  change execMonitorResultDelivered k s = _
  simp [execMonitorResultDelivered, hres, Nat.not_lt.2 hdue, hq, resultTaken]
theorem exec_monitorResultDelivered_scan (hq : r.conv.injected = none) :
    exec (.monitorResultDelivered k) s = .next (deliverScan (resultTaken s k.val) k.val r) := by
  change execMonitorResultDelivered k s = _
  simp [execMonitorResultDelivered, hres, Nat.not_lt.2 hdue, hq, resultTaken]

end

section
variable {s : State} {k : Nat} {r : ConvResult}

/-- The injected result goes into its reply and nowhere else in the monitor path. -/
theorem deliverInjected_frame (s : State) (k : Nat) (r : ConvResult) (q : Req) :
    (deliverInjected s k r q).mon = s.mon ∧ (deliverInjected s k r q).chs = s.chs := by
  unfold deliverInjected
  simp
theorem deliverInjected_replies (s : State) (k : Nat) (r : ConvResult) (q : Req) : replyMsg q 0x30 0 0 (valueWords 2 (monValue
    (newRecord s r (r.stale || (decide (r.conv.input < 192) && (chan s r.conv.input).held)) []) true)) ∈
      msgsOf (deliverInjected s k r q) q.port := closeCmd_replies ..
/-- The record that a fresh scan result makes. -/
def scanRecord (s : State) (r : ConvResult) : MonRec :=
  newRecord s r false (((r.result, overGate s r) :: (monRec s r.conv.input).accepted).take 2)
/-- The record stands, and its report is given. -/
def scanRecorded (s : State) (r : ConvResult) : State :=
  monReport (setMonRec s r.conv.input (scanRecord s r)) r.conv.input r.beat (scanRecord s r) false
theorem monRec_scanRecorded (s : State) (r : ConvResult) :
    monRec (scanRecorded s r) r.conv.input = scanRecord s r := by
  rw [scanRecorded, monRec_of_results (congrArg Mon.results (monReport_mon ..)), monRec_setMonRec_same]
section
variable (hs : r.stale = false) (hh : r.conv.input < 192 → (chan s r.conv.input).held = false)
  (hc : (mc s k).claimed = false)
include hs hh hc
theorem deliverScan_fresh : deliverScan s k r =
    if r.conv.input < 192 then feedBaseline (scanRecorded s r) r.conv.input (scanRecord s r)
    else if 200 ≤ r.conv.input ∧ r.conv.input < 204 then
      checkTemp (checkLimits (scanRecorded s r) (r.conv.input - 192) r.result)
    else checkLimits (scanRecorded s r) (r.conv.input - 192) r.result := by
  unfold deliverScan
  dsimp only
  rw [if_neg (by simpa [hs, hc] using hh)]
  rfl
theorem monRec_deliverScan_fresh : monRec (deliverScan s k r) r.conv.input = scanRecord s r := by
  rw [deliverScan_fresh hs hh hc]
  split
  · rw [monRec_of_results (congrArg Mon.results (feedBaseline_mon ..)), monRec_scanRecorded]
  split
  · rw [monRec_of_results (congrArg Mon.results (checkTemp_mon _)), monRec_of_results (checkLimits_results ..),
      monRec_scanRecorded]
  · rw [monRec_of_results (checkLimits_results ..), monRec_scanRecorded]
theorem deliverScan_fresh_target (hi : r.conv.input < 192) (hb : bitAt (reg s A_MON_CH_CTRL r.conv.input) 0 = true)
    (ho : r.overrange = false) (hg : overGate s r = false) :
    (chan (deliverScan s k r) r.conv.input).baseTarget = baseTargetOf (chan s r.conv.input).ana.gain r.result := by
  have hcfg : (scanRecorded s r).cfg = s.cfg := by
    rw [scanRecorded, monReport_frame]
    rfl
  have hchs : (scanRecorded s r).chs = s.chs := monReport_chs ..
  rw [deliverScan_fresh hs hh hc, if_pos hi, feedBaseline_target hg ho (by rw [reg_eq_of_cfg hcfg]; exact hb),
    chan_of_chs hchs]
  rfl
end
/-- A stale result marks its input and replaces nothing (R259). -/
theorem deliverScan_stale (h : r.stale = true ∨ (mc s k).claimed = true ∨ r.conv.input < 192 ∧ (chan s r.conv.input).held = true) :
    deliverScan s k r =
      monReport (staleInput s r.conv.input) r.conv.input r.beat (monRec (staleInput s r.conv.input) r.conv.input) false := by
  unfold deliverScan
  dsimp only
  rw [if_pos (by rcases h with h | h | ⟨hi, h⟩ <;> simp [*])]
@[simp] theorem monRec_staleInput_same (s : State) (i : Nat) :
    monRec (staleInput s i) i = { monRec s i with stale := true } := monRec_setMonRec_same ..

end

/-! ## The tap's hold (R249) -/

section
variable {s : State}

theorem exec_tapHoldRelease {c : Chan} {b : Nat} (hb : (chan s c.val).tapResume = some b) (hup : b ≤ s.tb.up)
    (ha : (chan s c.val).active = false) : exec (.tapHoldRelease c) s = .next (endTapHold s c.val) := by
  change execTapHoldRelease c s = _
  simp [execTapHoldRelease, hb, hup, ha]
theorem chan_endTapHold (s : State) (c : Nat) :
    chan (endTapHold s c) c = { chan s c with tapHeld := false, tapResume := none } := chan_setChan_same ..
/-- The window that runs on the tap keeps the beats of its hold. -/
theorem endTapHold_run {c : Nat} {v : Conversion} (hv : (mc s (convOf c)).run = some v) (hi : v.input = c) :
    (mc (endTapHold s c) (convOf c)).run =
      some { v with gatedBeats := v.gatedBeats + tapBeats (chan s c) v.start s.tb.up } := by
  unfold endTapHold
  dsimp only
  rw [mc_setMc_same, hv]
  simp [hi]

end

/-! ## The step of the baselines (R261) -/

/-- The channel after one step of its baseline: none in a fenced or claimed converter. -/
def slewedChannel (s : State) (c : Nat) : Channel :=
  if convFenced s (c / 24) || (mc s (c / 24)).claimed then chan s c
  else { chan s c with base := toward (chan s c).baseTarget (chan s c).base }
/-- One channel's step. -/
def slewChannel (c : Nat) (s : State) : State :=
  if convFenced s (c / 24) || (mc s (c / 24)).claimed then s
  else setChan s c { chan s c with base := toward (chan s c).baseTarget (chan s c).base }

section
variable (s : State)

theorem slewChannel_frame (c : Nat) : slewChannel c s = { s with chs := (slewChannel c s).chs } := by
  unfold slewChannel
  split <;> rfl
theorem chan_slewChannel (c d : Nat) : chan (slewChannel c s) d = if d = c then slewedChannel s c else chan s d := by
  unfold slewChannel slewedChannel
  split
  · split
    · next h => rw [h]
    · rfl
  · exact chan_setChan ..
/-- The first n channels have taken their step, each once. -/
theorem forNat_slewChannel (n : Nat) :
    forNat n slewChannel s = { s with chs := (forNat n slewChannel s).chs } ∧
      ∀ c, chan (forNat n slewChannel s) c = if c < n then slewedChannel s c else chan s c := by
  induction n with
  | zero => exact ⟨rfl, fun c => (if_neg (Nat.not_lt_zero c)).symm⟩
  | succ n ih =>
    obtain ⟨hframe, hchan⟩ := ih
    have hself : slewedChannel (forNat n slewChannel s) n = slewedChannel s n := by
      unfold slewedChannel
      rw [hchan n, if_neg (Nat.lt_irrefl n), hframe]
      rfl
    refine ⟨?_, fun c => ?_⟩
    · rw [forNat, slewChannel_frame, hframe]
    · rw [forNat, chan_slewChannel, hself, hchan]
      split
      · next h => rw [h, if_pos (Nat.lt_succ_self n)]
      · next h => exact if_congr (by omega) rfl rfl
end

theorem slewedChannel_still {s : State} {c : Nat} (h : convFenced s (c / 24) = true ∨ (mc s (c / 24)).claimed = true) :
    slewedChannel s c = chan s c := if_pos (by simpa using h)
theorem slewedChannel_base {s : State} {c : Nat} (hf : convFenced s (c / 24) = false) (hc : (mc s (c / 24)).claimed = false) :
    (slewedChannel s c).base = toward (chan s c).baseTarget (chan s c).base := by
  rw [slewedChannel, if_neg (by simp [hf, hc])]
theorem toward_cases (t v : Int) :
    (v < t → toward t v = v + 1) ∧ (v = t → toward t v = v) ∧ (t < v → toward t v = v - 1) := by
  unfold toward
  refine ⟨fun h => if_pos h, fun h => ?_, fun h => ?_⟩
  · rw [if_neg (by omega), if_neg (by omega)]
  · rw [if_neg (by omega), if_pos h]
/-- The count of deckles begins again. -/
def slewBegun (s : State) : State := { s with mon := { s.mon with slewCount := 0 } }
theorem slewedChannel_slewBegun (s : State) (c : Nat) : slewedChannel (slewBegun s) c = slewedChannel s c := rfl
theorem exec_baselineSlewStep {s : State} (hcur : s.modes.cur ≠ .held) (hb : atBoundary s = true)
    (hn : reg s A_MON_BASE_SLEW 0 ≤ s.mon.slewCount) : exec .baselineSlewStep s =
      .next (forNat 192 slewChannel (slewBegun s)) := by
  change execBaselineSlewStep s = _
  unfold execBaselineSlewStep
  rw [if_pos (by simp [hcur, hb, hn])]
  rfl

/-- Settles O30: a window's end, the abort, the three deliveries; then the tap's hold and the step of the baselines. -/
theorem monitor : Obligations.Monitor := by
  refine ⟨⟨?_, ?_, ?_, ?_, ?_⟩, ?_, ?_⟩
  · intro k raw c s hrun
    refine ⟨exec_monitorWindowEnd_early raw hrun, fun hstop => ?_⟩
    cases hc : (mc s k.val).claimed with
    | true =>
      refine ⟨_, windowResult s k.val raw c, exec_monitorWindowEnd_claimed raw hrun hstop hc, ?_⟩
      rw [mc_setMc_same]
      exact ⟨rfl, rfl, rfl, rfl, rfl, fun _ => ⟨by rw [windowResult, hc]; rfl, rfl⟩, fun h => absurd h (by decide)⟩
    | false =>
      refine ⟨_, windowResult s k.val raw c, exec_monitorWindowEnd_free raw hrun hstop hc, ?_⟩
      rw [nextConversion_result, mc_windowEnded]
      exact ⟨rfl, rfl, rfl, rfl, rfl, fun h => absurd h (by decide), fun _ => ⟨by rw [windowResult, hc]; rfl,
        fun hcur hf => window_next raw hcur hf hc⟩⟩
  · intro k q rest c s hinj hc hcur hf hacc hres hrun hscan
    refine ⟨_, exec_injectAbortEdge hinj hc hacc hres hrun hscan, ?_⟩
    have hm := mc_scanAborted s k.val c
    rw [nextConversion_injects (s := scanAborted s k.val c) ⟨hcur, hf, by rw [hm]; exact hc⟩ (by rw [hm]; exact hinj),
      mc_setMc_same, hm]
    exact ⟨rfl, rfl, rfl, tally_count_same _ _ _ _ (by decide)⟩
  · intro k r q s hres hdue hq
    obtain ⟨hmon, hchs⟩ := deliverInjected_frame (resultTaken s k.val) k.val r q
    refine ⟨_, exec_monitorResultDelivered_injected hres hdue hq, by rw [hmon]; rfl, hchs, by rw [hmon]; rfl, ?_,
      deliverInjected_replies ..⟩
    rw [mc_of_mon hmon, resultTaken, mc_setMc_same]
  · intro k r s hres hdue hq hs hh hc
    have hc' : (mc (resultTaken s k.val) k.val).claimed = false := by rw [resultTaken, mc_setMc_same]; exact hc
    exact ⟨_, exec_monitorResultDelivered_scan hres hdue hq, monRec_deliverScan_fresh hs hh hc',
      fun hi hb ho hg => deliverScan_fresh_target hs hh hc' hi hb ho hg⟩
  · intro k r s hres hdue hq h
    have h' : r.stale = true ∨ (mc (resultTaken s k.val) k.val).claimed = true ∨
        r.conv.input < 192 ∧ (chan (resultTaken s k.val) r.conv.input).held = true := by
      rw [resultTaken, mc_setMc_same]
      exact h
    refine ⟨_, exec_monitorResultDelivered_scan hres hdue hq, ?_⟩
    rw [deliverScan_stale h', monRec_of_results (congrArg Mon.results (monReport_mon ..)), monRec_staleInput_same]
    exact ⟨rfl, rfl, monReport_chs ..⟩
  · intro c b s hb hup ha
    refine ⟨_, exec_tapHoldRelease hb hup ha, ?_⟩
    rw [chan_endTapHold]
    exact ⟨rfl, rfl, rfl, fun v => endTapHold_run⟩
  · intro s c hcur hb hn hc
    obtain ⟨hframe, hchan⟩ := forNat_slewChannel (slewBegun s) 192
    refine ⟨_, exec_baselineSlewStep hcur hb hn, by rw [hframe]; rfl, by rw [hframe]; rfl, ?_⟩
    rw [hchan, if_pos hc, slewedChannel_slewBegun]
    exact ⟨slewedChannel_still, fun hf hcl => by rw [slewedChannel_base hf hcl]; exact toward_cases ..⟩

end Sys2Proof.Proofs
end

section
/-!
The rules of the test DACs: what a holder drives, and whom a DAC that is let go may serve (R263, R265).
-/
namespace Sys2Proof.Proofs
open Sys2Proof Sys2Proof.Machine Sys2Proof.Laws

/-! ## A DAC that is driven -/

section
variable (s : State)

@[simp] theorem tdac_setDac_same (k : Nat) (h : DacHolder) (ch : Nat) (low : Bool) (code : BitVec 12) :
    tdac (setDac s k h ch low code) k = { tdac s k with holder := h, connected := true, ch := ch, low := low, code := code,
                                                        drive := dacDrive s k low code, settled := false } :=
  tdac_setTdac_same ..
theorem tdac_driveDac_same (k : Nat) (r : Req) (ch : Nat) (low : Bool) (code : BitVec 12) :
    tdac (driveDac s k r ch low code) k = { tdac s k with
      holder := .host, connected := true, ch := ch, low := low, code := code, drive := dacDrive s k low code
      settled := false, reqs := (tdac s k).reqs ++ [r] } := by
  rw [driveDac, tdac_setTdac_same, tdac_setDac_same]
theorem tdac_driveDac_other {k j : Nat} (h : j ≠ k) (r : Req) (ch : Nat) (low : Bool) (code : BitVec 12) :
    tdac (driveDac s k r ch low code) j = tdac s j := by
  rw [driveDac, tdac_setTdac_other _ _ h, setDac, tdac_setTdac_other _ _ h]

end

/-! ## A DAC that is let go, while no check is open -/

/-- The claims of DAC k were served from s to t: nothing but the DACs changed, of them only k, and a DAC that the host or
no one held still is. -/
def DacServed (k : Nat) (s t : State) : Prop :=
  t = { s with mon := { s.mon with dacs := t.mon.dacs } } ∧ (∀ j, j ≠ k → tdac t j = tdac s j) ∧
    ((tdac s k).holder = .none ∨ (tdac s k).holder = .host → (tdac t k).holder = .none ∨ (tdac t k).holder = .host)

section
variable {k : Nat} {s t u : State}

theorem dacServed_trans (h : DacServed k s t) (g : DacServed k t u) : DacServed k s u := by
  obtain ⟨hframe, hother, hheld⟩ := h
  obtain ⟨gframe, gother, gheld⟩ := g
  exact ⟨by rw [gframe, hframe], fun j hj => (gother j hj).trans (hother j hj), fun h0 => gheld (hheld h0)⟩
theorem dacServed_setTdac {x : Tdac} (h : x.holder = (tdac s k).holder) : DacServed k s (setTdac s k x) :=
  ⟨rfl, fun _ hj => tdac_setTdac_other s x hj, by rw [tdac_setTdac_same, h]; exact id⟩
theorem dacServed_driveDac (s : State) (k : Nat) (r : Req) (ch : Nat) (low : Bool) (code : BitVec 12) :
    DacServed k s (driveDac s k r ch low code) :=
  ⟨rfl, fun _ hj => tdac_driveDac_other s hj .., fun _ => .inr (by rw [tdac_driveDac_same])⟩
theorem beginCheck_none (h : s.mon.ipc = none) : beginCheck s = s := by rw [beginCheck, h]
/-- The DAC with these claims waiting. -/
def withWaits (s : State) (k : Nat) (l : List DacClaim) : State := setTdac s k { tdac s k with waits := l }
theorem dacServed_withWaits (s : State) (k : Nat) (l : List DacClaim) : DacServed k s (withWaits s k l) :=
  dacServed_setTdac rfl
theorem serveDac_check (s : State) (k : Nat) (l : List DacClaim) : serveDac s k (.check :: l) =
    if (tdac (withWaits s k (.check :: l)) k).holder = .none then beginCheck (withWaits (withWaits s k (.check :: l)) k l)
    else withWaits s k (.check :: l) := rfl
/-- With no check open only the host's claims find the DAC. -/
theorem dacServed_serveDac (h : s.mon.ipc = none) (l : List DacClaim) : DacServed k s (serveDac s k l) := by
  induction l generalizing s with
  | nil => exact dacServed_setTdac rfl
  | cons a l ih =>
    cases a with
    | check =>
      have hwait := dacServed_withWaits s k (.check :: l)
      rw [serveDac_check]
      split
      · rw [beginCheck_none (s := withWaits (withWaits s k (.check :: l)) k l) h]
        exact dacServed_trans hwait (dacServed_withWaits ..)
      · exact hwait
    | host r ch low code => exact dacServed_trans (dacServed_driveDac ..) (ih h)
/-- The DAC without its holder. -/
def dacLetGo (s : State) (k : Nat) : State := setTdac s k { tdac s k with holder := .none, connected := false }
theorem freeDac_eq (s : State) (k : Nat) : freeDac s k = serveDac (dacLetGo s k) k (tdac s k).waits := rfl
theorem freeDac_frame (h : s.mon.ipc = none) (k : Nat) :
    freeDac s k = { s with mon := { s.mon with dacs := (freeDac s k).mon.dacs } } := by
  obtain ⟨hframe, -, -⟩ := dacServed_serveDac (s := dacLetGo s k) (k := k) h (tdac s k).waits
  rw [freeDac_eq, hframe]
  rfl
theorem tdac_freeDac_other (h : s.mon.ipc = none) {j : Nat} (hj : j ≠ k) : tdac (freeDac s k) j = tdac s j := by
  obtain ⟨-, hother, -⟩ := dacServed_serveDac (s := dacLetGo s k) (k := k) h (tdac s k).waits
  rw [freeDac_eq, hother j hj]
  exact tdac_setTdac_other _ _ hj
theorem holder_freeDac (h : s.mon.ipc = none) (k : Nat) :
    (tdac (freeDac s k) k).holder = .none ∨ (tdac (freeDac s k) k).holder = .host := by
  obtain ⟨-, -, hheld⟩ := dacServed_serveDac (s := dacLetGo s k) (k := k) h (tdac s k).waits
  exact hheld (.inl (by rw [dacLetGo, tdac_setTdac_same]))
/-- A DAC that nothing waits for is held by no one. -/
theorem tdac_freeDac_unclaimed (h : (tdac s k).waits = []) :
    tdac (freeDac s k) k = { tdac s k with holder := .none, connected := false, waits := [] } := by
  rw [freeDac_eq, h, serveDac, tdac_setTdac_same, dacLetGo, tdac_setTdac_same]

end

/-! ## Several commands that end together -/

section
variable {op st dt : Nat}

theorem foldl_closeCmd_mon (f : State → List PWord) (l : List Req) (s : State) :
    (l.foldl (fun s q => closeCmd s q op st dt (f s)) s).mon = s.mon :=
  faultOnly_mon (faultOnly_foldl _ (fun _ _ => faultOnly_closeCmd ..) l s)
theorem msgsOf_foldl_closeCmd (f : State → List PWord) (l : List Req) (s : State) (p : Port) :
    msgsOf s p ⊆ msgsOf (l.foldl (fun s q => closeCmd s q op st dt (f s)) s) p := by
  induction l generalizing s with
  | nil => exact fun _ h => h
  | cons q l ih => exact fun _ h => ih _ (msgsOf_closeCmd _ _ _ _ _ _ _ h)
/-- Each of them is replied, with data that the monitor path gives. -/
theorem foldl_closeCmd_replies {f : State → List PWord} (hf : ∀ s t : State, t.mon = s.mon → f t = f s) {l : List Req}
    {s : State} {q : Req} (hq : q ∈ l) :
    replyMsg q op st dt (f s) ∈ msgsOf (l.foldl (fun s q => closeCmd s q op st dt (f s)) s) q.port := by
  induction l generalizing s with
  | nil => exact absurd hq List.not_mem_nil
  | cons a l ih =>
    rcases List.mem_cons.1 hq with rfl | hq
    · exact msgsOf_foldl_closeCmd f l _ _ (closeCmd_replies ..)
    · have hrest := ih (s := closeCmd s a op st dt (f s)) hq
      rwa [hf s _ (closeCmd_mon ..)] at hrest
theorem tdState_of_mon (k : Nat) (s t : State) (h : t.mon = s.mon) : tdState t k = tdState s k := by
  rw [tdState, tdState, tdac_of_mon h]

end

end Sys2Proof.Proofs
end

section
/-!
O31: INJECT_CONVERSION, READ_MONITOR and TEST_DAC (R256, R263, R265, Table 11.8).
-/
namespace Sys2Proof.Proofs
open Sys2Proof Sys2Proof.Machine Sys2Proof.Laws

section
variable {s : State} {r : Req}

/-! ## INJECT_CONVERSION (R256) -/

section
variable {i : Byte} (five : Bool) (hs : Served s r 0x30) (hi : i.toNat < 216)
include hs hi

theorem exec_injectConversion_busy (h : 4 ≤ (mc s (convOf i.toNat)).inj.length) :
    exec (.injectConversion r i five) s = .next (reply s r 0x30 1 0xFF []) := by
  change execInjectConversion r i five s = _
  rw [execInjectConversion, granger_served hs]
  simp [Nat.not_le.2 hi, h, replyBusy]
theorem exec_injectConversion_fenced (h : (mc s (convOf i.toNat)).inj.length < 4) (hf : convFenced s (convOf i.toNat) = true) :
    exec (.injectConversion r i five) s = .next (reply s r 0x30 8 0 []) := by
  change execInjectConversion r i five s = _
  rw [execInjectConversion, granger_served hs]
  simp [Nat.not_le.2 hi, Nat.not_le.2 h, hf, replyDenied]
/-- The request joins its converter's queue. -/
theorem exec_injectConversion_queued (h : (mc s (convOf i.toNat)).inj.length < 4)
    (hf : convFenced s (convOf i.toNat) = false) (ho : s.cmd.outst.length < 16) :
    exec (.injectConversion r i five) s = .next (setMc (openCmd s r 0x30 i.toNat) (convOf i.toNat)
      { mc s (convOf i.toNat) with
        inj := (mc s (convOf i.toNat)).inj ++ [{ req := r, input := i.toNat, five := five, acc := s.tb.up }] }) := by
  change execInjectConversion r i five s = _
  rw [execInjectConversion, granger_served hs]
  simp only [Nat.not_le.2 hi, Nat.not_le.2 h, hf, opening_ready ho]
  rfl

end

/-! ## READ_MONITOR (Table 11.8) -/

theorem exec_readMonitor {a n : Byte} (hs : Served s r 0x31) (h1 : 1 ≤ n.toNat) (h2 : n.toNat ≤ 108)
    (h3 : a.toNat + n.toNat ≤ 216) : exec (.readMonitor r a n) s = .next (reply s r 0x31 0 0
      ((List.range n.toNat).flatMap fun j => valueWords 2 (monValue (monRec s (a.toNat + j)) false))) := by
  have hfit : (n.toNat = 0 || decide (108 < n.toNat) || decide (216 < a.toNat + n.toNat)) = false := by
    simp only [Bool.or_eq_false_iff, decide_eq_false_iff_not]
    omega
  change execReadMonitor r a n s = _
  rw [execReadMonitor, granger_served hs]
  dsimp only
  rw [hfit]
  rfl

/-! ## TEST_DAC (R263, R265) -/

section
variable {k ch : BitVec 4} {low : Bool} {code : BitVec 12} (hs : ServedOpen s r 0x32) (hk : k.toNat < 12)
  (hf : foregroundRuns s = false)
include hs hk hf

theorem exec_testDacConnect_drives (h : (tdac s k.toNat).holder = .none ∨ (tdac s k.toNat).holder = .host) :
    exec (.testDacConnect r k ch low code) s =
      .next (driveDac (openCmd s r 0x32 k.toNat) k.toNat r ch.toNat low code) := by
  have hholder : (tdac (openCmd s r 0x32 k.toNat) k.toNat).holder = .none ∨
      (tdac (openCmd s r 0x32 k.toNat) k.toNat).holder = .host := h
  change execTestDacConnect r k ch low code s = _
  rw [execTestDacConnect, granger_served hs.1]
  dsimp only
  rw [if_neg (Nat.not_le.2 hk), hf, if_neg Bool.false_ne_true, opening_ready hs.2, if_pos (by simpa using hholder)]
theorem exec_testDacConnect_waits (h : (tdac s k.toNat).holder = .calibration ∨ (tdac s k.toNat).holder = .check) :
    exec (.testDacConnect r k ch low code) s = .next (setTdac (openCmd s r 0x32 k.toNat) k.toNat
      { tdac s k.toNat with waits := (tdac s k.toNat).waits ++ [DacClaim.host r ch.toNat low code] }) := by
  have hholder : (tdac (openCmd s r 0x32 k.toNat) k.toNat).holder = .calibration ∨
      (tdac (openCmd s r 0x32 k.toNat) k.toNat).holder = .check := h
  change execTestDacConnect r k ch low code s = _
  rw [execTestDacConnect, granger_served hs.1]
  dsimp only
  rw [if_neg (Nat.not_le.2 hk), hf, if_neg Bool.false_ne_true, opening_ready hs.2,
    if_neg (by rcases hholder with h | h <;> rw [h] <;> decide)]
  rfl

end

/-- The output is let go, and the commands that waited for it to settle end. -/
def outputLetGo (s : State) (k : Nat) : State :=
  (tdac s k).reqs.foldl (fun s q => closeCmd s q 0x32 0x0C 0 []) (setTdac s k { tdac s k with reqs := [], connected := false })
theorem tdac_outputLetGo (s : State) (k : Nat) :
    tdac (outputLetGo s k) k = { tdac s k with reqs := [], connected := false } := by
  rw [outputLetGo, tdac_of_mon (foldl_closeCmd_mon (fun _ => []) _ _), tdac_setTdac_same]
theorem exec_testDacRelease {k : BitVec 4} (hs : Served s r 0x32) (hk : k.toNat < 12) (hf : foregroundRuns s = false)
    (h : (tdac s k.toNat).holder = .host) : exec (.testDacRelease r k) s =
      .next (reply (freeDac (outputLetGo s k.toNat) k.toNat) r 0x32 0 0
        (valueWords 1 (tdState (freeDac (outputLetGo s k.toNat) k.toNat) k.toNat))) := by
  change execTestDacRelease r k s = _
  rw [execTestDacRelease, granger_served hs]
  dsimp only
  rw [if_neg (Nat.not_le.2 hk), hf, if_neg Bool.false_ne_true, if_pos h]
  rfl
@[simp] theorem reply_mon (s : State) (r : Req) (op st dt : Nat) (data : List PWord) :
    (reply s r op st dt data).mon = s.mon := by rw [(reply_queues ..).2]
/-- The output has settled, and nothing waits for it. -/
def outputSettled (s : State) (k : Nat) : State := setTdac s k { tdac s k with settled := true, reqs := [] }
theorem exec_testDacSettled {k : StookId} (h : (tdac s k.val).holder = .host) (hs : (tdac s k.val).settled = false) :
    exec (.testDacSettled k) s = .next ((tdac s k.val).reqs.foldl (fun s q =>
      closeCmd s q 0x32 0 0 (valueWords 1 (tdState s k.val))) (outputSettled s k.val)) := by
  change execTestDacSettled k s = _
  rw [execTestDacSettled]
  dsimp only
  rw [if_pos (by rw [h, hs]; rfl)]
  rfl
/-- The state of the DAC that a reply gives does not say whether its output has settled (Table 8.9). -/
theorem tdState_outputSettled (s : State) (k : Nat) : tdState (outputSettled s k) k = tdState s k := by
  rw [tdState, outputSettled, tdac_setTdac_same]
  rfl

end

/-- Settles O31: the three answers to an injected conversion, the records, and the four ways of a test DAC. -/
theorem monitorCommands : Obligations.MonitorCommands := by
  refine ⟨fun r i five s hs hi => ⟨fun h => ⟨_, exec_injectConversion_busy five hs hi h⟩,
      exec_injectConversion_fenced five hs hi, fun h hf ho => ⟨_, exec_injectConversion_queued five hs hi h hf ho, ?_⟩⟩,
    fun r a n s hs h1 h2 h3 => exec_readMonitor hs h1 h2 h3,
    fun r k ch low code s hs hk hf => ⟨fun h => ⟨_, exec_testDacConnect_drives hs hk hf h, ?_⟩,
      fun h => ⟨_, exec_testDacConnect_waits hs hk hf h, ?_⟩⟩,
    fun r k s hs hk hf h hw => ⟨_, exec_testDacRelease hs hk hf h, ?_⟩,
    fun k s h hset => ⟨_, exec_testDacSettled h hset, ?_⟩⟩
  · rw [mc_setMc_same]
    exact ⟨rfl, rfl, rfl, rfl⟩
  · rw [tdac_driveDac_same]
    exact ⟨rfl, rfl, rfl, rfl, rfl, rfl, rfl⟩
  · rw [tdac_setTdac_same]
    exact ⟨rfl, rfl⟩
  · rw [tdac_of_mon (reply_mon ..), tdac_freeDac_unclaimed (by rw [tdac_outputLetGo]; exact hw)]
    exact ⟨rfl, rfl, _, replyMsg_mem_msgsOf_reply ..⟩
  · have htdac := tdac_of_mon (foldl_closeCmd_mon (op := 0x32) (st := 0) (dt := 0)
      (fun s => valueWords 1 (tdState s k.val)) (tdac s k.val).reqs (outputSettled s k.val)) k.val
    rw [htdac, outputSettled, tdac_setTdac_same]
    refine ⟨rfl, rfl, fun q hq => ?_⟩
    rw [← tdState_outputSettled]
    exact foldl_closeCmd_replies (f := fun s => valueWords 1 (tdState s k.val))
      (fun s t hst => by rw [tdState_of_mon _ _ _ hst]) hq

end Sys2Proof.Proofs
end

section
/-!
The rules of held channels: what a hold and a release write, and what they leave (R152, R162, R279).
-/
namespace Sys2Proof.Proofs
open Sys2Proof Sys2Proof.Machine Sys2Proof.Laws

section
variable (s : State)

theorem wakeStook_frame (k : Nat) :
    wakeStook s k = { s with stooks := (wakeStook s k).stooks, clk := (wakeStook s k).clk } := by
  unfold wakeStook pllRequest
  dsimp only
  repeat' split
  all_goals rfl
theorem blindMarker_frame (c : Nat) (first : Beat) (reason : Nat) : blindMarker s c first reason =
    { s with stooks := (blindMarker s c first reason).stooks, clk := (blindMarker s c first reason).clk } := by
  unfold blindMarker
  dsimp only
  split
  · rfl
  · rw [outLater_stooks, setStook, wakeStook_frame]
@[simp] theorem blindMarker_chs (c : Nat) (first : Beat) (reason : Nat) : (blindMarker s c first reason).chs = s.chs := by
  rw [blindMarker_frame]
theorem releaseChannel_frame (c reason : Nat) : releaseChannel s c reason =
    { s with chs := (releaseChannel s c reason).chs, stooks := (releaseChannel s c reason).stooks
             clk := (releaseChannel s c reason).clk } := by
  unfold releaseChannel
  dsimp only
  split
  · rw [blindMarker_frame]
    rfl
  · rfl
@[simp] theorem releaseChannel_mon (c reason : Nat) : (releaseChannel s c reason).mon = s.mon := by rw [releaseChannel_frame]
@[simp] theorem releaseChannel_cal (c reason : Nat) : (releaseChannel s c reason).cal = s.cal := by rw [releaseChannel_frame]
/-- A channel that is released is not held. -/
theorem held_releaseChannel (c reason : Nat) : (chan (releaseChannel s c reason) c).held = false := by
  unfold releaseChannel
  dsimp only
  split
  · rw [chan_of_chs (blindMarker_chs ..), chan_setChan_same]
  · next h => exact Bool.eq_false_iff.2 h
theorem chan_releaseChannel_other (reason : Nat) {c d : Nat} (h : d ≠ c) :
    chan (releaseChannel s c reason) d = chan s d := by
  unfold releaseChannel
  dsimp only
  split
  · rw [chan_of_chs (blindMarker_chs ..), chan_setChan_other _ _ h]
  · rfl
theorem chan_holdChannel_same (c : Nat) : chan (holdChannel s c) c =
    { chan s c with held := true, heldPrim := (chan s c).prevPrim, holdBeat := s.tb.beat, stuckDone := true } :=
  chan_setChan_same ..
@[simp] theorem tdac_holdChannel (c k : Nat) : tdac (holdChannel s c) k = tdac s k := rfl

end

end Sys2Proof.Proofs
end

section
/-!
O32: the input-path check (R266 to R268, Tables 8.6 and 8.8).
-/
namespace Sys2Proof.Proofs
open Sys2Proof Sys2Proof.Machine Sys2Proof.Laws

/-! ## The start of a check (R266) -/

/-- The check of channel c that r asks for, which has not begun. -/
def newCheck (s : State) (r : Req) (c : Nat) : Ipc :=
  { req := r, ch := c, started := false, startDeckle := deckle s, step := 0, retries := 0, plus := 0, minus := 0, peak := none }
/-- It is open, and waits for its DAC. -/
def checkOpened (s : State) (r : Req) (c : Nat) : State :=
  { openCmd s r 0x33 c with mon := { s.mon with ipc := some (newCheck s r c) } }
/-- DAC k is a check's. -/
def dacChecked (s : State) (k : Nat) : State := setTdac s k { tdac s k with holder := .check }
/-- The open check has its DAC. -/
def checkBegun (s : State) (p : Ipc) : State :=
  { dacChecked s (p.ch / 16) with mon := { (dacChecked s (p.ch / 16)).mon with
    ipc := some { p with started := true, startDeckle := deckle s } } }

section
variable {s : State} {r : Req} {c : Byte}

theorem beginCheck_open {p : Ipc} (h : s.mon.ipc = some p) : beginCheck s = holdChannel (checkBegun s p) p.ch := by
  rw [beginCheck, h]
  rfl
theorem holder_checkBegun (s : State) (p : Ipc) : (tdac (checkBegun s p) (p.ch / 16)).holder = .check :=
  congrArg Tdac.holder (tdac_setTdac_same s (p.ch / 16) { tdac s (p.ch / 16) with holder := .check })

section
variable (hs : Served s r 0x33) (hc : c.toNat < 192) (he : enabled s c.toNat = true)
include hs hc he

theorem exec_inputPathCheck_busy (h : s.mon.ipc.isSome = true) :
    exec (.inputPathCheck r c) s = .next (reply s r 0x33 1 0x33 []) := by
  change execInputPathCheck r c s = _
  rw [execInputPathCheck, granger_served hs]
  simp [Nat.not_le.2 hc, he, h, replyBusy]
theorem exec_inputPathCheck_opens (h : s.mon.ipc = none) (ho : s.cmd.outst.length < 16) :
    exec (.inputPathCheck r c) s = .next (startCheck (checkOpened s r c.toNat)) := by
  change execInputPathCheck r c s = _
  rw [execInputPathCheck, granger_served hs]
  simp only [Nat.not_le.2 hc, he, h, opening_ready ho]
  rfl

end

theorem startCheck_begins {c : Nat} (h : (tdac s (c / 16)).holder = .none) : startCheck (checkOpened s r c) =
    holdChannel (checkBegun (checkOpened s r c) (newCheck s r c)) c :=
  (if_pos h).trans (beginCheck_open rfl)
theorem startCheck_waits {c : Nat} (h : (tdac s (c / 16)).holder ≠ .none) :
    startCheck (checkOpened s r c) = setTdac (checkOpened s r c) (c / 16)
      { tdac s (c / 16) with waits := (tdac s (c / 16)).waits ++ [DacClaim.check] } := if_neg h

end

/-! ## The steps of a check (R267, Table 8.6) -/

section
variable {s : State} {p : Ipc} (hp : s.mon.ipc = some p) (hst : p.started = true)
include hp hst

theorem exec_inputPathCheckEnd_measured (m : CheckMeas) (hq : checkQuiet s p.ch = true) :
    exec (.inputPathCheckEnd m) s = .next (checkMeasured s p m) := by
  change execInputPathCheckEnd m s = _
  simp [execInputPathCheckEnd, hp, hst, hq]
theorem exec_inputPathCheckEnd_retried (m : CheckMeas) (hq : checkQuiet s p.ch = false)
    (hr : p.retries < reg s A_CAL_RETRIES 0) : exec (.inputPathCheckEnd m) s =
      .next { s with mon := { s.mon with ipc := some { p with retries := p.retries + 1 } } } := by
  change execInputPathCheckEnd m s = _
  simp [execInputPathCheckEnd, hp, hst, hq, hr]
theorem exec_inputPathCheckEnd_failed (m : CheckMeas) (hq : checkQuiet s p.ch = false)
    (hr : reg s A_CAL_RETRIES 0 ≤ p.retries) :
    exec (.inputPathCheckEnd m) s = .next (closeCheck s p 8 (checkFound s p none)) := by
  change execInputPathCheckEnd m s = _
  simp [execInputPathCheckEnd, hp, hst, hq, Nat.not_lt.2 hr]

end

section
variable (s : State) (p : Ipc)

theorem checkMeasured_plus (v : Int) (h : p.step = 1) :
    checkMeasured s p (.level v) = checkStep s { p with plus := v } 2 := by simp [checkMeasured, h]
theorem checkMeasured_minus (v : Int) (h : p.step = 2) :
    checkMeasured s p (.level v) = checkStep s { p with minus := v } 3 := by simp [checkMeasured, h]
theorem checkMeasured_peak (q : Option Nat) (h : p.step = 3) :
    checkMeasured s p (.peak q) = checkStep s { p with peak := q } 4 := by simp [checkMeasured, h]
theorem checkMeasured_edge (e : Option Int) (h : p.step = 4) : checkMeasured s p (.edge e) =
    closeCheck s p (ipcVerdict s (checkFound s p (e.map fun x => roundDiv (x - injectorDelay s p.ch) 16)))
      (checkFound s p (e.map fun x => roundDiv (x - injectorDelay s p.ch) 16)) := by simp [checkMeasured, h]
/-- Step 2 drives the DAC at -v. -/
theorem checkStep_minus : (checkStep s p 2).mon.ipc = some { p with step := 2, retries := 0 } ∧
    (tdac (checkStep s p 2) (p.ch / 16)).holder = .check :=
  ⟨rfl, congrArg Tdac.holder (tdac_setDac_same s (p.ch / 16) .check _ _ _)⟩
/-- Step 3 has the DAC off, and is skipped without a reference. -/
theorem checkStep_peak : (checkStep s p 3).mon.ipc =
      some { p with step := if bits (reg s A_IPC_REF p.ch) 13 0 = 0 then 4 else 3, retries := 0 } ∧
    (tdac (checkStep s p 3) (p.ch / 16)).connected = false :=
  ⟨rfl, congrArg Tdac.connected (tdac_setTdac_same ..)⟩
theorem checkStep_edge : (checkStep s p 4).mon.ipc = some { p with step := 4, retries := 0 } := rfl

end

/-! ## The end of a check (R268) -/

section
variable {s : State} {p : Ipc}

/-- No check is open. -/
def checkShut (s : State) : State := { s with mon := { s.mon with ipc := none } }
theorem endCheck_started (h : p.started = true) :
    endCheck s p = freeDac (releaseChannel (checkShut s) p.ch 2) (p.ch / 16) := if_pos h
/-- The channel and the DAC are free. -/
theorem endCheck_frees (h : p.started = true) : (endCheck s p).mon.ipc = none ∧ (chan (endCheck s p) p.ch).held = false ∧
    (tdac (endCheck s p) (p.ch / 16)).holder ≠ .check := by
  have hipc : (releaseChannel (checkShut s) p.ch 2).mon.ipc = none := by
    rw [releaseChannel_mon]
    rfl
  have hframe := freeDac_frame hipc (p.ch / 16)
  rw [endCheck_started h]
  refine ⟨by rw [hframe]; exact hipc, ?_, ?_⟩
  · rw [chan_of_chs (by rw [hframe])]
    exact held_releaseChannel ..
  · rcases holder_freeDac hipc (p.ch / 16) with hh | hh <;> rw [hh] <;> decide
/-- The check's channel and DAC are let go, at the count of free values behind its own. -/
def checkLetGo (s : State) (p : Ipc) : State := endCheck { s with free := s.free + 1 } p
theorem closeCheck_mon (s : State) (p : Ipc) (v : Nat) (f : CheckFound) : (closeCheck s p v f).mon =
    { (checkLetGo s p).mon with
      ipcRes := pset 15 (checkLetGo s p).mon.ipcRes p.ch (BitVec.ofNat 64 (ipcWord s.free v f)) } := by
  unfold closeCheck
  dsimp only
  rw [closeCmd_mon, pushSheaf_mon]
  split
  · rw [count_mon]
    rfl
  · rw [count_mon, count_mon]
    rfl
theorem closeCheck_chs (s : State) (p : Ipc) (v : Nat) (f : CheckFound) :
    (closeCheck s p v f).chs = (checkLetGo s p).chs := by
  unfold closeCheck
  dsimp only
  rw [closeCmd_chs, pushSheaf_chs]
  split
  · rw [count_chs]
    rfl
  · rw [count_chs, count_chs]
    rfl
theorem closeCheck_replies (s : State) (p : Ipc) (v : Nat) (f : CheckFound) :
    replyMsg p.req 0x33 (if v = 8 then 0x0D else 0) 0 (valueWords 2 (ipcWord s.free v f))
      ∈ msgsOf (closeCheck s p v f) p.req.port := closeCmd_replies ..
theorem closeCheck_result (s : State) (p : Ipc) (v : Nat) (f : CheckFound) :
    pget 15 (closeCheck s p v f).mon.ipcRes p.ch = BitVec.ofNat 64 (ipcWord s.free v f) := by
  rw [closeCheck_mon]
  exact pget_pset_same ..
end

/-! ## The result word and the verdict (Tables 8.8 and 8.9) -/

theorem toField_lt (w : Nat) (i : Int) : toField w i < 2 ^ w := by
  unfold toField
  have h0 : (0 : Int) < ((2 ^ w : Nat) : Int) := by exact_mod_cast Nat.two_pow_pos w
  have h1 := Int.emod_nonneg i h0.ne'
  have h2 := Int.emod_lt_of_pos i h0
  omega
/-- The fields of a result word: the verdict's lies below the others, and no field exceeds its width. -/
theorem ipcWord_fields (k v : Nat) (f : CheckFound) : ∃ gain offset ratio residual, gain < 2 ^ 20 ∧ offset < 2 ^ 12 ∧
    ratio < 2 ^ 12 ∧ residual < 2 ^ 12 ∧
    ipcWord k v f = v + gain * 2 ^ 8 + offset * 2 ^ 28 + ratio * 2 ^ 40 + residual * 2 ^ 52 := by
  unfold ipcWord
  dsimp only
  refine ⟨_, _, _, _, toField_lt .., toField_lt .., ?_, toField_lt .., rfl⟩
  split
  · omega
  · exact toField_lt ..
theorem ipcWord_lt {v : Nat} (h : v < 2 ^ 8) (k : Nat) (f : CheckFound) : ipcWord k v f < 2 ^ 64 := by
  obtain ⟨gain, offset, ratio, residual, hg, ho, hr, ht, hw⟩ := ipcWord_fields k v f
  omega
theorem ipcWord_verdict {v : Nat} (h : v < 2 ^ 4) (k : Nat) (f : CheckFound) : ipcWord k v f % 16 = v := by
  obtain ⟨gain, offset, ratio, residual, -, -, -, -, hw⟩ := ipcWord_fields k v f
  omega
theorem ipcVerdict_le (s : State) (f : CheckFound) : ipcVerdict s f ≤ 7 := by
  unfold ipcVerdict
  dsimp only
  repeat' split
  all_goals decide
/-- Everything was found, and the gain is out of tolerance: the ratio of the injector decides first. -/
theorem ipcVerdict_gain {s : State} {f : CheckFound} {q : Nat} {g : Int} (href : f.ref ≠ 0) (hpeak : f.peak = some q)
    (hres : f.residual.isSome = true) (hgain : f.gain = some g) (htol : bits (reg s A_IPC_TOL 0) 15 0 < g.natAbs) :
    ipcVerdict s f = if 4 * q < f.ref then 2 else if 3 * f.ref < 2 * q then 3 else 4 := by
  have hn : f.residual.isNone = false := by simpa using hres
  simp [ipcVerdict, href, hpeak, hn, hgain, htol]

/-- A check that ends with verdict v, on whatever it found. -/
theorem closeCheck_ends {s : State} {p : Ipc} (hst : p.started = true) {v : Nat} (hv : v < 16) (f : CheckFound) :
    (closeCheck s p v f).mon.ipc = none ∧ (chan (closeCheck s p v f) p.ch).held = false ∧
      (tdac (closeCheck s p v f) (p.ch / 16)).holder ≠ .check ∧
      (pget 15 (closeCheck s p v f).mon.ipcRes p.ch).toNat % 16 = v ∧
      replyMsg p.req 0x33 (if v = 8 then 0x0D else 0) 0
        (valueWords 2 (pget 15 (closeCheck s p v f).mon.ipcRes p.ch).toNat) ∈ msgsOf (closeCheck s p v f) p.req.port := by
  obtain ⟨hipc, hheld, hdac⟩ := endCheck_frees (s := { s with free := s.free + 1 }) hst
  have hword : (pget 15 (closeCheck s p v f).mon.ipcRes p.ch).toNat = ipcWord s.free v f := by
    rw [closeCheck_result, BitVec.toNat_ofNat, Nat.mod_eq_of_lt (ipcWord_lt (by omega) _ _)]
  rw [hword]
  refine ⟨by rw [closeCheck_mon]; exact hipc, by rw [chan_of_chs (closeCheck_chs ..)]; exact hheld, ?_,
    ipcWord_verdict hv _ _, closeCheck_replies ..⟩
  rw [tdac, closeCheck_mon]
  exact hdac

/-- Settles O32: the start, the retry, the steps, the end with its verdict, and the order of the verdicts. -/
theorem inputPathCheck : Obligations.InputPathCheck := by
  refine ⟨fun r c s hs hc he => ⟨exec_inputPathCheck_busy hs hc he, fun h ho hd => ?_, fun h ho hd => ?_⟩,
    fun p m s hp hst => ⟨exec_inputPathCheckEnd_retried hp hst m, fun hq => ⟨?_, ?_, ?_⟩, ?_⟩,
    fun s f q g href hpeak hres hgain htol => ?_⟩
  · refine ⟨_, exec_inputPathCheck_opens hs hc he h ho, ?_⟩
    rw [startCheck_begins hd, chan_holdChannel_same, tdac_holdChannel]
    exact ⟨rfl, holder_checkBegun _ (newCheck s r c.toNat), _, rfl, rfl, rfl, rfl⟩
  · refine ⟨_, exec_inputPathCheck_opens hs hc he h ho, ?_⟩
    rw [startCheck_waits hd, tdac_setTdac_same]
    exact ⟨rfl, List.mem_append_right _ List.mem_cons_self, _, rfl, rfl, rfl⟩
  · rintro v rfl hstep
    obtain ⟨hipc, hholder⟩ := checkStep_minus s { p with plus := v }
    rw [exec_inputPathCheckEnd_measured hp hst _ hq, checkMeasured_plus s p v hstep]
    exact ⟨_, _, rfl, hipc, rfl, rfl, rfl, hholder⟩
  · rintro v rfl hstep
    obtain ⟨hipc, hconn⟩ := checkStep_peak s { p with minus := v }
    rw [exec_inputPathCheckEnd_measured hp hst _ hq, checkMeasured_minus s p v hstep]
    exact ⟨_, _, rfl, hipc, rfl, rfl, hconn⟩
  · rintro v rfl hstep
    rw [exec_inputPathCheckEnd_measured hp hst _ hq, checkMeasured_peak s p v hstep]
    exact ⟨_, _, rfl, checkStep_edge s { p with peak := v }, rfl, rfl⟩
  · rintro v (⟨hq, hr, rfl⟩ | ⟨e, hq, hstep, rfl, rfl⟩)
    · exact ⟨_, exec_inputPathCheckEnd_failed hp hst m hq hr, closeCheck_ends hst (by decide) _⟩
    · refine ⟨_, exec_inputPathCheckEnd_measured hp hst _ hq, ?_⟩
      rw [checkMeasured_edge s p e hstep]
      exact closeCheck_ends hst (Nat.lt_of_le_of_lt (ipcVerdict_le ..) (by decide)) _
  · rw [ipcVerdict_gain href hpeak hres hgain htol]
    refine ⟨fun h => if_pos h, fun h => ?_, fun h1 h2 => ?_⟩
    · rw [if_neg (by omega), if_pos h]
    · rw [if_neg (by omega), if_neg (by omega)]

end Sys2Proof.Proofs
end

section
/-!
The rules of a calibration run: how it begins, what the release of its units writes, and what its end leaves in force
(R255, R276, R279, R280, R283).
-/
namespace Sys2Proof.Proofs
open Sys2Proof Sys2Proof.Machine Sys2Proof.Laws

/-! ## A view that a loop leaves as it was -/

theorem foldl_view {α β : Type} (v : State → β) {f : State → α → State} (h : ∀ x a, v (f x a) = v x) (l : List α)
    (s : State) : v (l.foldl f s) = v s := by
  induction l generalizing s with
  | nil => rfl
  | cons a l ih => rw [List.foldl_cons, ih, h]

/-! ## The start of a measurement (R278, R281) -/

section
variable (s : State)

theorem foldl_noteQuiet_frame (l : List Nat) : l.foldl noteQuiet s = { s with chs := (l.foldl noteQuiet s).chs } := by
  induction l generalizing s with
  | nil => rfl
  | cons c l ih => exact ih (noteQuiet s c)
theorem beginMeasurement_frame : beginMeasurement s = { s with
    chs := (beginMeasurement s).chs, cal := { s.cal with run := (beginMeasurement s).cal.run } } := by
  unfold beginMeasurement
  split
  · rfl
  · split
    · rfl
    · rw [foldl_noteQuiet_frame]
      rfl
/-- At most the start of the run's measurement is noted. -/
theorem beginMeasurement_run {s : State} {x : Run} (h : s.cal.run = some x) :
    ∃ b, (beginMeasurement s).cal.run = some { x with start := b } := by
  unfold beginMeasurement
  rw [h]
  dsimp only
  split
  · exact ⟨x.start, h⟩
  · exact ⟨some s.tb.up, by rw [foldl_noteQuiet_frame]; rfl⟩

/-! ## The claim of a converter (R255) -/

/-- Local input l of converter k is marked. -/
def staleLocal (k l : Nat) (s : State) : State := staleInput s (globalInput k l)
theorem forNat_staleLocal_frame (k n : Nat) : forNat n (staleLocal k) s =
    { s with mon := { s.mon with results := (forNat n (staleLocal k) s).mon.results } } := by
  induction n with
  | zero => rfl
  | succ n ih =>
    rw [forNat, ih]
    rfl
theorem stale_forNat_staleLocal (k : Nat) {n l : Nat} (h : l < n) :
    (monRec (forNat n (staleLocal k) s) (globalInput k l)).stale = true := by
  induction n with
  | zero => exact absurd h (Nat.not_lt_zero l)
  | succ n ih =>
    rw [forNat, staleLocal, staleInput, monRec_setMonRec]
    split
    · rfl
    · next hne => exact ih (Nat.lt_of_le_of_ne (Nat.le_of_lt_succ h) fun e => hne (by rw [e]))
/-- The claimed converter, with the conversion that would run (R259). -/
def claimedConverter (s : State) (k : Nat) : State :=
  setMc s k { mc s k with claimed := true, claimWaits := false, run := scanConv s k (mc s k).pos }
theorem claimConverter_eq (k : Nat) : claimConverter s k = forNat 27 (staleLocal k) (claimedConverter s k) := by
  unfold claimConverter forInputs claimedConverter staleLocal
  rfl
theorem mc_claimConverter (k : Nat) : mc (claimConverter s k) k =
    { mc s k with claimed := true, claimWaits := false, run := scanConv s k (mc s k).pos } := by
  rw [claimConverter_eq, mc, forNat_staleLocal_frame]
  change mc (claimedConverter s k) k = _
  rw [claimedConverter, mc_setMc_same]
theorem claimConverter_cal (k : Nat) : (claimConverter s k).cal = s.cal := by
  rw [claimConverter_eq, forNat_staleLocal_frame]
  rfl
theorem takeConverter_mon (k : Nat) : (takeConverter s k).mon = (claimConverter s k).mon := by
  rw [takeConverter, beginMeasurement_frame]
theorem takeConverter_queued (k : Nat) : (takeConverter s k).cal.queued = s.cal.queued := by
  rw [takeConverter, beginMeasurement_frame]
  dsimp only
  rw [claimConverter_cal]

/-! ## The values of a run come into force (R273, R282, R288) -/

/-- The channels, the monitor path and the run in progress. -/
def runView (s : State) : PMap Channel × Mon × Option Run := (s.chs, s.mon, s.cal.run)
theorem runView_mk (pending cmd modes pwr flt barns chs stooks gran thr tb lanes dls mg mon cal md clk nl tap cfg cfgPrev couchUp
    tal talOld talNew once free) : runView (State.mk pending cmd modes pwr flt barns chs stooks gran thr tb lanes dls mg mon cal
      md clk nl tap cfg cfgPrev couchUp tal talOld talNew once free) = (chs, mon, cal.run) := (rfl)
theorem runView_eta (s : State) : (s.chs, s.mon, s.cal.run) = runView s := (rfl)
theorem runView_ite (c : Prop) [Decidable c] (a b : State) :
    runView (if c then a else b) = if c then runView a else runView b := by split <;> rfl
theorem runView_setFlag (at? : Option Nat) (bit : Nat) (v : Bool) : runView (setFlag s at? bit v) = runView s := by
  unfold setFlag
  split <;> rfl
theorem runView_acceptValue (now : Bool) (e : CalKey × Int) : runView (acceptValue now s e) = runView s := by
  unfold acceptValue
  dsimp only
  rw [runView_setFlag]
  rfl
theorem runView_acceptChoice (e : CalKey × Int × Bool) : runView (acceptChoice s e) = runView s := by
  unfold acceptChoice
  dsimp only
  split
  · exact (runView_setFlag ..).trans (runView_acceptValue ..)
  · exact runView_acceptValue ..
theorem runView_setQuality (f : Residual) : runView (setQuality s f) = runView s := by
  simp only [setQuality, runView_ite, runView_mk, runView_eta, ite_self]
/-- Accepting a run's values moves no channel, nothing of the monitor path and no run. -/
theorem runView_acceptRun (x : Run) (found : List Residual) : runView (acceptRun x found s) = runView s := by
  unfold acceptRun acceptValues
  dsimp only
  rw [foldl_view runView runView_setQuality, foldl_view runView fun _ _ => runView_setFlag ..,
    foldl_view runView runView_acceptChoice, foldl_view runView fun _ _ => runView_acceptValue ..]

/-! ## The units are let go (R279, R280) -/

theorem releaseClaim_frame (k : Nat) :
    releaseClaim s k = { s with mon := { s.mon with mcs := (releaseClaim s k).mon.mcs } } := by
  unfold releaseClaim
  dsimp only
  split
  · rw [nextConversion_frame]
    rfl
  · split
    · rw [nextConversion_frame]
      rfl
    · rfl
variable (x : Run) (aborted : Bool)

theorem releaseUnits_cal (u : Nat) : (releaseUnits x aborted s u).cal = { s.cal with
    chRes := (releaseUnits x aborted s u).cal.chRes } := by
  unfold releaseUnits
  dsimp only
  split
  · rw [pushSheaf_cal, pushSheaf_cal, releaseChannel_cal]
  · rw [pushSheaf_cal, releaseClaim_frame]
theorem releaseUnits_mon (u : Nat) : (releaseUnits x aborted s u).mon = { s.mon with
    mcs := (releaseUnits x aborted s u).mon.mcs } := by
  unfold releaseUnits
  dsimp only
  split
  · rw [pushSheaf_mon, pushSheaf_mon, releaseChannel_mon]
  · rw [pushSheaf_mon, releaseClaim_frame]
theorem held_releaseUnits_same {u : Nat} (h : u < 192) : (chan (releaseUnits x aborted s u) u).held = false := by
  unfold releaseUnits
  dsimp only
  rw [if_pos h, chan_of_chs (pushSheaf_chs ..), chan_of_chs (pushSheaf_chs ..)]
  exact held_releaseChannel ..
theorem releaseUnits_chs {u : Nat} (h : ¬ u < 192) : (releaseUnits x aborted s u).chs = s.chs := by
  unfold releaseUnits
  dsimp only
  rw [if_neg h, pushSheaf_chs, releaseClaim_frame]
theorem chan_releaseUnits_other {u c : Nat} (h : c ≠ u) : chan (releaseUnits x aborted s u) c = chan s c := by
  by_cases hu : u < 192
  · unfold releaseUnits
    dsimp only
    rw [if_pos hu, chan_of_chs (pushSheaf_chs ..), chan_of_chs (pushSheaf_chs ..), chan_releaseChannel_other _ _ h]
    rfl
  · exact chan_of_chs (releaseUnits_chs s x aborted hu) c

end

section
variable (x : Run) (aborted : Bool)

theorem foldl_releaseUnits_cal (l : List Nat) (s : State) : (l.foldl (releaseUnits x aborted) s).cal = { s.cal with
    chRes := (l.foldl (releaseUnits x aborted) s).cal.chRes } := by
  induction l generalizing s with
  | nil => rfl
  | cons u l ih => rw [List.foldl_cons, ih, releaseUnits_cal]
theorem foldl_releaseUnits_mon (l : List Nat) (s : State) : (l.foldl (releaseUnits x aborted) s).mon = { s.mon with
    mcs := (l.foldl (releaseUnits x aborted) s).mon.mcs } := by
  induction l generalizing s with
  | nil => rfl
  | cons u l ih => rw [List.foldl_cons, ih, releaseUnits_mon]
/-- A channel that is not held stays so when units are let go. -/
theorem free_releaseUnits {s : State} {c : Nat} (h : (chan s c).held = false) (u : Nat) :
    (chan (releaseUnits x aborted s u) c).held = false := by
  by_cases hc : c = u
  · subst hc
    by_cases hu : c < 192
    · exact held_releaseUnits_same s x aborted hu
    · rw [chan_of_chs (releaseUnits_chs s x aborted hu)]
      exact h
  · rw [chan_releaseUnits_other s x aborted hc]
    exact h
theorem free_foldl_releaseUnits {c : Nat} (l : List Nat) {s : State} (h : (chan s c).held = false) :
    (chan (l.foldl (releaseUnits x aborted) s) c).held = false := by
  induction l generalizing s with
  | nil => exact h
  | cons u l ih => exact ih (free_releaseUnits x aborted h u)
/-- Every channel among the units is let go. -/
theorem held_foldl_releaseUnits {c : Nat} (hc : c < 192) {l : List Nat} (h : c ∈ l) (s : State) :
    (chan (l.foldl (releaseUnits x aborted) s) c).held = false := by
  induction l generalizing s with
  | nil => exact absurd h List.not_mem_nil
  | cons u l ih =>
    rcases List.mem_cons.1 h with rfl | h
    · exact free_foldl_releaseUnits x aborted l (held_releaseUnits_same s x aborted hc)
    · exact ih h _

end

/-! ## The test DACs are let go (R265, R276) -/

/-- A DAC that calibration holds is let go. -/
def freeCalDac (k : Nat) (s : State) : State := if (tdac s k).holder = .calibration then freeDac s k else s

theorem freeDacs_eq (s : State) : freeDacs s = forNat 12 freeCalDac s := by
  unfold freeDacs freeCalDac
  rfl

section
variable {s : State} (h : s.mon.ipc = none)
include h

theorem freeCalDac_frame (k : Nat) :
    freeCalDac k s = { s with mon := { s.mon with dacs := (freeCalDac k s).mon.dacs } } := by
  unfold freeCalDac
  split
  · exact freeDac_frame h k
  · rfl
theorem holder_freeCalDac (k : Nat) : (tdac (freeCalDac k s) k).holder ≠ .calibration := by
  unfold freeCalDac
  split
  · rcases holder_freeDac h k with hh | hh <;> rw [hh] <;> decide
  · assumption
theorem tdac_freeCalDac_other {k j : Nat} (hj : j ≠ k) : tdac (freeCalDac k s) j = tdac s j := by
  unfold freeCalDac
  split
  · exact tdac_freeDac_other h hj
  · rfl
/-- While no check is open, nothing but the DACs changes, and calibration holds none of them. -/
theorem freeDacs_frees : freeDacs s = { s with mon := { s.mon with dacs := (freeDacs s).mon.dacs } } ∧
    ∀ k < 12, (tdac (freeDacs s) k).holder ≠ .calibration := by
  rw [freeDacs_eq]
  generalize 12 = n
  induction n with
  | zero => exact ⟨rfl, fun k hk => absurd hk (Nat.not_lt_zero k)⟩
  | succ n ih =>
    obtain ⟨hframe, hfree⟩ := ih
    have hipc : (forNat n freeCalDac s).mon.ipc = none := by rw [hframe]; exact h
    refine ⟨by rw [forNat, freeCalDac_frame hipc, hframe], fun k hk => ?_⟩
    rw [forNat]
    by_cases hkn : k = n
    · rw [hkn]
      exact holder_freeCalDac hipc n
    · rw [tdac_freeCalDac_other hipc hkn]
      exact hfree k (by omega)

end

end Sys2Proof.Proofs
end

section
/-!
O34: sweeps, claims, measurements that are disturbed, and the ends of runs (R255, R277 to R283).
-/
namespace Sys2Proof.Proofs
open Sys2Proof Sys2Proof.Machine Sys2Proof.Laws

/-! ## The end of a run (R279, R280, R283) -/

/-- The calibration that a run's end leaves: the run, the image, the values that slew, the status and the beat of the release. -/
def endedCal (c : Cal) : Option Run × Memory × PMap Slew × Nat × Nat :=
  (c.run, c.image, c.slews, c.lastStatus, c.lastRelease)
/-- The same with the channels and the monitor path. -/
def endView (s : State) : PMap Channel × Mon × (Option Run × Memory × PMap Slew × Nat × Nat) :=
  (s.chs, s.mon, endedCal s.cal)

section
variable (s : State)

theorem endView_of_faultOnly {t : State} (h : FaultOnly s t) : endView t = endView s := by
  unfold endView
  rw [faultOnly_chs h, faultOnly_mon h, faultOnly_cal h]
theorem faultOnly_runFaults (x : Run) (choices : List (CalKey × Int × Bool)) : FaultOnly s (runFaults x choices s) :=
  faultOnly_trans (faultOnly_foldl _ (fun _ _ => faultOnly_raise ..) _ _)
    (faultOnly_trans (faultOnly_foldl _ (fun _ _ => faultOnly_raise ..) _ _)
      (faultOnly_foldl _ (fun _ _ => faultOnly_raise ..) _ _))
theorem endView_calOutcome (r : Option Req) (st : Nat × Nat) : endView (calOutcome s r st) = endView s := by
  unfold calOutcome
  split
  · rw [(outcome_queues ..).2]
    rfl
  · rfl
theorem endView_endSweep : endView (endSweep s) = endView s := by
  unfold endSweep
  split
  · rfl
  · dsimp only
    split
    · exact endView_calOutcome ..
    · exact endView_calOutcome ..
theorem endView_sweepOn (x : Run) (st : Nat × Nat) : endView (sweepOn s x st) = endView s := by
  unfold sweepOn
  split
  · rfl
  split
  · rfl
  extract_lets u worst w c t
  split
  · exact endView_calOutcome ..
  split
  · exact endView_endSweep t
  · rfl
end

/-- Run x has ended, its values in force unless it was aborted. -/
def runAccepted (s : State) (x : Run) (aborted : Bool) (found : List Residual) : State :=
  if aborted then setRun s none else acceptRun x found (setRun s none)
/-- Its units are let go. -/
def unitsReleased (s : State) (x : Run) (aborted : Bool) (found : List Residual) : State :=
  (runUnits x).foldl (releaseUnits x aborted) (runAccepted s x aborted found)
/-- Its DACs are let go as well. -/
def runReleased (s : State) (x : Run) (aborted : Bool) (found : List Residual) : State :=
  freeDacs (unitsReleased s x aborted found)
/-- The status of a run that has ended and the beat of its release. -/
def runNoted (s : State) (status up : Nat) : State :=
  { s with cal := { s.cal with lastStatus := status, lastRelease := up } }
theorem endView_runNoted (s : State) (status up : Nat) : endView (runNoted s status up) =
    (s.chs, s.mon, s.cal.run, s.cal.image, s.cal.slews, status, up) := rfl

section
variable {s : State} {x : Run}

theorem steady_runReleased (s : State) (x : Run) (aborted : Bool) (found : List Residual) :
    steady (runReleased s x aborted found) = steady s := by
  rw [runReleased, steady_freeDacs, unitsReleased, steady_foldl _ _ _ fun y u => steady_releaseUnits y .., runAccepted,
    steady_ite, steady_acceptRun, steady_setRun, ite_self]
/-- Behind the release a run's end writes its status and its beat, and nothing else of these. -/
theorem endView_endRun (h : s.cal.run = some x) (aborted : Bool) (found : List Residual) :
    endView (endRun s aborted found) =
      endView (runNoted (runReleased s x aborted found) (runStatus s x aborted).1 s.tb.up) := by
  unfold endRun
  split
  · next h' => exact absurd (h'.symm.trans h) (by simp)
  · next y hy =>
    obtain rfl : y = x := Option.some.inj (hy.symm.trans h)
    extract_lets st s1 s2 s3 s4 rej s5 s6 s7 s8 s9 c9 s10 c10 s11 s12
    have hcount : FaultOnly s5 s9 := faultOnly_trans (faultOnly_count ..) (faultOnly_trans
      (faultOnly_ite (faultOnly_refl _) (faultOnly_count ..)) (faultOnly_trans
        (faultOnly_ite (faultOnly_refl _) (faultOnly_count ..)) (faultOnly_count ..)))
    have hup : s9.tb.up = s.tb.up := by
      rw [faultOnly_tb hcount, pushSheaf_tb]
      exact steady_up (steady_runReleased s y aborted found)
    have h10 : endView s10 = endView (runNoted s4 st.1 s.tb.up) := by
      unfold endView endedCal runNoted
      dsimp only [s10, c9]
      rw [hup, faultOnly_chs hcount, faultOnly_mon hcount, faultOnly_cal hcount, pushSheaf_chs, pushSheaf_mon, pushSheaf_cal]
    have h11 : endView s11 = endView s10 := by
      dsimp only [s11]
      split <;> rfl
    have h12 : endView s12 = endView s11 := by
      dsimp only [s12]
      split
      · rfl
      · exact endView_of_faultOnly _ (faultOnly_runFaults ..)
    rw [endView_sweepOn, endView_calOutcome, h12, h11, h10, show s4 = runReleased s y aborted found from rfl]

theorem endRun_fields (h : s.cal.run = some x) (aborted : Bool) (found : List Residual) :
    (endRun s aborted found).chs = (runReleased s x aborted found).chs ∧
    (endRun s aborted found).mon = (runReleased s x aborted found).mon ∧
    (endRun s aborted found).cal.run = (runReleased s x aborted found).cal.run ∧
    (endRun s aborted found).cal.image = (runReleased s x aborted found).cal.image ∧
    (endRun s aborted found).cal.slews = (runReleased s x aborted found).cal.slews ∧
    (endRun s aborted found).cal.lastStatus = (runStatus s x aborted).1 ∧
    (endRun s aborted found).cal.lastRelease = s.tb.up := by
  have hview := endView_endRun h aborted found
  rw [endView_runNoted] at hview
  simp only [endView, endedCal, Prod.mk.injEq] at hview
  exact hview
theorem runStatus_status (s : State) (x : Run) : (runStatus s x false).1 =
    if x.failed ≠ [] then 0x0D else if x.rejected ≠ [] then 0x0E else 0 := by
  unfold runStatus
  rw [if_neg Bool.false_ne_true]
  cases x.failed with
  | cons e l => rfl
  | nil => cases x.rejected <;> rfl

theorem runView_runAccepted (s : State) (x : Run) (aborted : Bool) (found : List Residual) :
    (runAccepted s x aborted found).chs = s.chs ∧ (runAccepted s x aborted found).mon = s.mon ∧
      (runAccepted s x aborted found).cal.run = none := by
  have hview : runView (runAccepted s x aborted found) = runView (setRun s none) := by
    rw [runAccepted, runView_ite, runView_acceptRun, ite_self]
  simp only [runView, Prod.mk.injEq] at hview
  exact hview

section
variable (h : s.mon.ipc = none) (aborted : Bool) (found : List Residual)

theorem unitsReleased_ipc : (unitsReleased s x aborted found).mon.ipc = s.mon.ipc := by
  obtain ⟨-, hmon, -⟩ := runView_runAccepted s x aborted found
  rw [unitsReleased, foldl_releaseUnits_mon, hmon]
include h
/-- With no check open the DACs' release moves no channel and no calibration. -/
theorem runReleased_frame : (runReleased s x aborted found).chs = (unitsReleased s x aborted found).chs ∧
    (runReleased s x aborted found).cal = (unitsReleased s x aborted found).cal := by
  obtain ⟨hframe, -⟩ := freeDacs_frees ((unitsReleased_ipc aborted found (x := x)).trans h)
  rw [runReleased, hframe]
  exact ⟨rfl, rfl⟩
theorem runReleased_run : (runReleased s x aborted found).cal.run = none := by
  obtain ⟨-, hcal⟩ := runReleased_frame (x := x) h aborted found
  obtain ⟨-, -, hrun⟩ := runView_runAccepted s x aborted found
  rw [hcal, unitsReleased, foldl_releaseUnits_cal]
  exact hrun
theorem runReleased_held {c : Nat} (hc : c < 192) (hu : c ∈ runUnits x) :
    (chan (runReleased s x aborted found) c).held = false := by
  obtain ⟨hchs, -⟩ := runReleased_frame (x := x) h aborted found
  rw [chan_of_chs hchs]
  exact held_foldl_releaseUnits x aborted hc hu _
theorem runReleased_dacs {k : Nat} (hk : k < 12) : (tdac (runReleased s x aborted found) k).holder ≠ .calibration :=
  (freeDacs_frees ((unitsReleased_ipc aborted found (x := x)).trans h)).2 k hk
/-- An aborted run leaves the accepted image and the values in force (R280). -/
theorem runReleased_aborted : (runReleased s x true found).cal.image = s.cal.image ∧
    (runReleased s x true found).cal.slews = s.cal.slews := by
  obtain ⟨-, hcal⟩ := runReleased_frame (x := x) h true found
  rw [hcal, unitsReleased, foldl_releaseUnits_cal]
  exact ⟨rfl, rfl⟩
end
end

section
variable {s : State} {x : Run} (found : List Residual) (hrun : s.cal.run = some x)
include hrun
theorem exec_calibrationRelease {aborted : Bool} (hk : x.kind ≠ .foreground) (hd : releaseDue s x = some aborted) :
    exec (.calibrationRelease found) s = .next (endRun s aborted found) := by
  change execCalibrationRelease found s = _
  simp [execCalibrationRelease, hrun, hk, hd]
theorem exec_foregroundRunEnd {aborted : Bool} (hk : x.kind = .foreground) (hd : releaseDue s x = some aborted) :
    exec (.foregroundRunEnd found) s = .next (endRun s aborted found) := by
  change execForegroundRunEnd found s = _
  simp [execForegroundRunEnd, hrun, hk, hd]
end
section
variable {s : State} {x : Run} {d : Nat}
theorem releaseDue_ready (ha : x.aborting = none) (hr : x.ready = some d) (hd : d ≤ s.tb.dk)
    (hb : atBoundary s = true ∨ x.kind ≠ .gleanCh) : releaseDue s x = some false := by
  simp [releaseDue, ha, hr, hd, hb]
theorem releaseDue_aborting (ha : x.aborting = some d) (hd : d < s.tb.dk) (hb : atBoundary s = true) :
    releaseDue s x = some true := by
  simp [releaseDue, ha, hd, hb]
end

/-! ## The start of a channel's run (R277 to R279) -/

/-- What a run of a channel that begins leaves: the run with its channel and its lead-in, the channel held, its test DAC taken. -/
theorem beginGlean_holds (s : State) (x : Run) :
    (beginGlean s x).cal.run = some { x with
      tol := tolerances s, held := runHolds s .gleanCh x.unit, lead := s.tb.up + 4096 } ∧
    (chan (beginGlean s x) x.unit).held = true ∧ (chan (beginGlean s x) x.unit).holdBeat = s.tb.beat ∧
    (tdac (beginGlean s x) (x.unit / 16)).holder = .calibration := by
  unfold beginGlean
  refine ⟨rfl, ?_, ?_, ?_⟩
  · rw [chan_holdChannel_same]
  · rw [chan_holdChannel_same]
    rfl
  · rw [tdac_holdChannel, tdac_setTdac_same]
theorem exec_gleanRunStart_sweep {s : State} {w : Sweep} {u : Nat} (hb : atBoundary s = true)
    (hserve : serviceMode s.modes.cur = true) (hrun : s.cal.run = none)
    (hgap : s.cal.lastRelease + 1024 * bits (reg s A_CAL_GLEAN_CTRL 0) 31 24 ≤ s.tb.up) (hq : s.cal.queued = none)
    (hw : s.cal.sweep = some w) (hp : w.paused = false) (hn : nextUnit s w.next = some u) (hu : u < 192)
    (hd : (tdac s (u / 16)).holder = .none) :
    exec .gleanRunStart s = .next (beginGlean s (newRun s .gleanCh none true w.mask u)) := by
  change execGleanRunStart s = _
  simp [execGleanRunStart, hb, hserve, hrun, hgap, hq, hw, hp, hn, hu, dacFree, hd]
theorem exec_gleanSweepStart_due {s : State} (hserve : serviceMode s.modes.cur = true)
    (hon : bitAt (reg s A_CAL_GLEAN_CTRL 0) 0 = true) (hdue : s.cal.sweepDue ≤ s.tb.up) (hw : s.cal.sweep = none) :
    exec .gleanSweepStart s = .next { s with cal := { s.cal with
      sweep := some { next := 0, mask := 0, req := none, status := 0, detail := 0, paused := false }
      sweepDue := s.tb.up + bits (reg s A_CAL_GLEAN_CTRL 0) 23 8 * Config.beatsPerSecond } } := by
  change execGleanSweepStart s = _
  simp [execGleanSweepStart, hserve, hon, hdue, hw]

/-! ## A claim that takes effect (R255) -/

theorem exec_calClaimTakesEffect_idle {k : Conv} {s : State} (hw : (mc s k.val).claimWaits = true)
    (hr : (mc s k.val).run = none) (hi : injectedPending s k.val = false) (hf : convFenced s k.val = false)
    (hq : s.cal.queued = none) : exec (.calClaimTakesEffect k) s = .next (takeConverter s k.val) := by
  change execCalClaimTakesEffect k s = _
  simp [execCalClaimTakesEffect, hw, hr, hi, hf, takeConverter_queued, hq]
theorem mc_takeConverter (s : State) (k : Nat) : mc (takeConverter s k) k =
    { mc s k with claimed := true, claimWaits := false, run := scanConv s k (mc s k).pos } := by
  rw [mc_of_mon (takeConverter_mon s k), mc_claimConverter]
theorem stale_takeConverter (s : State) (k : Nat) {l : Nat} (h : l < 27) :
    (monRec (takeConverter s k) (globalInput k l)).stale = true := by
  rw [monRec_of_results (congrArg Mon.results (takeConverter_mon s k)), claimConverter_eq]
  exact stale_forNat_staleLocal _ k h

/-! ## A disturbed measurement (R281) -/

theorem eraseDups_eq_singleton {l : List Nat} {u : Nat} (hne : u ∈ l) (h : ∀ a ∈ l, a = u) : l.eraseDups = [u] := by
  cases l with
  | nil => exact absurd hne List.not_mem_nil
  | cons a l =>
    obtain rfl : a = u := h a List.mem_cons_self
    rw [List.eraseDups_cons, List.filter_eq_nil_iff.2 fun b hb => by simp [h b (List.mem_cons_of_mem _ hb)], List.eraseDups_nil]
/-- A channel's run measures its own channel only (R274). -/
theorem keyUnit_of_inScope {s : State} {x : Run} {k : CalKey} (hk : x.kind = .gleanCh) (h : inScope s x k = true) :
    keyUnit s k = x.unit := by
  simp only [inScope, hk, Bool.and_eq_true, decide_eq_true_eq] at h
  exact h.2.1
/-- Only a foreground run notes choices. -/
theorem noteChoices_gleaning {s : State} {x : Run} (h : x.kind ≠ .foreground) (es : List ElemMeas) : noteChoices s x es = x := by
  simp [noteChoices, h]

/-- The run x whose measurement is to be repeated. -/
def repeated (x : Run) : Run :=
  { x with start := none, retries := x.retries + 1, retried := pset 0 x.retried x.unit (pget 0 x.retried x.unit + 1) }
/-- The run x whose retries have run out at deckle boundary d. -/
def exhausted (x : Run) (d : Nat) : Run :=
  { x with start := none, retries := 0, failed := pset 0 x.failed x.unit x.step, ready := some d }
theorem measure_disturbed {s : State} {x : Run} {sat : List Nat} {fired : List (Nat × Nat)} (hk : x.kind = .gleanCh)
    (hheld : x.held = [x.unit]) (hdrop : x.dropped = []) (hfail : x.failed = []) (hpart : x.part = [])
    (hbad : x.unit ∈ sat ∨ disturbed s x fired x.unit = true) (vs : List (CalKey × Int)) (es : List ElemMeas) :
    Machine.measure s x sat fired vs es =
      if x.retries < reg s A_CAL_RETRIES 0 then repeated x else exhausted x s.tb.dk := by
  have hkind : x.kind ≠ .foreground := by rw [hk]; decide
  unfold Machine.measure
  extract_lets mine own bad out x1 y z
  have hown : ∀ u, own u = true ↔ u = x.unit := fun u => by
    simp [own, hheld, hdrop, hfail, pget_nil]
  have hout : out = [x.unit] := by
    refine eraseDups_eq_singleton (List.mem_filter.2 ⟨?_, (hown _).2 rfl⟩) fun a ha => (hown a).1 (List.mem_filter.1 ha).2
    simp only [bad, hheld, List.mem_append, List.mem_filter, List.mem_singleton, true_and]
    exact .inl hbad
  have hmine : mine.filter (fun v => !out.contains (keyUnit s v.1)) = [] := by
    refine List.filter_eq_nil_iff.2 fun v hv => ?_
    have hscope := (List.mem_filter.1 hv).2
    simp only [Bool.and_eq_true] at hscope
    simp [hout, keyUnit_of_inScope hk hscope.1.1]
  have hx1 : x1 = { x with start := none } := by
    simp only [x1]
    rw [hmine, List.append_nil]
    exact noteChoices_gleaning (x := { x with start := none }) hkind es
  have hz : z = { x with start := none, part := [], retries := 0, failed := pset 0 x.failed x.unit x.step } := by
    simp only [z, y, hx1, hpart, hout, List.foldl_nil, List.foldl_cons]
  rw [hz, hout, hx1]
  by_cases hr : x.retries < reg s A_CAL_RETRIES 0
  · simp [hr, repeated]
  · simp [hr, exhausted, hkind, hpart]

section
variable {s : State} {x : Run} {b : Nat} (hrun : s.cal.run = some x) (hready : x.ready = none) (habort : x.aborting = none)
  (hstart : x.start = some b) (sat : List Nat) (fired : List (Nat × Nat)) (vs : List (CalKey × Int)) (es : List ElemMeas)
include hrun hstart

theorem exec_calibrationMeasurement_early (h : s.tb.up < b + stepBeats s x.kind x.step) :
    exec (.calibrationMeasurement sat fired vs es) s = .next s := by
  change execCalibrationMeasurement sat fired vs es s = _
  simp [execCalibrationMeasurement, hrun, hstart, h]
include hready habort in
theorem exec_calibrationMeasurement_ends (h : b + stepBeats s x.kind x.step ≤ s.tb.up) :
    exec (.calibrationMeasurement sat fired vs es) s =
      .next (beginMeasurement (setRun s (some (Machine.measure s x sat fired vs es)))) := by
  change execCalibrationMeasurement sat fired vs es s = _
  simp [execCalibrationMeasurement, hrun, hstart, hready, habort, Nat.not_lt.2 h]

end

/-! ## A run that has ended lets its units go -/

section
variable {s : State} {x : Run} (h : s.cal.run = some x) (hipc : s.mon.ipc = none) (aborted : Bool) (found : List Residual)
include h hipc
theorem endRun_run : (endRun s aborted found).cal.run = none := by
  obtain ⟨-, -, hrun, -⟩ := endRun_fields h aborted found
  rw [hrun, runReleased_run hipc]
theorem held_endRun {c : Nat} (hc : c < 192) (hu : c ∈ runUnits x) : (chan (endRun s aborted found) c).held = false := by
  obtain ⟨hchs, -⟩ := endRun_fields h aborted found
  rw [chan_of_chs hchs, runReleased_held hipc aborted found hc hu]
theorem holder_endRun {k : Nat} (hk : k < 12) : (tdac (endRun s aborted found) k).holder ≠ .calibration := by
  obtain ⟨-, hmon, -⟩ := endRun_fields h aborted found
  rw [tdac_of_mon hmon]
  exact runReleased_dacs hipc aborted found hk
/-- An aborted run brings no value into force (R280). -/
theorem endRun_aborted : (endRun s true found).cal.image = s.cal.image ∧ (endRun s true found).cal.slews = s.cal.slews ∧
    (endRun s true found).cal.lastStatus = 0x0C := by
  obtain ⟨-, -, -, himage, hslews, hstatus, -⟩ := endRun_fields h true found
  obtain ⟨hi, hs⟩ := runReleased_aborted (x := x) hipc found
  exact ⟨himage.trans hi, hslews.trans hs, hstatus⟩
omit hipc in
theorem endRun_status : (endRun s false found).cal.lastStatus =
    if x.failed ≠ [] then 0x0D else if x.rejected ≠ [] then 0x0E else 0 := by
  obtain ⟨-, -, -, -, -, hstatus, -⟩ := endRun_fields h false found
  rw [hstatus, runStatus_status]
omit hipc in
theorem endRun_lastRelease : (endRun s aborted found).cal.lastRelease = s.tb.up := by
  obtain ⟨-, -, -, -, -, -, hrelease⟩ := endRun_fields h aborted found
  exact hrelease
end

/-- Settles O34: each clause by the rule of its instruction; a run's end reads the state whose units it lets go. -/
theorem calibrationRuns : Obligations.CalibrationRuns := by
  refine ⟨fun s hserve hon hdue hw => ?_, fun s w u hb hserve hrun hgap hq hw hp hn hu hd => ?_,
    fun k s hw hr hi hf hq => ?_,
    fun sat fired vs es x b s hrun hk hready habort hstart hheld hdrop hfail hpart => ?_,
    fun found x d s hrun hk hu hheld hdrop hipc => ?_, fun found x d s hrun hk hipc habort hready hd => ?_⟩
  · exact ⟨_, _, exec_gleanSweepStart_due hserve hon hdue hw, rfl, rfl, rfl, rfl⟩
  · obtain ⟨hx, hheld, hbeat, hdac⟩ := beginGlean_holds s (newRun s .gleanCh none true w.mask u)
    exact ⟨_, _, exec_gleanRunStart_sweep hb hserve hrun hgap hq hw hp hn hu hd, hx, rfl, rfl, rfl, rfl, hheld, hbeat, hdac⟩
  · refine ⟨_, exec_calClaimTakesEffect_idle hw hr hi hf hq, ?_, ?_, fun l hl => stale_takeConverter s k.val hl⟩
    · rw [mc_takeConverter]
    · rw [mc_takeConverter]
  · rw [← hk]
    refine ⟨exec_calibrationMeasurement_early hrun hstart sat fired vs es, fun hup hbad => ?_⟩
    have hmeas := measure_disturbed hk hheld hdrop hfail hpart hbad vs es
    obtain ⟨b', hnext⟩ := beginMeasurement_run (s := setRun s (some (Machine.measure s x sat fired vs es))) rfl
    refine ⟨_, _, exec_calibrationMeasurement_ends hrun hready habort hstart sat fired vs es hup, hnext, ?_⟩
    rw [hmeas]
    by_cases hr : x.retries < reg s A_CAL_RETRIES 0
    · rw [if_pos hr]
      exact ⟨rfl, rfl, rfl, fun _ => ⟨rfl, hfail, hready⟩, fun h => absurd hr (Nat.not_lt.2 h)⟩
    · rw [if_neg hr]
      exact ⟨rfl, rfl, rfl, fun h => absurd h hr, fun _ => ⟨by rw [← hfail]; rfl, rfl⟩⟩
  · have hunit : x.unit ∈ runUnits x := by simp [runUnits, hheld, hdrop]
    have hkind : x.kind ≠ .foreground := by rw [hk]; decide
    refine ⟨fun habort hready hd hb => ?_, fun habort hd hb => ?_⟩
    · exact ⟨_, exec_calibrationRelease found hrun hkind (releaseDue_ready habort hready hd (.inl hb)),
        endRun_run hrun hipc false found, held_endRun hrun hipc false found hu hunit, endRun_status hrun found,
        endRun_lastRelease hrun false found⟩
    · exact ⟨_, exec_calibrationRelease found hrun hkind (releaseDue_aborting habort hd hb),
        endRun_run hrun hipc true found, held_endRun hrun hipc true found hu hunit, endRun_aborted hrun hipc found⟩
  · have hkind : x.kind ≠ .gleanCh := by rw [hk]; decide
    exact ⟨_, exec_foregroundRunEnd found hrun hk (releaseDue_ready habort hready hd (.inr hkind)),
      endRun_run hrun hipc false found, fun c hc hu => held_endRun hrun hipc false found hc hu,
      fun k hk => holder_endRun hrun hipc false found hk, endRun_status hrun found⟩

end Sys2Proof.Proofs
end

section
/-!
O4, O5: the invariant holds right after reset, and every step keeps it (R294 to R297, R457, Table 17.14).
-/
namespace Sys2Proof.Proofs
open Sys2Proof Sys2Proof.Machine Sys2Proof.Laws

/-- Settles O4: no bank lists a byte, and IDCODE is in force. -/
theorem invariantAtReset : Obligations.InvariantAtReset := ⟨⟨pwf_nil _, pwf_nil _⟩, rfl, rfl⟩

section
variable {c : Instr} {s : State}

/-- The rows that may write a bank leave it canonical, and the TAP as it was. -/
theorem keep_of_writesBanks (h : writesBanks c = true) (s : State) : Keep s (after s (exec c s)) := by
  unfold writesBanks at h
  split at h
  · exact keep_seedCommitComplete ..
  · exact keep_deckleBoundary ..
  · exact keep_syncLoadOrCheck _
  · exact keep_timeStep _
  · exact absurd h nofun

/-- A TAP instruction that takes the code and the data register of its row in Table 17.14 keeps the invariant. -/
theorem tapLoad_inv (h : s.Inv) {i : TapInst} {code : BitVec 6} {dr : Nat}
    (hrow : ({ s with tap := { s.tap with inst := i, code := code, dr := dr } } : State).TapWf) :
    (tapLoad s i code dr).Inv := by
  rw [tapLoad_eq]
  split
  · exact ⟨h.1, hrow⟩
  · exact h
/-- SAMPLE/PRELOAD's capture lies outside what Table 17.14 ties together. -/
theorem tapSamplePreload_inv (h : s.Inv) : (after s (execTapSamplePreload s)).Inv := by
  have hload : (tapLoad s .sample 0x01 0).Inv := tapLoad_inv h ⟨rfl, rfl⟩
  unfold execTapSamplePreload
  rw [after_next]
  dsimp only
  split <;> exact hload
theorem tapBypass_inv (h : s.Inv) (code : BitVec 6) : (after s (execTapBypass code s)).Inv := by
  unfold execTapBypass
  rw [after_next]
  split
  · next hcode => exact tapLoad_inv h ⟨hcode, rfl⟩
  · exact h
/-- The rows that may load the TAP: each instruction with its own code and data register, and power-on with IDCODE. -/
theorem inv_of_loadsTap (hc : loadsTap c = true) (h : s.Inv) : (after s (exec c s)).Inv := by
  unfold loadsTap at hc
  split at hc
  · exact tapLoad_inv h ⟨rfl, rfl⟩
  · exact tapSamplePreload_inv h
  · exact tapLoad_inv h ⟨rfl, rfl⟩
  · exact tapLoad_inv h ⟨rfl, rfl⟩
  · exact tapLoad_inv h ⟨rfl, rfl⟩
  · exact tapBypass_inv h _
  · exact tapLoad_inv h ⟨rfl, rfl⟩
  · exact (powerOn_keeps s).2 h
  · exact absurd hc nofun
/-- Any other row leaves the banks and the TAP as they were. -/
theorem inv_of_rowFrame {t : State} (hf : RowFrame c s t) (hb : writesBanks c = false) (ht : loadsTap c = false)
    (h : s.Inv) : t.Inv := by
  obtain ⟨-, hbanks, htap⟩ := hf
  obtain ⟨hbank0, hbank1⟩ := hbanks hb
  refine ⟨?_, tapWf_of_eq (htap ht) h.2⟩
  rw [State.BanksWf, hbank0, hbank1]
  exact h.1
theorem exec_inv (c : Instr) (h : s.Inv) : (after s (exec c s)).Inv := by
  cases hb : writesBanks c with
  | true => exact keep_inv (keep_of_writesBanks hb s) h
  | false =>
    cases ht : loadsTap c with
    | true => exact inv_of_loadsTap ht h
    | false => exact inv_of_rowFrame (exec_frame c s) hb ht h

end

/-- Settles O5: the front command's row keeps the invariant, and so does a beat. -/
theorem stepKeepsInvariant : Obligations.StepKeepsInvariant := by
  intro s t h hstep
  unfold step at hstep
  split at hstep
  · next c rest _ =>
    have hrow : (after _ (exec c { s with pending := rest })).Inv := exec_inv c (s := { s with pending := rest }) h
    rwa [hstep, after_next] at hrow
  · cases hstep
    exact keep_inv (keep_tick s) h

end Sys2Proof.Proofs
end

section
/-!
O35: the agreement of two or three measurements (R282), and a value in force on its way to its target (R284, R285).
-/
namespace Sys2Proof.Proofs
open Sys2Proof Sys2Proof.Machine

/-! ## Agreement (R282) -/

section
variable {tol : Nat} {a b c : Int}

theorem agree_two (h : (a - b).natAbs ≤ tol) (o : Option Int) : agree tol a b o = some ((a + b + 1) / 2) := if_pos h
/-- Where the first two disagree, the third decides for the nearer of them, the first among equals. -/
theorem agree_three (h : tol < (a - b).natAbs) : agree tol a b (some c) =
    if (a - c).natAbs ≤ tol ∧ (a - c).natAbs ≤ (b - c).natAbs then some ((a + c + 1) / 2)
    else if (b - c).natAbs ≤ tol then some ((b + c + 1) / 2) else none := if_neg (Nat.not_le.2 h)

end

/-! ## Slewing (R284, R285) -/

theorem slewUnit_pos (q e : Nat) : 0 < slewUnit q e := by
  unfold slewUnit
  split <;> decide

/-- The whole units that an allowance gives, no more than the distance takes. -/
def slewSteps (allow unit dist : Nat) : Nat := min (allow / 10240) ((dist + unit - 1) / unit)
/-- How far the value moves. -/
def slewMove (allow unit dist : Nat) : Nat := min (slewSteps allow unit dist * unit) dist

section
variable {allow unit dist : Nat}

theorem slewSteps_le : slewSteps allow unit dist * 10240 ≤ allow :=
  (Nat.mul_le_mul_right _ (Nat.min_le_left ..)).trans (Nat.div_mul_le_self ..)
/-- The distance is reached only by what the allowance gives. -/
theorem slewMove_reached (h : slewMove allow unit dist = dist) : dist * 10240 ≤ unit * allow :=
  calc dist * 10240 ≤ slewSteps allow unit dist * unit * 10240 := Nat.mul_le_mul_right _ (h.symm.le.trans (Nat.min_le_left ..))
    _ = unit * (slewSteps allow unit dist * 10240) := by ring
    _ ≤ unit * allow := Nat.mul_le_mul_left _ slewSteps_le
/-- Short of it, every whole unit of the allowance is used. -/
theorem slewMove_short (hu : 0 < unit) (h : slewMove allow unit dist ≠ dist) :
    slewMove allow unit dist = slewSteps allow unit dist * unit ∧ slewSteps allow unit dist = allow / 10240 := by
  have hlt : slewSteps allow unit dist * unit < dist := by
    unfold slewMove at h
    omega
  refine ⟨Nat.min_eq_left hlt.le, Nat.min_eq_left (Nat.le_of_not_le fun hle => ?_)⟩
  rw [slewSteps, Nat.min_eq_right hle] at hlt
  have hceil := Nat.lt_div_mul_add (a := dist + unit - 1) hu
  omega
/-- Allowance and distance are exchanged in whole units, and the rest of the allowance is less than one. -/
theorem slewMove_exchange (hu : 0 < unit) (h : slewMove allow unit dist ≠ dist) :
    slewMove allow unit dist * 10240 + unit * (allow - slewSteps allow unit dist * 10240) = unit * allow ∧
      allow - slewSteps allow unit dist * 10240 < 10240 := by
  obtain ⟨hmove, hsteps⟩ := slewMove_short hu h
  refine ⟨?_, by omega⟩
  calc slewMove allow unit dist * 10240 + unit * (allow - slewSteps allow unit dist * 10240)
      = unit * (slewSteps allow unit dist * 10240 + (allow - slewSteps allow unit dist * 10240)) := by rw [hmove]; ring
    _ = unit * allow := by rw [Nat.add_sub_cancel' slewSteps_le]

end

/-- A value d nearer to its target. -/
def slewToward (v target : Int) (d : Nat) : Int := if v < target then v + d else v - d
section
variable {v target : Int} {d : Nat} (h : d ≤ (target - v).natAbs)
include h
/-- It lies between where it was and the target. -/
theorem slewToward_between : (slewToward v target d - v).natAbs = d ∧
    (target - slewToward v target d).natAbs = (target - v).natAbs - d := by
  unfold slewToward
  split <;> omega
theorem slewToward_eq_target : slewToward v target d = target ↔ d = (target - v).natAbs := by
  unfold slewToward
  split <;> omega
end

section
variable {s : State} {no : Nat} {w : Slew}

/-- What the value moves by at this boundary: its allowance, the unit of its quantity, the distance left. -/
def slewAllow (s : State) (no : Nat) (w : Slew) : Nat := w.allow + reg s A_CAL_SLEW (no / 2 ^ 20)
def unitOf (no : Nat) : Nat := slewUnit (no / 2 ^ 20) (no % 2 ^ 10)
def distOf (w : Slew) : Nat := (w.target - w.v).natAbs
def moveOf (s : State) (no : Nat) (w : Slew) : Nat := slewMove (slewAllow s no w) (unitOf no) (distOf w)
/-- The value behind the boundary. -/
def slewed (s : State) (no : Nat) (w : Slew) : Slew :=
  { w with v := slewToward w.v w.target (moveOf s no w)
           allow := slewAllow s no w - slewSteps (slewAllow s no w) (unitOf no) (distOf w) * 10240 }

theorem slewOne_there (h : w.once = true ∨ reg s A_CAL_SLEW (no / 2 ^ 20) = 0) : slewOne s (no, w) = none :=
  if_pos (by simpa using h)

variable (honce : w.once = false) (hlimit : reg s A_CAL_SLEW (no / 2 ^ 20) ≠ 0)
include honce hlimit
theorem slew_limited : ¬ (w.once || decide (reg s A_CAL_SLEW (no / 2 ^ 20) = 0)) = true := by
  rw [honce, decide_eq_false hlimit]
  decide
theorem slewOne_stands (h : serviceMode s.modes.cur = false) : slewOne s (no, w) = some (no, w) :=
  (if_neg (slew_limited honce hlimit)).trans (if_pos (by rw [h]; rfl))
theorem slewOne_moves (h : serviceMode s.modes.cur = true) : slewOne s (no, w) =
    if moveOf s no w = distOf w then none else some (no, slewed s no w) := by
  have hthere := slewToward_eq_target (v := w.v) (target := w.target) (d := moveOf s no w) (Nat.min_le_right ..)
  unfold slewOne
  dsimp only
  rw [if_neg (slew_limited honce hlimit), if_neg (by rw [h]; decide)]
  exact if_congr hthere rfl rfl

end

/-- Settles O35: by the number of measurements that agree, and by whether the value reaches its target. -/
theorem agreementAndSlewing : Obligations.AgreementAndSlewing := by
  refine ⟨fun tol a b c => ⟨agree_two, fun hab => ⟨if_neg (Nat.not_le.2 hab), fun hac hle => ?_, fun hbc hlt => ?_,
    fun hac hbc => ?_⟩⟩, fun s no w => ⟨slewOne_there, slewOne_stands, fun honce hlimit hserve => ?_⟩⟩
  · rw [agree_three hab, if_pos ⟨hac, hle⟩]
  · rw [agree_three hab, if_neg fun h => Nat.not_le.2 hlt h.2, if_pos hbc]
  · rw [agree_three hab, if_neg fun h => Nat.not_le.2 hac h.1, if_neg (Nat.not_le.2 hbc)]
  · rw [slewOne_moves honce hlimit hserve]
    have hle : moveOf s no w ≤ distOf w := Nat.min_le_right ..
    by_cases hmove : moveOf s no w = distOf w
    · rw [if_pos hmove]
      exact ⟨fun _ => slewMove_reached hmove, fun e he => absurd he nofun⟩
    · rw [if_neg hmove]
      refine ⟨fun h => absurd h nofun, fun e he => ?_⟩
      obtain rfl := Option.some.inj he
      obtain ⟨hexchange, hrest⟩ := slewMove_exchange (slewUnit_pos ..) hmove
      obtain ⟨hmoved, hleft⟩ := slewToward_between hle
      refine ⟨rfl, rfl, ?_, hrest, ?_⟩
      · exact (congrArg (· * 10240 + _) hmoved).trans hexchange
      · exact (congrArg₂ (· + ·) hmoved hleft).trans (Nat.add_sub_cancel' hle)

end Sys2Proof.Proofs
end

section
/-!
The rules of a foreground run's start and of CAL_ABORT: what claims, holds and queued runs leave as they were (R265, R276, R280).
-/
namespace Sys2Proof.Proofs
open Sys2Proof Sys2Proof.Machine Sys2Proof.Laws

theorem forNat_view {β : Type} (v : State → β) {f : Nat → State → State} (h : ∀ k s, v (f k s) = v s) (n : Nat)
    (s : State) : v (forNat n f s) = v s := by
  induction n with
  | zero => rfl
  | succ n ih => rw [forNat, h, ih]

@[simp] theorem reply_chs (s : State) (r : Req) (op st dt : Nat) (data : List PWord) :
    (reply s r op st dt data).chs = s.chs := send_chs ..
@[simp] theorem reply_cal (s : State) (r : Req) (op st dt : Nat) (data : List PWord) :
    (reply s r op st dt data).cal = s.cal := send_cal ..

/-! ## Claims (R255, R265) -/

section
variable (s : State)

/-- DAC k in the hands of calibration. -/
def claimDac (k : Nat) (s : State) : State := setTdac s k { tdac s k with holder := .calibration }
theorem claimDacs_eq : claimDacs s = forNat 12 claimDac s := by
  unfold claimDacs claimDac
  rfl
theorem forNat_claimDac_frame (n : Nat) : forNat n claimDac s =
    { s with mon := { s.mon with dacs := (forNat n claimDac s).mon.dacs } } := by
  induction n with
  | zero => rfl
  | succ n ih =>
    rw [forNat, ih]
    rfl
theorem claimDacs_frame : claimDacs s = { s with mon := { s.mon with dacs := (claimDacs s).mon.dacs } } := by
  rw [claimDacs_eq]
  exact forNat_claimDac_frame s 12
theorem holder_forNat_claimDac {n k : Nat} (h : k < n) : (tdac (forNat n claimDac s) k).holder = .calibration := by
  induction n with
  | zero => exact absurd h (Nat.not_lt_zero k)
  | succ n ih =>
    rw [forNat, claimDac, tdac_setTdac]
    split
    · rfl
    · next hne => exact ih (by omega)
theorem holder_claimDacs {k : Nat} (h : k < 12) : (tdac (claimDacs s) k).holder = .calibration := by
  rw [claimDacs_eq]
  exact holder_forNat_claimDac s h
/-- Which channels are enabled is no matter of the monitor path. -/
theorem enabled_claimDacs (c : Nat) : enabled (claimDacs s) c = enabled s c := by
  have hcfg : (claimDacs s).cfg = s.cfg := by rw [claimDacs_frame]
  have hchs : (claimDacs s).chs = s.chs := by rw [claimDacs_frame]
  rw [enabled, enabled, chConfig, chConfig, fusedOdd, fusedOdd, fused, fused, reg_eq_of_cfg hcfg, chan_of_chs hchs]

/-- The channels, the calibration and the test DACs: a converter's claim is none of them. -/
def claimView (s : State) : PMap Channel × Cal × PMap Tdac := (s.chs, s.cal, s.mon.dacs)
theorem claimView_eq {s t : State} (h : claimView t = claimView s) :
    t.chs = s.chs ∧ t.cal = s.cal ∧ t.mon.dacs = s.mon.dacs := by
  simpa only [claimView, Prod.mk.injEq] using h
theorem claimView_claimConverter (k : Nat) : claimView (claimConverter s k) = claimView s := by
  rw [claimConverter_eq, forNat_staleLocal_frame]
  rfl
theorem claimView_requestClaim (k : Nat) : claimView (requestClaim s k) = claimView s := by
  unfold requestClaim
  rw [apply_ite claimView, claimView_claimConverter]
  exact ite_self _
theorem claimView_requestUnless (p : State → Nat → Bool) (k : Nat) :
    claimView (if p s k then s else requestClaim s k) = claimView s := by
  split
  · rfl
  · exact claimView_requestClaim ..

/-! ## Holds (R279) -/

theorem held_holdChannel (c d : Nat) : (chan (holdChannel s d) c).held = (decide (c = d) || (chan s c).held) := by
  by_cases h : c = d
  · subst h
    rw [chan_holdChannel_same]
    simp
  · have hother : chan (holdChannel s d) c = chan s c := chan_setChan_other _ _ h
    simp [hother, h]
theorem held_foldl_holdChannel (l : List Nat) (c : Nat) :
    (chan (l.foldl holdChannel s) c).held = (decide (c ∈ l) || (chan s c).held) := by
  induction l generalizing s with
  | nil => simp
  | cons d l ih =>
    rw [List.foldl_cons, ih, held_holdChannel]
    simp only [List.mem_cons, Bool.decide_or, Bool.or_left_comm, Bool.or_assoc]
/-- Noting the quiet of a channel holds none and lets none go. -/
theorem held_noteQuiet (c d : Nat) : (chan (noteQuiet s d) c).held = (chan s c).held := by
  unfold noteQuiet
  rw [chan_setChan]
  split
  · next h => rw [h]
  · rfl
theorem held_beginMeasurement (c : Nat) : (chan (beginMeasurement s) c).held = (chan s c).held := by
  unfold beginMeasurement
  split
  · rfl
  split
  · rfl
  · exact foldl_view (fun s => (chan s c).held) (fun s d => held_noteQuiet s c d) _ _

/-! ## A foreground run begins (R276, R279, R282) -/

/-- The run as it begins. -/
def foregroundRun (s : State) (x : Run) : Run := { x with tol := tolerances s, held := runHolds s .foreground 0 }
/-- Its channels held. -/
def foregroundHeld (s : State) (x : Run) : State :=
  ((foregroundRun s x).held.filter (· < 192)).foldl holdChannel
    { s with cal := { s.cal with run := some (foregroundRun s x), queued := none } }
/-- Its converters asked for. -/
def foregroundClaimed (s : State) (x : Run) : State :=
  forNat 8 (fun k s => if convFenced s k || (mc s k).claimed then s else requestClaim s k) (foregroundHeld s x)
variable (x : Run)
theorem beginForeground_eq : beginForeground s x = beginMeasurement (foregroundClaimed s x) := rfl
theorem claimView_foregroundClaimed : claimView (foregroundClaimed s x) = claimView (foregroundHeld s x) :=
  forNat_view claimView (fun k s => claimView_requestUnless s (fun s k => convFenced s k || (mc s k).claimed) k) 8 _
theorem foregroundClaimed_run : (foregroundClaimed s x).cal.run = some (foregroundRun s x) := by
  obtain ⟨-, hcal, -⟩ := claimView_eq (claimView_foregroundClaimed s x)
  rw [hcal]
  exact foldl_view (fun s => s.cal.run) (f := holdChannel) (fun _ _ => rfl) _ _
theorem beginForeground_run : ∃ y, (beginForeground s x).cal.run = some y ∧ y.kind = x.kind ∧ y.req = x.req := by
  obtain ⟨b, hrun⟩ := beginMeasurement_run (foregroundClaimed_run s x)
  exact ⟨_, hrun, rfl, rfl⟩
theorem beginForeground_holds {c : Nat} (hc : c < 192) (he : enabled s c = true) :
    (chan (beginForeground s x) c).held = true := by
  obtain ⟨hchs, -⟩ := claimView_eq (claimView_foregroundClaimed s x)
  have hmem : c ∈ (foregroundRun s x).held.filter (· < 192) := by
    simp [foregroundRun, runHolds, hc, he]
  rw [beginForeground_eq, held_beginMeasurement, chan_of_chs hchs, foregroundHeld, held_foldl_holdChannel,
    decide_eq_true hmem, Bool.true_or]
theorem tdac_beginForeground (k : Nat) : tdac (beginForeground s x) k = tdac s k := by
  obtain ⟨-, -, hdacs⟩ := claimView_eq (claimView_foregroundClaimed s x)
  rw [beginForeground_eq, beginMeasurement_frame]
  change pget Tdac.dflt (foregroundClaimed s x).mon.dacs k = _
  rw [hdacs]
  exact foldl_view (fun s => tdac s k) (fun s c => tdac_holdChannel s c k) _ _

/-! ## DACs and queued runs are let go (R265, R280) -/

theorem beginCheck_cal : (beginCheck s).cal = s.cal := by
  unfold beginCheck
  split <;> rfl
theorem serveDac_cal (k : Nat) (l : List DacClaim) : (serveDac s k l).cal = s.cal := by
  induction l generalizing s with
  | nil => rfl
  | cons a l ih =>
    cases a with
    | check =>
      rw [serveDac_check]
      split
      · exact beginCheck_cal _
      · rfl
    | host r ch low code => exact ih (driveDac s k r ch low code)
theorem freeDacs_cal : (freeDacs s).cal = s.cal := by
  rw [freeDacs_eq]
  refine forNat_view State.cal (fun k s => ?_) 12 s
  unfold freeCalDac
  split
  · rw [freeDac_eq, serveDac_cal]
    rfl
  · rfl
theorem calOutcome_cal (r : Option Req) (st : Nat × Nat) : (calOutcome s r st).cal = s.cal := by
  unfold calOutcome
  split
  · exact send_cal ..
  · rfl
/-- A queued run leaves nothing in the calibration behind but its place. -/
theorem dropQueued_cal : (dropQueued s).cal = { s.cal with queued := none } := by
  unfold dropQueued
  split
  · next h => rw [← h]
  · dsimp only
    rw [calOutcome_cal]
    split
    · rw [freeDacs_cal]
      exact forNat_view State.cal (fun k s => by rw [releaseClaim_frame]) 8 _
    · rfl

end

end Sys2Proof.Proofs
end

section
/-!
O33: CAL_START of each kind, CAL_ABORT and CAL_STATUS (R275, R276, R279, R280, Table 11.8).
-/
namespace Sys2Proof.Proofs
open Sys2Proof Sys2Proof.Machine Sys2Proof.Laws

section
variable {s : State} {r : Req} (mask : BitVec 12)

/-! ## CAL_START of a foreground run (R275, R276) -/

/-- The state in which an accepted foreground run waits behind an injected conversion. -/
def foregroundQueued (s : State) (x : Run) : State :=
  forNat 8 (fun k s => if convFenced s k then s else requestClaim s k)
    (claimDacs { s with cal := { s.cal with queued := some x } })
theorem claimView_foregroundQueued (s : State) (x : Run) : claimView (foregroundQueued s x) =
    claimView (claimDacs { s with cal := { s.cal with queued := some x } }) :=
  forNat_view claimView (fun k s => claimView_requestUnless s convFenced k) 8 _
theorem foregroundQueued_keeps (s : State) (x : Run) : (foregroundQueued s x).chs = s.chs ∧
    (foregroundQueued s x).cal = { s.cal with queued := some x } := by
  obtain ⟨hchs, hcal, -⟩ := claimView_eq (claimView_foregroundQueued s x)
  rw [claimDacs_frame] at hchs hcal
  exact ⟨hchs, hcal⟩

section
variable (hs : Served s r 0x40) (h0 : bitAt mask.toNat 0 = false)
include hs h0
theorem exec_calStartForeground_elsewhere (hcur : s.modes.cur ≠ .cal) :
    exec (.calStartForeground r mask) s = .next (reply s r 0x40 7 (modeByte s) []) := by
  change execCalStartForeground r mask s = _
  rw [execCalStartForeground, granger_served hs]
  dsimp only
  rw [h0, if_neg Bool.false_ne_true, if_pos hcur]
  rfl

variable (hcur : s.modes.cur = .cal) (hhost : hostRun s = false) (hdac : ∀ d ∈ s.mon.dacs, d.2.holder ≠ .host)
  (hipc : s.mon.ipc = none)
include hcur hhost hdac hipc
/-- Behind the checks only injected conversions decide. -/
theorem exec_calStartForeground : exec (.calStartForeground r mask) s = .next
    (if (List.range 8).any (fun k => injectedPending s k) then
      reply (foregroundQueued s (newRun s .foreground (some r) false mask.toNat 0)) r 0x40 2 0 []
    else replyOk (beginForeground (claimDacs s) (newRun s .foreground (some r) false mask.toNat 0)) r 0x40 []) := by
  have hany : (s.mon.dacs.any fun d => decide (d.2.holder = DacHolder.host)) = false := by
    simpa using fun a b hab => hdac (a, b) hab
  change execCalStartForeground r mask s = _
  rw [execCalStartForeground, granger_served hs]
  dsimp only
  rw [h0, if_neg Bool.false_ne_true, if_neg (not_not_intro hcur), hhost, if_neg Bool.false_ne_true, hany,
    if_neg Bool.false_ne_true, hipc, if_neg (by decide)]
  rfl
theorem exec_calStartForeground_begins (hinj : ∀ k < 8, injectedPending s k = false) :
    exec (.calStartForeground r mask) s = .next
      (replyOk (beginForeground (claimDacs s) (newRun s .foreground (some r) false mask.toNat 0)) r 0x40 []) := by
  rw [exec_calStartForeground mask hs h0 hcur hhost hdac hipc, if_neg]
  simpa using hinj
theorem exec_calStartForeground_waits (hinj : ∃ k < 8, injectedPending s k = true) :
    exec (.calStartForeground r mask) s = .next
      (reply (foregroundQueued s (newRun s .foreground (some r) false mask.toNat 0)) r 0x40 2 0 []) := by
  rw [exec_calStartForeground mask hs h0 hcur hhost hdac hipc, if_pos]
  simpa using hinj
end

/-! ## CAL_START of gleaning runs (R275) -/

theorem exec_calStartGleanChannel {c : Byte} (hs : Served s r 0x40) (hserve : serviceMode s.modes.cur = true)
    (hc : c.toNat < 192) (he : enabled s c.toNat = true) (hf : fencedChannel s c.toNat = false)
    (hmask : mask.toNat &&& gleanSteps = mask.toNat) (hhost : hostRun s = false) :
    exec (.calStartGleanChannel r c mask) s = .next (replyOk { s with cal := { s.cal with
      queued := some (newRun s .gleanCh (some r) false mask.toNat c.toNat) } } r 0x40 []) := by
  change execCalStartGleanChannel r c mask s = _
  rw [execCalStartGleanChannel, granger_served hs]
  dsimp only
  rw [if_neg (by simp [hc, he, hf]), if_neg (not_not_intro hmask), hserve, hhost]
  rfl
/-- The host's sweep as it begins. -/
def hostSweep (r : Req) (mask : Nat) : Sweep :=
  { next := 0, mask := mask, req := some r, status := 0, detail := 0, paused := false }
/-- A device's run goes on outside the host's sweep. -/
def sweepStarted (s : State) (w : Sweep) (due : Nat) : State :=
  let s := match s.cal.run with
    | some x => setRun s (some { x with sweep := false })
    | none => s
  { s with cal := { s.cal with sweep := some w, sweepDue := due } }
theorem exec_calStartGleanSweep (hs : Served s r 0x40) (hserve : serviceMode s.modes.cur = true)
    (hmask : mask.toNat &&& (gleanSteps + 2) = mask.toNat) (hhost : hostRun s = false) :
    exec (.calStartGleanSweep r mask) s = .next (replyOk (sweepStarted s (hostSweep r mask.toNat)
      (s.tb.up + bits (reg s A_CAL_GLEAN_CTRL 0) 23 8 * Config.beatsPerSecond)) r 0x40 []) := by
  change execCalStartGleanSweep r mask s = _
  rw [execCalStartGleanSweep, granger_served hs]
  dsimp only
  rw [if_neg (not_not_intro hmask), hserve, hhost]
  rfl

/-! ## CAL_ABORT (R280) -/

/-- The run in progress is one of the sweep's. -/
def sweepRuns (s : State) : Bool := s.cal.run.isSome && (match s.cal.run with | some x => x.sweep | none => false)
/-- The sweep stops: with its run in progress, or at once with its outcome. -/
def sweepStopped (s : State) : State :=
  match s.cal.sweep with
  | some w =>
    if sweepRuns s then { s with cal := { s.cal with sweep := some { w with paused := true } } }
    else calOutcome { s with cal := { s.cal with sweep := some { w with paused := true, req := none } } } w.req (0x0C, 0)
  | none => s
/-- The run in progress ends at a boundary to come. -/
def abortedRun (dk : Nat) (x : Run) : Run := { x with aborting := some (x.aborting.getD dk) }
def runStopped (s : State) : State :=
  match s.cal.run with
  | some x => setRun s (some (abortedRun s.tb.dk x))
  | none => s
theorem exec_calAbort (hs : Served s r 0x41) :
    exec (.calAbort r) s = .next (replyOk (runStopped (sweepStopped (dropQueued s))) r 0x41 []) := by
  change execCalAbort r s = _
  rw [execCalAbort, granger_served hs]
  rfl

variable (s)
theorem sweepStopped_cal : (sweepStopped s).cal = { s.cal with sweep := (sweepStopped s).cal.sweep } := by
  unfold sweepStopped
  split
  · split
    · rfl
    · rw [calOutcome_cal]
  · rfl
theorem runStopped_queued : (runStopped s).cal.queued = s.cal.queued := by
  unfold runStopped
  split <;> rfl
theorem runStopped_run : (runStopped s).cal.run = s.cal.run.map (abortedRun s.tb.dk) := by
  unfold runStopped
  split
  · next h => rw [h]; rfl
  · next h => rw [h]; rfl
/-- CAL_ABORT leaves no queued run, and stops the run that is in progress. -/
theorem calAborted : ∃ dk, (runStopped (sweepStopped (dropQueued s))).cal.queued = none ∧
    (runStopped (sweepStopped (dropQueued s))).cal.run = s.cal.run.map (abortedRun dk) := by
  rw [runStopped_queued, runStopped_run, sweepStopped_cal, dropQueued_cal]
  exact ⟨_, rfl, rfl⟩

end

theorem exec_calStatus {s : State} {r : Req} (hs : Served s r 0x42) : exec (.calStatus r) s = .next (reply s r 0x42 0 0
    (valueWords 1 (calRunStatus s) ++ valueWords 2 (seedStatus s) ++ valueWords 2 (calQuality s 255))) := by
  change execCalStatus r s = _
  rw [execCalStatus, granger_served hs]
  rfl

/-- Settles O33: each command behind its checks; a foreground run's start reads what holds and claims leave. -/
theorem calibrationCommands : Obligations.CalibrationCommands := by
  refine ⟨fun r mask s hs hcur h0 hhost hdac hipc => ⟨fun hinj => ?_, fun hinj => ?_⟩,
    fun r mask s hs h0 hcur => exec_calStartForeground_elsewhere mask hs h0 hcur,
    fun r c mask s hs hserve hc he hf hmask hhost => ?_, fun r mask s hs hserve hmask hhost => ?_, fun r s hs => ?_,
    fun r s hs => exec_calStatus hs⟩
  · obtain ⟨y, hrun, hkind, hreq⟩ := beginForeground_run (claimDacs s) (newRun s .foreground (some r) false mask.toNat 0)
    refine ⟨_, y, exec_calStartForeground_begins mask hs h0 hcur hhost hdac hipc hinj, ?_, hkind, hreq, fun c hc he => ?_,
      fun k hk => ?_, replyMsg_mem_msgsOf_reply ..⟩
    · rw [replyOk, reply_cal]
      exact hrun
    · rw [replyOk, chan_of_chs (reply_chs ..)]
      exact beginForeground_holds _ _ hc ((enabled_claimDacs s c).trans he)
    · rw [replyOk, tdac_of_mon (reply_mon ..), tdac_beginForeground, holder_claimDacs s hk]
  · obtain ⟨hchs, hcal⟩ := foregroundQueued_keeps s (newRun s .foreground (some r) false mask.toNat 0)
    refine ⟨_, newRun s .foreground (some r) false mask.toNat 0,
      exec_calStartForeground_waits mask hs h0 hcur hhost hdac hipc hinj, ?_⟩
    rw [reply_cal, reply_chs, hcal]
    exact ⟨rfl, rfl, rfl, hchs, replyMsg_mem_msgsOf_reply ..⟩
  · refine ⟨_, newRun s .gleanCh (some r) false mask.toNat c.toNat,
      exec_calStartGleanChannel mask hs hserve hc he hf hmask hhost, ?_⟩
    rw [replyOk, reply_cal]
    exact ⟨rfl, rfl, rfl, rfl, rfl, replyMsg_mem_msgsOf_reply ..⟩
  · refine ⟨_, hostSweep r mask.toNat, exec_calStartGleanSweep mask hs hserve hmask hhost, ?_⟩
    rw [replyOk, reply_cal]
    exact ⟨rfl, rfl, rfl, rfl, replyMsg_mem_msgsOf_reply ..⟩
  · obtain ⟨dk, hqueued, hrun⟩ := calAborted s
    refine ⟨_, exec_calAbort hs, ?_⟩
    rw [replyOk, reply_cal, hqueued, hrun]
    refine ⟨rfl, replyMsg_mem_msgsOf_reply .., fun x hx => ?_, fun hnone => by rw [hnone]; rfl⟩
    obtain ⟨y, -, rfl⟩ := Option.map_eq_some_iff.1 hx
    rfl

end Sys2Proof.Proofs
end

section
/-!
O36: SEED_READ replies the bytes as they lie (R300), and the Seed Store's clock domain runs for it (Table 14.1), which is
noted in the state.
-/
namespace Sys2Proof.Proofs
open Sys2Proof Sys2Proof.Machine Sys2Proof.Laws

/-- The domain of the Seed Store has run in this deckle. -/
def seedClockRan (s : State) : State := { s with clk := { s.clk with ran := s.clk.ran ||| BitVec.ofNat 44 (2 ^ 37) } }
theorem exec_seedRead {r : Req} {b : BitVec 1} {o : BitVec 16} {n : BitVec 11} {s : State} (hs : Served s r 0x44)
    (h1 : 1 ≤ n.toNat) (h2 : n.toNat ≤ 1024) (h3 : o.toNat + n.toNat ≤ 65536) :
    exec (.seedRead r b o n) s = .next (reply (seedClockRan s) r 0x44 0 0
      (toWords ((n.toNat + 3) / 4) (memReads 0xFF (seedBank s b.toNat) o.toNat n.toNat))) := by
  change execSeedRead r b o n s = _
  rw [execSeedRead, granger_served hs]
  dsimp only
  rw [if_neg (by simp only [Bool.or_eq_true, decide_eq_true_eq]; omega)]
  rfl

/-- Calibration mode, every supply good, and no clock domain noted as run in this deckle. -/
def stillState : State :=
  { State.reset with
    modes := { State.reset.modes with cur := .cal }
    pwr := { State.reset.pwr with powerGood := true, good := [.vddAon, .vddio, .vddCore, .vddMem, .avdd, .vddSd, .vddaSd] } }
def seedReader : Req := { port := .spi, tag := 0 }
theorem served_stillState : Served stillState seedReader 0x44 := by
  unfold Served
  decide

/-- Refutes O36: its clause on SEED_READ has the reply as the only change, and in `stillState`, where no domain has run, the
read of one byte notes the Seed Store's. -/
theorem not_seedStore : ¬ Obligations.SeedStore := by
  rintro ⟨-, -, -, hread, -⟩
  have hstill := hread seedReader 0 0 1 stillState served_stillState (by decide) (by decide) (by decide)
  rw [exec_seedRead served_stillState (by decide) (by decide) (by decide)] at hstill
  have hran := congrArg (fun t => t.clk.ran) (Host.Outcome.next.inj hstill)
  simp only [reply, send_clk] at hran
  exact absurd hran (by decide)

end Sys2Proof.Proofs
end

section
/-!
O37: staging, patches, their withdrawal, the check of a staged image, and MOULD_INFO (R311 to R315, R326).
-/
namespace Sys2Proof.Proofs
open Sys2Proof Sys2Proof.Machine Sys2Proof.Laws

/-! ## A reply leaves the moulds -/

@[simp] theorem reply_md (s : State) (r : Req) (op st dt : Nat) (data : List PWord) :
    (reply s r op st dt data).md = s.md := send_md ..
@[simp] theorem closeCmd_md (s : State) (r : Req) (op st dt : Nat) (data : List PWord) :
    (closeCmd s r op st dt data).md = s.md := faultOnly_md (faultOnly_closeCmd ..)

/-! ## Staging (R311 to R314) -/

section
variable {s : State} {r : Req} {op : Nat} {first : Bool} (k : State → State)

theorem stagingHeld_pending (hport : bootPortWrong s r.port = false) (hidle : s.md.checking = none)
    (hst : s.md.stage = .pending) : stagingHeld s r op first k = reply s r op 1 0x23 [] := by
  simp [stagingHeld, hport, hidle, hst, replyBusy]
theorem stagingHeld_nothing (hport : bootPortWrong s r.port = false) (hidle : s.md.checking = none)
    (hst : s.md.stage = .empty) : stagingHeld s r op false k = reply s r op 0x0A 0 [] := by
  simp [stagingHeld, hport, hidle, hst]
theorem stagingHeld_free (hport : bootPortWrong s r.port = false) (hidle : s.md.checking = none)
    (hst : s.md.stage ≠ .pending) (hfirst : first = true ∨ s.md.stage ≠ .empty) : stagingHeld s r op first k = k s := by
  rcases hfirst with hf | hf <;> simp [stagingHeld, hport, hidle, hst, hf]

end

/-- A staging command that was served has put `c` into the shadow copy, and is replied. -/
def Restaged (s : State) (r : Req) (op : Nat) (c : Copy) (st : Staging) (t : State) : Prop :=
  t.md.shadow = c ∧ t.md.stage = st ∧ t.md.active = s.md.active ∧ t.cfg = s.cfg ∧ replyMsg r op 0 0 [] ∈ msgsOf t r.port
/-- Step 5 of a host boot begins at most a check (R416). -/
theorem autoCheck_frame (s : State) :
    autoCheck s = { s with md := { s.md with checking := (autoCheck s).md.checking } } := by
  unfold autoCheck
  split <;> rfl
theorem restaged_replies (s : State) (r : Req) (op : Nat) (c : Copy) (st : Staging) :
    Restaged s r op c st (autoCheck (replyOk (restaged s c st) r op [])) := by
  have hreply : replyMsg r op 0 0 [] ∈ msgsOf (replyOk (restaged s c st) r op []) r.port := replyMsg_mem_msgsOf_reply ..
  have hmd : (replyOk (restaged s c st) r op []).md = (restaged s c st).md := reply_md ..
  rw [autoCheck_frame]
  dsimp only [Restaged]
  rw [hmd]
  exact ⟨rfl, rfl, rfl, reply_cfg .., hreply⟩

theorem exec_stageBytes {s : State} {r : Req} {o : BitVec 20} {bs : List Byte} {first : Bool} {i : Instr}
    (hs : Served s r 0x20) (hi : i = if first then .stageMouldFirst r o bs else .stageMould r o bs) :
    exec i s = .next (stageBytes s r first o.toNat bs) := by
  subst hi
  cases first
  · change execStageMould r o bs s = _
    rw [execStageMould, granger_served hs]
  · change execStageMouldFirst r o bs s = _
    rw [execStageMouldFirst, granger_served hs]
theorem stageBytes_fits (s : State) (r : Req) (first : Bool) {o : Nat} {bs : List Byte} (ho : o % 8 = 0)
    (hn : bs.length % 8 = 0) (h1 : 1 ≤ bs.length) (h2 : bs.length ≤ 1024) (h3 : o + bs.length ≤ 1048576) :
    stageBytes s r first o bs = stagingHeld s r 0x20 first fun s =>
      let c := copyPut (if first then emptyCopy else s.md.shadow) o bs
      autoCheck (replyOk (restaged s c (if copyComplete c then .staged else .loading)) r 0x20 []) := by
  unfold stageBytes
  dsimp only
  rw [if_neg (by simp only [Bool.or_eq_true, decide_eq_true_eq]; omega),
    if_neg (by simp only [Bool.or_eq_true, decide_eq_true_eq]; omega)]

theorem exec_stagePatchFirst {s : State} {r : Req} {dg : List Byte} {es : List Edit} (hs : Served s r 0x21)
    (he : badEdit 36 es = none) (hport : bootPortWrong s r.port = false) (hidle : s.md.checking = none)
    (hst : s.md.stage ≠ .pending) {c : Copy} (hc : s.md.active = some c) :
    exec (.stagePatchFirst r dg es) s = .next (if copyDigest c = dg
      then autoCheck (replyOk (restaged s (applyEdits c es) .staged) r 0x21 []) else reply s r 0x21 9 0x25 []) := by
  change execStagePatchFirst r dg es s = _
  rw [execStagePatchFirst, granger_served hs, he]
  dsimp only
  rw [stagingHeld_free _ hport hidle hst (.inl rfl), hc]
theorem exec_stagePatch {s : State} {r : Req} {es : List Edit} (hs : Served s r 0x21) (he : badEdit 4 es = none)
    (hport : bootPortWrong s r.port = false) (hidle : s.md.checking = none) (hst : s.md.stage ≠ .pending)
    (hfull : s.md.stage ≠ .empty) :
    exec (.stagePatch r es) s = .next (autoCheck (replyOk (restaged s (applyEdits s.md.shadow es) .staged) r 0x21 [])) := by
  change execStagePatch r es s = _
  rw [execStagePatch, granger_served hs, he]
  dsimp only
  rw [stagingHeld_free _ hport hidle hst (.inr hfull)]

/-- DISCARD_STAGED first cancels the pending couch (R321). -/
def couchWithdrawn (s : State) : State :=
  match s.md.couch with
  | some c => endSuspension (failCouch s c 0x0C 0 .empty false)
  | none => s
theorem couchWithdrawn_md (s : State) : (couchWithdrawn s).md.couch = none ∧
    (couchWithdrawn s).md.active = s.md.active ∧ ∀ c, s.md.couch = some c → (couchWithdrawn s).md.lastStatus = 0x0C := by
  unfold couchWithdrawn
  cases hc : s.md.couch with
  | none => exact ⟨hc, rfl, nofun⟩
  | some c =>
    dsimp only [endSuspension]
    rw [failCouch_md]
    exact ⟨rfl, rfl, fun _ _ => rfl⟩
theorem exec_discardStaged {s : State} {r : Req} (hs : Served s r 0x24) (hidle : s.md.checking = none) :
    exec (.discardStaged r) s = .next (reply (shadowEmpty (couchWithdrawn s)) r 0x24 0 0 []) := by
  change execDiscardStaged r s = _
  rw [execDiscardStaged, granger_served hs, hidle]
  rfl

/-! ## The check (R315) -/

theorem exec_checkStaged {s : State} {r : Req} (hs : Served s r 0x22) (hidle : s.md.checking = none) :
    exec (.checkStaged r) s = .next (match s.md.stage with
      | .pending => reply s r 0x22 1 0x23 []
      | .empty => reply s r 0x22 0x0A 0 []
      | .loading => reply s r 0x22 0x0A 1 []
      | _ => opening s r 0x22 0 fun s => { s with md := { s.md with checking := some (some r) } }) := by
  change execCheckStaged r s = _
  rw [execCheckStaged, granger_served hs, hidle]
  cases s.md.stage <;> rfl
theorem exec_checkStaged_begins {s : State} {r : Req} (hs : Served s r 0x22) (hidle : s.md.checking = none)
    (hst : s.md.stage = .staged ∨ s.md.stage = .checked ∨ s.md.stage = .failed) (ho : s.cmd.outst.length < 16) :
    exec (.checkStaged r) s =
      .next { openCmd s r 0x22 0 with md := { s.md with checking := some (some r) } } := by
  rw [exec_checkStaged hs hidle, opening_ready ho]
  rcases hst with h | h | h <;> rw [h] <;> rfl
/-- The check has ended with this first broken rule, if one is broken. -/
def checkEnded (s : State) (f : Option Broken) : State :=
  { s with md := { s.md with checking := none, check := checkWord f, stage := if f.isNone then .checked else .failed } }
theorem exec_mouldCheckComplete {s : State} {r : Req} (h : s.md.checking = some (some r)) :
    exec .mouldCheckComplete s = .next (let t := checkEnded s (checkImage s s.md.shadow)
      match checkImage s s.md.shadow with
      | none => closeCmd t r 0x22 0 0 []
      | some b => closeCmd t r 0x22 0x09 b.rule (valueWords 2 t.md.check.toNat)) := by
  change execMouldCheckComplete s = _
  unfold execMouldCheckComplete
  rw [h]
  cases checkImage s s.md.shadow <;> rfl
/-- `MD_CHECK_RESULT` begins with the code of the rule (Table 10.9). -/
theorem checkWord_rule (b : Broken) : (checkWord (some b)).toNat % 256 = b.rule % 256 := by
  simp only [checkWord, BitVec.toNat_ofNat]
  omega

/-- Settles O37: each command by what serves it, and the end of the check by its result. -/
theorem mouldStaging : Obligations.MouldStaging := by
  refine ⟨⟨?staging, ?patchFirst, ?patch, ?discard⟩, ?begins, ?ends, ?info⟩
  case staging =>
    intro r o bs first i s hs hi ho hn h1 h2 h3 hport hidle
    rw [exec_stageBytes hs hi, stageBytes_fits s r first ho hn h1 h2 h3]
    refine ⟨fun hst => ?_, fun hf hst => ?_, fun hst hfirst => ?_⟩
    · rw [stagingHeld_pending _ hport hidle hst]
    · subst hf
      rw [stagingHeld_nothing _ hport hidle hst]
    · rw [stagingHeld_free _ hport hidle hst hfirst]
      exact ⟨_, _, rfl, rfl, restaged_replies ..⟩
  case patchFirst =>
    intro r dg es c s hs he hport hidle hst hc
    rw [exec_stagePatchFirst hs he hport hidle hst hc]
    refine ⟨fun hdg => by rw [if_neg hdg], fun hdg => ?_⟩
    obtain ⟨hshadow, hstage, hactive, -, hreply⟩ := restaged_replies s r 0x21 (applyEdits c es) .staged
    rw [if_pos hdg]
    exact ⟨_, rfl, hshadow, hstage, hactive.trans hc, hreply⟩
  case patch =>
    intro r es s hs he hport hidle hst hfull
    obtain ⟨hshadow, hstage, hactive, -, hreply⟩ := restaged_replies s r 0x21 (applyEdits s.md.shadow es) .staged
    exact ⟨_, exec_stagePatch hs he hport hidle hst hfull, hshadow, hstage, hactive, hreply⟩
  case discard =>
    intro r s hs hidle
    obtain ⟨hcouch, hactive, hstatus⟩ := couchWithdrawn_md s
    refine ⟨_, exec_discardStaged hs hidle, ?_⟩
    rw [reply_md]
    exact ⟨rfl, rfl, hcouch, hactive, replyMsg_mem_msgsOf_reply .., hstatus⟩
  case begins =>
    intro r s hs hidle
    refine ⟨fun h => ?_, fun h => ?_, fun h => ?_, fun h ho => ?_⟩
    · rw [exec_checkStaged hs hidle, h]
    · rw [exec_checkStaged hs hidle, h]
    · rw [exec_checkStaged hs hidle, h]
    · exact ⟨_, exec_checkStaged_begins hs hidle h ho, rfl, rfl, rfl, rfl⟩
  case ends =>
    intro r s h
    refine ⟨_, exec_mouldCheckComplete h, ?_⟩
    cases checkImage s s.md.shadow with
    | none =>
      dsimp only
      rw [closeCmd_md]
      exact ⟨rfl, rfl, rfl, rfl, closeCmd_replies ..⟩
    | some b =>
      dsimp only
      rw [closeCmd_md]
      exact ⟨rfl, rfl, rfl, checkWord_rule b, closeCmd_replies ..⟩
  case info =>
    intro r s hs
    change execMouldInfo r s = _
    rw [execMouldInfo, granger_served hs]
    rfl

end Sys2Proof.Proofs
end

section
/-!
What the blocks that take a couch's values leave of the moulds, the schedule table and the Barns (Table 10.7, R319).
-/
namespace Sys2Proof.Proofs
open Sys2Proof Sys2Proof.Machine Sys2Proof.Laws

/-! ## How an operation is taken apart -/

/-- The moulds, the schedule table in force and the Barns. -/
def moulds (s : State) : Md × PMap Byte × Barns := (s.md, s.mg.sched, s.barns)

theorem moulds_eq {s t : State} (h : moulds t = moulds s) : t.md = s.md ∧ t.mg.sched = s.mg.sched ∧ t.barns = s.barns := by
  simpa only [moulds, Prod.mk.injEq] using h
theorem moulds_of_faultOnly {s t : State} (h : FaultOnly s t) : moulds t = moulds s := by rw [h.1]; rfl
@[simp] theorem moulds_mk (pending cmd modes pwr flt barns chs stooks gran thr tb lanes dls mg mon cal md clk nl tap cfg
    cfgPrev couchUp tal talOld talNew once free) :
    moulds (State.mk pending cmd modes pwr flt barns chs stooks gran thr tb lanes dls mg mon cal md clk nl tap cfg cfgPrev
      couchUp tal talOld talNew once free) = (md, mg.sched, barns) := (rfl)
@[simp] theorem moulds_eta (s : State) : (s.md, s.mg.sched, s.barns) = moulds s := (rfl)
@[simp] theorem moulds_ite (c : Prop) [Decidable c] (a b : State) :
    moulds (if c then a else b) = if c then moulds a else moulds b := by split <;> rfl
@[simp] theorem moulds_forNat (n : Nat) (f : Nat → State → State) (s : State) (h : ∀ k x, moulds (f k x) = moulds x) :
    moulds (forNat n f s) = moulds s := forNat_view moulds h n s
@[simp] theorem moulds_foldl {α : Type} (l : List α) (f : State → α → State) (s : State)
    (h : ∀ x a, moulds (f x a) = moulds x) : moulds (l.foldl f s) = moulds s := foldl_view moulds h l s

section
variable (s : State)

/-! ## Sheaves, channels and lanes -/

@[simp] theorem moulds_pushSheaf (x : Sheaf) : moulds (pushSheaf s x) = moulds s := by simp [pushSheaf]
@[simp] theorem moulds_count (id inst hi lo n : Nat) : moulds (count s id inst hi lo n) = moulds s := (rfl)
@[simp] theorem moulds_setChan (c : Nat) (x : Channel) : moulds (setChan s c x) = moulds s := (rfl)
@[simp] theorem moulds_setLane (u : Nat) (x : Uplane) : moulds (setLane s u x) = moulds s := (rfl)
@[simp] theorem moulds_setMc (k : Nat) (x : Mc) : moulds (setMc s k x) = moulds s := (rfl)
@[simp] theorem moulds_setTdac (k : Nat) (x : Tdac) : moulds (setTdac s k x) = moulds s := (rfl)
@[simp] theorem moulds_levelEnd (src inst : Nat) : moulds (levelEnd s src inst) = moulds s := (rfl)
@[simp] theorem moulds_closeGap (c : Nat) : moulds (closeGap s c) = moulds s := (rfl)
@[simp] theorem moulds_newMarks : moulds (newMarks s) = moulds s := (rfl)
@[simp] theorem moulds_refreshChannel (c : Nat) : moulds (refreshChannel s c) = moulds s := by
  unfold refreshChannel tryAna
  dsimp only
  split <;> simp
@[simp] theorem moulds_enterLane (u : Nat) (st : LState) (x : Uplane) : moulds (enterLane s u st x) = moulds s := by
  simp [enterLane]
@[simp] theorem moulds_negotiate (u : Nat) : moulds (negotiate s u) = moulds s := by simp [negotiate]
@[simp] theorem moulds_replanLane (u : Nat) : moulds (replanLane s u) = moulds s := by
  unfold replanLane startDraining
  dsimp only
  split <;> simp
@[simp] theorem moulds_variantAtBoundary : moulds (variantAtBoundary s) = moulds s := by
  simp [variantAtBoundary, chooseVariant]
@[simp] theorem moulds_nlCouch (same : Bool) : moulds (nlCouch s same) = moulds s := by simp [nlCouch, nlEnd]

/-! ## The monitor path and calibration -/

@[simp] theorem moulds_nextConversion (k : Nat) : moulds (nextConversion s k) = moulds s := by
  rw [nextConversion_frame, moulds_mk, moulds_eta]
@[simp] theorem moulds_monCouch : moulds (monCouch s) = moulds s := by simp [monCouch, kickConverter, clearTarget]
@[simp] theorem moulds_setRun (x : Option Run) : moulds (setRun s x) = moulds s := (rfl)
@[simp] theorem moulds_setFlag (at? : Option Nat) (bit : Nat) (v : Bool) : moulds (setFlag s at? bit v) = moulds s := by
  unfold setFlag
  split <;> simp [setImage]
@[simp] theorem moulds_acceptValue (now : Bool) (e : CalKey × Int) : moulds (acceptValue now s e) = moulds s := by
  simp [acceptValue]
@[simp] theorem moulds_setQuality (f : Residual) : moulds (setQuality s f) = moulds s := by
  simp only [setQuality, moulds_ite, moulds_mk, moulds_eta, ite_self]
@[simp] theorem moulds_acceptRun (x : Run) (found : List Residual) : moulds (acceptRun x found s) = moulds s := by
  simp [acceptRun, acceptValues, acceptChoice]
@[simp] theorem moulds_releaseUnits (x : Run) (aborted : Bool) (u : Nat) :
    moulds (releaseUnits x aborted s u) = moulds s := by
  unfold releaseUnits
  dsimp only
  split
  · rw [moulds_pushSheaf, moulds_pushSheaf, releaseChannel_frame, moulds_mk]
    rfl
  · rw [moulds_pushSheaf, releaseClaim_frame, moulds_mk, moulds_eta]
@[simp] theorem moulds_holdChannel (c : Nat) : moulds (holdChannel s c) = moulds s := (rfl)
@[simp] theorem moulds_driveDac (k : Nat) (r : Req) (ch : Nat) (low : Bool) (code : BitVec 12) :
    moulds (driveDac s k r ch low code) = moulds s := (rfl)
@[simp] theorem moulds_beginCheck : moulds (beginCheck s) = moulds s := by
  unfold beginCheck
  split <;> simp
@[simp] theorem moulds_serveDac (k : Nat) (l : List DacClaim) : moulds (serveDac s k l) = moulds s := by
  induction l generalizing s with
  | nil => rfl
  | cons c l ih => cases c <;> simp [serveDac, ih]
@[simp] theorem moulds_freeDacs : moulds (freeDacs s) = moulds s := by simp [freeDacs, freeDac]
@[simp] theorem moulds_calOutcome (r : Option Req) (st : Nat × Nat) : moulds (calOutcome s r st) = moulds s := by
  unfold calOutcome
  split
  · exact moulds_of_faultOnly (faultOnly_send ..)
  · rfl
@[simp] theorem moulds_startCommit (r : Option Req) : moulds (startCommit s r) = moulds s := (rfl)
@[simp] theorem moulds_endSweep : moulds (endSweep s) = moulds s := by
  unfold endSweep
  split
  · rfl
  · dsimp only
    rw [moulds_ite, moulds_startCommit, ite_self, moulds_calOutcome, moulds_mk, moulds_eta]
@[simp] theorem moulds_sweepOn (x : Run) (st : Nat × Nat) : moulds (sweepOn s x st) = moulds s := by
  unfold sweepOn
  split <;> simp
@[simp] theorem moulds_runFaults (x : Run) (choices : List (CalKey × Int × Bool)) :
    moulds (runFaults x choices s) = moulds s := moulds_of_faultOnly (faultOnly_runFaults ..)
@[simp] theorem moulds_endRun (aborted : Bool) (found : List Residual) : moulds (endRun s aborted found) = moulds s := by
  unfold endRun
  split
  · rfl
  · simp only [moulds_sweepOn, moulds_calOutcome, moulds_ite, moulds_runFaults, moulds_mk, moulds_eta, moulds_count,
      moulds_pushSheaf, moulds_freeDacs, moulds_foldl _ _ _ fun x u => moulds_releaseUnits x .., moulds_acceptRun,
      moulds_setRun, ite_self]
@[simp] theorem moulds_calDrop (hit : Nat → Bool) : moulds (calDrop s hit) = moulds s := by
  unfold calDrop
  split
  · rfl
  · split
    · rw [moulds_foldl _ _ _ fun x u => moulds_releaseUnits x .., moulds_setRun]
    · simp
    · simp

/-! ## The time base -/

@[simp] theorem moulds_epochCause (bit : Nat) : moulds (epochCause s bit) = moulds s := by simp [epochCause]
@[simp] theorem moulds_controlCouch : moulds (controlCouch s) = moulds s := moulds_pushSheaf ..
@[simp] theorem moulds_closeCmd (r : Req) (op st dt : Nat) (data : List PWord) :
    moulds (closeCmd s r op st dt data) = moulds s := moulds_of_faultOnly (faultOnly_closeCmd ..)
@[simp] theorem moulds_cancelFarRequest : moulds (cancelFarRequest s) = moulds s := by
  unfold cancelFarRequest
  split
  · split <;> simp
  · rfl
@[simp] theorem moulds_portFaulty : moulds (portFaulty s) = moulds s := by
  rw [portFaulty, moulds_of_faultOnly (faultOnly_levelBegin ..), moulds_mk, moulds_eta]

end

section
variable {s : State} (h : s.md.couch = none)
include h

/-- With no couch pending there is none to cancel. -/
theorem cancelCouch_idle {t : State} (ht : moulds t = moulds s) (p : Couch → Bool) : cancelCouch t p = t := by
  obtain ⟨hmd, -⟩ := moulds_eq ht
  rw [cancelCouch, hmd, h]
theorem moulds_settleTime {t : State} (ht : moulds t = moulds s) : moulds (settleTime t) = moulds s := by
  unfold settleTime
  extract_lets r _ s₁ q _ s₂
  have h₁ : moulds s₁ = moulds s := by simp [s₁, ht]
  have h₂ : moulds s₂ = moulds s := by simp [s₂, h₁]
  rw [cancelCouch_idle h h₂]
  simp [h₁, h₂]
theorem moulds_refreshTiming {t : State} (ht : moulds t = moulds s) : moulds (refreshTiming t) = moulds s := by
  unfold refreshTiming
  extract_lets g s₁ _ s₂ _ _ s₃
  have h₁ : moulds s₁ = moulds s := by simp [s₁, setReg, ht]
  have h₂ : moulds s₂ = moulds s := by simp [s₂, h₁]
  have h₃ : moulds s₃ = moulds s := by simp [s₃, h₂]
  exact moulds_settleTime h h₃
theorem moulds_setEpoch {t : State} (ht : moulds t = moulds s) (e : Nat) : moulds (setEpoch t e) = moulds s := by
  unfold setEpoch stepRecord
  split
  · simp [ht]
  split
  · rw [cancelCouch_idle h (by simp [ht])]
    simp [ht]
  · simp [ht]
/-- The blocks take a mould's values beside moulds, schedule table and Barns (Table 10.7). -/
theorem moulds_blocksTake {t : State} (ht : moulds t = moulds s) (old : PMap Nat) :
    moulds (blocksTake t old) = moulds s := by
  unfold blocksTake
  extract_lets s₁ s₂ s₃ s₄
  have h₃ : moulds s₃ = moulds s := by simp [s₃, s₂, s₁, ht]
  have h₄ : moulds s₄ = moulds s := by simp [s₄, moulds_refreshTiming h h₃]
  simp [h₄]

end

end Sys2Proof.Proofs
end

section
/-!
What raises, replies and a change of owner leave (R330, R352, R388): the moulds, the merge, the registers, and every message
on its way to its port.
-/
namespace Sys2Proof.Proofs
open Sys2Proof Sys2Proof.Machine Sys2Proof.Laws

/-! ## Messages stay on their way -/

/-- Every message on its way in `s` still is in `t`. -/
def KeepsMsgs (s t : State) : Prop := s.cmd.spiQ ⊆ t.cmd.spiQ ∧ s.cmd.laneQ ⊆ t.cmd.laneQ

section
variable {s t u : State}

theorem keepsMsgs_mem (h : KeepsMsgs s t) {p : Port} {m : Msg} (hm : m ∈ msgsOf s p) : m ∈ msgsOf t p := by
  cases p with
  | spi => exact h.1 hm
  | dl0 => exact h.2 hm
  | dl1 => exact h.2 hm
theorem keepsMsgs_refl (s : State) : KeepsMsgs s s := ⟨List.Subset.refl _, List.Subset.refl _⟩
theorem keepsMsgs_trans (h : KeepsMsgs s t) (g : KeepsMsgs t u) : KeepsMsgs s u :=
  ⟨List.Subset.trans h.1 g.1, List.Subset.trans h.2 g.2⟩
theorem keepsMsgs_of_cmd (h : t.cmd = s.cmd) : KeepsMsgs s t := by
  rw [KeepsMsgs, h]
  exact keepsMsgs_refl s
theorem keepsMsgs_ite {c : Prop} [Decidable c] (h : KeepsMsgs s t) (g : KeepsMsgs s u) :
    KeepsMsgs s (if c then t else u) := by split <;> assumption
theorem keepsMsgs_foldl {α : Type} {f : State → α → State} (h : ∀ s a, KeepsMsgs s (f s a)) (l : List α) (s : State) :
    KeepsMsgs s (l.foldl f s) := by
  induction l generalizing s with
  | nil => exact keepsMsgs_refl s
  | cons a l ih => exact keepsMsgs_trans (h s a) (ih _)

variable (s)

theorem keepsMsgs_closeCmd (r : Req) (op st dt : Nat) (data : List PWord) : KeepsMsgs s (closeCmd s r op st dt data) :=
  ⟨msgsOf_closeCmd s r op st dt data .spi, msgsOf_closeCmd s r op st dt data .dl0⟩
theorem keepsMsgs_assertErr : KeepsMsgs s (assertErr s) := by
  unfold assertErr
  refine keepsMsgs_ite ?_ (keepsMsgs_ite (keepsMsgs_of_cmd rfl) (keepsMsgs_of_cmd rfl))
  exact keepsMsgs_trans (t := { s with flt := { s.flt with errRel := [] } }) (keepsMsgs_of_cmd rfl)
    (keepsMsgs_foldl (fun _ _ => keepsMsgs_closeCmd ..) ..)
theorem causeRecovery_cmd (code : Byte) : (causeRecovery s code).cmd = s.cmd := by
  unfold causeRecovery
  split <;> rfl
theorem recoveryFail_cmd : (recoveryFail s).cmd = s.cmd := by
  unfold recoveryFail
  split <;> rfl
theorem keepsMsgs_escalateBeyond (key : Nat) : KeepsMsgs s (escalateBeyond s key) := by
  unfold escalateBeyond
  extract_lets s₁ s₂
  have h₂ : KeepsMsgs s s₂ := keepsMsgs_trans (keepsMsgs_of_cmd (count_cmd ..)) (keepsMsgs_assertErr s₁)
  clear_value s₂
  refine keepsMsgs_trans h₂ ?_
  split
  · exact keepsMsgs_of_cmd ((causeRecovery_cmd ..).trans (editRec_cmd ..))
  · exact keepsMsgs_of_cmd ((causeRecovery_cmd ..).trans (editRec_cmd ..))
  · exact keepsMsgs_of_cmd ((recoveryFail_cmd _).trans (editRec_cmd ..))
  · exact keepsMsgs_of_cmd (editRec_cmd ..)
theorem keepsMsgs_queueAct (a : Act) : KeepsMsgs s (queueAct s a) := by
  unfold queueAct
  refine keepsMsgs_ite (keepsMsgs_of_cmd (endActions_cmd ..)) (keepsMsgs_ite (keepsMsgs_of_cmd rfl) (keepsMsgs_ite ?_ ?_))
  · exact keepsMsgs_trans (keepsMsgs_escalateBeyond ..) (keepsMsgs_of_cmd (endActions_cmd ..))
  · exact keepsMsgs_of_cmd ((endActions_cmd ..).trans (count_cmd ..))
theorem keepsMsgs_logRaise (f : FaultRec) : KeepsMsgs s (logRaise s f) := by
  unfold logRaise
  dsimp only
  split <;> exact keepsMsgs_of_cmd rfl
theorem keepsMsgs_react (f : FaultRec) : KeepsMsgs s (react s f) := by
  unfold react
  extract_lets m window target s₁ _ s₂ _ s₃ isolates long stop _ s₄ s₅
  have h₁ : KeepsMsgs s s₁ := keepsMsgs_ite (keepsMsgs_assertErr s) (keepsMsgs_refl s)
  have h₂ : KeepsMsgs s s₂ := keepsMsgs_ite h₁ h₁
  have h₃ : KeepsMsgs s s₃ := keepsMsgs_ite h₂ h₂
  have h₄ : KeepsMsgs s s₄ := keepsMsgs_ite h₃ h₃
  have h₅ : KeepsMsgs s s₅ := keepsMsgs_ite h₄ h₄
  clear_value isolates s₅
  split
  · exact keepsMsgs_trans h₅ (keepsMsgs_queueAct ..)
  · exact keepsMsgs_ite h₅ h₅
/-- A raise discards no message. -/
theorem keepsMsgs_raise (src inst ctx : Nat) : KeepsMsgs s (raise s src inst ctx) := by
  unfold raise
  refine keepsMsgs_ite (keepsMsgs_refl s) ?_
  dsimp only
  split
  · exact keepsMsgs_of_cmd rfl
  · refine keepsMsgs_trans ?_ (keepsMsgs_react ..)
    refine keepsMsgs_trans ?_ (keepsMsgs_logRaise ..)
    split <;> exact keepsMsgs_of_cmd rfl

end

/-! ## What a change of owner leaves -/

/-- From `s` to `t` the moulds, the merge and the registers are as they were, and no message was discarded. -/
def Posts (s t : State) : Prop := t.md = s.md ∧ t.mg = s.mg ∧ t.cfg = s.cfg ∧ KeepsMsgs s t

theorem posts_refl (s : State) : Posts s s := ⟨rfl, rfl, rfl, keepsMsgs_refl s⟩
theorem posts_trans {s t u : State} (h : Posts s t) (g : Posts t u) : Posts s u := by
  obtain ⟨hmd, hmg, hcfg, hmsgs⟩ := h
  obtain ⟨gmd, gmg, gcfg, gmsgs⟩ := g
  exact ⟨gmd.trans hmd, gmg.trans hmg, gcfg.trans hcfg, keepsMsgs_trans hmsgs gmsgs⟩
theorem posts_of_faultOnly {s t : State} (h : FaultOnly s t) (hm : KeepsMsgs s t) : Posts s t :=
  ⟨faultOnly_md h, by rw [h.1], faultOnly_cfg h, hm⟩

section
variable (s : State)

theorem posts_raise (src inst ctx : Nat) : Posts s (raise s src inst ctx) :=
  posts_of_faultOnly (faultOnly_raise ..) (keepsMsgs_raise ..)
theorem posts_closeCmd (r : Req) (op st dt : Nat) (data : List PWord) : Posts s (closeCmd s r op st dt data) :=
  posts_of_faultOnly (faultOnly_closeCmd ..) (keepsMsgs_closeCmd ..)
theorem posts_pushSheaf (x : Sheaf) : Posts s (pushSheaf s x) :=
  ⟨pushSheaf_md .., pushSheaf_mg .., pushSheaf_cfg .., keepsMsgs_of_cmd (pushSheaf_cmd ..)⟩
theorem posts_changeOwner (cause : Nat) (st : Standby) : Posts s (changeOwner s cause st) := by
  unfold changeOwner
  extract_lets w s₁ _ s₂
  have h₂ : Posts s s₂ := ⟨rfl, rfl, rfl, keepsMsgs_of_cmd rfl⟩
  exact posts_trans h₂ (posts_trans (posts_raise s₂ ..) (posts_pushSheaf ..))
/-- A BARN_SWITCH of the same boundary moves the Hasp, and nothing of the couch (R388). -/
theorem posts_makeSwitch : Posts s (makeSwitch s) := by
  unfold makeSwitch
  split
  next r _ _ =>
    split
    · exact posts_refl s
    · extract_lets _ s₁
      have h₁ : Posts s s₁ := ⟨rfl, rfl, rfl, keepsMsgs_of_cmd rfl⟩
      split
      · exact posts_trans h₁ (posts_trans (posts_changeOwner ..) (posts_closeCmd ..))
      · exact posts_trans h₁ (posts_closeCmd ..)
  · exact posts_refl s
theorem makeSwitch_none {s : State} (h : s.barns.switch = none) : makeSwitch s = s := by rw [makeSwitch, h]
theorem changeOwner_barns (cause : Nat) (st : Standby) : (changeOwner s cause st).barns =
    { s.barns with owner := standbyBarn s, hasp := HaspCopy.three (standbyBarn s), standby := st } := by
  have hraise (t : State) : (raise t 46 (barnCode (standbyBarn s)) cause).barns = t.barns := by
    rw [(faultOnly_raise ..).1]
  rw [changeOwner, resumeMarker, pushSheaf_barns, hraise]
  rfl

end

end Sys2Proof.Proofs
end

section
/-!
O38: COUCH (R317, R318), and the couch beat (R319, R320).
-/
namespace Sys2Proof.Proofs
open Sys2Proof Sys2Proof.Machine Sys2Proof.Laws

/-! ## COUCH -/

section
variable {s : State} {r : Req}

theorem couchHeld_checked (hidle : s.md.checking = none) (hst : s.md.stage = .checked) (k : State → State) :
    couchHeld s r k = k s := by
  rw [couchHeld, hidle, hst]
  rfl
theorem exec_couchImmediate (hs : Served s r 0x23) : exec (.couchImmediate r) s =
    .next (couchHeld s r fun s => opening s r 0x23 0 fun s =>
      let up := isUpgrade s
      let beats := if up then 200 * 1024 else (Config.preloadBeats s.free).val
      setCouch { s with free := if up then s.free else s.free + 1 }
        { req := some r, form := 0, d := 0, secs := 0, ns := 0, due := s.tb.dk + boundariesAfter s beats, upgrade := up,
          phase := 0, reached := none }) := by
  change execCouchImmediate r s = _
  rw [execCouchImmediate, granger_served hs]
/-- The immediate couch of a mould that changes no microcode: at the first boundary after preload (R317). -/
def immediateCouch (s : State) (r : Req) : Couch :=
  { req := some r, form := 0, d := 0, secs := 0, ns := 0
    due := s.tb.dk + boundariesAfter s (Config.preloadBeats s.free).val, upgrade := false, phase := 0, reached := none }
theorem exec_couchImmediate_opens (hs : Served s r 0x23) (hidle : s.md.checking = none) (hst : s.md.stage = .checked)
    (hup : isUpgrade s = false) (ho : s.cmd.outst.length < 16) : exec (.couchImmediate r) s =
      .next (setCouch { openCmd s r 0x23 0 with free := s.free + 1 } (immediateCouch s r)) := by
  have hup' : isUpgrade (openCmd s r 0x23 0) = false := hup
  rw [exec_couchImmediate hs, couchHeld_checked hidle hst, opening_ready ho, hup']
  rfl
/-- Preload takes at most 40 deckles, so the next boundary lies at most 41 deckles ahead. -/
theorem boundariesAfter_preload (s : State) {n : Nat} (h : n < 40961) :
    1 ≤ boundariesAfter s n ∧ boundariesAfter s n ≤ 41 := by
  unfold boundariesAfter
  omega

theorem couchLead_ge (s : State) : 41 ≤ couchLead s := by
  unfold couchLead
  split <;> omega
theorem exec_couchAtDeckle_near {d : Deckle} (hs : Served s r 0x23)
    (h : deckleAhead (deckle s) d = false ∨ (d - deckle s).toNat < 41) :
    exec (.couchAtDeckle r d) s = .next (reply s r 0x23 6 1 []) := by
  have hnear : (deckleAhead (deckle s) d && decide (couchLead s ≤ (d - deckle s).toNat)) = false := by
    rcases h with h | h
    · rw [h, Bool.false_and]
    · have := couchLead_ge s
      rw [decide_eq_false (by omega), Bool.and_false]
  change execCouchAtDeckle r d s = _
  rw [execCouchAtDeckle, granger_served hs, hnear]
  rfl
/-- The couch of form 1, at the first beat of deckle d. -/
def deckleCouch (s : State) (r : Req) (d : Deckle) : Couch :=
  { req := some r, form := 1, d := d, secs := 0, ns := 0, due := 0, upgrade := isUpgrade s, phase := 0, reached := none }
theorem exec_couchAtDeckle_far {d : Deckle} (hs : Served s r 0x23) (hahead : deckleAhead (deckle s) d = true)
    (hlead : couchLead s ≤ (d - deckle s).toNat) (hidle : s.md.checking = none) (hst : s.md.stage = .checked) :
    exec (.couchAtDeckle r d) s = .next (reply (setCouch s (deckleCouch s r d)) r 0x23 2 0 []) := by
  have hfar : (deckleAhead (deckle s) d && decide (couchLead s ≤ (d - deckle s).toNat)) = true := by
    rw [hahead, decide_eq_true hlead, Bool.and_true]
  change execCouchAtDeckle r d s = _
  rw [execCouchAtDeckle, granger_served hs, hfar, couchHeld_checked hidle hst]
  rfl
/-- The couch of form 2, at the first boundary at or after a time. -/
def timeCouch (s : State) (r : Req) (secs ns : Nat) : Couch :=
  { req := some r, form := 2, d := 0, secs := secs, ns := ns, due := 0, upgrade := isUpgrade s, phase := 0, reached := none }
theorem exec_couchAtPtpTime {secs : BitVec 48} {ns : BitVec 32} (hs : Served s r 0x23) (hns : ns.toNat ≤ 999999999)
    (hahead : timeAhead s secs.toNat ns.toNat (timeLead s * 1024) = true) (hidle : s.md.checking = none)
    (hst : s.md.stage = .checked) :
    exec (.couchAtPtpTime r secs ns) s = .next (if s.tb.quality ≤ 1 then reply s r 0x23 8 0 []
      else reply (setCouch s (timeCouch s r secs.toNat ns.toNat)) r 0x23 2 0 []) := by
  change execCouchAtPtpTime r secs ns s = _
  rw [execCouchAtPtpTime, granger_served hs, if_neg (by omega), hahead, couchHeld_checked hidle hst]
  rfl

end

/-! ## The new mould's values in the registers (R319) -/

theorem pget_append_default {α : Type} (d : α) (l m : PMap α) (k : Nat) (h : pget d m k = d) :
    pget d (l ++ m) k = pget d l k := by
  induction l with
  | nil => exact h
  | cons e l ih =>
    obtain ⟨j, v⟩ := e
    rw [List.cons_append, pget, pget, ih]
/-- The blocks whose registers only a mould, a SET or a reset writes. -/
def mouldedBlocks : List Nat := [1, 3, 4, 5, 6, 7, 8, 10, 11, 12]
theorem unmouldedKey_block {id inst : Nat} (hb : id / 4096 ∈ mouldedBlocks) (hi : inst < 512) :
    unmouldedKey (id * 512 + inst) = false := by
  have hkey : (id * 512 + inst) / (4096 * 512) = id / 4096 := by omega
  have hblock : id / 4096 ≤ 12 ∧ id / 4096 ≠ 9 := by
    generalize id / 4096 = b at hb
    revert b
    decide
  simp only [unmouldedKey, hkey, Bool.or_eq_false_iff, decide_eq_false_iff_not]
  omega
theorem cfgGet_couchedCfg (s : State) (g : PMap Nat) {id inst : Nat} (hb : id / 4096 ∈ mouldedBlocks) (hi : inst < 512) :
    cfgGet (couchedCfg s g) id inst = cfgGet g id inst := by
  have hkey := unmouldedKey_block hb hi
  unfold cfgGet couchedCfg
  rw [pget_append_default, pget_filter_keep _ _ _ _ fun _ => by simp [hkey]]
  exact pget_filter_drop _ _ _ _ fun _ => hkey
theorem reg_refreshTiming (s : State) {id inst : Nat} (hid : id ≠ A_TB_SYNC_CTRL) (hi : inst < 512) :
    reg (refreshTiming s) id inst = reg s id inst := by
  have hkey : id * 512 + inst ≠ A_TB_SYNC_CTRL * 512 + 0 := by
    rw [Ne, attrKey_inj hi (by omega)]
    exact fun e => hid e.1
  rw [reg_eq_of_cfg (beside_refreshTiming s).1, disarmGen3]
  split
  · exact reg_setReg_other _ _ hkey
  · rfl
/-- The blocks that take the values write no register but `TB_SYNC_CTRL`. -/
theorem reg_blocksTake (s : State) (old : PMap Nat) {id inst : Nat} (hid : id ≠ A_TB_SYNC_CTRL) (hi : inst < 512) :
    reg (blocksTake s old) id inst = reg s id inst := by
  unfold blocksTake
  extract_lets s₁ s₂ s₃ s₄
  have h₁ : s₁.cfg = s.cfg := core_cfg (core_forNat _ _ _ fun _ _ => core_refreshChannel ..)
  have h₂ : s₂.cfg = s₁.cfg := core_cfg (core_calDrop ..)
  have h₃ : s₃.cfg = s₂.cfg := core_cfg (core_forNat _ _ _ fun _ _ => by split; exact core_closeGap ..; rfl)
  have h₄ : s₄.cfg = (refreshTiming s₃).cfg := (core_cfg (core_newMarks _)).trans (core_cfg (core_monCouch _))
  rw [reg_eq_of_cfg (core_cfg (core_forNat _ _ s₄ fun _ _ => by split; exact core_replanLane ..; rfl)),
    reg_eq_of_cfg h₄, reg_refreshTiming s₃ hid hi, reg_eq_of_cfg (h₃.trans (h₂.trans h₁))]

/-! ## The new mould comes into force (R319) -/

/-- The registers and the schedule table take the new mould's values. -/
def valuesTaken (s : State) : State :=
  { s with cfg := couchedCfg s (mouldCfg (runVals s.md.shadow)), cfgPrev := s.cfg, couchUp := s.tb.up
           mg := { s.mg with sched := mouldSched s.md.shadow }
           modes := { s.modes with firstCouch := false } }
/-- The copies exchange their roles as well. -/
def mouldTaken (s : State) : State := swapCopies (valuesTaken s)
/-- The mould in force, with its CONTROL sheaf and its epoch. -/
def mouldEntered (s : State) : State :=
  setEpoch (controlCouch (mouldTaken s)) (reg (mouldTaken s) A_TB_EPOCH 0)
theorem takeMould_eq (s : State) : takeMould s = variantAtBoundary (nlCouch (blocksTake (mouldEntered s) s.cfg)
    (sameCompat s.md.active (mouldEntered s).md.active)) := rfl
/-- The exchange of the copies writes nothing but the moulds' state. -/
theorem swapCopies_frame (s : State) : swapCopies s = { s with md := (swapCopies s).md } := by
  unfold swapCopies
  dsimp only
  split <;> rfl
theorem swapCopies_md (s : State) : (swapCopies s).md.active = some s.md.shadow ∧ (swapCopies s).md.modified = false ∧
    (swapCopies s).md.couch = s.md.couch ∧ (swapCopies s).md.lastStatus = s.md.lastStatus ∧
    ∀ a, s.md.active = some a → (swapCopies s).md.shadow = a ∧
      (swapCopies s).md.stage = if s.md.modified then .staged else .checked := by
  unfold swapCopies
  dsimp only
  split <;> exact ⟨rfl, rfl, rfl, rfl, fun a ha => by simp [ha]⟩

theorem reg_takeMould (s : State) {id inst : Nat} (hb : id / 4096 ∈ mouldedBlocks) (hi : inst < 512) :
    reg (takeMould s) id inst = cfgGet (mouldCfg (runVals s.md.shadow)) id inst := by
  have hid : id ≠ A_TB_SYNC_CTRL := by
    rintro rfl
    exact absurd hb (by decide)
  have hcfg : (mouldEntered s).cfg = couchedCfg s (mouldCfg (runVals s.md.shadow)) := by
    rw [mouldEntered, core_cfg (core_setEpoch ..), core_cfg (core_controlCouch _), mouldTaken, swapCopies_frame]
    rfl
  rw [takeMould_eq, reg_eq_of_cfg ((core_cfg (core_variantAtBoundary _)).trans (core_cfg (core_nlCouch ..))),
    reg_blocksTake _ _ hid hi, reg, hcfg, cfgGet_couchedCfg _ _ hb hi]

section
variable {s : State} (h : s.md.couch = none)
include h

theorem mouldTaken_couch : (mouldTaken s).md.couch = none := by
  obtain ⟨-, -, hcouch, -⟩ := swapCopies_md (valuesTaken s)
  exact hcouch.trans h
/-- With no other couch pending, what follows the exchange leaves moulds, schedule table and Barns. -/
theorem moulds_takeMould : moulds (takeMould s) = moulds (mouldTaken s) := by
  have hcouch := mouldTaken_couch h
  have hentered : moulds (mouldEntered s) = moulds (mouldTaken s) := moulds_setEpoch hcouch (moulds_controlCouch _) _
  rw [takeMould_eq, moulds_variantAtBoundary, moulds_nlCouch, moulds_blocksTake hcouch hentered]

end

/-! ## The couch beat (R319, R320) -/

theorem exec_couchBeat {s : State} {c : Couch} (hc : s.md.couch = some c) (hb : atBoundary s = true)
    (hr : c.reached.isSome = true) (hrec : s.modes.cur ≠ .recovery) (hheld : s.modes.cur ≠ .held) :
    exec .couchBeat s = .next (makeSwitch (settleCouch s c false)) := by
  change execCouchBeat s = _
  unfold execCouchBeat
  rw [hc]
  dsimp only
  rw [if_pos (by simp [hb, hr, hrec, hheld])]
/-- The couch has left its place, its mould is in force, and it is counted. -/
def couchTaken (s : State) (c : Couch) (late : Bool) : State :=
  count (takeMould (endCouch s c 0 late)) A_MD_COUCH_COUNT 0 15 0 1
/-- The result of a check is recorded in `MD_CHECK_RESULT`. -/
def checkNoted (s : State) (w : BitVec 48) : State := { s with md := { s.md with check := w } }
theorem checkNoted_keeps (s : State) (w : BitVec 48) : (checkNoted s w).md.active = s.md.active ∧
    (checkNoted s w).md.shadow = s.md.shadow ∧ (checkNoted s w).cfg = s.cfg ∧ (checkNoted s w).mg = s.mg :=
  ⟨rfl, rfl, rfl, rfl⟩
/-- What the statements on the couch beat ask of a state in which the staged mould has come into force. -/
structure InForce (s t : State) : Prop where
  active : t.md.active = some s.md.shadow
  modified : t.md.modified = false
  couch : t.md.couch = none
  status : t.md.lastStatus = 0
  shadow : ∀ a, s.md.active = some a → t.md.shadow = a ∧ t.md.stage = if s.md.modified then .staged else .checked
  sched : t.mg.sched = mouldSched s.md.shadow
  regs : ∀ id inst, id / 4096 ∈ mouldedBlocks → inst < 512 → reg t id inst = cfgGet (mouldCfg (runVals s.md.shadow)) id inst

theorem moulds_couchTaken (s : State) (c : Couch) (late : Bool) :
    moulds (couchTaken s c late) = moulds (mouldTaken (endCouch s c 0 late)) := by
  rw [couchTaken, moulds_count, moulds_takeMould rfl]
theorem couchTaken_barns (s : State) (c : Couch) (late : Bool) : (couchTaken s c late).barns = s.barns := by
  obtain ⟨-, -, hbarns⟩ := moulds_eq (moulds_couchTaken s c late)
  rw [hbarns, mouldTaken, swapCopies_frame]
  rfl
theorem couchTaken_inForce (s : State) (c : Couch) (late : Bool) : InForce s (couchTaken s c late) := by
  obtain ⟨hmd, hsched, -⟩ := moulds_eq (moulds_couchTaken s c late)
  obtain ⟨hactive, hmodified, hcouch, hstatus, hshadow⟩ := swapCopies_md (valuesTaken (endCouch s c 0 late))
  refine ⟨?_, ?_, ?_, ?_, ?_, ?_, fun id inst hb hi => ?_⟩
  · rw [hmd]; exact hactive
  · rw [hmd]; exact hmodified
  · rw [hmd]; exact hcouch
  · rw [hmd]; exact hstatus
  · rw [hmd]; exact hshadow
  · rw [hsched, mouldTaken, swapCopies_frame]; rfl
  · exact reg_takeMould _ hb hi
theorem inForce_posts {s t u : State} (h : InForce s t) (hp : Posts t u) : InForce s u := by
  obtain ⟨hmd, hmg, hcfg, -⟩ := hp
  exact ⟨hmd ▸ h.active, hmd ▸ h.modified, hmd ▸ h.couch, hmd ▸ h.status, hmd ▸ h.shadow, hmg ▸ h.sched,
    fun id inst hb hi => (reg_eq_of_cfg hcfg ..).trans (h.regs id inst hb hi)⟩

section
variable {s : State} {c : Couch}

theorem faultOnly_couchMessage (s : State) (c : Couch) (st dt : Nat) : FaultOnly s (couchMessage s c st dt) := by
  unfold couchMessage
  split
  · exact faultOnly_refl s
  · exact faultOnly_ite (faultOnly_closeCmd ..) (faultOnly_send ..)
theorem keepsMsgs_outcome (s : State) (r : Req) (op st dt : Nat) (data : List PWord) :
    KeepsMsgs s (outcome s r op st dt data) := by
  rw [(outcome_queues ..).2]
  constructor <;> dsimp only <;> split <;> simp
theorem posts_couchMessage (s : State) (c : Couch) (st dt : Nat) : Posts s (couchMessage s c st dt) := by
  refine posts_of_faultOnly (faultOnly_couchMessage ..) ?_
  unfold couchMessage
  split
  · exact keepsMsgs_refl s
  · exact keepsMsgs_ite (keepsMsgs_closeCmd ..) (keepsMsgs_outcome ..)
/-- The immediate form is replied, the others send an outcome message (R330, R331). -/
theorem couchMessage_posts {r : Req} (hr : c.req = some r) (s : State) (st dt : Nat) :
    (if c.form = 0 then replyMsg r 0x23 st dt (valueWords 2 (mdCouchState s))
      else outcomeMsg r 0x23 st dt (valueWords 2 (mdCouchState s))) ∈ msgsOf (couchMessage s c st dt) r.port := by
  unfold couchMessage
  rw [hr]
  dsimp only
  split
  · exact closeCmd_replies ..
  · rw [(outcome_queues ..).1]
    exact List.mem_append_right _ (List.mem_singleton_self _)
theorem failCouch_posts {r : Req} (hr : c.req = some r) (s : State) (st dt : Nat) (g : Staging) (late : Bool) : ∃ w,
    (if c.form = 0 then replyMsg r 0x23 st dt w else outcomeMsg r 0x23 st dt w) ∈
      msgsOf (failCouch s c st dt g late) r.port :=
  ⟨_, keepsMsgs_mem (keepsMsgs_raise ..) (couchMessage_posts hr ..)⟩
/-- A couch that fails leaves its place and both copies as they were (R319). -/
theorem failCouch_moulds (s : State) (c : Couch) (st dt : Nat) (g : Staging) (late : Bool) :
    (failCouch s c st dt g late).md.active = s.md.active ∧ (failCouch s c st dt g late).md.shadow = s.md.shadow ∧
      (failCouch s c st dt g late).md.couch = none ∧ (failCouch s c st dt g late).md.stage = g := by
  rw [failCouch_md]
  exact ⟨rfl, rfl, rfl, rfl⟩
/-- A couch that fails changes no register and nothing of the merge. -/
theorem failCouch_frame (s : State) (c : Couch) (st dt : Nat) (g : Staging) (late : Bool) :
    (failCouch s c st dt g late).cfg = s.cfg ∧ (failCouch s c st dt g late).mg = s.mg ∧
      (failCouch s c st dt g late).barns = s.barns := by
  unfold failCouch
  extract_lets s₁ _ s₂
  have hf : FaultOnly s₂ (raise (couchMessage s₂ c st dt) 45 0 st) :=
    faultOnly_trans (faultOnly_couchMessage ..) (faultOnly_raise ..)
  rw [hf.1]
  exact ⟨rfl, rfl, rfl⟩

variable (hrec : s.modes.cur ≠ .recovery)
include hrec

theorem applyCouch_takes (late : Bool)
    (hdyn : dynamicFail s s.md.shadow (mouldCfg (runVals s.md.shadow)) (serviceMode s.modes.cur) = none) :
    applyCouch s c late = couchMessage
      (if c.upgrade then upgradeHasp (couchTaken s c late) else couchTaken s c late) c 0 0 := by
  unfold applyCouch
  rw [decide_eq_false hrec, Bool.or_false, hdyn]
  rfl
theorem applyCouch_fails (late : Bool) (hup : c.upgrade = false) {f : Broken}
    (hdyn : dynamicFail s s.md.shadow (mouldCfg (runVals s.md.shadow)) (serviceMode s.modes.cur) = some f) :
    applyCouch s c late =
      failCouch (checkNoted s (checkWord (some f))) c 0x09 f.rule .checked late := by
  unfold applyCouch
  rw [decide_eq_false hrec, Bool.or_false, hdyn]
  dsimp only
  rw [hup]
  rfl

end

section
variable {s : State} {c : Couch} {r : Req} (hr : c.req = some r) (hrec : s.modes.cur ≠ .recovery) (hup : c.upgrade = false)
include hr hrec hup

theorem couchBeat_takes
    (hdyn : dynamicFail s s.md.shadow (mouldCfg (runVals s.md.shadow)) (serviceMode s.modes.cur) = none) :
    ∃ w, InForce s (makeSwitch (applyCouch s c false)) ∧
      (if c.form = 0 then replyMsg r 0x23 0 0 w else outcomeMsg r 0x23 0 0 w) ∈
        msgsOf (makeSwitch (applyCouch s c false)) r.port := by
  rw [applyCouch_takes hrec false hdyn, hup, if_neg Bool.false_ne_true]
  have htaken := couchTaken_inForce s c false
  generalize couchTaken s c false = x at htaken
  have hposts := posts_makeSwitch (couchMessage x c 0 0)
  have ⟨_, _, _, hmsgs⟩ := hposts
  exact ⟨_, inForce_posts htaken (posts_trans (posts_couchMessage ..) hposts), keepsMsgs_mem hmsgs (couchMessage_posts hr ..)⟩
theorem couchBeat_fails {f : Broken}
    (hdyn : dynamicFail s s.md.shadow (mouldCfg (runVals s.md.shadow)) (serviceMode s.modes.cur) = some f) :
    ∃ w, (makeSwitch (applyCouch s c false)).md.active = s.md.active ∧
      (makeSwitch (applyCouch s c false)).md.shadow = s.md.shadow ∧
      (makeSwitch (applyCouch s c false)).md.couch = none ∧ (makeSwitch (applyCouch s c false)).md.stage = .checked ∧
      (makeSwitch (applyCouch s c false)).cfg = s.cfg ∧ (makeSwitch (applyCouch s c false)).mg = s.mg ∧
      (if c.form = 0 then replyMsg r 0x23 9 f.rule w else outcomeMsg r 0x23 9 f.rule w) ∈
        msgsOf (makeSwitch (applyCouch s c false)) r.port := by
  rw [applyCouch_fails hrec false hup hdyn]
  obtain ⟨hactive, hshadow, hcfg, hmg⟩ := checkNoted_keeps s (checkWord (some f))
  generalize checkNoted s (checkWord (some f)) = x at hactive hshadow hcfg hmg ⊢
  obtain ⟨hmd, hmg', hcfg', hmsgs⟩ := posts_makeSwitch (failCouch x c 0x09 f.rule .checked false)
  obtain ⟨hcfg'', hmg'', -⟩ := failCouch_frame x c 0x09 f.rule .checked false
  obtain ⟨hactive', hshadow', hcouch, hstage⟩ := failCouch_moulds x c 0x09 f.rule .checked false
  obtain ⟨w, hmsg⟩ := failCouch_posts hr x 0x09 f.rule .checked false
  rw [hmd]
  exact ⟨w, hactive'.trans hactive, hshadow'.trans hshadow, hcouch, hstage, hcfg'.trans (hcfg''.trans hcfg),
    hmg'.trans (hmg''.trans hmg), keepsMsgs_mem hmsgs hmsg⟩

end

/-- Settles O38: the command by the staging state, the beat by the dynamic rules. -/
theorem couching : Obligations.Couching := by
  refine ⟨⟨?immediate, ?atDeckle, ?atTime⟩, ?beat⟩
  case immediate =>
    intro r s hs hidle
    refine ⟨?empty, ?loading, ?staged, ?failed, ?pending, ?checked⟩
    case checked =>
      intro hst hup ho
      obtain ⟨hlow, hhigh⟩ := boundariesAfter_preload s (Config.preloadBeats s.free).isLt
      exact ⟨_, immediateCouch s r, exec_couchImmediate_opens hs hidle hst hup ho, rfl, rfl, rfl, rfl,
        Nat.lt_add_of_pos_right hlow, Nat.add_le_add_left hhigh _, rfl, rfl⟩
    all_goals
      intro hst
      rw [exec_couchImmediate hs, couchHeld, hidle, hst]
      rfl
  case atDeckle =>
    refine fun r d s hs => ⟨exec_couchAtDeckle_near hs, fun hahead hlead hidle hst => ?_⟩
    refine ⟨_, deckleCouch s r d, exec_couchAtDeckle_far hs hahead hlead hidle hst, ?_, ?_, rfl, rfl, replyMsg_mem_msgsOf_reply ..⟩
    · rw [reply_md]; rfl
    · rw [reply_md]; rfl
  case atTime =>
    intro r secs ns s hs hns hahead hidle hst
    rw [exec_couchAtPtpTime hs hns hahead hidle hst]
    refine ⟨fun hq => by rw [if_pos hq], fun hq => ?_⟩
    rw [if_neg (by omega)]
    refine ⟨_, timeCouch s r secs.toNat ns.toNat, rfl, ?_, ?_, rfl, rfl, rfl, replyMsg_mem_msgsOf_reply ..⟩
    · rw [reply_md]; rfl
    · rw [reply_md]; rfl
  case beat =>
    intro s c r hc hr hb hreached hrec hheld hup
    have hsettle : settleCouch s c false = applyCouch s c false := by
      rw [settleCouch, hup]
      rfl
    rw [exec_couchBeat hc hb hreached hrec hheld, hsettle]
    refine ⟨fun hdyn => ?_, fun f hdyn => ?_⟩
    · obtain ⟨w, h, hmsg⟩ := couchBeat_takes hr hrec hup hdyn
      exact ⟨_, w, rfl, h.active, h.modified, h.couch, h.sched, h.status, h.shadow, h.regs, hmsg⟩
    · obtain ⟨w, hactive, hshadow, hcouch, hstage, hcfg, hmg, hmsg⟩ := couchBeat_fails hr hrec hup hdyn
      exact ⟨_, w, rfl, hactive, hshadow, hcouch, hstage, hcfg, hmg, hmsg⟩

end Sys2Proof.Proofs
end

section
/-!
O39: the installation key (R309), the steps of an upgrade couch, its beat, and the rejoining (R323, R324, Table 10.8).
-/
namespace Sys2Proof.Proofs
open Sys2Proof Sys2Proof.Machine Sys2Proof.Laws

/-! ## The installation key (R309) -/

section
variable {s : State} {r : Req}

theorem keySet_cal (hs : Served s r 0x11) (hcal : s.modes.cur = .cal) (i : Instr) (body : State → State) :
    keySet s r i body = .next (body s) := by
  rw [keySet, granger_served hs, if_pos hcal]
theorem keySet_elsewhere (hs : Served s r 0x11) (hcal : s.modes.cur ≠ .cal) (i : Instr) (body : State → State) :
    keySet s r i body = .next (reply s r 0x11 7 (modeByte s) []) := by
  rw [keySet, granger_served hs, if_neg hcal]
  rfl

theorem keyWrite_locked {n : Nat} (hn : n < 4) (hlock : s.md.keyState = 2) (v : BitVec 64) :
    keyWrite s r n v = reply s r 0x11 8 0 [] := by
  rw [keyWrite, if_neg (by omega), if_pos hlock]
  rfl
/-- The next word of the key in order: it is kept, and the fourth fills the slot. -/
theorem keyWrite_next {n : Nat} (hn : n < 4) (hlock : s.md.keyState ≠ 2) (hnext : n = s.md.keyNew.length) (v : BitVec 64) :
    keyWrite s r n v = reply (if n = 3
      then { s with md := { s.md with key := (s.md.keyNew ++ [v]).flatMap fun w => toBytes 8 w.toNat
                                      keyNew := [], keyState := 1 } }
      else { s with md := { s.md with keyNew := s.md.keyNew ++ [v] } }) r 0x11 0 8 (valueWords 2 0) := by
  have hwords : (if n = 0 then [v] else s.md.keyNew ++ [v]) = s.md.keyNew ++ [v] := by
    split
    · next h0 => rw [List.eq_nil_of_length_eq_zero (hnext.symm.trans h0), List.nil_append]
    · rfl
  have hlen : (s.md.keyNew ++ [v]).length = 4 ↔ n = 3 := by
    rw [List.length_append, List.length_singleton]
    omega
  unfold keyWrite
  rw [if_neg (by omega), if_neg hlock, if_neg (by simp [hnext]), hwords]
  simp only [hlen]

theorem setRequire_free {b : Bool} (h : s.md.keyState ≠ 2 ∨ b = true) :
    setRequire s b = some { s with md := { s.md with require := b } } := by
  rcases h with h | h <;> simp [setRequire, h]
theorem setRequire_locked (hlock : s.md.keyState = 2) (hreq : s.md.require = true) : setRequire s false = none := by
  simp [setRequire, hlock, hreq]
theorem keyLock_set {b : Bool} (hset : s.md.keyState = 1) : keyLock s r b =
    keyReply { s with md := { s.md with require := b, keyState := 2, keyNew := [] } } r := by
  rw [keyLock, if_neg (by omega), setRequire_free (.inl (by omega))]
theorem keyReply_md (s : State) (r : Req) : (keyReply s r).md = s.md := reply_md ..

section
variable (hs : Served s r 0x11) (hcal : s.modes.cur = .cal)
include hs hcal

theorem exec_mdKeyWrite {n : BitVec 9} {v : BitVec 64} : exec (.mdKeyWrite r n v) s = .next (keyWrite s r n.toNat v) := by
  change execMdKeyWrite r n v s = _
  rw [execMdKeyWrite, keySet_cal hs hcal]
theorem exec_keyLock {b : Bool} : exec (.keyLock r b) s = .next (keyLock s r b) := by
  change execKeyLock r b s = _
  rw [execKeyLock, keySet_cal hs hcal]
theorem exec_keyRequire {b : Bool} : exec (.keyRequire r b) s = .next (keyRequire s r b) := by
  change execKeyRequire r b s = _
  rw [execKeyRequire, keySet_cal hs hcal]

end

/-- Out of CALIBRATION & TEST no command reaches the slot. -/
theorem keySets_elsewhere (hs : Served s r 0x11) (hcal : s.modes.cur ≠ .cal) (n : BitVec 9) (v : BitVec 64) (b : Bool) :
    exec (.mdKeyWrite r n v) s = .next (reply s r 0x11 7 (modeByte s) []) ∧
    exec (.keyLock r b) s = .next (reply s r 0x11 7 (modeByte s) []) ∧
    exec (.keyRequire r b) s = .next (reply s r 0x11 7 (modeByte s) []) := by
  change execMdKeyWrite r n v s = _ ∧ execKeyLock r b s = _ ∧ execKeyRequire r b s = _
  rw [execMdKeyWrite, execKeyLock, execKeyRequire, keySet_elsewhere hs hcal, keySet_elsewhere hs hcal,
    keySet_elsewhere hs hcal]
  exact ⟨rfl, rfl, rfl⟩

end

/-! ## The Barns' records -/

section
variable (s : State) (w : Barn) (x : BarnRec)

theorem barn_setBarn_same : barn (setBarn s w x) w = x := by cases w <;> rfl
theorem barn_setBarn_other {w' : Barn} (h : w' ≠ w) : barn (setBarn s w x) w' = barn s w' := by
  cases w <;> cases w' <;> first | rfl | exact absurd rfl h
/-- What a Barn's own record leaves: all but the two records. -/
theorem setBarn_frame :
    setBarn s w x = { s with barns := { s.barns with a := (setBarn s w x).barns.a, b := (setBarn s w x).barns.b } } := by
  cases w <;> rfl
theorem otherBarn_ne : otherBarn w ≠ w := by cases w <;> decide

end

/-! ## A failed upgrade (R324) -/

section
variable (s : State)

theorem startResync_frame : startResync s = { s with barns := { s.barns with
    standby := (startResync s).barns.standby, resync := (startResync s).barns.resync } } := by
  unfold startResync
  split <;> rfl
theorem reloadStandby_keeps : (reloadStandby s).md = s.md ∧ (reloadStandby s).cfg = s.cfg ∧
    (reloadStandby s).barns.suspended = s.barns.suspended ∧ (reloadStandby s).barns.owner = s.barns.owner ∧
    (reloadStandby s).barns.switch = s.barns.switch := by
  unfold reloadStandby
  extract_lets w o
  rw [startResync_frame, setBarn_frame]
  exact ⟨rfl, rfl, rfl, rfl, rfl⟩

end

/-- From `s` to `t` the upgrade couch has ended with ABORTED, the staged image is CHECKED again and comparison resumed; the
registers, the mould in force and the owner stay. -/
structure UpgradeFailed (s t : State) : Prop where
  couch : t.md.couch = none
  stage : t.md.stage = .checked
  status : t.md.lastStatus = 0x0C
  active : t.md.active = s.md.active
  cfg : t.cfg = s.cfg
  suspended : t.barns.suspended = false
  owner : t.barns.owner = s.barns.owner
  switch : t.barns.switch = s.barns.switch

section
variable {s : State} {c : Couch} (hc : s.md.couch = some c) (hup : c.upgrade = true)
include hc hup

theorem cancelCouch_upgrade : cancelCouch s (fun c => c.upgrade) = failCouch s c 0x0C 0 .checked false := by
  rw [cancelCouch, hc]
  exact if_pos hup
theorem failUpgrade_fails : UpgradeFailed s (failUpgrade s) := by
  obtain ⟨hmd, hcfg, hsusp, howner, hswitch⟩ := reloadStandby_keeps (endSuspension (failCouch s c 0x0C 0 .checked false))
  obtain ⟨hcfg', -, hbarns⟩ := failCouch_frame s c 0x0C 0 .checked false
  obtain ⟨hactive, -, hcouch, hstage⟩ := failCouch_moulds s c 0x0C 0 .checked false
  have hstatus : (failCouch s c 0x0C 0 .checked false).md.lastStatus = 0x0C := by
    rw [failCouch_md]
    rfl
  rw [failUpgrade, cancelCouch_upgrade hc hup]
  generalize failCouch s c 0x0C 0 .checked false = x at *
  refine ⟨?_, ?_, ?_, ?_, hcfg.trans hcfg', hsusp, ?_, ?_⟩
  · rw [hmd]; exact hcouch
  · rw [hmd]; exact hstage
  · rw [hmd]; exact hstatus
  · rw [hmd]; exact hactive
  · rw [howner, endSuspension, hbarns]
  · rw [hswitch, endSuspension, hbarns]

/-! ## Steps 1 to 3 (Table 10.8) -/

/-- Boundary n deckles before the couch's has come. -/
def couchAhead (s : State) (c : Couch) (n : Nat) : Bool :=
  deckleReached (deckle s + BitVec.ofNat 46 n) (couchDeckle s c)

variable (hwait : c.reached = none) (hb : atBoundary s = true) (htake : s.barns.takeover = none)
  (h200 : couchAhead s c 200 = true)
include hwait hb htake h200

/-- UPGRADE_DETACH ends the next step, once the couch lies 200 deckles ahead or less. -/
theorem exec_upgradeDetach (ok : Bool) : exec (.upgradeDetach ok) s = .next (match c.phase with
    | 0 => if ok && inTime s c 200 && s.barns.standby = .lockstep then detachForUpgrade s c else failUpgrade s
    | 1 => if !couchAhead s c 198 then s
      else if ok && inTime s c 120 then
        passPhase (setBarn s (standbyBarn s) { barn s (standbyBarn s) with passed := true, bits := 0 }) c
      else failUpgrade s
    | 2 => if ok && inTime s c 8 then passPhase s c else failUpgrade s
    | _ => s) := by
  have hgate : (!c.upgrade || c.reached.isSome || !atBoundary s || s.barns.takeover.isSome || !couchAhead s c 200) = false := by
    rw [hup, hwait, hb, htake, h200]
    rfl
  change execUpgradeDetach ok s = _
  unfold execUpgradeDetach
  rw [hc]
  exact congrArg _ (if_neg (Bool.eq_false_iff.1 hgate))

section
variable {ok : Bool}

theorem exec_upgradeDetach_one (h0 : c.phase = 0) : exec (.upgradeDetach ok) s = .next (
    if ok && inTime s c 200 && s.barns.standby = .lockstep then detachForUpgrade s c else failUpgrade s) := by
  rw [exec_upgradeDetach hc hup hwait hb htake h200, h0]
  rfl
theorem exec_upgradeDetach_two (h1 : c.phase = 1) (h198 : couchAhead s c 198 = true) :
    exec (.upgradeDetach ok) s = .next (if ok && inTime s c 120 then
        passPhase (setBarn s (standbyBarn s) { barn s (standbyBarn s) with passed := true, bits := 0 }) c
      else failUpgrade s) := by
  rw [exec_upgradeDetach hc hup hwait hb htake h200, h1, h198]
  rfl
theorem exec_upgradeDetach_three (h2 : c.phase = 2) : exec (.upgradeDetach ok) s = .next (
    if ok && inTime s c 8 then passPhase s c else failUpgrade s) := by
  rw [exec_upgradeDetach hc hup hwait hb htake h200, h2]
  rfl

end

end

/-- Step 1 has passed: comparison is suspended and the standby detached, before it loads the new microcode. -/
def standbyDetached (s : State) (c : Couch) : State :=
  passPhase { s with barns := { s.barns with standby := .detached, agreed := false, suspended := true } } c
theorem detachForUpgrade_eq {s : State} (c : Couch) {v w : Nat} (hmc : mouldMicrocode s.md.shadow = some (v, w)) :
    detachForUpgrade s c = setBarn (standbyDetached s c) (standbyBarn s)
      { barn s (standbyBarn s) with mc := v, stateVersion := w } := by
  unfold detachForUpgrade
  extract_lets _ x o
  have hx : x.md.shadow = s.md.shadow := rfl
  rw [hx, hmc]
  rfl

theorem detachForUpgrade_detaches {s : State} (c : Couch) {v w : Nat} (hmc : mouldMicrocode s.md.shadow = some (v, w)) :
    (detachForUpgrade s c).md.couch = some { c with phase := c.phase + 1 } ∧
    (detachForUpgrade s c).barns.standby = .detached ∧ (detachForUpgrade s c).barns.suspended = true ∧
    (detachForUpgrade s c).barns.owner = s.barns.owner ∧
    (barn (detachForUpgrade s c) (otherBarn s.barns.owner)).mc = v ∧
    (barn (detachForUpgrade s c) s.barns.owner).mc = (barn s s.barns.owner).mc := by
  have hother : s.barns.owner ≠ standbyBarn s := (otherBarn_ne _).symm
  rw [detachForUpgrade_eq c hmc, barn_setBarn_other _ _ _ hother, ← standbyBarn, barn_setBarn_same, setBarn_frame]
  exact ⟨rfl, rfl, rfl, rfl, rfl, rfl⟩
/-- Step 2 has passed: the standby's self-test showed no fault. -/
def standbyTested (s : State) (c : Couch) : State :=
  passPhase (setBarn s (standbyBarn s) { barn s (standbyBarn s) with passed := true, bits := 0 }) c
theorem standbyTested_passes (s : State) (c : Couch) :
    (standbyTested s c).md.couch = some { c with phase := c.phase + 1 } ∧
    (barn (standbyTested s c) (otherBarn s.barns.owner)).passed = true ∧
    (standbyTested s c).barns.owner = s.barns.owner := by
  unfold standbyTested
  generalize hx : setBarn s (standbyBarn s) { barn s (standbyBarn s) with passed := true, bits := 0 } = x
  have howner : x.barns.owner = s.barns.owner := by rw [← hx, setBarn_frame]
  have htested : (barn x (otherBarn s.barns.owner)).passed = true := by rw [← hx, ← standbyBarn, barn_setBarn_same]
  exact ⟨rfl, htested, howner⟩

/-! ## The beat of an upgrade couch (R323) -/

theorem settleCouch_unready {s : State} {c : Couch} (hup : c.upgrade = true) (hphase : c.phase < 3) (late : Bool) :
    settleCouch s c late = failUpgrade s := by
  rw [settleCouch, hup, decide_eq_true hphase]
  rfl
theorem settleCouch_ready {s : State} {c : Couch} (hphase : 3 ≤ c.phase) (late : Bool) :
    settleCouch s c late = applyCouch s c late := by
  rw [settleCouch, decide_eq_false (by omega), Bool.and_false]
  rfl
/-- The former owner is detached with the new microcode, behind the change of the owner. -/
theorem upgradeHasp_eq {s : State} {a : Copy} {v w : Nat} (ha : s.md.active = some a)
    (hmc : mouldMicrocode a = some (v, w)) :
    upgradeHasp s = setBarn (changeOwner s 2 .detached) s.barns.owner
      { barn (changeOwner s 2 .detached) s.barns.owner with mc := v, stateVersion := w } := by
  rw [upgradeHasp, ha]
  dsimp only
  rw [hmc]
theorem posts_upgradeHasp {s : State} {a : Copy} {v w : Nat} (ha : s.md.active = some a)
    (hmc : mouldMicrocode a = some (v, w)) : Posts s (upgradeHasp s) := by
  have hset (t : State) (o : Barn) (x : BarnRec) : Posts t (setBarn t o x) := by
    rw [setBarn_frame]
    exact ⟨rfl, rfl, rfl, keepsMsgs_of_cmd rfl⟩
  rw [upgradeHasp_eq ha hmc]
  exact posts_trans (posts_changeOwner ..) (hset ..)
theorem upgradeHasp_barns {s : State} {a : Copy} {v w : Nat} (ha : s.md.active = some a)
    (hmc : mouldMicrocode a = some (v, w)) : (upgradeHasp s).barns.owner = otherBarn s.barns.owner ∧
    (upgradeHasp s).barns.standby = .detached ∧ (upgradeHasp s).barns.switch = s.barns.switch ∧
    (barn (upgradeHasp s) s.barns.owner).mc = v := by
  rw [upgradeHasp_eq ha hmc, barn_setBarn_same, setBarn_frame, changeOwner_barns]
  exact ⟨rfl, rfl, rfl, rfl⟩
theorem barn_of_barns {s t : State} (h : t.barns = s.barns) (w : Barn) : barn t w = barn s w := by
  unfold barn
  rw [h]
theorem applyUpgrade_takes {s : State} {c : Couch} {v w : Nat} (hup : c.upgrade = true) (hrec : s.modes.cur ≠ .recovery)
    (hmc : mouldMicrocode s.md.shadow = some (v, w))
    (hdyn : dynamicFail s s.md.shadow (mouldCfg (runVals s.md.shadow)) (serviceMode s.modes.cur) = none) :
    InForce s (applyCouch s c false) ∧ (applyCouch s c false).barns.owner = otherBarn s.barns.owner ∧
      (applyCouch s c false).barns.standby = .detached ∧ (applyCouch s c false).barns.switch = s.barns.switch ∧
      (barn (applyCouch s c false) s.barns.owner).mc = v := by
  rw [applyCouch_takes hrec false hdyn, if_pos hup]
  have htaken := couchTaken_inForce s c false
  have hbarns := couchTaken_barns s c false
  generalize couchTaken s c false = x at htaken hbarns
  obtain ⟨howner, hstandby, hswitch, hload⟩ := upgradeHasp_barns htaken.active hmc
  have hsent : (couchMessage (upgradeHasp x) c 0 0).barns = (upgradeHasp x).barns := by
    rw [(faultOnly_couchMessage ..).1]
  rw [barn_of_barns hsent, hsent, ← hbarns]
  exact ⟨inForce_posts htaken (posts_trans (posts_upgradeHasp htaken.active hmc) (posts_couchMessage ..)), howner, hstandby,
    hswitch, hload⟩

/-! ## The rejoining (R323, R324) -/

theorem faultOnly_closeAll (s : State) (op st : Nat) : FaultOnly s (closeAll s op st) :=
  faultOnly_foldl _ (fun _ _ => faultOnly_closeCmd ..) _ _
theorem closeCmd_tal (s : State) (r : Req) (op st dt : Nat) (data : List PWord) :
    (closeCmd s r op st dt data).tal = s.tal := reply_tal ..
theorem closeAll_tal (s : State) (op st : Nat) : (closeAll s op st).tal = s.tal :=
  foldl_view State.tal (fun x (o : Outst) => closeCmd_tal x o.req op st 0 []) _ _
/-- The former owner's self-test has passed, within 200 deckles of the couch, and the cross-link is up. -/
def rejoins (s : State) (ok : Bool) : Bool := ok && s.barns.xlink && decide (s.tb.up ≤ s.couchUp + 204800)
theorem rejoins_iff {s : State} {ok : Bool} :
    rejoins s ok = true ↔ ok = true ∧ s.barns.xlink = true ∧ s.tb.up ≤ s.couchUp + 204800 := by
  rw [rejoins, Bool.and_eq_true, Bool.and_eq_true, decide_eq_true_eq, and_assoc]
/-- UPGRADE_REJOIN, two deckles or more after the couch. -/
theorem exec_upgradeRejoin {s : State} (hsusp : s.barns.suspended = true) (hc : s.md.couch = none)
    (hb : atBoundary s = true) (htake : s.barns.takeover = none) (hrun : barnsRun s = true)
    (hup : s.couchUp + 2048 ≤ s.tb.up) (ok : Bool) : exec (.upgradeRejoin ok) s = .next (
      if rejoins s ok then closeAll (enterLockstep (endSuspension s)) 0x62 0
      else closeAll (raise (endSuspension s) 11 (barnCode (standbyBarn s)) 1) 0x62 0x0C) := by
  change execUpgradeRejoin ok s = _
  unfold execUpgradeRejoin
  rw [hc]
  dsimp only
  rw [if_pos (by simp [hsusp, hb, htake, hrun, hup]), rejoins]
theorem rejoined_barns (s : State) :
    (closeAll (enterLockstep (endSuspension s)) 0x62 0).barns.standby = .lockstep ∧
    (closeAll (enterLockstep (endSuspension s)) 0x62 0).barns.suspended = false ∧
    (closeAll (enterLockstep (endSuspension s)) 0x62 0).barns.owner = s.barns.owner := by
  rw [(faultOnly_closeAll ..).1]
  exact ⟨rfl, rfl, rfl⟩
theorem rejoinFailed_counts (s : State) {inst ctx : Nat} :
    (closeAll (raise (endSuspension s) 11 inst ctx) 0x62 0x0C).barns.standby = s.barns.standby ∧
    (closeAll (raise (endSuspension s) 11 inst ctx) 0x62 0x0C).barns.suspended = false ∧
    (closeAll (raise (endSuspension s) 11 inst ctx) 0x62 0x0C).barns.owner = s.barns.owner ∧
    bits (tally (closeAll (raise (endSuspension s) 11 inst ctx) 0x62 0x0C) A_FLT_COUNT 11) 15 0 =
      satAdd 65535 (bits (tally s A_FLT_COUNT 11) 15 0) 1 := by
  rw [tally_eq_of_tal (closeAll_tal ..), count_raise _ _ _ (by decide) (by decide),
    (faultOnly_trans (faultOnly_raise ..) (faultOnly_closeAll ..)).1]
  exact ⟨rfl, rfl, rfl, rfl⟩

/-- Settles O39: the key slot by its state, the upgrade step by step. -/
theorem keysAndMicrocode : Obligations.KeysAndMicrocode := by
  refine ⟨⟨?key, ?lock, ?elsewhere⟩, ?steps, ?beat, ?rejoin⟩
  case key =>
    intro r n v s hs hcal hn
    rw [exec_mdKeyWrite hs hcal]
    refine ⟨fun hlock => by rw [keyWrite_locked hn hlock], fun hlock hnext h3 => ?_, fun hlock hnext h3 => ?_⟩
    · rw [keyWrite_next hn hlock hnext, if_neg (by omega)]
      refine ⟨_, rfl, ?_⟩
      rw [reply_md]
      exact ⟨rfl, rfl, rfl⟩
    · rw [keyWrite_next hn hlock hnext, if_pos h3]
      refine ⟨_, rfl, ?_⟩
      rw [reply_md]
      exact ⟨rfl, rfl, rfl⟩
  case lock =>
    intro r b s hs hcal
    refine ⟨fun hset => ?_, fun h2 hreq => ?_, fun hfree => ?_⟩
    · rw [exec_keyLock hs hcal, keyLock_set hset]
      refine ⟨_, rfl, ?_⟩
      rw [keyReply_md]
      exact ⟨rfl, rfl, rfl⟩
    · rw [exec_keyRequire hs hcal, keyRequire, setRequire_locked h2 hreq]
      rfl
    · rw [exec_keyRequire hs hcal, keyRequire, setRequire_free hfree]
      refine ⟨_, rfl, ?_⟩
      rw [keyReply_md]
      exact ⟨rfl, rfl, rfl⟩
  case elsewhere => exact fun r n v b s hs hcal => keySets_elsewhere hs hcal n v b
  case steps =>
    intro s c hc hup hwait hb htake h200
    refine ⟨fun v w h0 hlock hin hmc => ?_, fun h1 h198 hin => ?_, fun h2 hin => ?_, fun hstep => ?_⟩
    · have hexec : exec (.upgradeDetach true) s = .next (detachForUpgrade s c) := by
        rw [exec_upgradeDetach_one hc hup hwait hb htake h200 h0, hin, decide_eq_true hlock]
        rfl
      have h := detachForUpgrade_detaches c hmc
      rw [h0] at h
      exact ⟨_, hexec, h⟩
    · have hexec : exec (.upgradeDetach true) s = .next (standbyTested s c) := by
        rw [exec_upgradeDetach_two hc hup hwait hb htake h200 h1 h198, hin]
        rfl
      have h := standbyTested_passes s c
      rw [h1] at h
      exact ⟨_, hexec, h⟩
    · have hexec : exec (.upgradeDetach true) s = .next (passPhase s c) := by
        rw [exec_upgradeDetach_three hc hup hwait hb htake h200 h2, hin]
        rfl
      exact ⟨_, hexec, by rw [passPhase, h2], rfl⟩
    · have hexec : exec (.upgradeDetach false) s = .next (failUpgrade s) := by
        rcases hstep with h0 | ⟨h1, h198⟩ | h2
        · exact exec_upgradeDetach_one hc hup hwait hb htake h200 h0
        · exact exec_upgradeDetach_two hc hup hwait hb htake h200 h1 h198
        · exact exec_upgradeDetach_three hc hup hwait hb htake h200 h2
      have h := failUpgrade_fails hc hup
      exact ⟨_, hexec, h.couch, h.stage, h.status, h.suspended, h.owner, h.active⟩
  case beat =>
    intro s c hc hup hb hreached hrec hheld hswitch
    rw [exec_couchBeat hc hb hreached hrec hheld]
    refine ⟨fun hphase => ?_, fun v w hphase hmc hdyn => ?_⟩
    · have h := failUpgrade_fails hc hup
      rw [settleCouch_unready hup hphase, makeSwitch_none (h.switch.trans hswitch)]
      exact ⟨_, rfl, h.couch, h.stage, h.status, h.active, h.cfg, h.owner⟩
    · obtain ⟨h, howner, hstandby, hsw, hload⟩ := applyUpgrade_takes hup hrec hmc hdyn
      rw [settleCouch_ready hphase, makeSwitch_none (hsw.trans hswitch)]
      exact ⟨_, rfl, h.active, h.couch, howner, hstandby, hload⟩
  case rejoin =>
    intro s hsusp hc hb htake hrun hup
    have hexec := exec_upgradeRejoin hsusp hc hb htake hrun hup
    refine ⟨fun hx hin => ?_, fun ok hfail => ?_⟩
    · rw [hexec, rejoins_iff.2 ⟨rfl, hx, hin⟩]
      exact ⟨_, rfl, rejoined_barns s⟩
    · have hnot : ¬ rejoins s ok = true := by
        rw [rejoins_iff]
        rintro ⟨hok, hx, hin⟩
        rcases hfail with h | h | h
        · exact Bool.false_ne_true (h.symm.trans hok)
        · exact Bool.false_ne_true (h.symm.trans hx)
        · omega
      rw [hexec, if_neg hnot]
      exact ⟨_, rfl, rejoinFailed_counts s⟩

end Sys2Proof.Proofs
end

section
/-!
O1, O2: a step takes the front command; no command and no beat touches the queue of waiting commands.
-/
namespace Sys2Proof.Proofs
open Sys2Proof Sys2Proof.Machine Sys2Proof.Laws

/-- Settles O1: the two branches of a step. -/
theorem stepRunsFrontCommand : Obligations.StepRunsFrontCommand := by
  refine ⟨fun s c rest h => ?_, fun s h => ?_⟩
  · rw [step, h]
  · rw [step, h]

@[simp] theorem tapLoad_pending (s : State) (i : TapInst) (c : BitVec 6) (d : Nat) : (tapLoad s i c d).pending = s.pending := by
  rw [tapLoad_eq]; split <;> rfl
theorem tapSamplePreload_pending (s : State) : (after s (execTapSamplePreload s)).pending = s.pending := by
  unfold execTapSamplePreload
  rw [after_next]
  dsimp only
  split <;> exact tapLoad_pending ..
theorem tapBypass_pending (code : BitVec 6) (s : State) : (after s (execTapBypass code s)).pending = s.pending := by
  unfold execTapBypass
  rw [after_next]
  split
  · exact tapLoad_pending ..
  · rfl

/-- Wherever a row leads, the queue is as it was: each row by the law of its own operation. -/
theorem exec_pending (c : Instr) (s : State) : (after s (exec c s)).pending = s.pending :=
  match c with
  | .nop .. => core_pending (core_execNop ..)
  | .echo .. => core_pending (core_execEcho ..)
  | .identify .. => core_pending (core_execIdentify ..)
  | .modeRequest .. => core_pending (core_execModeRequest ..)
  | .get .. => core_pending (core_execGet ..)
  | .set .. => keep_pending (keep_base (base_execSet ..))
  | .getBlock .. => core_pending (core_execGetBlock ..)
  | .tallyRead .. => core_pending (core_execTallyRead ..)
  | .tallyPeek .. => core_pending (core_execTallyPeek ..)
  | .stageMould .. => core_pending (core_execStageMould ..)
  | .stageMouldFirst .. => core_pending (core_execStageMouldFirst ..)
  | .stagePatch .. => core_pending (core_execStagePatch ..)
  | .stagePatchFirst .. => core_pending (core_execStagePatchFirst ..)
  | .checkStaged .. => core_pending (core_execCheckStaged ..)
  | .mouldCheckComplete .. => core_pending (core_execMouldCheckComplete ..)
  | .couchImmediate .. => core_pending (core_execCouchImmediate ..)
  | .couchAtDeckle .. => core_pending (core_execCouchAtDeckle ..)
  | .couchAtPtpTime .. => core_pending (core_execCouchAtPtpTime ..)
  | .couchBeat .. => keep_pending (keep_base (base_execCouchBeat ..))
  | .discardStaged .. => core_pending (core_execDiscardStaged ..)
  | .mouldInfo .. => core_pending (core_execMouldInfo ..)
  | .injectConversion .. => core_pending (core_execInjectConversion ..)
  | .readMonitor .. => core_pending (core_execReadMonitor ..)
  | .testDacConnect .. => core_pending (core_execTestDacConnect ..)
  | .testDacRelease .. => core_pending (core_execTestDacRelease ..)
  | .testDacSettled .. => core_pending (core_execTestDacSettled ..)
  | .inputPathCheck .. => core_pending (core_execInputPathCheck ..)
  | .inputPathCheckEnd .. => core_pending (core_execInputPathCheckEnd ..)
  | .calStartForeground .. => core_pending (core_execCalStartForeground ..)
  | .calStartGleanChannel .. => core_pending (core_execCalStartGleanChannel ..)
  | .calStartGleanSweep .. => core_pending (core_execCalStartGleanSweep ..)
  | .calAbort .. => core_pending (core_execCalAbort ..)
  | .calStatus .. => core_pending (core_execCalStatus ..)
  | .calCommit .. => core_pending (core_execCalCommit ..)
  | .seedCommitComplete .. => keep_pending (keep_seedCommitComplete ..)
  | .seedRead .. => core_pending (core_execSeedRead ..)
  | .fence .. => core_pending (core_execFence ..)
  | .unfence .. => core_pending (core_execUnfence ..)
  | .faultRead .. => core_pending (core_execFaultRead ..)
  | .faultClear .. => core_pending (core_execFaultClear ..)
  | .faultClearFirst .. => core_pending (core_execFaultClearFirst ..)
  | .faultClearHistory .. => core_pending (core_execFaultClearHistory ..)
  | .errpinRelease .. => core_pending (core_execErrpinRelease ..)
  | .resetBlock .. => core_pending (core_execResetBlock ..)
  | .barnStatus .. => core_pending (core_execBarnStatus ..)
  | .barnSwitch .. => core_pending (core_execBarnSwitch ..)
  | .barnResync .. => core_pending (core_execBarnResync ..)
  | .timeStatus .. => core_pending (core_execTimeStatus ..)
  | .laneStatus .. => core_pending (core_execLaneStatus ..)
  | .granaryStatus .. => core_pending (core_execGranaryStatus ..)
  | .scrubStatus .. => core_pending (core_execScrubStatus ..)
  | .legacyEnter .. => core_pending (core_execLegacyEnter ..)
  | .legacyLeave .. => core_pending (core_execLegacyLeave ..)
  | .mdKeyWrite .. => core_pending (core_execMdKeyWrite ..)
  | .keyLock .. => core_pending (core_execKeyLock ..)
  | .keyRequire .. => core_pending (core_execKeyRequire ..)
  | .epochChange .. => core_pending (core_execEpochChange ..)
  | .commandFrame .. => core_pending (core_execCommandFrame ..)
  | .creditFrame .. => core_pending (core_execCreditFrame ..)
  | .aggAnnounceFrame .. => core_pending (core_execAggAnnounceFrame ..)
  | .spiWrite .. => core_pending (core_execSpiWrite ..)
  | .spiRead .. => core_pending (core_execSpiRead ..)
  | .spiStatus .. => core_pending (core_execSpiStatus ..)
  | .spiUnknownTransaction .. => core_pending (core_execSpiUnknownTransaction ..)
  | .replyFrameSend .. => core_pending (core_execReplyFrameSend ..)
  | .tgIdle cls v => core_pending (core_execTgIdle cls v s)
  | .tgAccept .. => core_pending (core_execTgAccept ..)
  | .tgDiscard .. => core_pending (core_execTgDiscard ..)
  | .tgSyncByteWord .. => core_pending (core_execTgSyncByteWord ..)
  | .tgSyncLoadWord .. => core_pending (core_execTgSyncLoadWord ..)
  | .tgPing cls v => core_pending (core_execTgPing cls v s)
  | .tgReservedOpcode op cls v => core_pending (core_execTgReservedOpcode op cls v s)
  | .windowComesIntoForce .. => core_pending (core_execWindowComesIntoForce ..)
  | .windowLeavesStore .. => core_pending (core_execWindowLeavesStore ..)
  | .earlyExpiry .. => core_pending (core_execEarlyExpiry ..)
  | .pendingExpiry .. => core_pending (core_execPendingExpiry ..)
  | .tgLossOfSignal .. => core_pending (core_execTgLossOfSignal ..)
  | .hitEdge .. => core_pending (core_execHitEdge ..)
  | .discriminatorRelease .. => core_pending (core_execDiscriminatorRelease ..)
  | .sampleConverted .. => core_pending (core_execSampleConverted ..)
  | .tdcStop .. => core_pending (core_execTdcStop ..)
  | .entryComplete .. => core_pending (core_execEntryComplete ..)
  | .stuckLimitExpiry .. => core_pending (core_execStuckLimitExpiry ..)
  | .stuckBackoffEnd .. => core_pending (core_execStuckBackoffEnd ..)
  | .stuckBackoffReset .. => core_pending (core_execStuckBackoffReset ..)
  | .winnowerReadEntry .. => core_pending (core_execWinnowerReadEntry ..)
  | .sheafToStaging .. => core_pending (core_execSheafToStaging ..)
  | .tallyReport .. => core_pending (core_execTallyReport ..)
  | .stagingSwap .. => core_pending (core_execStagingSwap ..)
  | .stagingDrain .. => core_pending (core_execStagingDrain ..)
  | .granaryWrite .. => core_pending (core_execGranaryWrite ..)
  | .p0HoldWrite .. => core_pending (core_execP0HoldWrite ..)
  | .deferredP0Write .. => core_pending (core_execDeferredP0Write ..)
  | .bankPowerOff .. => core_pending (core_execBankPowerOff ..)
  | .scrubSlot .. => core_pending (core_execScrubSlot ..)
  | .scrubBurst .. => core_pending (core_execScrubBurst ..)
  | .granaryReport .. => core_pending (core_execGranaryReport ..)
  | .mergeScheduleEntry .. => core_pending (core_execMergeScheduleEntry ..)
  | .quireClose .. => core_pending (core_execQuireClose ..)
  | .quireSend .. => core_pending (core_execQuireSend ..)
  | .negotiationTimeout .. => core_pending (core_execNegotiationTimeout ..)
  | .trainingEnd .. => core_pending (core_execTrainingEnd ..)
  | .laneActivate .. => core_pending (core_execLaneActivate ..)
  | .trainingConfirmTimeout .. => core_pending (core_execTrainingConfirmTimeout ..)
  | .creditTimeout .. => core_pending (core_execCreditTimeout ..)
  | .laneTransmitterFault .. => core_pending (core_execLaneTransmitterFault ..)
  | .laneFailedRetry .. => core_pending (core_execLaneFailedRetry ..)
  | .laneSleepEntry .. => core_pending (core_execLaneSleepEntry ..)
  | .drainComplete .. => core_pending (core_execDrainComplete ..)
  | .linkReport .. => core_pending (core_execLinkReport ..)
  | .downlaneLockLoss .. => core_pending (core_execDownlaneLockLoss ..)
  | .downlaneLock .. => core_pending (core_execDownlaneLock ..)
  | .refclkLoss .. => core_pending (core_execRefclkLoss ..)
  | .refclkReturn .. => core_pending (core_execRefclkReturn ..)
  | .syncInPulse .. => core_pending (core_execSyncInPulse ..)
  | .syncLoadOrCheck .. => keep_pending (keep_syncLoadOrCheck _)
  | .timeStep .. => keep_pending (keep_timeStep _)
  | .epochPeriodic .. => core_pending (core_execEpochPeriodic ..)
  | .ptpSync .. => core_pending (core_execPtpSync ..)
  | .ptpFollowUp .. => core_pending (core_execPtpFollowUp ..)
  | .ptpDelayResp .. => core_pending (core_execPtpDelayResp ..)
  | .ptpAnnounce .. => core_pending (core_execPtpAnnounce ..)
  | .ptpDiscardedMessage .. => core_pending (core_execPtpDiscardedMessage ..)
  | .delayReqSend .. => core_pending (core_execDelayReqSend ..)
  | .masterLoss .. => core_pending (core_execMasterLoss ..)
  | .holdoverExpiry .. => core_pending (core_execHoldoverExpiry ..)
  | .tpLinkDown .. => core_pending (core_execTpLinkDown ..)
  | .tpLinkUp .. => core_pending (core_execTpLinkUp ..)
  | .replicaMeasureAsleep .. => core_pending (core_execReplicaMeasureAsleep ..)
  | .deckleBoundary .. => keep_pending (keep_deckleBoundary ..)
  | .modeTransition .. => keep_pending (keep_base (base_execModeTransition ..))
  | .recoveryEntry .. => keep_pending (keep_base (base_execRecoveryEntry ..))
  | .recoveryStepComplete .. => core_pending (core_execRecoveryStepComplete ..)
  | .recoveryReturn .. => keep_pending (keep_base (base_execRecoveryReturn ..))
  | .recoveryWindowExpiry .. => core_pending (core_execRecoveryWindowExpiry ..)
  | .startupStepComplete .. => keep_pending (keep_base (base_execStartupStepComplete ..))
  | .startupComplete .. => core_pending (core_execStartupComplete ..)
  | .autoStart .. => keep_pending (keep_base (base_execAutoStart ..))
  | .bootStagingTimeout .. => core_pending (core_execBootStagingTimeout ..)
  | .heldEntry .. => keep_pending (keep_base (base_execHeldEntry ..))
  | .powerOn .. => (powerOn_keeps s).1
  | .supplyGood .. => core_pending (core_execSupplyGood ..)
  | .supplyFail .. => core_pending (core_execSupplyFail ..)
  | .powerGoodAssert .. => core_pending (core_execPowerGoodAssert ..)
  | .powerGoodWithdraw .. => keep_pending (keep_base (base_execPowerGoodWithdraw ..))
  | .vddioLoss .. => keep_pending (keep_base (base_execVddioLoss ..))
  | .vddMemLoss .. => keep_pending (keep_base (base_execVddMemLoss ..))
  | .resetNLow .. => keep_pending (keep_base (base_execResetNLow ..))
  | .resetNRise .. => core_pending (core_execResetNRise ..)
  | .faultRaise .. => core_pending (core_execFaultRaise ..)
  | .trapResume .. => core_pending (core_execTrapResume ..)
  | .fenceTakesEffect .. => core_pending (core_execFenceTakesEffect ..)
  | .blockResetStart .. => core_pending (core_execBlockResetStart ..)
  | .blockResetDecision .. => core_pending (core_execBlockResetDecision ..)
  | .reactionWindowEnd .. => core_pending (core_execReactionWindowEnd ..)
  | .errpinMinElapsed .. => core_pending (core_execErrpinMinElapsed ..)
  | .lockstepMismatch .. => core_pending (core_execLockstepMismatch ..)
  | .barnAlarm .. => core_pending (core_execBarnAlarm ..)
  | .barnSelftestStart .. => core_pending (core_execBarnSelftestStart ..)
  | .barnSelftestVerdict .. => core_pending (core_execBarnSelftestVerdict ..)
  | .crosslinkLoss .. => core_pending (core_execCrosslinkLoss ..)
  | .crosslinkRestored .. => core_pending (core_execCrosslinkRestored ..)
  | .resyncSnapshot .. => core_pending (core_execResyncSnapshot ..)
  | .resyncJournal .. => core_pending (core_execResyncJournal ..)
  | .resyncJoin .. => core_pending (core_execResyncJoin ..)
  | .resyncAbandon .. => core_pending (core_execResyncAbandon ..)
  | .barnRetest .. => core_pending (core_execBarnRetest ..)
  | .revert .. => core_pending (core_execRevert ..)
  | .upgradeDetach .. => core_pending (core_execUpgradeDetach ..)
  | .upgradeRejoin .. => core_pending (core_execUpgradeRejoin ..)
  | .gleanSweepStart .. => core_pending (core_execGleanSweepStart ..)
  | .gleanRunStart .. => core_pending (core_execGleanRunStart ..)
  | .calibrationMeasurement .. => core_pending (core_execCalibrationMeasurement ..)
  | .calibrationRelease .. => core_pending (core_execCalibrationRelease ..)
  | .foregroundRunEnd .. => core_pending (core_execForegroundRunEnd ..)
  | .calClaimTakesEffect .. => core_pending (core_execCalClaimTakesEffect ..)
  | .monitorWindowEnd .. => core_pending (core_execMonitorWindowEnd ..)
  | .monitorResultDelivered .. => core_pending (core_execMonitorResultDelivered ..)
  | .injectAbortEdge .. => core_pending (core_execInjectAbortEdge ..)
  | .baselineSlewStep .. => core_pending (core_execBaselineSlewStep ..)
  | .tapHoldRelease .. => core_pending (core_execTapHoldRelease ..)
  | .corePllFastStart .. => core_pending (core_execCorePllFastStart ..)
  | .corePllStop .. => core_pending (core_execCorePllStop ..)
  | .corePllLockLoss .. => core_pending (core_execCorePllLockLoss ..)
  | .lcPllLockLoss .. => core_pending (core_execLcPllLockLoss ..)
  | .stookClockStart .. => core_pending (core_execStookClockStart ..)
  | .stookSleep .. => core_pending (core_execStookSleep ..)
  | .granaryInterfaceSleep .. => core_pending (core_execGranaryInterfaceSleep ..)
  | .nl64ScanSlot .. => core_pending (core_execNl64ScanSlot ..)
  | .nl64ResultUpdate .. => core_pending (core_execNl64ResultUpdate ..)
  | .registerPersonalitySwitch .. => core_pending (core_execRegisterPersonalitySwitch ..)
  | .resultLoRead .. => core_pending (core_execResultLoRead ..)
  | .resultHiRead .. => core_pending (core_execResultHiRead ..)
  | .nlPointerWrite .. => core_pending (core_execNlPointerWrite ..)
  | .nlRegisterWrite .. => core_pending (core_execNlRegisterWrite ..)
  | .tapExtest .. => tapLoad_pending ..
  | .tapSamplePreload => tapSamplePreload_pending s
  | .tapIdcode .. => tapLoad_pending ..
  | .tapClamp .. => tapLoad_pending ..
  | .tapHighz .. => tapLoad_pending ..
  | .tapBypass code => tapBypass_pending code s
  | .tapTestLogicReset => tapLoad_pending ..
  | .startupStepTimeout .. => core_pending (core_execStartupStepTimeout ..)
  | .lanerefReturn .. => core_pending (core_execLanerefReturn ..)
  | .tgSignalReturn .. => core_pending (core_execTgSignalReturn ..)

/-- Settles O2: every row leaves the queue, and so does a beat. -/
theorem queueBelongsToStep : Obligations.QueueBelongsToStep := by
  refine ⟨fun c s t h => ?_, fun s => keep_pending (keep_tick s)⟩
  simpa only [h, after_next] using exec_pending c s

end Sys2Proof.Proofs
end

section
/-!
O7: whatever is sent or raised, the event queue, the history and the fence queue stay within 16 (R335, R355, R359).
-/
namespace Sys2Proof.Proofs
open Sys2Proof Sys2Proof.Machine Sys2Proof.Laws

/-- The lengths of the three bounded lists. -/
def sizes (s : State) : Nat × Nat × Nat := (s.cmd.spiEv.length, s.flt.hist.length, s.flt.queue.length)

section
variable {s t : State}

theorem bounded_of_sizes (h : sizes t = sizes s) (hs : s.Bounded) : t.Bounded := by
  obtain ⟨hev, hhist, hqueue⟩ := hs
  obtain ⟨gev, ghist, gqueue⟩ : t.cmd.spiEv.length = s.cmd.spiEv.length ∧ t.flt.hist.length = s.flt.hist.length ∧
    t.flt.queue.length = s.flt.queue.length := by simpa [sizes] using h
  exact ⟨gev ▸ hev, ghist ▸ hhist, gqueue ▸ hqueue⟩

/-! ## What leaves the lengths as they are -/

theorem sizes_closeCmd (s : State) (r : Req) (op st dt : Nat) (data : List PWord) :
    sizes (closeCmd s r op st dt data) = sizes s := by
  rw [closeCmd, (reply_queues ..).2]; rfl
theorem sizes_foldl {α : Type} {f : State → α → State} (h : ∀ s a, sizes (f s a) = sizes s) (l : List α) (s : State) :
    sizes (l.foldl f s) = sizes s := by
  induction l generalizing s with
  | nil => rfl
  | cons a l ih => exact (ih _).trans (h s a)
theorem sizes_assertErr (s : State) : sizes (assertErr s) = sizes s := by
  unfold assertErr
  split
  · exact sizes_foldl (fun _ _ => sizes_closeCmd ..) _ _
  · split <;> rfl
theorem sizes_editRec (s : State) (key : Nat) (f : FaultRec → FaultRec) : sizes (editRec s key f) = sizes s := by
  simp [sizes, editRec]
theorem sizes_addConsequent (s : State) (key : Nat) : sizes (addConsequent s key) = sizes s := sizes_editRec ..
theorem sizes_recoveryFail (s : State) : sizes (recoveryFail s) = sizes s := by
  unfold recoveryFail; split <;> rfl
theorem sizes_causeRecovery (s : State) (code : Byte) : sizes (causeRecovery s code) = sizes s := by
  unfold causeRecovery; split <;> rfl
theorem sizes_escalateBeyond (s : State) (key : Nat) : sizes (escalateBeyond s key) = sizes s := by
  unfold escalateBeyond
  extract_lets s₁ s₂
  have h₂ : sizes s₂ = sizes s := sizes_assertErr s₁
  rw [← h₂]
  clear_value s₂
  split
  · rw [sizes_causeRecovery, sizes_editRec]
  · rw [sizes_causeRecovery, sizes_editRec]
  · rw [sizes_recoveryFail, sizes_editRec]
  · exact sizes_editRec ..

/-! ## What may add to a list -/

theorem bounded_send (m : Msg) (hs : s.Bounded) : (send s m).Bounded := by
  obtain ⟨hev, hhist, hqueue⟩ := hs
  refine ⟨send_spiEv s m hev, ?_, ?_⟩
  · rwa [send_flt]
  · rwa [send_flt]
/-- An act joins the queue only where a place is free (R359). -/
theorem bounded_queueAct (a : Act) (hs : s.Bounded) : (queueAct s a).Bounded := by
  unfold queueAct
  split
  · exact bounded_of_sizes rfl hs
  split
  · next hroom =>
    refine ⟨hs.1, hs.2.1, ?_⟩
    dsimp only
    rw [List.length_append, List.length_cons, ← Nat.add_assoc, ← List.length_eq_length_filter_add]
    exact hroom
  split
  · exact bounded_of_sizes (sizes_escalateBeyond ..) hs
  · exact bounded_of_sizes rfl hs
theorem histInsert_length (f : FaultRec) (l : List FaultRec) : (histInsert f l).length = l.length + 1 := by
  induction l with
  | nil => rfl
  | cons x l ih =>
    rw [histInsert]
    split
    · rfl
    · rw [List.length_cons, ih, List.length_cons]
/-- A full history gives up its oldest record (R355). -/
theorem bounded_logRaise (f : FaultRec) (hs : s.Bounded) : (logRaise s f).Bounded := by
  obtain ⟨hev, hhist, hqueue⟩ := hs
  have hlen := histInsert_length f s.flt.hist
  refine ⟨?_, ?_, ?_⟩
  · unfold logRaise; dsimp only; split <;> exact hev
  · unfold logRaise
    dsimp only
    split
    · assumption
    · rw [List.length_drop]; omega
  · unfold logRaise; dsimp only; split <;> exact hqueue
theorem bounded_ite {c : Prop} [Decidable c] {u : State} (ht : t.Bounded) (hu : u.Bounded) :
    (if c then t else u).Bounded := by split <;> assumption
theorem bounded_react (f : FaultRec) (hs : s.Bounded) : (react s f).Bounded := by
  unfold react
  extract_lets m window target s₁ _ s₂ _ s₃ isolates long stop _ s₄ s₅
  have h₁ : s₁.Bounded := bounded_ite (bounded_of_sizes (sizes_assertErr s) hs) hs
  have h₂ : s₂.Bounded := bounded_ite (bounded_of_sizes rfl h₁) h₁
  have h₃ : s₃.Bounded := bounded_ite (bounded_of_sizes rfl h₂) h₂
  have h₄ : s₄.Bounded := bounded_ite (bounded_of_sizes rfl h₃) h₃
  have h₅ : s₅.Bounded := bounded_ite (bounded_of_sizes rfl h₄) h₄
  clear_value isolates s₅
  split
  · exact bounded_queueAct _ h₅
  · exact bounded_ite (bounded_of_sizes rfl h₅) h₅
theorem bounded_raise (src inst ctx : Nat) (hs : s.Bounded) : (raise s src inst ctx).Bounded := by
  unfold raise
  refine bounded_ite hs ?_
  dsimp only
  split
  · next x _ => exact bounded_of_sizes (sizes_addConsequent (count s A_FLT_COUNT src 15 0 1) x.key) hs
  · refine bounded_react _ (bounded_logRaise _ ?_)
    split
    · next p _ => exact bounded_of_sizes (sizes_addConsequent _ p.key) hs
    · exact bounded_of_sizes rfl hs

end

/-- Settles O7: a send adds to the event queue alone, a raise to the history and the fence queue, each within its bound. -/
theorem boundsHold : Obligations.BoundsHold :=
  ⟨fun _ m hs => bounded_send m hs, fun _ src inst ctx hs => bounded_raise src inst ctx hs⟩

end Sys2Proof.Proofs
end

section
/-!
O40, O41: the checks of a packet in their order (R329), and that a packet put together as R327 gives is read as the command it
was made for (R327, R328, Table 11.8).
-/
namespace Sys2Proof.Proofs
open Sys2Proof Sys2Proof.Machine Sys2Proof.Laws

/-! ## The checks, one equation for each way they end (R329) -/

/-- LENGTH of a header word. -/
abbrev lengthOf (h : Nat) : Nat := bits h 15 7
/-- The opcode of a header word. -/
abbrev opcodeOf (h : Nat) : Nat := bits h 31 24
/-- The byte count that a transport gives fits the header and the bytes it has. -/
def sizeOk (size : Nat) (bs : List Byte) : Prop :=
  8 ≤ size ∧ lengthOf (headerWord bs) ≤ 269 ∧ size = 8 + 4 * lengthOf (headerWord bs) ∧ size = bs.length
/-- The trailer holds the CRC-16 of header and words. -/
abbrev crcOk (size : Nat) (bs : List Byte) : Prop := ofBytes (bs.drop (size - 2)) = crc16 (bs.take (size - 4))
/-- The checks behind those of the bytes: opcode, flags, LENGTH, mode, and the parameter words `ws` under header word `h`. -/
def checkForm (s : State) (p : Port) (size h : Nat) (ws : List PWord) : Sum Instr (Nat × Nat) :=
  if !knownOpcode (opcodeOf h) then .inr (3, 0)
  else if h % 128 ≠ 0 then .inr (6, 0xFF)
  else if !lengthOk (opcodeOf h) (lengthOf h) ws then .inr (4, size)
  else if !opcodeAllowed (opcodeOf h) s.modes.cur then .inr (7, modeByte s)
  else match earlier (reservedWord ws 0 (reservedBits (opcodeOf h) ws)) (rangeWord (opcodeOf h) (lengthOf h) ws) with
    | some k => .inr (6, k)
    | none =>
      match commandOf { port := p, tag := BitVec.ofNat 8 (bits h 23 16) } (opcodeOf h) (lengthOf h) ws with
      | .inl i => .inl i
      | .inr k => .inr (6, k)

section
variable {s : State} {p : Port} {size : Nat} {bs : List Byte}

theorem checkPacket_badSize (h : size < 8 ∨ 269 < lengthOf (headerWord bs) ∨ size ≠ 8 + 4 * lengthOf (headerWord bs) ∨
    size ≠ bs.length) : checkPacket s p size bs = .inr (4, size % 65536) :=
  if_pos (by simpa [or_assoc] using h)
theorem checkPacket_sized (hs : sizeOk size bs) : checkPacket s p size bs =
    if crcOk size bs then checkForm s p size (headerWord bs) (packetWords bs (lengthOf (headerWord bs)))
    else .inr (5, crc16 (bs.take (size - 4))) := by
  obtain ⟨h8, h269, hsize, hlen⟩ := hs
  refine (if_neg ?_).trans (ite_not ..)
  simp only [Bool.or_eq_true, decide_eq_true_eq, not_or, Nat.not_lt, ne_eq, not_not]
  exact ⟨⟨⟨h8, h269⟩, hsize⟩, hlen⟩

end

section
variable {s : State} {p : Port} {size h : Nat} {ws : List PWord}

theorem checkForm_unknown (hk : knownOpcode (opcodeOf h) = false) : checkForm s p size h ws = .inr (3, 0) := by
  rw [checkForm, hk]; rfl
variable (hk : knownOpcode (opcodeOf h) = true)
include hk
theorem checkForm_badFlags (hf : h % 128 ≠ 0) : checkForm s p size h ws = .inr (6, 0xFF) := by
  rw [checkForm, hk, if_neg (by decide), if_pos hf]
variable (hf : h % 128 = 0)
include hf
theorem checkForm_badLength (hl : lengthOk (opcodeOf h) (lengthOf h) ws = false) : checkForm s p size h ws = .inr (4, size) := by
  rw [checkForm, hk, if_neg (by decide), if_neg (not_not.2 hf), hl]; rfl
variable (hl : lengthOk (opcodeOf h) (lengthOf h) ws = true)
include hl
theorem checkForm_notInMode (hm : opcodeAllowed (opcodeOf h) s.modes.cur = false) :
    checkForm s p size h ws = .inr (7, modeByte s) := by
  rw [checkForm, hk, if_neg (by decide), if_neg (not_not.2 hf), hl, if_neg (by decide), hm]; rfl
theorem checkForm_passes {i : Instr} (hm : opcodeAllowed (opcodeOf h) s.modes.cur = true)
    (hres : reservedWord ws 0 (reservedBits (opcodeOf h) ws) = none) (hran : rangeWord (opcodeOf h) (lengthOf h) ws = none)
    (hi : commandOf { port := p, tag := BitVec.ofNat 8 (bits h 23 16) } (opcodeOf h) (lengthOf h) ws = .inl i) :
    checkForm s p size h ws = .inl i := by
  rw [checkForm, hk, if_neg (by decide), if_neg (not_not.2 hf), hl, if_neg (by decide), hm, if_neg (by decide), hres, hran, hi]
  rfl

end

/-- Settles O40: each failure is the first branch that its check closes. -/
theorem packetChecks : Obligations.PacketChecks := by
  intro s p size bs h n op
  refine ⟨checkPacket_badSize, fun h8 h269 hsize hlen => ?_⟩
  rw [checkPacket_sized ⟨h8, h269, hsize, hlen⟩]
  refine ⟨fun hc => if_neg hc, fun hc => ?_⟩
  rw [if_pos (show crcOk size bs from hc)]
  exact ⟨checkForm_unknown, fun hk => ⟨checkForm_badFlags hk, fun hf =>
    ⟨checkForm_badLength hk hf, checkForm_notInMode hk hf⟩⟩⟩

/-! ## A packet as R327 puts it together -/

/-- The header word of R327: opcode, tag, LENGTH, no flag. -/
def headerOf (op : Nat) (tag : Byte) (n : Nat) : Nat := op * 2 ^ 24 + tag.toNat * 2 ^ 16 + n * 2 ^ 7
/-- Header and words: what the CRC-16 covers. -/
def packetBody (op : Nat) (tag : Byte) (ws : List PWord) : List Byte := toBytes 4 (headerOf op tag ws.length) ++ wordsBytes ws
def packetBytes (op : Nat) (tag : Byte) (ws : List PWord) : List Byte :=
  packetBody op tag ws ++ toBytes 4 (crc16 (packetBody op tag ws))

section
variable {op n : Nat} {tag : Byte} {ws : List PWord}

theorem headerOf_parts (hop : op < 256) (hn : n < 512) : headerOf op tag n < 2 ^ 32 ∧ opcodeOf (headerOf op tag n) = op ∧
    bits (headerOf op tag n) 23 16 = tag.toNat ∧ lengthOf (headerOf op tag n) = n ∧ headerOf op tag n % 128 = 0 := by
  have htag := tag.isLt
  simp only [headerOf, opcodeOf, lengthOf, bits]
  omega
theorem wordsBytes_length (ws : List PWord) : (wordsBytes ws).length = 4 * ws.length := by
  induction ws with
  | nil => rfl
  | cons w ws ih =>
    simp only [wordsBytes, List.flatMap_cons, List.length_append, toBytes_length, List.length_cons] at ih ⊢
    omega
/-- The words come back from their bytes, whatever follows. -/
theorem toWords_wordsBytes (ws : List PWord) (rest : List Byte) : toWords ws.length (wordsBytes ws ++ rest) = ws := by
  induction ws with
  | nil => rfl
  | cons w ws ih =>
    have hw : (toBytes 4 w.toNat).length = 4 := toBytes_length ..
    have hsplit : wordsBytes (w :: ws) ++ rest = toBytes 4 w.toNat ++ (wordsBytes ws ++ rest) := by simp [wordsBytes]
    rw [hsplit, List.length_cons, toWords, List.append_assoc, List.take_left' hw, List.drop_left' hw, ih, ofBytes_toBytes,
      Nat.mod_eq_of_lt (show w.toNat < 256 ^ 4 from w.isLt), BitVec.ofNat_toNat, BitVec.setWidth_eq]
    · exact List.append_ne_nil_of_left_ne_nil (List.ne_nil_of_length_pos (by omega)) _
theorem crcStep_lt {poly : Nat} (hp : poly < 2 ^ 16) (n : Nat) : ∀ r, r < 2 ^ 16 → crcStep poly 16 n r < 2 ^ 16 := by
  induction n with
  | zero => intro r h; exact h
  | succ n ih =>
    intro r h
    refine ih _ ?_
    have hr : r * 2 % 2 ^ 16 < 2 ^ 16 := Nat.mod_lt _ (by decide)
    split
    · exact Nat.xor_lt_two_pow hr hp
    · exact hr
theorem crc16_lt (bs : List Byte) : crc16 bs < 2 ^ 16 := by
  unfold crc16
  suffices ∀ r, r < 2 ^ 16 → bs.foldl (fun r b => crcStep 0x1021 16 8 (r ^^^ (b.toNat * 256))) r < 2 ^ 16 from
    this _ (by decide)
  induction bs with
  | nil => intro r h; exact h
  | cons b bs ih =>
    intro r h
    exact ih _ (crcStep_lt (by decide) 8 _ (Nat.xor_lt_two_pow h (by have := b.isLt; omega)))

theorem packetBody_length : (packetBody op tag ws).length = 4 + 4 * ws.length := by
  rw [packetBody, List.length_append, toBytes_length, wordsBytes_length]
theorem packetBytes_length : (packetBytes op tag ws).length = 8 + 4 * ws.length := by
  rw [packetBytes, List.length_append, toBytes_length, packetBody_length]; omega

section
variable (hop : op < 256) (hn : ws.length ≤ 269)
include hop hn

theorem headerWord_packetBytes : headerWord (packetBytes op tag ws) = headerOf op tag ws.length := by
  rw [headerWord, packetBytes, packetBody]
  simp only [List.append_assoc]
  rw [List.take_left' (toBytes_length ..), ofBytes_toBytes]
  exact Nat.mod_eq_of_lt (headerOf_parts hop (by omega)).1
theorem sizeOk_packetBytes : sizeOk (packetBytes op tag ws).length (packetBytes op tag ws) := by
  obtain ⟨-, -, -, hlen, -⟩ := headerOf_parts (tag := tag) hop (show ws.length < 512 by omega)
  rw [sizeOk, headerWord_packetBytes hop hn, hlen, packetBytes_length]
  omega

end

theorem crcOk_packetBytes : crcOk (packetBytes op tag ws).length (packetBytes op tag ws) := by
  have hcrc := crc16_lt (packetBody op tag ws)
  have hbody := packetBody_length (op := op) (tag := tag) (ws := ws)
  have htake : (packetBytes op tag ws).take ((packetBytes op tag ws).length - 4) = packetBody op tag ws := by
    rw [packetBytes_length]
    exact List.take_left' (by omega)
  have hdrop : (packetBytes op tag ws).drop ((packetBytes op tag ws).length - 2) =
      toBytes 2 (crc16 (packetBody op tag ws)) := by
    have hlast : packetBytes op tag ws = (packetBody op tag ws ++ [BitVec.ofNat 8 (crc16 (packetBody op tag ws) / 2 ^ 24),
        BitVec.ofNat 8 (crc16 (packetBody op tag ws) / 2 ^ 16)]) ++ toBytes 2 (crc16 (packetBody op tag ws)) := by
      rw [List.append_assoc]; rfl
    rw [packetBytes_length, hlast]
    refine List.drop_left' ?_
    rw [List.length_append, hbody, List.length_cons, List.length_singleton]
    omega
  rw [crcOk, htake, hdrop, ofBytes_toBytes]
  exact Nat.mod_eq_of_lt hcrc
theorem packetWords_packetBytes : packetWords (packetBytes op tag ws) ws.length = ws := by
  rw [packetWords, packetBytes, packetBody, List.append_assoc, List.drop_left' (toBytes_length ..), toWords_wordsBytes]

/-- The packet of this opcode, tag and words is read as `i`. -/
def Reads (s : State) (p : Port) (op : Nat) (tag : Byte) (ws : List PWord) (i : Instr) : Prop :=
  checkPacket s p (packetBytes op tag ws).length (packetBytes op tag ws) = .inl i
/-- A packet put together as R327 gives reaches the command it spells, when its parameter words pass their checks. -/
theorem checkPacket_reads {s : State} {p : Port} {i : Instr} (hk : knownOpcode op = true)
    (hl : lengthOk op ws.length ws = true) (hm : opcodeAllowed op s.modes.cur = true)
    (hres : reservedWord ws 0 (reservedBits op ws) = none) (hran : rangeWord op ws.length ws = none)
    (hi : commandOf { port := p, tag := tag } op ws.length ws = .inl i) (hn : ws.length ≤ 269 := by simp)
    (hop : op < 256 := by decide) : Reads s p op tag ws i := by
  obtain ⟨-, hopcode, htag, hlen, hflags⟩ := headerOf_parts (tag := tag) hop (show ws.length < 512 by omega)
  have hreq : BitVec.ofNat 8 tag.toNat = tag := by rw [BitVec.ofNat_toNat, BitVec.setWidth_eq]
  rw [Reads, checkPacket_sized (sizeOk_packetBytes hop hn), if_pos crcOk_packetBytes, headerWord_packetBytes hop hn, hlen,
    packetWords_packetBytes]
  refine checkForm_passes ?_ hflags ?_ ?_ ?_ ?_ ?_
  · rw [hopcode]; exact hk
  · rw [hopcode, hlen]; exact hl
  · rw [hopcode]; exact hm
  · rw [hopcode]; exact hres
  · rw [hopcode, hlen]; exact hran
  · rw [hopcode, hlen, htag, hreq]; exact hi

end

/-! ## The parameter words (Table 11.8) -/

/-- No bit of the field `[lo + k - 1 : lo]` is set. -/
theorem and_field_eq_zero {v k lo : Nat} (h : v / 2 ^ lo % 2 ^ k = 0) : v &&& (2 ^ k - 1) * 2 ^ lo = 0 := by
  apply Nat.eq_of_testBit_eq
  intro i
  rw [Nat.testBit_and, Nat.testBit_mul_two_pow, Nat.zero_testBit, Nat.testBit_two_pow_sub_one]
  by_cases hi : lo ≤ i ∧ i - lo < k
  · have hbit : Nat.testBit (v / 2 ^ lo % 2 ^ k) (i - lo) = Nat.testBit v i := by
      rw [Nat.testBit_mod_two_pow, Nat.testBit_div_two_pow, decide_eq_true hi.2, Bool.true_and, Nat.sub_add_cancel hi.1]
    rw [← hbit, h, Nat.zero_testBit, Bool.false_and]
  · rw [Bool.and_eq_false_iff, Bool.and_eq_false_iff, decide_eq_false_iff_not, decide_eq_false_iff_not]
    omega
theorem width_le {id inst : Nat} {a : Attr} (h : addressed id inst = some a) : a.width ≤ 16 := by
  have hf : attrFind id inst = some a := by
    unfold addressed at h
    split at h
    · cases h
    · exact h
  have hmem : a ∈ attrBlock (id / 4096) := List.mem_of_find?_eq_some hf
  have hall : ∀ k < 15, ∀ b ∈ attrBlock k, b.width ≤ 16 := by decide
  rcases Nat.lt_or_ge (id / 4096) 15 with hk | hk
  · exact hall _ hk a hmem
  · obtain ⟨j, hj⟩ := Nat.exists_eq_add_of_le' hk
    rw [hj] at hmem
    exact absurd hmem List.not_mem_nil
/-- The commands that every mode but HELD accepts. -/
theorem opcodeAllowed_awake {m : Mode} {op : Nat} (h : m ≠ .held)
    (hop : op ∈ [0x01, 0x02, 0x10, 0x11, 0x31, 0x44, 0x53, 0x71]) : opcodeAllowed op m = true := by
  fin_cases hop <;> cases m <;> first | exact absurd rfl h | rfl

/-- A parameter word whose reserved bits are not set passes its check. -/
theorem reservedWord_one {w : PWord} {mask : Nat} (h : w.toNat &&& mask = 0) : reservedWord [w] 0 [mask] = none := by
  simp [reservedWord, wordAt, h]
/-- The address of a SET or GET operand in a word (R341). -/
theorem address_parts (id : BitVec 16) (inst : BitVec 9) :
    (BitVec.ofNat 32 (id.toNat * 2 ^ 16 + inst.toNat)).toNat = id.toNat * 2 ^ 16 + inst.toNat ∧
    (id.toNat * 2 ^ 16 + inst.toNat) / 2 ^ 16 = id.toNat ∧ (id.toNat * 2 ^ 16 + inst.toNat) % 2 ^ 9 = inst.toNat ∧
    (id.toNat * 2 ^ 16 + inst.toNat) &&& 0xFE00 = 0 := by
  have hid := id.isLt
  have hinst := inst.isLt
  refine ⟨?_, ?_, ?_, and_field_eq_zero (k := 7) (lo := 9) ?_⟩
  · rw [BitVec.toNat_ofNat]; omega
  · omega
  · omega
  · omega
/-- An index and what lies below it, in a word. -/
theorem indexed_parts {m : Nat} (hm : m ≤ 8) (i : BitVec m) (n : Byte) :
    (BitVec.ofNat 32 (n.toNat * 2 ^ 8 + i.toNat)).toNat = n.toNat * 2 ^ 8 + i.toNat ∧
    bits (n.toNat * 2 ^ 8 + i.toNat) 15 8 = n.toNat ∧ (n.toNat * 2 ^ 8 + i.toNat) % 2 ^ m = i.toNat ∧
    (n.toNat * 2 ^ 8 + i.toNat) &&& 0xFFFF0000 = 0 := by
  have hi := i.isLt
  have hi8 : i.toNat < 256 := lt_of_lt_of_le hi (Nat.pow_le_pow_right (by decide) hm : 2 ^ m ≤ 2 ^ 8)
  have hn := n.isLt
  refine ⟨?_, ?_, ?_, and_field_eq_zero (k := 16) (lo := 16) ?_⟩
  · rw [BitVec.toNat_ofNat]; omega
  · rw [bits]; omega
  · have h8 : 2 ^ 8 = 2 ^ m * 2 ^ (8 - m) := by rw [← Nat.pow_add, Nat.add_sub_cancel' hm]
    rw [h8, Nat.mul_left_comm, Nat.mul_add_mod, Nat.mod_eq_of_lt hi]
  · omega
theorem ofNat_eq_of_mod {m v : Nat} {x : BitVec m} (h : v % 2 ^ m = x.toNat) : BitVec.ofNat m v = x :=
  BitVec.eq_of_toNat_eq (by rw [BitVec.toNat_ofNat, h])
/-- The two words of a 64-bit operand, upper half first. -/
theorem halves_toNat {m : Nat} (hm64 : m ≤ 64) (x : BitVec m) :
    (BitVec.ofNat 32 (x.toNat / 2 ^ 32)).toNat = x.toNat / 2 ^ 32 ∧
    (BitVec.ofNat 32 (x.toNat % 2 ^ 32)).toNat = x.toNat % 2 ^ 32 ∧
    BitVec.ofNat m (x.toNat / 2 ^ 32 * 2 ^ 32 + x.toNat % 2 ^ 32) = x := by
  have hx : x.toNat < 2 ^ 64 := lt_of_lt_of_le x.isLt (Nat.pow_le_pow_right (by decide) hm64)
  refine ⟨?_, ?_, ?_⟩
  · rw [BitVec.toNat_ofNat]; omega
  · rw [BitVec.toNat_ofNat, Nat.mod_mod]
  · rw [Nat.div_add_mod', BitVec.ofNat_toNat, BitVec.setWidth_eq]
/-- SET counts the words of its operand. -/
theorem lengthOk_set {w : PWord} {v : List PWord} {a : Attr} (h : addressed (w.toNat / 2 ^ 16) (w.toNat % 512) = some a)
    (n : Nat) : lengthOk 0x11 n (w :: v) = decide (n = 1 + wordCount a.width) := by
  change (match addressed (w.toNat / 2 ^ 16) (w.toNat % 512) with
    | some a => decide (n = 1 + wordCount a.width)
    | none => decide (1 ≤ n)) = _
  rw [h]

section
variable {s : State} (hm : s.modes.cur ≠ .held) (p : Port) (tag : Byte)
include hm

theorem echo_read (ws : List PWord) (hn : ws.length ≤ 268) : Reads s p 0x01 tag ws (.echo { port := p, tag := tag } ws) :=
  checkPacket_reads rfl (decide_eq_true hn) (opcodeAllowed_awake hm (by decide)) (by cases ws <;> rfl) rfl rfl (by omega)
theorem identify_read : Reads s p 0x02 tag [] (.identify { port := p, tag := tag }) :=
  checkPacket_reads rfl rfl (opcodeAllowed_awake hm (by decide)) rfl rfl rfl
theorem get_read (id : BitVec 16) (inst : BitVec 9) :
    Reads s p 0x10 tag [BitVec.ofNat 32 (id.toNat * 2 ^ 16 + inst.toNat)] (.get { port := p, tag := tag } id inst) := by
  obtain ⟨hw, hid, hinst, hres⟩ := address_parts id inst
  refine checkPacket_reads rfl rfl (opcodeAllowed_awake hm (by decide)) (reservedWord_one (by rwa [hw])) rfl ?_
  simp only [commandOf, shortCommand, wordAt, List.getD_cons_zero, hw, hid, ofNat_eq_of_mod hinst, BitVec.ofNat_toNat,
    BitVec.setWidth_eq]
theorem set_read (id : BitVec 16) (inst : BitVec 9) {a : Attr} {v : List PWord}
    (ha : addressed id.toNat inst.toNat = some a) (hv : v.length = wordCount a.width) :
    Reads s p 0x11 tag (BitVec.ofNat 32 (id.toNat * 2 ^ 16 + inst.toNat) :: v) (.set { port := p, tag := tag } id inst v) := by
  obtain ⟨hw, hid, hinst, hres⟩ := address_parts id inst
  have hwidth : wordCount a.width ≤ 4 := by have := width_le ha; unfold wordCount; omega
  generalize BitVec.ofNat 32 (id.toNat * 2 ^ 16 + inst.toNat) = w at hw
  refine checkPacket_reads rfl ?_ (opcodeAllowed_awake hm (by decide)) ?_ rfl ?_ (by rw [List.length_cons]; omega)
  · have haddr : addressed (w.toNat / 2 ^ 16) (w.toNat % 512) = some a := by
      rw [hw, hid, show (512 : Nat) = 2 ^ 9 from rfl, hinst, ha]
    rw [lengthOk_set haddr, List.length_cons, hv, Nat.add_comm, decide_eq_true rfl]
  · have hlow : w.toNat &&& 0xFE00 = 0 := hw ▸ hres
    simp [reservedBits, reservedWord, wordAt, hlow]
  · simp only [commandOf, wordAt, List.getD_cons_zero, hw, hid, ofNat_eq_of_mod hinst, BitVec.ofNat_toNat,
      BitVec.setWidth_eq, List.drop_one, List.tail_cons]
theorem readMonitor_read (i n : Byte) : Reads s p 0x31 tag [BitVec.ofNat 32 (n.toNat * 2 ^ 8 + i.toNat)]
    (.readMonitor { port := p, tag := tag } i n) := by
  obtain ⟨hw, hn, hi, hres⟩ := indexed_parts (by decide) i n
  refine checkPacket_reads rfl rfl (opcodeAllowed_awake hm (by decide)) (reservedWord_one (by rwa [hw])) rfl ?_
  simp only [commandOf, shortCommand, wordAt, List.getD_cons_zero, hw, hn, ofNat_eq_of_mod hi, BitVec.ofNat_toNat,
    BitVec.setWidth_eq]
omit hm in
theorem fence_read (k : BitVec 2) (i : Byte) (ha : opcodeAllowed 0x50 s.modes.cur = true) :
    Reads s p 0x50 tag [BitVec.ofNat 32 (i.toNat * 2 ^ 8 + k.toNat)] (.fence { port := p, tag := tag } k i) := by
  obtain ⟨hw, hi, hk, hres⟩ := indexed_parts (by decide) k i
  have hlow : (i.toNat * 2 ^ 8 + k.toNat) &&& 0xFC = 0 := by
    have := k.isLt
    exact and_field_eq_zero (k := 6) (lo := 2) (by omega)
  refine checkPacket_reads rfl rfl ha (reservedWord_one ?_) rfl ?_
  · rw [hw, show 0xFFFF00FC = 0xFFFF0000 ||| 0xFC from rfl, Nat.and_or_distrib_left, hres, hlow]; rfl
  · simp only [commandOf, shortCommand, wordAt, List.getD_cons_zero, hw, hi, ofNat_eq_of_mod hk, BitVec.ofNat_toNat,
      BitVec.setWidth_eq]
theorem seedRead_read (off : BitVec 16) (bank : BitVec 1) (n : BitVec 11) :
    Reads s p 0x44 tag [BitVec.ofNat 32 (bank.toNat * 2 ^ 16 + off.toNat), BitVec.ofNat 32 n.toNat]
      (.seedRead { port := p, tag := tag } bank off n) := by
  have hoff := off.isLt
  have hbank := bank.isLt
  have hn := n.isLt
  have hw : (BitVec.ofNat 32 (bank.toNat * 2 ^ 16 + off.toNat)).toNat = bank.toNat * 2 ^ 16 + off.toNat := by
    rw [BitVec.toNat_ofNat]; omega
  have hv : (BitVec.ofNat 32 n.toNat).toNat = n.toNat := by rw [BitVec.toNat_ofNat]; omega
  generalize BitVec.ofNat 32 (bank.toNat * 2 ^ 16 + off.toNat) = w at hw
  generalize BitVec.ofNat 32 n.toNat = v at hv
  have hres : w.toNat &&& 0xFFFE0000 = 0 := and_field_eq_zero (k := 15) (lo := 17) (by omega)
  have hres' : v.toNat &&& 0xFFFFF800 = 0 := and_field_eq_zero (k := 21) (lo := 11) (by omega)
  have hb : BitVec.ofNat 1 (bits (bank.toNat * 2 ^ 16 + off.toNat) 16 16) = bank := ofNat_eq_of_mod (by rw [bits]; omega)
  have ho : BitVec.ofNat 16 (bank.toNat * 2 ^ 16 + off.toNat) = off := ofNat_eq_of_mod (by omega)
  refine checkPacket_reads rfl rfl (opcodeAllowed_awake hm (by decide)) ?_ rfl ?_
  · simp [reservedBits, reservedWord, wordAt, hres, hres']
  · simp only [commandOf, wordAt, List.getD_cons_zero, List.getD_cons_succ, hw, hv, hb, ho, BitVec.ofNat_toNat,
      BitVec.setWidth_eq]
theorem laneStatus_read (k : BitVec 2) :
    Reads s p 0x71 tag [BitVec.ofNat 32 k.toNat] (.laneStatus { port := p, tag := tag } k) := by
  have hk := k.isLt
  have hw : (BitVec.ofNat 32 k.toNat).toNat = k.toNat := by rw [BitVec.toNat_ofNat]; omega
  have hres : k.toNat &&& 0xFFFFFFFC = 0 := and_field_eq_zero (k := 30) (lo := 2) (by omega)
  generalize BitVec.ofNat 32 k.toNat = w at hw
  refine checkPacket_reads rfl rfl (opcodeAllowed_awake hm (by decide)) (reservedWord_one (by rwa [hw])) rfl ?_
  simp only [commandOf, shortCommand, wordAt, List.getD_cons_zero, hw, BitVec.ofNat_toNat, BitVec.setWidth_eq]
theorem faultClear_read (mask : BitVec 64) :
    Reads s p 0x53 tag [BitVec.ofNat 32 (mask.toNat / 2 ^ 32), BitVec.ofNat 32 (mask.toNat % 2 ^ 32), 0]
      (.faultClear { port := p, tag := tag } mask) := by
  obtain ⟨hhi, hlo, hmask⟩ := halves_toNat (by decide) mask
  generalize BitVec.ofNat 32 (mask.toNat / 2 ^ 32) = w at hhi
  generalize BitVec.ofNat 32 (mask.toNat % 2 ^ 32) = v at hlo
  refine checkPacket_reads rfl rfl (opcodeAllowed_awake hm (by decide)) ?_ rfl ?_
  · simp [reservedBits, reservedWord, wordAt]
  · have hplain : faultClearOf { port := p, tag := tag } [w, v, 0] =
        .faultClear { port := p, tag := tag } (BitVec.ofNat 64 (w.toNat * 2 ^ 32 + v.toNat)) := by
      simp [faultClearOf, wordAt, bitAt]
    rw [hhi, hlo, hmask] at hplain
    exact congrArg Sum.inl hplain
omit hm in
theorem couchAtDeckle_read (d : Deckle) (ha : opcodeAllowed 0x23 s.modes.cur = true) :
    Reads s p 0x23 tag [1, BitVec.ofNat 32 (d.toNat / 2 ^ 32), BitVec.ofNat 32 (d.toNat % 2 ^ 32)]
      (.couchAtDeckle { port := p, tag := tag } d) := by
  obtain ⟨hhi, hlo, hd⟩ := halves_toNat (by decide) d
  have hlt := d.isLt
  generalize BitVec.ofNat 32 (d.toNat / 2 ^ 32) = w at hhi
  generalize BitVec.ofNat 32 (d.toNat % 2 ^ 32) = v at hlo
  have hres : w.toNat &&& 0xFFFFC000 = 0 := and_field_eq_zero (k := 18) (lo := 14) (by omega)
  refine checkPacket_reads rfl rfl ha ?_ rfl ?_
  · simp [reservedBits, reservedWord, wordAt, hres]
  · change Sum.inl (Instr.couchAtDeckle _ (BitVec.ofNat 46 (w.toNat * 2 ^ 32 + v.toNat))) = _
    rw [hhi, hlo, hd]

end

/-- Settles O41: each command's words, read back field by field. -/
theorem packetsAreRead : Obligations.PacketsAreRead := by
  intro s p tag packet hpacket hm read
  have hbytes : ∀ op ws, packet op ws = packetBytes op tag ws := hpacket
  simp only [read, hbytes]
  exact ⟨echo_read hm p tag, identify_read hm p tag, get_read hm p tag, fun id inst _ _ => set_read hm p tag id inst,
    readMonitor_read hm p tag, fence_read p tag, seedRead_read hm p tag, laneStatus_read hm p tag, faultClear_read hm p tag,
    couchAtDeckle_read p tag⟩

end Sys2Proof.Proofs
end

section
/-!
O43: what SPI transactions do in the packet personality (R333 to R335).
-/
namespace Sys2Proof.Proofs
open Sys2Proof Sys2Proof.Machine Sys2Proof.Laws

section
variable {s : State} (hp : padsFree s = true) (hpow : powered s = true) (hn : s.nl.personality = false)
include hp hpow hn

theorem spiTransaction_packet (len : Nat) (body : State → State) : spiTransaction s len body = .next (body s) := by
  rw [spiTransaction, hpow, hn, atPads_free hp]; rfl
theorem exec_spiWrite (bytes : List Byte) : exec (.spiWrite bytes) s = .next (spiWriteBytes s bytes) :=
  spiTransaction_packet hp hpow hn (bytes.length + 1) fun s => spiWriteBytes s bytes
theorem exec_spiRead (n : Nat) : exec (.spiRead n) s = .next (spiReadBytes s n) :=
  spiTransaction_packet hp hpow hn (n + 1) fun s => spiReadBytes s n
theorem exec_spiStatus : exec .spiStatus s = .next (spiOut s [spiStatusByte s]) :=
  spiTransaction_packet hp hpow hn 1 fun s => spiOut s [spiStatusByte s]
theorem exec_spiUnknownTransaction {b : Byte} (h1 : b ≠ 0xA1) (h2 : b ≠ 0xA2) (h3 : b ≠ 0xA3) :
    exec (.spiUnknownTransaction b) s = .next (spiUnknown s 1) := by
  change execSpiUnknownTransaction b s = _
  rw [execSpiUnknownTransaction, hn, Bool.and_false, Bool.false_and, if_neg Bool.false_ne_true, spiTransaction_packet hp hpow hn, if_neg h1, if_neg h2,
    if_neg h3]

end

/-! ## WRITE (R334) -/

/-- The state in which a WRITE of `n` bytes that is taken delivers its packet. -/
def spiTaken (s : State) (n : Nat) : State :=
  let s' := count (spiOut s (spiStatusByte s :: List.replicate n 0)) A_CMD_PORT_COUNT 2 31 0 1
  { s' with cmd := { s'.cmd with spiOpen := s.cmd.spiOpen + 1, refused := false } }

section
variable {s : State} {bytes : List Byte}

theorem spiWriteBytes_taken (h : s.cmd.spiOpen < 8) :
    spiWriteBytes s bytes = receivePacket (spiTaken s bytes.length) .spi bytes.length bytes := if_pos (decide_eq_true h)
theorem spiWriteBytes_refused (h : 8 ≤ s.cmd.spiOpen) : spiWriteBytes s bytes =
    spiError { s with cmd := { s.cmd with sdo := spiStatusByte s :: List.replicate bytes.length 0, refused := true } } :=
  if_neg (by rw [spiCanWrite, decide_eq_true_eq]; omega)
theorem checkPacket_spiTaken {size : Nat} {bs : List Byte} {p : Port} (n : Nat) :
    checkPacket (spiTaken s n) p size bs = checkPacket s p size bs := checkPacket_of_modes rfl
/-- A reply to a WRITE is the one new message of SPI. -/
theorem receivePacket_fails_spi {size status detail : Nat} {bs : List Byte}
    (h : checkPacket s .spi size bs = .inr (status, detail)) (hrun : grangersStopped s = false) :
    (receivePacket s .spi size bs).cmd.inq = s.cmd.inq ∧ (receivePacket s .spi size bs).cmd.spiQ = s.cmd.spiQ ++
      [replyMsg (reqOf .spi bs) (bits (headerWord bs) 31 24) status detail []] := by
  obtain ⟨_, _, _, hbad⟩ := noteBad_eq s .spi status (headerWord bs)
  rw [receivePacket_fails h hrun, (reply_queues ..).2, hbad]
  exact ⟨rfl, rfl⟩

end

/-! ## READ (R335) -/

section
variable {s : State} {m : Msg} {rest : List Msg} {n : Nat}

theorem msgBytes_ne_nil (m : Msg) : msgBytes m ≠ [] := List.append_ne_nil_of_right_ne_nil _ (List.cons_ne_nil _ _)
theorem spiOldest_cons (h : s.cmd.spiQ = m :: rest) : spiOldest s = msgBytes m := by rw [spiOldest, h]
/-- What a READ of `n` bytes clocks out of a message of these bytes. -/
def spiClocked (bs : List Byte) (n : Nat) : List Byte := (toBytes 2 bs.length ++ bs ++ List.replicate n 0).take n
theorem spiClocked_whole {bs : List Byte} (h : 2 + bs.length ≤ n) :
    spiClocked bs n = toBytes 2 bs.length ++ bs ++ List.replicate (n - 2 - bs.length) 0 := by
  have hlen : (toBytes 2 bs.length ++ bs).length = 2 + bs.length := by rw [List.length_append, toBytes_length]
  rw [spiClocked, List.take_append, List.take_of_length_le (hlen.trans_le h), hlen, List.take_replicate,
    Nat.min_eq_left (Nat.sub_le ..), Nat.sub_add_eq]
theorem spiClocked_nil (n : Nat) : spiClocked [] n = List.replicate n 0 := by
  have hzero : toBytes 2 ([] : List Byte).length = List.replicate 2 0 := by decide
  rw [spiClocked, hzero, List.append_nil, List.replicate_append_replicate, List.take_replicate, Nat.min_eq_left (Nat.le_add_left ..)]
theorem spiReadBytes_whole (hq : s.cmd.spiQ = m :: rest) (h : 2 + (msgBytes m).length ≤ n) :
    spiReadBytes s n = popReply (spiOut s (spiStatusByte s :: spiClocked (msgBytes m) n)) := by
  rw [spiReadBytes, spiOldest_cons hq]
  exact if_pos (by rw [Bool.and_eq_true, decide_eq_true_eq]; exact ⟨by simp [msgBytes_ne_nil], h⟩)
theorem spiReadBytes_short (hq : s.cmd.spiQ = m :: rest) (h : n < 2 + (msgBytes m).length) :
    spiReadBytes s n = spiOut s (spiStatusByte s :: spiClocked (msgBytes m) n) := by
  rw [spiReadBytes, spiOldest_cons hq]
  exact if_neg (by rw [Bool.and_eq_true, decide_eq_true_eq]; omega)
theorem spiReadBytes_empty (hq : s.cmd.spiQ = []) (he : s.cmd.spiEv = []) :
    spiReadBytes s n = spiOut s (spiStatusByte s :: List.replicate n 0) := by
  have hnone : spiOldest s = [] := by rw [spiOldest, hq, he]
  have hshort : ¬ (!(List.isEmpty ([] : List Byte)) && decide (2 + ([] : List Byte).length ≤ n)) = true := by simp
  rw [← spiClocked_nil, spiReadBytes, hnone, if_neg hshort, spiClocked]
theorem popReply_cons (hq : s.cmd.spiQ = m :: rest) : popReply s =
    let t := count s A_CMD_PORT_COUNT 2 63 32 1
    { t with cmd := { t.cmd with spiQ := rest, spiOpen := if m.reply then t.cmd.spiOpen - 1 else t.cmd.spiOpen } } := by
  rw [popReply, hq]

end

/-- Settles O43: WRITE taken, answered or refused; READ whole or short; STATUS; and any other first byte. -/
theorem spiTransactions : Obligations.SpiTransactions := by
  intro s hp hpow hn
  refine ⟨fun bytes i hroom hi => ?taken, fun bytes status detail hroom hrun hfail => ?answered,
    fun bytes hfull => ?refused, fun n m rest hq => ⟨fun hwhole => ?whole, fun hshort => ?short⟩,
    fun n hq he => ?empty, exec_spiStatus hp hpow hn, fun b h1 h2 h3 => exec_spiUnknownTransaction hp hpow hn h1 h2 h3⟩
  case taken =>
    rw [← checkPacket_spiTaken bytes.length] at hi
    rw [exec_spiWrite hp hpow hn, spiWriteBytes_taken hroom, receivePacket_passes hi]
    exact ⟨_, rfl, enqueuePacket_mem .., rfl, rfl, rfl, rfl⟩
  case answered =>
    rw [← checkPacket_spiTaken bytes.length] at hfail
    rw [exec_spiWrite hp hpow hn, spiWriteBytes_taken hroom]
    exact ⟨_, rfl, receivePacket_fails_spi hfail hrun⟩
  case refused =>
    rw [exec_spiWrite hp hpow hn, spiWriteBytes_refused hfull]
    exact ⟨_, rfl, rfl, rfl, rfl, rfl⟩
  case whole =>
    have hq' : (spiOut s (spiStatusByte s :: spiClocked (msgBytes m) n)).cmd.spiQ = m :: rest := hq
    rw [exec_spiRead hp hpow hn, spiReadBytes_whole hq hwhole, popReply_cons hq', spiClocked_whole hwhole]
    exact ⟨_, rfl, rfl, rfl, rfl⟩
  case short =>
    rw [exec_spiRead hp hpow hn, spiReadBytes_short hq hshort]
    exact ⟨_, rfl, rfl, rfl, rfl⟩
  case empty => rw [exec_spiRead hp hpow hn, spiReadBytes_empty hq he]

end Sys2Proof.Proofs
end

section
/-!
O47: what becomes of a command packet before its command runs (R338, R343, R360, R377, Table 11.7, R459).
-/
namespace Sys2Proof.Proofs
open Sys2Proof Sys2Proof.Machine Sys2Proof.Laws

/-- Every packet row goes through the Granger's gate, under its own requester and opcode. -/
theorem exec_packet {i : Instr} {r : Req} {op : Nat} (h : packetOf i = some (r, op)) :
    ∃ body, ∀ s, exec i s = granger s r i op body := by
  unfold packetOf at h
  split at h
  all_goals cases h
  all_goals exact ⟨_, fun _ => rfl⟩

section
variable {s : State} {r : Req} {i : Instr} {op : Nat} {body : State → State}

theorem granger_padsHeld (h : padsFree s = false) : granger s r i op body = .fault .scanHoldsPads :=
  if_neg (by rw [h]; exact Bool.false_ne_true)
variable (hp : padsFree s = true) (hpow : powered s = true) (hh : s.modes.cur = .held → r.port ≠ .dl1)
include hp hpow hh
theorem granger_heard : granger s r i op body = .next (
    if grangersStopped s || couchFirst s then enqueuePacket s r.port (.command i)
    else if opcodeAllowed op s.modes.cur then body s else replyNotInMode s r op) := by
  rw [granger, atPads_free hp, if_neg]
  simpa [hpow] using hh
theorem granger_waits (h : grangersStopped s = true ∨ couchFirst s = true) :
    granger s r i op body = .next (enqueuePacket s r.port (.command i)) := by
  rw [granger_heard hp hpow hh, if_pos (by simpa using h)]
theorem granger_notInMode (hg : grangersStopped s = false) (hc : couchFirst s = false)
    (hm : opcodeAllowed op s.modes.cur = false) :
    granger s r i op body = .next (reply s r op 7 (modeByte s) []) := by
  rw [granger_heard hp hpow hh, hg, hc, hm]
  rfl

end

/-- Settles O47: the gate's four outcomes, for whichever command stands behind it. -/
theorem packetGate : Obligations.PacketGate := by
  intro i r op s hi
  obtain ⟨body, hbody⟩ := exec_packet hi
  rw [hbody s]
  exact ⟨granger_padsHeld, fun hp hpow hh => ⟨granger_waits hp hpow hh, granger_notInMode hp hpow hh⟩⟩

end Sys2Proof.Proofs
end

section
/-!
O49: ERRPIN_RELEASE and the fall of ERR_N (R366), FAULT_READ and FAULT_CLEAR (R348, R352 to R355, Table 11.8).
-/
namespace Sys2Proof.Proofs
open Sys2Proof Sys2Proof.Machine Sys2Proof.Laws

/-! ## Commands that end together -/

section
variable {α : Type} {op st dt : Nat} {data : List PWord}

/-- Each of the commands that end is replied. -/
theorem foldl_closeCmd_mem (g : α → Req) {l : List α} {a : α} (ha : a ∈ l) (s : State) :
    replyMsg (g a) op st dt data ∈ msgsOf (l.foldl (fun s a => closeCmd s (g a) op st dt data) s) (g a).port := by
  have hmap := foldl_closeCmd_replies (op := op) (st := st) (dt := dt) (f := fun _ => data) (fun _ _ _ => rfl) (s := s)
    (List.mem_map_of_mem (f := g) ha)
  rwa [List.foldl_map] at hmap
@[simp] theorem closeCmd_flt (s : State) (r : Req) : (closeCmd s r op st dt data).flt = s.flt := reply_flt ..
theorem foldl_closeCmd_flt (g : α → Req) (l : List α) (s : State) :
    (l.foldl (fun s a => closeCmd s (g a) op st dt data) s).flt = s.flt := by
  induction l generalizing s with
  | nil => rfl
  | cons a l ih => exact (ih _).trans (closeCmd_flt ..)

end

/-! ## ERR_N (R366) -/

/-- The state as ERR_N is released: the pending releases take effect. -/
def errReleased (s : State) : State :=
  { s with flt := { s.flt with errLow := false, errRel := [], errHighUntil := s.tb.up + 2 } }

section
variable {s : State} {r : Req}

theorem exec_errpinRelease (hs : Served s r 0x54) : exec (.errpinRelease r) s = .next (
    if !errNow s then reply s r 0x54 0 0 []
    else opening s r 0x54 0 fun s =>
      { s with flt := { s.flt with errRel := s.flt.errRel ++ [(r, max (s.tb.up + 1) (s.flt.errUp + 4096))] } }) := by
  change execErrpinRelease r s = _
  rw [execErrpinRelease, granger_served hs]
  rfl
theorem errpinRelease_high (hs : Served s r 0x54) (h : errNow s = false) :
    exec (.errpinRelease r) s = .next (reply s r 0x54 0 0 []) := by
  rw [exec_errpinRelease hs, h]; rfl
theorem errpinRelease_low (hs : Served s r 0x54) (h : errNow s = true) (hroom : s.cmd.outst.length < 16) :
    ∃ t, exec (.errpinRelease r) s = .next t ∧
      t.flt = { s.flt with errRel := s.flt.errRel ++ [(r, max (s.tb.up + 1) (s.flt.errUp + 4096))] } ∧
      t.cmd.spiQ = s.cmd.spiQ ∧ t.cmd.laneQ = s.cmd.laneQ := by
  rw [exec_errpinRelease hs, h, if_neg (by decide), opening_ready hroom]
  exact ⟨_, rfl, rfl, rfl, rfl⟩

variable {due : Nat} {rest : List (Req × Nat)}

theorem errpinMinElapsed_early (h : s.flt.errRel = (r, due) :: rest) (hup : s.tb.up < due) :
    exec .errpinMinElapsed s = .next s := by
  change execErrpinMinElapsed s = _
  rw [execErrpinMinElapsed, h]
  exact congrArg _ (if_pos hup)
theorem errpinMinElapsed_due (h : s.flt.errRel = (r, due) :: rest) (hup : due ≤ s.tb.up) :
    exec .errpinMinElapsed s = .next (s.flt.errRel.foldl (fun s e => closeCmd s e.1 0x54 0 0 []) (errReleased s)) := by
  change execErrpinMinElapsed s = _
  rw [execErrpinMinElapsed, h]
  dsimp only
  rw [if_neg (Nat.not_lt.2 hup)]
  rfl
theorem assertErr_low (h : s.flt.errLow = true) : assertErr s =
    s.flt.errRel.foldl (fun s e => closeCmd s e.1 0x54 0x0C 0 []) { s with flt := { s.flt with errRel := [] } } := if_pos h

end

/-! ## FAULT_READ and FAULT_CLEAR -/

section
variable {s : State} {r : Req}

theorem exec_faultRead {a : BitVec 4} {n : BitVec 5} (hs : Served s r 0x52) (hn : n.toNat ≤ 16) :
    exec (.faultRead r a n) s = .next (reply s r 0x52 0 0 (valueWords 2 s.flt.word.toNat ++
      (match s.flt.first with | some f => faultWords f | none => [0, 0, 0, 0]) ++
      (List.range n.toNat).flatMap fun j =>
        match s.flt.hist[a.toNat + j]? with | some f => faultWords f | none => [0, 0, 0, 0])) := by
  change execFaultRead r a n s = _
  rw [execFaultRead, granger_served hs, if_neg (Nat.not_lt.2 hn)]
  rfl

theorem getLsbD_two_pow {j k : Nat} (hk : k < 64) : (BitVec.ofNat 64 (2 ^ j)).getLsbD k = decide (k = j) := by
  rw [BitVec.getLsbD_ofNat, decide_eq_true hk, Bool.true_and, Nat.testBit_two_pow]
  exact decide_eq_decide.2 eq_comm
/-- The bits of conditions present, and of raises of this beat, are kept (R12, R352). -/
theorem getLsbD_foldl_or (l : List Nat) (w : BitVec 64) {k : Nat} (hk : k < 64) :
    (l.foldl (fun a j => a ||| BitVec.ofNat 64 (2 ^ j)) w).getLsbD k = (w.getLsbD k || l.any fun j => decide (k = j)) := by
  induction l generalizing w with
  | nil => exact (Bool.or_false _).symm
  | cons j l ih => rw [List.foldl_cons, ih, BitVec.getLsbD_or, getLsbD_two_pow hk, List.any_cons, Bool.or_assoc]
theorem clearWord_word (s : State) (mask : BitVec 64) {k : Nat} (hk : k < 64) : (clearWord s mask).flt.word.getLsbD k =
    (s.flt.word.getLsbD k && !(mask.getLsbD k && (s.flt.levels.all fun l => l.src ≠ k) && !s.flt.rose.getLsbD k)) := by
  unfold clearWord
  dsimp only
  rw [BitVec.getLsbD_and, BitVec.getLsbD_not, decide_eq_true hk, Bool.true_and, BitVec.getLsbD_and, BitVec.getLsbD_not,
    decide_eq_true hk, Bool.true_and, getLsbD_foldl_or _ _ hk, List.any_map, Bool.not_or, Bool.and_assoc,
    Bool.and_comm (!s.flt.rose.getLsbD k), List.not_any_eq_all_not]
  congr 5
  funext l
  simp [eq_comm]
/-- The three forms of FAULT_CLEAR, as the flags of its W2 name them. -/
theorem exec_faultClear (hs : Served s r 0x53) (mask : BitVec 64) :
    exec (.faultClear r mask) s = .next (clearReply (clearWord s mask) r) := by
  change execFaultClear r mask s = _
  rw [execFaultClear, granger_served hs]
theorem exec_faultClearFirst (hs : Served s r 0x53) (mask : BitVec 64) (h : Bool) : exec (.faultClearFirst r mask h) s =
    .next (clearReply (if h then clearHistory (clearFirst (clearWord s mask)) else clearFirst (clearWord s mask)) r) := by
  change execFaultClearFirst r mask h s = _
  rw [execFaultClearFirst, granger_served hs]
theorem exec_faultClearHistory (hs : Served s r 0x53) (mask : BitVec 64) :
    exec (.faultClearHistory r mask) s = .next (clearReply (clearHistory (clearWord s mask)) r) := by
  change execFaultClearHistory r mask s = _
  rw [execFaultClearHistory, granger_served hs]
theorem clearReply_replies (s : State) (r : Req) :
    replyMsg r 0x53 0 0 (valueWords 2 s.flt.word.toNat) ∈ msgsOf (clearReply s r) r.port := replyMsg_mem_msgsOf_reply ..
theorem clearReply_flt (s : State) (r : Req) : (clearReply s r).flt = s.flt := reply_flt ..

end

/-- Settles O49: the pin by its level and its releases, the read word by word, and the clear bit by bit. -/
theorem faultCommands : Obligations.FaultCommands := by
  refine ⟨⟨fun r s hs => ⟨errpinRelease_high hs, errpinRelease_low hs⟩, fun q due rest s hrel =>
    ⟨errpinMinElapsed_early hrel, fun hup => ?released⟩, fun s hlow => ?cancelled⟩,
    fun r a n s hs hn => exec_faultRead hs hn, fun r mask s hs => ?clear⟩
  case released =>
    refine ⟨_, errpinMinElapsed_due hrel hup, ?_, ?_, ?_, ?_⟩
    · rw [foldl_closeCmd_flt]; rfl
    · rw [foldl_closeCmd_flt]; rfl
    · rw [foldl_closeCmd_flt]; rfl
    · exact foldl_closeCmd_mem Prod.fst (a := (q, due)) (by rw [hrel]; exact List.mem_cons_self) _
  case cancelled =>
    rw [assertErr_low hlow, foldl_closeCmd_flt]
    exact ⟨hlow, rfl, fun q hq => foldl_closeCmd_mem Prod.fst hq _⟩
  case clear =>
    refine ⟨(clearWord s mask).flt.word, fun k hk => clearWord_word s mask hk, ⟨_, exec_faultClear hs mask, ?_, ?_⟩,
      fun h => ⟨_, exec_faultClearFirst hs mask h, ?_⟩, ⟨_, exec_faultClearHistory hs mask, ?_⟩⟩
    · exact clearReply_flt ..
    · exact clearReply_replies ..
    · rw [clearReply_flt]
      cases h <;> exact ⟨rfl, rfl, rfl, clearReply_replies ..⟩
    · rw [clearReply_flt]
      exact ⟨rfl, rfl, rfl, clearReply_replies ..⟩

end Sys2Proof.Proofs
end

section
/-!
O48: what a raise writes, asserts and starts, and what a suppressed one leaves (R352 to R360, R366).
-/
namespace Sys2Proof.Proofs
open Sys2Proof Sys2Proof.Machine Sys2Proof.Laws

/-! ## What the reactions of a raise leave of its record -/

/-- A fault record without its escalation, which a reaction may raise. -/
def unescalated (f : FaultRec) : FaultRec := { f with esc := 0 }
/-- The error word, the history and the first-error record. -/
def logged (s : State) : BitVec 64 × List FaultRec × Option FaultRec :=
  (s.flt.word, s.flt.hist.map unescalated, s.flt.first.map unescalated)
/-- The interrupts of this beat, and the trap. -/
def signals (s : State) : List FaultRec × Bool × Nat := (s.flt.interrupts, s.flt.trap, s.flt.trapUp)
/-- From `s` to `t` nothing was logged, and a low ERR_N stayed low from the same beat. -/
structure Calm (s t : State) : Prop where
  logged : logged t = logged s
  tb : t.tb = s.tb
  err : s.flt.errLow = true → t.flt.errLow = true ∧ t.flt.errUp = s.flt.errUp
/-- Nothing was signalled either. -/
structure Quiet (s t : State) : Prop extends Calm s t where
  signals : signals t = signals s

section
variable {s t u : State}

theorem calm_trans (h : Calm s t) (g : Calm t u) : Calm s u where
  logged := g.logged.trans h.logged
  tb := g.tb.trans h.tb
  err hlow := by
    obtain ⟨hlow', hup⟩ := h.err hlow
    obtain ⟨hlow'', hup'⟩ := g.err hlow'
    exact ⟨hlow'', hup'.trans hup⟩
theorem quiet_trans (h : Quiet s t) (g : Quiet t u) : Quiet s u :=
  ⟨calm_trans h.toCalm g.toCalm, g.signals.trans h.signals⟩
/-- What writes only fields that neither the log nor the signals show. -/
theorem quiet_of_views (hl : Proofs.logged t = Proofs.logged s) (hs : Proofs.signals t = Proofs.signals s) (htb : t.tb = s.tb)
    (he : (t.flt.errLow, t.flt.errUp) = (s.flt.errLow, s.flt.errUp)) : Quiet s t := by
  obtain ⟨hlow, hup⟩ := Prod.mk.inj he
  exact ⟨⟨hl, htb, fun h => ⟨hlow.trans h, hup⟩⟩, hs⟩
theorem quiet_of_flt (h : t.flt = s.flt) (htb : t.tb = s.tb) : Quiet s t :=
  quiet_of_views (by rw [logged, logged, h]) (by rw [signals, signals, h]) htb (by rw [h])
theorem quiet_refl (s : State) : Quiet s s := quiet_of_flt rfl rfl
theorem quiet_ite {p : Prop} [Decidable p] (h : Quiet s t) (g : Quiet s u) : Quiet s (if p then t else u) := by
  split <;> assumption

variable (s)

theorem quiet_assertErr : Quiet s (assertErr s) := by
  have htb := faultOnly_tb (faultOnly_assertErr s)
  unfold assertErr at htb ⊢
  split at htb
  · rw [if_pos (by assumption)]
    have hflt := foldl_closeCmd_flt (op := 0x54) (st := 0x0C) (dt := 0) (data := []) Prod.fst s.flt.errRel
      { s with flt := { s.flt with errRel := [] } }
    generalize List.foldl (fun s (e : Req × Nat) => closeCmd s e.1 0x54 0x0C 0 []) _ _ = t at hflt htb ⊢
    exact quiet_of_views (by rw [logged, hflt]; rfl) (by rw [signals, hflt]; rfl) htb (by rw [hflt])
  · next hhigh =>
    rw [if_neg hhigh]
    exact quiet_ite (quiet_of_views rfl rfl rfl rfl) ⟨⟨rfl, rfl, fun hlow => absurd hlow hhigh⟩, rfl⟩
theorem map_editEsc (l : List FaultRec) (key e : Nat) :
    (l.map fun r => if r.key = key then { r with esc := e } else r).map unescalated = l.map unescalated := by
  rw [List.map_map]
  refine List.map_congr_left fun r _ => ?_
  dsimp only [Function.comp]
  split <;> rfl
theorem quiet_editEsc (key e : Nat) : Quiet s (editRec s key fun r => { r with esc := e }) := by
  refine quiet_of_views ?_ rfl rfl rfl
  unfold logged editRec
  dsimp only
  rw [map_editEsc]
  cases s.flt.first with
  | none => rfl
  | some f => dsimp only [Option.map]; split <;> rfl
theorem quiet_causeRecovery (code : Byte) : Quiet s (causeRecovery s code) := by
  unfold causeRecovery
  split <;> exact quiet_of_flt rfl rfl
theorem quiet_recoveryFail : Quiet s (recoveryFail s) := quiet_ite (quiet_of_flt rfl rfl) (quiet_of_flt rfl rfl)
theorem quiet_escalateBeyond (key : Nat) : Quiet s (escalateBeyond s key) := by
  unfold escalateBeyond
  extract_lets s₁ s₂
  have h₂ : Quiet s s₂ := quiet_trans (t := s₁) (quiet_of_flt rfl rfl) (quiet_assertErr s₁)
  clear_value s₂
  refine quiet_trans h₂ ?_
  split
  · exact quiet_trans (quiet_editEsc ..) (quiet_causeRecovery ..)
  · exact quiet_trans (quiet_editEsc ..) (quiet_causeRecovery ..)
  · exact quiet_trans (quiet_editEsc ..) (quiet_recoveryFail _)
  · exact quiet_editEsc ..
theorem quiet_endActions (key : Nat) : Quiet s (endActions s key) := quiet_of_views rfl rfl rfl rfl
theorem quiet_queueAct (a : Act) : Quiet s (queueAct s a) := by
  unfold queueAct
  refine quiet_ite (quiet_endActions ..) (quiet_ite (quiet_of_views rfl rfl rfl rfl) (quiet_ite ?_ ?_))
  · exact quiet_trans (quiet_escalateBeyond ..) (quiet_endActions ..)
  · exact quiet_trans (t := count s A_FLT_LOST 0 31 16 1) (quiet_of_flt rfl rfl) (quiet_endActions ..)

end

theorem mem_histInsert (f : FaultRec) (l : List FaultRec) : f ∈ histInsert f l := by
  induction l with
  | nil => exact List.mem_cons_self
  | cons x l ih =>
    rw [histInsert]
    split
    · exact List.mem_cons_self
    · exact List.mem_cons_of_mem _ ih
theorem assertErr_falls {s : State} (h : s.flt.errLow = false) (hup : s.flt.errHighUntil ≤ s.tb.up + 1) :
    (assertErr s).flt.errLow = true ∧ (assertErr s).flt.errUp = s.tb.up + 1 := by
  rw [assertErr, h, if_neg (by decide), if_neg (Nat.not_lt.2 hup)]
  exact ⟨rfl, rfl⟩

/-! ## The reactions (R357 to R360, R366) -/

/-- What the reactions of record `f` show, from `s` to `t`: its log stays, and ERR_N, the interrupt and the trap follow the mask
that the mode lets act. -/
structure Reacted (s t : State) (f : FaultRec) (m : Nat) : Prop where
  logged : logged t = logged s
  pin : bitAt m 5 = true → s.flt.errLow = false → s.flt.errHighUntil ≤ s.tb.up + 1 →
    t.flt.errLow = true ∧ t.flt.errUp = s.tb.up + 1
  interrupt : bitAt m 0 = true → f ∈ t.flt.interrupts
  trap : bitAt m 1 = true → s.flt.trap = false → t.flt.trap = true ∧ t.flt.trapUp = s.tb.up + 1

theorem react_reacted (s : State) (f : FaultRec) : Reacted s (react s f) f (maskInMode s.modes.cur f.mask) := by
  unfold react
  extract_lets m window target s₁ _ s₂ _ s₃ isolates long stop _ s₄ s₅
  have h₁ : Quiet s s₁ := quiet_ite (quiet_assertErr s) (quiet_refl s)
  have hpin : bitAt m 5 = true → s.flt.errLow = false → s.flt.errHighUntil ≤ s.tb.up + 1 →
      s₁.flt.errLow = true ∧ s₁.flt.errUp = s.tb.up + 1 := by
    intro h5 hhigh hup
    rw [show s₁ = assertErr s from if_pos (by rw [h5]; rfl)]
    exact assertErr_falls hhigh hup
  have h₂ : Calm s₁ s₂ ∧ (s₂.flt.trap, s₂.flt.trapUp) = (s₁.flt.trap, s₁.flt.trapUp) := by
    unfold s₂
    split <;> exact ⟨⟨rfl, rfl, fun hlow => ⟨hlow, rfl⟩⟩, rfl⟩
  have hinterrupt : bitAt m 0 = true → f ∈ s₂.flt.interrupts := by
    intro h0
    unfold s₂
    rw [if_pos h0]
    exact mem_histInsert ..
  have h₄ : Quiet s₂ s₄ := quiet_trans (t := s₃) (quiet_ite (quiet_of_flt rfl rfl) (quiet_refl _))
    (quiet_ite (quiet_of_views rfl rfl rfl rfl) (quiet_refl _))
  have h₅ : Calm s₄ s₅ ∧ s₅.flt.interrupts = s₄.flt.interrupts := by
    unfold s₅
    split <;> exact ⟨⟨rfl, rfl, fun hlow => ⟨hlow, rfl⟩⟩, rfl⟩
  have htrap : bitAt m 1 = true → s₄.flt.trap = false → s₅.flt.trap = true ∧ s₅.flt.trapUp = s₄.tb.up + 1 := by
    intro h1 hfree
    unfold s₅
    rw [if_pos h1, trapFrom, hfree]
    exact ⟨rfl, rfl⟩
  clear_value isolates s₁ s₂ s₄ s₅
  have hlast : ∀ t, Quiet s₅ t → Reacted s t f m := fun t h₆ => by
    obtain ⟨h₂, htrap₂⟩ := h₂
    obtain ⟨h₅, hinterrupt₅⟩ := h₅
    have hcalm : Calm s₁ t := calm_trans h₂ (calm_trans h₄.toCalm (calm_trans h₅ h₆.toCalm))
    have hsignals₄ := Prod.mk.inj h₄.signals
    have hsignals₆ := Prod.mk.inj h₆.signals
    refine ⟨(calm_trans h₁.toCalm hcalm).logged, fun h5 hhigh hup => ?_, fun h0 => ?_, fun h1 hfree => ?_⟩
    · obtain ⟨hlow, hat⟩ := hpin h5 hhigh hup
      obtain ⟨hlow', hat'⟩ := hcalm.err hlow
      exact ⟨hlow', hat'.trans hat⟩
    · rw [hsignals₆.1, hinterrupt₅, hsignals₄.1]
      exact hinterrupt h0
    · obtain ⟨htrap₆, hup₆⟩ := Prod.mk.inj hsignals₆.2
      have hfree₄ : s₄.flt.trap = false := by
        rw [(Prod.mk.inj hsignals₄.2).1, (Prod.mk.inj htrap₂).1, (Prod.mk.inj (Prod.mk.inj h₁.signals).2).1, hfree]
      have htb : s₄.tb = s.tb := (calm_trans h₁.toCalm (calm_trans h₂ h₄.toCalm)).tb
      obtain ⟨hset, hat⟩ := htrap h1 hfree₄
      rw [htrap₆, hup₆, hset, hat, htb]
      exact ⟨rfl, rfl⟩
  apply hlast
  split
  · exact quiet_queueAct ..
  · exact quiet_ite (quiet_of_views rfl rfl rfl rfl) (quiet_refl _)

/-! ## A raise -/

/-- The record of a raise in `s` (R356): `parent` is the reaction that runs. -/
def raisedRec (s : State) (src inst ctx : Nat) : FaultRec :=
  { key := s.flt.nextKey, src := src, inst := inst % 256, mask := bits (reg s A_FLT_REACTION src) 7 0, esc := 0,
    consequent := (running s).head?.isSome, mode := s.modes.cur, beat := s.tb.beat, up := s.tb.up, consequents := 0,
    ctx := ctx % 2 ^ 16 }
/-- The state in which the record of a raise is logged: counted, numbered, and noted with the reaction that runs. -/
def raiseNoted (s : State) (src : Nat) : State :=
  let s := count s A_FLT_COUNT src 15 0 1
  let t := { s with flt := { s.flt with nextKey := s.flt.nextKey + 1 } }
  match (running s).head? with
  | some p => addConsequent t p.key
  | none => t

section
variable {s : State} {src inst ctx : Nat}

theorem raise_logged (hsrc : reservedSource src = false) (hfree : suppressor s src inst = none) : raise s src inst ctx =
    react (logRaise (raiseNoted s src) (raisedRec s src inst ctx)) (raisedRec s src inst ctx) := by
  have hfree' : suppressor (count s A_FLT_COUNT src 15 0 1) src inst = none := hfree
  rw [raise, if_neg (by rw [hsrc]; decide)]
  dsimp only
  rw [hfree']
  rfl
theorem raise_suppressed {x : Reaction} (hsrc : reservedSource src = false) (hsup : suppressor s src inst = some x) :
    ∃ lv, raise s src inst ctx = { addConsequent (count s A_FLT_COUNT src 15 0 1) x.key with
      flt := { (addConsequent (count s A_FLT_COUNT src 15 0 1) x.key).flt with levels := lv } } := by
  have hsup' : suppressor (count s A_FLT_COUNT src 15 0 1) src inst = some x := hsup
  rw [raise, if_neg (by rw [hsrc]; decide)]
  dsimp only
  rw [hsup']
  exact ⟨_, rfl⟩
theorem raiseNoted_same (s : State) (src : Nat) : (raiseNoted s src).flt.word = s.flt.word ∧
    (raiseNoted s src).flt.hist.length = s.flt.hist.length ∧ (s.flt.first = none → (raiseNoted s src).flt.first = none) ∧
    (raiseNoted s src).flt.errLow = s.flt.errLow ∧ (raiseNoted s src).flt.errHighUntil = s.flt.errHighUntil ∧
    (raiseNoted s src).flt.trap = s.flt.trap ∧ (raiseNoted s src).tb = s.tb ∧ (raiseNoted s src).modes = s.modes := by
  unfold raiseNoted
  dsimp only
  split
  · exact ⟨rfl, List.length_map .., fun h => by simp [addConsequent, editRec, h], rfl, rfl, rfl, rfl, rfl⟩
  · exact ⟨rfl, rfl, id, rfl, rfl, rfl, rfl, rfl⟩
theorem logRaise_same (s : State) (f : FaultRec) : (logRaise s f).flt.word = s.flt.word ||| BitVec.ofNat 64 (2 ^ f.src) ∧
    (s.flt.hist.length < 16 → f ∈ (logRaise s f).flt.hist) ∧
    (s.flt.first = none → f.consequent = false → (logRaise s f).flt.first = some f) ∧
    (logRaise s f).flt.errLow = s.flt.errLow ∧ (logRaise s f).flt.errHighUntil = s.flt.errHighUntil ∧
    (logRaise s f).flt.trap = s.flt.trap ∧ (logRaise s f).tb = s.tb ∧ (logRaise s f).modes = s.modes := by
  have hlen := histInsert_length f s.flt.hist
  unfold logRaise
  dsimp only
  split
  · next hroom =>
    refine ⟨rfl, fun _ => mem_histInsert .., fun hnone hcons => ?_, rfl, rfl, rfl, rfl, rfl⟩
    rw [hnone, hcons]; rfl
  · next hfull =>
    refine ⟨rfl, fun hroom => absurd hroom (by omega), fun hnone hcons => ?_, rfl, rfl, rfl, rfl, rfl⟩
    rw [hnone, hcons]; rfl

/-! ## The masks (Table 12.4) -/

theorem bitAt_eq_testBit (v k : Nat) : bitAt v k = Nat.testBit v k := Nat.testBit_eq_decide_div_mod_eq.symm
theorem bitAt_and (v w k : Nat) : bitAt (v &&& w) k = (bitAt v k && bitAt w k) := by
  simp only [bitAt_eq_testBit, Nat.testBit_and]
/-- A bit of `FLT_REACTION` is that of the record's mask. -/
theorem bitAt_mask (v : Nat) {k : Nat} (hk : k < 8) : bitAt (bits v 7 0) k = bitAt v k := by
  rw [bits, pow_zero, Nat.div_one, bitAt_eq_testBit, bitAt_eq_testBit, Nat.testBit_mod_two_pow, decide_eq_true hk, Bool.true_and]
/-- PIN acts in every mode, INTERRUPT and TRAP in every mode but HELD. -/
theorem bitAt_maskInMode (m : Mode) (v : Nat) : bitAt (maskInMode m v) 5 = bitAt v 5 ∧
    (m ≠ .held → bitAt (maskInMode m v) 0 = bitAt v 0 ∧ bitAt (maskInMode m v) 1 = bitAt v 1) := by
  cases m <;> simp only [maskInMode, bitAt_and] <;> simp [bitAt]

/-! ## What a raise shows -/

/-- From `s` to `t` the raise with record `f` was made: logged, and its mask carried out (R354 to R360, R366). -/
structure Raised (s t : State) (f : FaultRec) : Prop where
  word : t.flt.word = s.flt.word ||| BitVec.ofNat 64 (2 ^ f.src)
  hist : s.flt.hist.length < 16 → ∃ g ∈ t.flt.hist, unescalated g = f
  first : s.flt.first = none → f.consequent = false → ∃ g, t.flt.first = some g ∧ unescalated g = f
  pin : bitAt f.mask 5 = true → s.flt.errLow = false → s.flt.errHighUntil ≤ s.tb.up + 1 →
    t.flt.errLow = true ∧ t.flt.errUp = s.tb.up + 1
  interrupt : bitAt f.mask 0 = true → s.modes.cur ≠ .held → f ∈ t.flt.interrupts
  trap : bitAt f.mask 1 = true → s.modes.cur ≠ .held → s.flt.trap = false → t.flt.trap = true ∧ t.flt.trapUp = s.tb.up + 1

theorem raise_raised (hsrc : reservedSource src = false) (hfree : suppressor s src inst = none) :
    Raised s (raise s src inst ctx) (raisedRec s src inst ctx) := by
  obtain ⟨nword, nhist, nfirst, nlow, nuntil, ntrap, ntb, nmodes⟩ := raiseNoted_same s src
  rw [raise_logged hsrc hfree]
  have hesc : unescalated (raisedRec s src inst ctx) = raisedRec s src inst ctx := rfl
  have hsource : (raisedRec s src inst ctx).src = src := rfl
  generalize raisedRec s src inst ctx = f at hesc hsource ⊢
  obtain ⟨lword, lhist, lfirst, llow, luntil, ltrap, ltb, lmodes⟩ := logRaise_same (raiseNoted s src) f
  rw [nword] at lword
  rw [nhist] at lhist
  rw [nlow] at llow
  rw [nuntil] at luntil
  rw [ntrap] at ltrap
  rw [ntb] at ltb
  rw [nmodes] at lmodes
  have hr := react_reacted (logRaise (raiseNoted s src) f) f
  rw [lmodes] at hr
  generalize logRaise (raiseNoted s src) f = x at *
  generalize react x f = t at *
  obtain ⟨hword, hlog⟩ := Prod.mk.inj hr.logged
  obtain ⟨hhist, hfirst⟩ := Prod.mk.inj hlog
  obtain ⟨hpin, hmask⟩ := bitAt_maskInMode s.modes.cur f.mask
  refine ⟨hword.trans lword, fun hroom => ?_, fun hnone hcons => ?_, fun h5 hhigh hup => ?_, fun h0 hm => ?_, fun h1 hm hno => ?_⟩
  · have hmem : unescalated f ∈ t.flt.hist.map unescalated := hhist ▸ List.mem_map_of_mem (lhist hroom)
    rw [hesc] at hmem
    exact List.mem_map.1 hmem
  · rw [lfirst (nfirst hnone) hcons, Option.map_some, hesc] at hfirst
    exact Option.map_eq_some_iff.1 hfirst
  · have h := hr.pin (hpin.trans h5) (llow.trans hhigh) (by rw [luntil, ltb]; exact hup)
    rwa [ltb] at h
  · exact hr.interrupt ((hmask hm).1.trans h0)
  · have h := hr.trap ((hmask hm).2.trans h1) (ltrap.trans hno)
    rwa [ltb] at h

end

/-! ## FAULT_RAISE, REACTION_WINDOW_END, TRAP_RESUME -/

/-- A parity error of TG_OUT is counted before it is raised (Table 5.11). -/
def parityNoted (s : State) (src : BitVec 6) (ctx : BitVec 16) : State :=
  if src.toNat = 31 && ctx.getLsbD 1 then count s A_TG_PARITY_CHECK 0 15 0 1 else s

section
variable {s : State} {src : BitVec 6} {inst : Byte} {ctx : BitVec 16}

theorem parityNoted_same (s : State) (src : BitVec 6) (ctx : BitVec 16) : TalliesOnly s (parityNoted s src ctx) ∧
    tally (parityNoted s src ctx) A_FLT_COUNT src.toNat = tally s A_FLT_COUNT src.toNat := by
  unfold parityNoted
  split
  · exact ⟨talliesOnly_count .., tally_count_otherId _ _ _ _ (by decide) (by have := src.isLt; omega) (by decide)⟩
  · exact ⟨⟨_, _, rfl⟩, rfl⟩
/-- An event source is raised. -/
theorem exec_faultRaise (hpow : powered s = true) (hlevel : levelSource src.toNat = false) :
    exec (.faultRaise src inst ctx) s = .next (raise (parityNoted s src ctx) src.toNat inst.toNat ctx.toNat) := by
  have h29 : decide (src.toNat = 29) = false := by
    refine decide_eq_false fun h => ?_
    rw [h] at hlevel
    exact absurd hlevel (by decide)
  have hpow' : powered (parityNoted s src ctx) = true := by
    obtain ⟨_, _, hs⟩ := (parityNoted_same s src ctx).1
    rw [hs]
    exact hpow
  have hnoted : (if powered s && decide (src.toNat = 31) && ctx.getLsbD 1 then count s A_TG_PARITY_CHECK 0 15 0 1 else s) =
      parityNoted s src ctx := by rw [hpow, Bool.true_and]; rfl
  change execFaultRaise src inst ctx s = _
  unfold execFaultRaise
  dsimp only
  rw [hnoted, h29, Bool.and_false, Bool.false_and, Bool.false_and, if_neg Bool.false_ne_true, hpow', hlevel]
  rfl
theorem bitAt_raisedRec {k : Nat} (hk : k < 8) (s : State) (src inst ctx : Nat) :
    bitAt (raisedRec s src inst ctx).mask k = bitAt (reg s A_FLT_REACTION src) k := bitAt_mask _ hk
theorem head?_isSome_iff {α : Type} {l : List α} : l.head?.isSome = true ↔ l ≠ [] := by cases l <;> simp
theorem faultRaise_counts (hsrc : reservedSource src.toNat = false) :
    bits (tally (raise (parityNoted s src ctx) src.toNat inst.toNat ctx.toNat) A_FLT_COUNT src.toNat) 15 0 =
      satAdd 65535 (bits (tally s A_FLT_COUNT src.toNat) 15 0) 1 := by
  rw [count_raise _ _ _ hsrc (by have := src.isLt; omega), (parityNoted_same s src ctx).2]
/-- A window that ends takes only its reaction away when no level waits for it. -/
theorem reactionWindowEnd_filters (h : ∀ l ∈ s.flt.levels, l.suppressed = none) :
    exec .reactionWindowEnd s = .next { s with flt := { s.flt with
      reactions := s.flt.reactions.filter fun x => !Machine.windowEnded s x } } := by
  have hanew : (s.flt.levels.filter fun l => (s.flt.reactions.filter (Machine.windowEnded s)).any
      fun x => decide (l.suppressed = some x.key)) = [] :=
    List.filter_eq_nil_iff.2 fun l hl => by simp [h l hl]
  have hlevels : s.flt.levels.map (freeLevel []) = s.flt.levels := List.map_id _
  change execReactionWindowEnd s = _
  rw [execReactionWindowEnd]
  dsimp only
  rw [hanew, hlevels]
  rfl
/-- What a suppressed raise leaves. -/
theorem raise_suppressed_same {x : Reaction} {n inst ctx : Nat} (hsrc : reservedSource n = false)
    (hsup : suppressor s n inst = some x) : (raise s n inst ctx).flt.word = s.flt.word ∧
    (raise s n inst ctx).flt.queue = s.flt.queue ∧ (raise s n inst ctx).flt.hist.length = s.flt.hist.length ∧
    (raise s n inst ctx).flt.errLow = s.flt.errLow ∧ (raise s n inst ctx).flt.reactions = s.flt.reactions := by
  obtain ⟨lv, h⟩ := raise_suppressed (ctx := ctx) hsrc hsup
  rw [h]
  exact ⟨rfl, rfl, List.length_map .., rfl, rfl⟩
theorem parityNoted_eq (s : State) (src : BitVec 6) (ctx : BitVec 16) :
    (parityNoted s src ctx).flt = s.flt ∧ (parityNoted s src ctx).tb = s.tb ∧ (parityNoted s src ctx).modes = s.modes ∧
    (parityNoted s src ctx).cfg = s.cfg := by
  obtain ⟨⟨_, _, h⟩, -⟩ := parityNoted_same s src ctx
  rw [h]
  exact ⟨rfl, rfl, rfl, rfl⟩
/-- What the record of a raise says of it. -/
theorem unescalated_fields {f g : FaultRec} (h : unescalated g = f) : g.src = f.src ∧ g.inst = f.inst ∧ g.ctx = f.ctx ∧
    g.mode = f.mode ∧ g.beat = f.beat ∧ g.mask = f.mask ∧ g.consequent = f.consequent := by
  subst h
  exact ⟨rfl, rfl, rfl, rfl, rfl, rfl, rfl⟩

end

/-- Settles O48: a raise that runs, one that is suppressed, and the ends of a window and of a trap. -/
theorem faultRaises : Obligations.FaultRaises := by
  refine ⟨fun src inst ctx s hpow hsrc hlevel => ?raise, fun s h => reactionWindowEnd_filters h, fun s => rfl⟩
  refine ⟨_, exec_faultRaise hpow hlevel, faultRaise_counts hsrc, ?_⟩
  obtain ⟨hflt, htb, hmodes, hcfg⟩ := parityNoted_eq s src ctx
  have hreg : reg (parityNoted s src ctx) A_FLT_REACTION src.toNat = reg s A_FLT_REACTION src.toNat := reg_eq_of_cfg hcfg ..
  have hrunning : running (parityNoted s src ctx) = running s := by unfold running; rw [hflt, htb]
  have hsuppressor : suppressor (parityNoted s src ctx) src.toNat inst.toNat = suppressor s src.toNat inst.toNat := by
    unfold suppressor; rw [hrunning]
  rw [← hsuppressor, ← hreg, ← hrunning, ← hmodes, ← htb, ← hflt]
  generalize parityNoted s src ctx = u at *
  refine ⟨fun hfree => ?free, fun x hsup => raise_suppressed_same hsrc hsup⟩
  obtain ⟨hword, hhist, hfirst, hpin, hinterrupt, htrap⟩ := raise_raised (inst := inst.toNat) (ctx := ctx.toNat) hsrc hfree
  rw [bitAt_raisedRec (by decide)] at hpin hinterrupt htrap
  have hinst : inst.toNat % 256 = inst.toNat := Nat.mod_eq_of_lt inst.isLt
  have hctx : ctx.toNat % 2 ^ 16 = ctx.toNat := Nat.mod_eq_of_lt ctx.isLt
  refine ⟨hword, fun hroom => ?_, fun hnone hrun => ?_, hpin, fun h0 hm => ⟨_, hinterrupt h0 hm, rfl, hinst⟩, htrap⟩
  · obtain ⟨f, hf, hrec⟩ := hhist hroom
    obtain ⟨hs, hi, hc, hm, hb, hk, hcons⟩ := unescalated_fields hrec
    exact ⟨f, hf, hs, hi.trans hinst, hc.trans hctx, hm, hb, hk, by rw [hcons]; exact head?_isSome_iff⟩
  · obtain ⟨f, hf, hrec⟩ := hfirst hnone (by rw [show (raisedRec u src.toNat inst.toNat ctx.toNat).consequent =
      (running u).head?.isSome from rfl, hrun]; rfl)
    obtain ⟨hs, hi, -⟩ := unescalated_fields hrec
    exact ⟨f, hf, hs, hi.trans hinst⟩

end Sys2Proof.Proofs
end

section
/-!
O57: the NL64 configuration begins and ends (R427, R428). O58: its scan, its codes and its channel fields (R429 to R432, R437).
O59: its register personality (R435 to R437).
-/
namespace Sys2Proof.Proofs
open Sys2Proof Sys2Proof.Machine Sys2Proof.Laws

/-! ## The configuration (R427, R428) -/

@[simp] theorem reply_nl (s : State) (r : Req) (op st dt : Nat) (data : List PWord) : (reply s r op st dt data).nl = s.nl := by
  rw [(reply_queues ..).2]
@[simp] theorem closeCmd_nl (s : State) (r : Req) (op st dt : Nat) (data : List PWord) :
    (closeCmd s r op st dt data).nl = s.nl := reply_nl ..
@[simp] theorem lane_closeCmd (s : State) (r : Req) (op st dt : Nat) (data : List PWord) (u : Nat) :
    lane (closeCmd s r op st dt data) u = lane s u :=
  lane_of_lanes (by rw [closeCmd, (reply_queues ..).2]) u

section
variable {s : State} {r : Req}

theorem exec_legacyEnter (hs : Served s r 0x7E) : exec (.legacyEnter r) s = .next (
    if !hasCompat s then reply s r 0x7E 8 0 []
    else opening s r 0x7E 0 fun s => { s with nl := { s.nl with enter := some r } }) := by
  change execLegacyEnter r s = _
  rw [execLegacyEnter, granger_served hs]
  rfl
theorem exec_legacyLeave (hs : Served s r 0x7F) : exec (.legacyLeave r) s = .next (
    if !s.nl.active then reply s r 0x7F 0 0 []
    else opening s r 0x7F 0 fun s => { s with nl := { s.nl with leave := some r } }) := by
  change execLegacyLeave r s = _
  rw [execLegacyLeave, granger_served hs]
  rfl

variable (d : Deckle)

theorem nlFrame_inactive (h : s.nl.active = false) : nlFrame s d = s := by rw [nlFrame, h]; rfl
/-- The results keep whether the configuration is active and what waits to change it. -/
theorem nlResults_waits (s : State) (all : Bool) : (nlResults s all).nl.active = s.nl.active ∧
    (nlResults s all).nl.enter = s.nl.enter ∧ (nlResults s all).nl.leave = s.nl.leave := by
  unfold nlResults
  extract_lets ready rest
  suffices ∀ (l : List (Nat × Nat × NlPair)) (t : State), (l.foldl nlResult t).nl.active = t.nl.active ∧
      (l.foldl nlResult t).nl.enter = t.nl.enter ∧ (l.foldl nlResult t).nl.leave = t.nl.leave from this ..
  intro l
  induction l with
  | nil => exact fun t => ⟨rfl, rfl, rfl⟩
  | cons e l ih => exact fun t => ih (nlResult t e)
theorem nlFrame_waits : (nlFrame s d).nl.active = s.nl.active ∧ (nlFrame s d).nl.enter = s.nl.enter ∧
    (nlFrame s d).nl.leave = s.nl.leave := by
  unfold nlFrame
  split
  · exact ⟨rfl, rfl, rfl⟩
  · extract_lets t bytes u
    have ht := nlResults_waits s true
    split <;> exact ht
/-- A boundary with a LEGACY_ENTER that waits. -/
theorem nlDeckle_enter (h : s.nl.active = false) (hr : s.nl.enter = some r) (hl : s.nl.leave = none) :
    nlDeckle s d = closeCmd (nlStart { s with nl := { s.nl with enter := none } }) r 0x7E 0 0 [] := by
  rw [nlDeckle, nlFrame_inactive d h, hr]
  dsimp only
  rw [closeCmd_nl, show (nlStart { s with nl := { s.nl with enter := none } }).nl.leave = none from hl]
/-- A boundary with a LEGACY_LEAVE that waits. -/
theorem nlDeckle_leave (hr : s.nl.enter = none) (hl : s.nl.leave = some r) : nlDeckle s d =
    closeCmd (nlEnd { nlFrame s d with nl := { (nlFrame s d).nl with leave := none } }) r 0x7F 0 0 [] := by
  obtain ⟨-, henter, hleave⟩ := nlFrame_waits (s := s) d
  rw [nlDeckle, henter, hr]
  dsimp only
  rw [hleave, hl]
theorem nlEnd_active (h : s.nl.active = true) : (nlEnd s).nl.active = false ∧ (lane (nlEnd s) 3).st = .off := by
  rw [nlEnd, h]
  exact ⟨rfl, by rw [if_neg (by decide), lane_setLane_same]⟩

end

/-- Settles O57: the two commands, and the boundary at which each takes effect. -/
theorem nl64Configuration : Obligations.Nl64Configuration := by
  refine ⟨fun r s hs => ⟨fun h => ?_, fun h hroom => ?_⟩, fun r s hs => ⟨fun h => ?_, fun h hroom => ?_⟩,
    fun s d r h henter hleave => ?_, fun s d r h henter hleave => ?_⟩
  · rw [exec_legacyEnter hs, h]; rfl
  · rw [exec_legacyEnter hs, h, if_neg (by decide), opening_ready hroom]
    exact ⟨_, rfl, rfl, rfl, rfl, rfl⟩
  · rw [exec_legacyLeave hs, h]; rfl
  · rw [exec_legacyLeave hs, h, if_neg (by decide), opening_ready hroom]
    exact ⟨_, rfl, rfl, rfl, rfl⟩
  · rw [nlDeckle_enter d h henter hleave]
    refine ⟨?_, ?_, ?_, ?_, ?_, ?_, fun c => ?_, closeCmd_replies ..⟩
    · rw [closeCmd_nl]; rfl
    · rw [closeCmd_nl]; rfl
    · rw [closeCmd_nl]; rfl
    · rw [closeCmd_nl]; rfl
    · rw [closeCmd_nl]; rfl
    · rw [closeCmd_nl]; rfl
    · rw [nlPair, closeCmd_nl]; exact ⟨rfl, rfl⟩
  · obtain ⟨hactive, -⟩ := nlFrame_waits (s := s) d
    rw [nlDeckle_leave d henter hleave, closeCmd_nl, lane_closeCmd]
    obtain ⟨hoff, hlane⟩ := nlEnd_active (s := { nlFrame s d with nl := { (nlFrame s d).nl with leave := none } })
      (hactive.trans h)
    exact ⟨hoff, hlane, closeCmd_replies ..⟩

/-! ## Codes and fields (R430, R432) -/

theorem nlCode_le (y : Int) : nlCode y ≤ 4095 := by unfold nlCode clampInt; split_ifs <;> omega
theorem nlCode_clamps (y : Int) : (y < -131072 → nlCode y = 0) ∧ (131072 ≤ y → nlCode y = 4095) ∧
    (-131072 ≤ y → y < 131072 → (64 * (nlCode y : Int) ≤ y + 131072 ∧ y + 131072 < 64 * (nlCode y : Int) + 64)) := by
  unfold nlCode clampInt
  refine ⟨fun h => ?_, fun h => ?_, fun h h' => ?_⟩ <;> split_ifs <;> omega
theorem nlField_nlField (c : Nat) : nlField (nlField c) = c := Nat.xor_xor_cancel_right ..
theorem nlField_lt {c : Nat} (h : c < 64) : nlField c < 64 := Nat.xor_lt_two_pow (n := 6) h (by decide)
theorem nlField_low : ∀ c < 32, nlField c = c + 32 := by decide
theorem bits_nlHigh {c : Nat} (h : c < 64) (p : NlPair) : bits (nlHigh c p) 13 8 = nlField c := by
  have hf := nlField_lt h
  unfold bits nlHigh
  omega
theorem nlLow_lt {p : NlPair} (h : p.code < 4096) : nlLow { p with overrun := false } < 2 ^ 16 := by
  have hle : ∀ b, bnat b ≤ 1 := by decide
  have hsat := hle p.sat
  have hstale := hle p.stale
  have hover : bnat false = 0 := rfl
  unfold nlLow
  dsimp only
  omega
theorem bits_nlResult {c : Nat} (h : c < 64) {s : State} (hcode : (nlPair s c).code < 4096) :
    bits (valueOf s A_NL_RESULT c) 29 24 = nlField c := by
  have hf := nlField_lt h
  obtain ⟨low, hvalue, hlow⟩ : ∃ low, valueOf s A_NL_RESULT c = nlHigh c (nlPair s c) * 2 ^ 16 + low ∧ low < 2 ^ 16 :=
    ⟨_, rfl, nlLow_lt hcode⟩
  rw [hvalue]
  unfold bits nlHigh
  omega
theorem nlSeqCh_lt (s : State) (p : Nat) : nlSeqCh s p < 64 := Nat.mod_lt _ (by decide)
theorem nlRegister_two (s : State) : nlRegister s 2 = bnat (s.nl.active && s.nl.run) + bnat s.nl.pairing.isSome * 2 +
    nlField (nlSeqCh s s.nl.pos) * 2 ^ 8 := rfl
theorem bits_nlStatus (s : State) : bits (nlRegister s 2) 13 8 = nlField (nlSeqCh s s.nl.pos) := by
  have hf := nlField_lt (nlSeqCh_lt s s.nl.pos)
  have hle : ∀ b, bnat b ≤ 1 := by decide
  have hactive := hle (s.nl.active && s.nl.run)
  have hpairing := hle s.nl.pairing.isSome
  rw [nlRegister_two]
  unfold bits
  omega
theorem nlAdvance_pointer (s : State) :
    (nlAdvance s).nl.pointer = s.nl.pointer ∨ ∃ p, (nlAdvance s).nl.pointer = nlField (nlSeqCh s p) := by
  unfold nlAdvance
  split
  · exact .inr ⟨_, rfl⟩
  · exact .inl rfl

/-! ## The scan (R429 to R431) -/

/-- A slot's result joins those that are due. -/
def nlSampled (s : State) (slot p c : Nat) : State :=
  match nlSample s c with
  | some (r, s) => { s with nl := { s.nl with
      due := s.nl.due ++ [(slot * 64 + c, s.tb.up + 2, r)], lastEntry := pins s.nl.lastEntry c p } }
  | none => { s with nl := { s.nl with
      due := s.nl.due ++ [(slot * 64 + c, s.tb.up + 2, { nlPair s c with stale := true, overrun := false })] } }
/-- The sequence moves on. -/
def nlMoved (s : State) (p : Nat) : State :=
  if nlSeqLen s ≤ p + 1 then { s with nl := { s.nl with pos := 0, scan := (s.nl.scan + 1) % 2 ^ 16 } }
  else { s with nl := { s.nl with pos := p + 1 } }
/-- The result `q` of a slot on channel `c`: the kept one where no sample can be taken, else a fresh one. -/
def SlotResult (s : State) (c : Nat) (q : NlPair) : Prop :=
  ((chan s c).held = true ∨ fencedChannel s c = true → q.stale = true ∧ q.code = (nlPair s c).code) ∧
  (q.stale = false → q.scan = s.nl.scan ∧ q.code ≤ 4095)

section
variable {s : State}

theorem nlSample_some {c : Nat} {q : NlPair} {t : State} (h : nlSample s c = some (q, t)) :
    t = { s with free := s.free + 1 } ∧ ¬ ((chan s c).held = true ∨ fencedChannel s c = true) ∧ q.scan = s.nl.scan ∧
    q.code ≤ 4095 := by
  unfold nlSample at h
  dsimp only at h
  split at h
  · exact absurd h (by simp)
  · split at h
    · exact absurd h (by simp)
    · next hfree =>
      obtain ⟨rfl, rfl⟩ := Prod.mk.inj (Option.some.inj h)
      exact ⟨rfl, by simpa using hfree, rfl, nlCode_le _⟩
/-- What joins the due results, and what stays. -/
theorem nlSampled_due (slot p c : Nat) : ∃ q entry free, SlotResult s c q ∧ nlSampled s slot p c =
    { s with free := free, nl := { s.nl with due := s.nl.due ++ [(slot * 64 + c, s.tb.up + 2, q)], lastEntry := entry } } := by
  unfold nlSampled
  split
  · next q t h =>
    obtain ⟨rfl, hfree, hscan, hcode⟩ := nlSample_some h
    exact ⟨q, _, _, ⟨fun hout => absurd hout hfree, fun _ => ⟨hscan, hcode⟩⟩, rfl⟩
  · exact ⟨{ nlPair s c with stale := true, overrun := false }, s.nl.lastEntry, s.free,
      ⟨fun _ => ⟨rfl, rfl⟩, fun h => Bool.noConfusion h⟩, rfl⟩
theorem exec_nl64ScanSlot {j : Fin 25} (h : s.nl.active = true) (hrun : s.nl.run = true)
    (hbeat : s.tb.beat.toNat % 1024 = j.val * 1024 / 25) (hfresh : fresh s 6 j.val = true) :
    exec (.nl64ScanSlot j) s = .next (nlMoved
      (nlSampled (noteDone s 6 j.val) j.val s.nl.pos (nlSeqCh s s.nl.pos)) s.nl.pos) := by
  change execNl64ScanSlot j s = _
  rw [execNl64ScanSlot, if_pos (by rw [h, hrun, hfresh, decide_eq_true hbeat]; rfl)]
  rfl
theorem nl64ScanSlot_idle (j : Fin 25) (h : s.nl.active = false ∨ s.nl.run = false) : exec (.nl64ScanSlot j) s = .next s := by
  change execNl64ScanSlot j s = _
  rw [execNl64ScanSlot, if_neg]
  rintro hc
  simp only [Bool.and_eq_true] at hc
  obtain ⟨⟨⟨hactive, hrun⟩, -⟩, -⟩ := hc
  rw [hactive, hrun] at h
  simp at h
theorem nlMoved_end {p : Nat} (h : nlSeqLen s ≤ p + 1) :
    nlMoved s p = { s with nl := { s.nl with pos := 0, scan := (s.nl.scan + 1) % 2 ^ 16 } } := if_pos h
theorem nlMoved_on {p : Nat} (h : p + 1 < nlSeqLen s) : nlMoved s p = { s with nl := { s.nl with pos := p + 1 } } :=
  if_neg (Nat.not_le.2 h)

variable {e : Nat × Nat × NlPair}

theorem nl64ResultUpdate_early (h : s.nl.due = [e]) (hup : s.tb.up < e.2.1) : exec .nl64ResultUpdate s = .next s := by
  change Host.Outcome.next (nlResults s false) = _
  unfold nlResults
  have hlate : decide (e.2.1 ≤ s.tb.up) = false := decide_eq_false (by omega)
  rw [h]
  simp only [List.filter, Bool.false_or, hlate, Bool.not_false, List.foldl]
  rw [← h]
theorem nl64ResultUpdate_due (h : s.nl.due = [e]) (hup : e.2.1 ≤ s.tb.up) :
    exec .nl64ResultUpdate s = .next (nlResult { s with nl := { s.nl with due := [] } } e) := by
  change Host.Outcome.next (nlResults s false) = _
  unfold nlResults
  rw [h]
  simp only [List.filter, Bool.false_or, decide_eq_true hup, Bool.not_true, List.foldl]
theorem nlPair_setNlPair (c d : Nat) (p : NlPair) : nlPair (setNlPair s c p) d = if d = c then p else nlPair s d := by
  unfold nlPair setNlPair
  exact pget_pset ..
theorem nlPair_nlResult (c : Nat) : nlPair (nlResult s e) c = if c = e.1 % 64 then
    { e.2.2 with overrun := (nlPair s (e.1 % 64)).overrun || decide (s.nl.pairing = some (e.1 % 64)) } else nlPair s c :=
  nlPair_setNlPair ..

end

/-- Settles O58: a slot by its entry, a result by its beat, and the fields by their arithmetic. -/
theorem nl64Scan : Obligations.Nl64Scan := by
  refine ⟨⟨fun j s h hrun hbeat hfresh => ?slot, fun j s => nl64ScanSlot_idle j, fun s e h =>
    ⟨nl64ResultUpdate_early h, fun hup => ?result⟩⟩, nlCode_clamps, fun c hc => ⟨nlField_nlField c, nlField_lt hc, nlField_low c,
    bits_nlHigh hc, fun s => bits_nlResult hc⟩, fun s => ⟨bits_nlStatus s, rfl, nlAdvance_pointer s⟩⟩
  case slot =>
    obtain ⟨q, entry, free, hq, hdue⟩ := nlSampled_due (s := noteDone s 6 j.val) j.val s.nl.pos (nlSeqCh s s.nl.pos)
    refine ⟨_, exec_nl64ScanSlot h hrun hbeat hfresh, ?_⟩
    rw [hdue]
    rcases Nat.lt_or_ge (s.nl.pos + 1) (nlSeqLen s) with hlt | hge
    · rw [nlMoved_on (by exact hlt)]
      exact ⟨rfl, rfl, rfl, fun hge => absurd hge (Nat.not_le.2 hlt), fun _ => ⟨rfl, rfl⟩, q, rfl, hq⟩
    · rw [nlMoved_end (by exact hge)]
      exact ⟨rfl, rfl, rfl, fun _ => ⟨rfl, rfl⟩, fun hlt => absurd hge (Nat.not_le.2 hlt), q, rfl, hq⟩
  case result =>
    refine ⟨_, nl64ResultUpdate_due h hup, rfl, rfl, ?_, fun c hc => ?_⟩
    · rw [nlPair_nlResult, if_pos rfl]; rfl
    · rw [nlPair_nlResult, if_neg hc]; rfl

/-! ## The register personality (R435 to R437) -/

section
variable {s : State}

theorem nlTransaction_personality (hpads : padsFree s = true) (hpow : powered s = true) (h : s.nl.personality = true)
    (body : State → State) : nlTransaction s body = .next (body s) := by
  rw [nlTransaction, atPads_free hpads, hpow, h]
  rfl
theorem exec_registerPersonalitySwitch (hpads : padsFree s = true) (hpow : powered s = true) :
    exec .registerPersonalitySwitch s = .next (
      if s.nl.active && bitAt s.pwr.straps.toNat 2 && s.cmd.spiQ.isEmpty then
        { s with nl := { s.nl with personality := true } }
      else if !s.nl.active then { s with nl := { s.nl with personality := false } } else s) := by
  change execRegisterPersonalitySwitch s = _
  rw [execRegisterPersonalitySwitch, atPads_free hpads, hpow]
  rfl
theorem exec_nlPointerWrite (hpads : padsFree s = true) (hpow : powered s = true) (h : s.nl.personality = true)
    (v : BitVec 16) : exec (.nlPointerWrite v) s = .next (nlPoint s v.toNat) := by
  change execNlPointerWrite v s = _
  rw [execNlPointerWrite, nlTransaction_personality hpads hpow h]
theorem exec_nlRegisterWrite (hpads : padsFree s = true) (hpow : powered s = true) (h : s.nl.personality = true)
    (n : BitVec 7) (v : BitVec 16) : exec (.nlRegisterWrite n v) s = .next (
      if n = 1 then nlWriteOut { s with nl := { s.nl with run := v.getLsbD 0, autoInc := v.getLsbD 1 } }
      else if n = 3 then nlPoint s v.toNat
      else count (nlWriteOut s) A_NL_SPI_ERRORS 0 15 0 1) := by
  change execNlRegisterWrite n v s = _
  rw [execNlRegisterWrite, nlTransaction_personality hpads hpow h]
theorem nlReadLow_reads (s : State) : (nlReadLow s).nl.sdo = BitVec.ofNat 16 (nlLow (nlPair s (nlPointed s))) ∧
    (nlReadLow s).nl.pairing = some (nlPointed s) ∧
    (nlReadLow s).nl.shadow = BitVec.ofNat 16 (nlHigh (nlPointed s) (nlPair s (nlPointed s))) ∧
    nlPair (nlReadLow s) (nlPointed s) = { nlPair s (nlPointed s) with overrun := false } ∧
    (nlReadLow s).nl.pointer = s.nl.pointer := by
  unfold nlReadLow
  extract_lets c p t
  have ht : t.nl = s.nl := by unfold t; split <;> rfl
  clear_value t
  refine ⟨rfl, rfl, rfl, pget_pset_same .., ?_⟩
  change t.nl.pointer = s.nl.pointer
  rw [ht]
theorem nlReadHigh_paired {c : Nat} (h : s.nl.pairing = some c) : (nlReadHigh s).nl.sdo = s.nl.shadow ∧
    (nlReadHigh s).nl.pairing = none ∧ (nlReadHigh s).nl.pairs = s.nl.pairs ∧
    (s.nl.autoInc = false → (nlReadHigh s).nl.pointer = s.nl.pointer) := by
  have hadvance : ∀ t, ∃ x, (nlAdvance t).nl = { t.nl with pointer := x } := fun t => by
    unfold nlAdvance
    split <;> exact ⟨_, rfl⟩
  have hsdo : BitVec.ofNat 16 s.nl.shadow.toNat = s.nl.shadow := by rw [BitVec.ofNat_toNat, BitVec.setWidth_eq]
  unfold nlReadHigh
  rw [h]
  dsimp only
  split
  · next hinc =>
    obtain ⟨x, hx⟩ := hadvance { nlReadOut s s.nl.shadow.toNat with
      nl := { (nlReadOut s s.nl.shadow.toNat).nl with pairing := none } }
    rw [hx]
    exact ⟨hsdo, rfl, rfl, fun hno => absurd (hno.symm.trans hinc) Bool.false_ne_true⟩
  · exact ⟨hsdo, rfl, rfl, fun _ => rfl⟩
theorem nlReadHigh_unpaired (h : s.nl.pairing = none) :
    nlReadHigh s = nlReadOut s (2 ^ 15 + nlHigh (nlPointed s) (nlPair s (nlPointed s))) := by rw [nlReadHigh, h]
/-- A first byte that names another register shows it (log entry 53). -/
theorem exec_spiUnknownTransaction_nl (hpads : padsFree s = true) (hpow : powered s = true) (h : s.nl.personality = true)
    {b : Byte} (hb : b.getLsbD 7 = true) (h4 : b ≠ 0x84) (h5 : b ≠ 0x85) :
    exec (.spiUnknownTransaction b) s = .next (nlReadOut s (nlRegister s (b.toNat % 128))) := by
  have hge : 128 ≤ b.toNat := by
    have := BitVec.msb_eq_true_iff_two_mul_ge.1 ((BitVec.msb_eq_getLsbD_last b).trans hb)
    omega
  have hlt := b.isLt
  have hne : ∀ n, b ≠ BitVec.ofNat 8 (128 + n) → n < 128 → b.toNat % 128 ≠ n := by
    intro n hn hlt' heq
    exact hn (BitVec.eq_of_toNat_eq (by rw [BitVec.toNat_ofNat]; omega))
  change execSpiUnknownTransaction b s = _
  rw [execSpiUnknownTransaction, if_pos (by rw [hpow, h, hb]; rfl), atPads_free hpads, nlRead,
    if_neg (hne 4 h4 (by decide)), if_neg (hne 5 h5 (by decide))]

end

/-- Settles O59: the switch by the state of the configuration, then each transaction of the personality. -/
theorem nl64Registers : Obligations.Nl64Registers := by
  refine fun s hpads hpow => ⟨fun h hstrap hq => ?_, fun h hq => ?_, fun h => ?_, fun h =>
    ⟨?low, fun c hc => ?paired, fun hc => ?unpaired, fun b hb h4 h5 => ?other, fun v => ?pointer, fun n v => ?write⟩⟩
  · rw [exec_registerPersonalitySwitch hpads hpow, if_pos]
    rw [h, hq, show bitAt s.pwr.straps.toNat 2 = true from (bitAt_eq_testBit ..).trans hstrap]
    rfl
  · rw [exec_registerPersonalitySwitch hpads hpow, if_neg, if_neg]
    · rw [h]; decide
    · rw [List.isEmpty_eq_false_iff.2 hq, Bool.and_false]; decide
  · rw [exec_registerPersonalitySwitch hpads hpow, h]; rfl
  case low =>
    obtain ⟨hsdo, hpairing, hshadow, hpair, hpointer⟩ := nlReadLow_reads s
    refine ⟨_, nlTransaction_personality hpads hpow h _, ?_, hpairing, ?_, hpair, hpointer⟩
    · rw [hsdo]; rfl
    · rw [hshadow]; rfl
  case paired => exact ⟨_, nlTransaction_personality hpads hpow h _, nlReadHigh_paired hc⟩
  case unpaired =>
    refine ⟨_, nlTransaction_personality hpads hpow h _, ?_⟩
    rw [nlReadHigh_unpaired hc]
    exact ⟨rfl, rfl, rfl⟩
  case other => exact ⟨_, exec_spiUnknownTransaction_nl hpads hpow h hb h4 h5, rfl, rfl, rfl, rfl⟩
  case pointer => exact ⟨_, exec_nlPointerWrite hpads hpow h v, rfl, rfl, rfl⟩
  case write =>
    refine ⟨_, exec_nlRegisterWrite hpads hpow h n v, ?_⟩
    by_cases h1 : n = 1
    · subst h1
      exact ⟨rfl, fun _ => ⟨rfl, rfl, rfl⟩, fun hn => absurd rfl hn⟩
    · by_cases h3 : n = 3
      · subst h3
        exact ⟨rfl, fun hn => absurd hn (by decide), fun _ hn => absurd rfl hn⟩
      · rw [if_neg h1, if_neg h3]
        refine ⟨rfl, fun hn => absurd hn h1, fun _ _ => ⟨rfl, ?_⟩⟩
        exact tally_count_same _ _ _ _ (by decide)

end Sys2Proof.Proofs
end

section
/-!
O50: fences take effect and are released (R347, R361, R365). First what an isolation leaves: the fences in force, the acts
that wait, the mode and the beat.
-/
namespace Sys2Proof.Proofs
open Sys2Proof Sys2Proof.Machine Sys2Proof.Laws

/-! ## What an isolation and a release leave -/

/-- The fences of a collector, the act in progress and the commanded ones. -/
def actsOf (f : Flt) : (BitVec 192 × BitVec 12 × BitVec 4 × BitVec 8) × Option Act × List Act :=
  ((f.fencedCh, f.fencedStook, f.fencedUl, f.fencedConv), f.cur, f.cmds)
def acts (s : State) : (BitVec 192 × BitVec 12 × BitVec 4 × BitVec 8) × Option Act × List Act := actsOf s.flt

theorem acts_of_faultOnly {s t : State} (h : FaultOnly s t) : acts t = acts s := by
  obtain ⟨-, -, hflt⟩ := h
  rw [acts, hflt]
  rfl
@[simp] theorem acts_mk (pending cmd modes pwr flt barns chs stooks gran thr tb lanes dls mg mon cal md clk nl tap cfg
    cfgPrev couchUp tal talOld talNew once free) :
    acts (State.mk pending cmd modes pwr flt barns chs stooks gran thr tb lanes dls mg mon cal md clk nl tap cfg cfgPrev
      couchUp tal talOld talNew once free) = actsOf flt := (rfl)
@[simp] theorem acts_eta (s : State) : actsOf s.flt = acts s := (rfl)
@[simp] theorem acts_ite (c : Prop) [Decidable c] (a b : State) :
    acts (if c then a else b) = if c then acts a else acts b := by split <;> rfl
@[simp] theorem acts_forNat (n : Nat) (f : Nat → State → State) (s : State) (h : ∀ k x, acts (f k x) = acts x) :
    acts (forNat n f s) = acts s := forNat_view acts h n s
@[simp] theorem acts_foldl {α : Type} (l : List α) (f : State → α → State) (s : State)
    (h : ∀ x a, acts (f x a) = acts x) : acts (l.foldl f s) = acts s := foldl_view acts h l s

section
variable (s : State)

@[simp] theorem acts_pushSheaf (x : Sheaf) : acts (pushSheaf s x) = acts s := by simp [pushSheaf]
@[simp] theorem acts_count (id inst hi lo n : Nat) : acts (count s id inst hi lo n) = acts s := (rfl)
@[simp] theorem acts_setChan (c : Nat) (x : Channel) : acts (setChan s c x) = acts s := (rfl)
@[simp] theorem acts_setStook (k : Nat) (x : Stook) : acts (setStook s k x) = acts s := (rfl)
@[simp] theorem acts_setLane (u : Nat) (x : Uplane) : acts (setLane s u x) = acts s := (rfl)
@[simp] theorem acts_setMc (k : Nat) (x : Mc) : acts (setMc s k x) = acts s := (rfl)
@[simp] theorem acts_setMonRec (i : Nat) (x : MonRec) : acts (setMonRec s i x) = acts s := (rfl)
@[simp] theorem acts_setTdac (k : Nat) (x : Tdac) : acts (setTdac s k x) = acts s := (rfl)
@[simp] theorem acts_setRun (x : Option Run) : acts (setRun s x) = acts s := (rfl)
@[simp] theorem acts_levelEnd (src inst : Nat) : acts (levelEnd s src inst) = acts s := (rfl)
@[simp] theorem acts_closeCmd (r : Req) (op st dt : Nat) (data : List PWord) :
    acts (closeCmd s r op st dt data) = acts s := acts_of_faultOnly (faultOnly_closeCmd ..)
@[simp] theorem acts_raise (src inst ctx : Nat) : acts (raise s src inst ctx) = acts s :=
  acts_of_faultOnly (faultOnly_raise ..)
@[simp] theorem acts_levelBegin (src inst ctx : Nat) : acts (levelBegin s src inst ctx) = acts s :=
  acts_of_faultOnly (faultOnly_levelBegin ..)
@[simp] theorem acts_escalateBeyond (key : Nat) : acts (escalateBeyond s key) = acts s :=
  acts_of_faultOnly (faultOnly_escalateBeyond ..)

/-! ### Lanes -/

@[simp] theorem acts_enterLane (u : Nat) (st : LState) (x : Uplane) : acts (enterLane s u st x) = acts s := by
  simp [enterLane]
@[simp] theorem acts_negotiate (u : Nat) : acts (negotiate s u) = acts s := by simp [negotiate]
@[simp] theorem acts_fenceLane (u : Nat) : acts (fenceLane s u) = acts s := by simp [fenceLane, returnLater, emptyQuires]
@[simp] theorem acts_variantAtBoundary : acts (variantAtBoundary s) = acts s := by simp [variantAtBoundary, chooseVariant]
@[simp] theorem steady_fenceLane (u : Nat) : steady (fenceLane s u) = steady s := by simp [fenceLane, returnLater]

/-! ### The monitor path -/

@[simp] theorem acts_nextConversion (k : Nat) : acts (nextConversion s k) = acts s := by
  rw [nextConversion_frame, acts_mk, acts_eta]
@[simp] theorem acts_monReport (i : Nat) (b : Beat) (m : MonRec) (injected : Bool) :
    acts (monReport s i b m injected) = acts s := by simp [monReport]
@[simp] theorem acts_stopConverter (k : Nat) : acts (stopConverter s k) = acts s := by
  simp [stopConverter, abortInjected, forInputs]
@[simp] theorem acts_resumeConverter (k : Nat) : acts (resumeConverter s k) = acts s := by simp [resumeConverter, forInputs]
@[simp] theorem steady_stopConverter (k : Nat) : steady (stopConverter s k) = steady s := by simp [stopConverter, abortInjected]
@[simp] theorem acts_holdChannel (c : Nat) : acts (holdChannel s c) = acts s := (rfl)
@[simp] theorem acts_driveDac (k : Nat) (r : Req) (ch : Nat) (low : Bool) (code : BitVec 12) :
    acts (driveDac s k r ch low code) = acts s := (rfl)
@[simp] theorem acts_beginCheck : acts (beginCheck s) = acts s := by
  unfold beginCheck
  split <;> simp
@[simp] theorem acts_serveDac (k : Nat) (l : List DacClaim) : acts (serveDac s k l) = acts s := by
  induction l generalizing s with
  | nil => rfl
  | cons c l ih => cases c <;> simp [serveDac, ih]
@[simp] theorem acts_freeDacs : acts (freeDacs s) = acts s := by simp [freeDacs, freeDac]

/-! ### Runs -/

@[simp] theorem acts_calOutcome (r : Option Req) (st : Nat × Nat) : acts (calOutcome s r st) = acts s := by
  unfold calOutcome
  split
  · exact acts_of_faultOnly (faultOnly_send ..)
  · rfl
@[simp] theorem acts_sweepOn (x : Run) (st : Nat × Nat) : acts (sweepOn s x st) = acts s := by
  unfold sweepOn endSweep startCommit
  repeat' split
  all_goals simp
@[simp] theorem acts_releaseUnits (x : Run) (aborted : Bool) (u : Nat) : acts (releaseUnits x aborted s u) = acts s := by
  unfold releaseUnits
  dsimp only
  split
  · rw [acts_pushSheaf, acts_pushSheaf, releaseChannel_frame, acts_mk]
    rfl
  · rw [acts_pushSheaf, releaseClaim_frame, acts_mk, acts_eta]
/-- A run that is aborted accepts nothing and raises nothing. -/
@[simp] theorem acts_endRun_aborted (found : List Residual) : acts (endRun s true found) = acts s := by
  unfold endRun
  split
  · rfl
  · simp only [if_true, Bool.or_true, acts_sweepOn, acts_calOutcome, acts_ite, acts_mk, acts_eta, acts_count, acts_pushSheaf,
      acts_freeDacs, acts_foldl _ _ _ fun x u => acts_releaseUnits x .., acts_setRun, ite_self]
@[simp] theorem acts_calDrop (hit : Nat → Bool) : acts (calDrop s hit) = acts s := by
  unfold calDrop
  split
  · rfl
  · split
    · rw [acts_foldl _ _ _ fun x u => acts_releaseUnits x .., acts_setRun]
    · simp
    · simp
@[simp] theorem steady_calDrop (hit : Nat → Bool) : steady (calDrop s hit) = steady s := by
  unfold calDrop
  split
  · rfl
  · split
    · rw [steady_foldl _ _ _ fun x u => steady_releaseUnits x .., steady_setRun]
    · simp
    · simp

/-! ### Isolation (R361, R362) -/

theorem acts_isolateChannel (c : Nat) : acts (isolateChannel s c) = acts s := by simp [isolateChannel]
theorem steady_isolateChannel (c : Nat) : steady (isolateChannel s c) = steady s := by simp [isolateChannel]
theorem acts_freeChannel (c : Nat) : acts (freeChannel s c) = acts s := by simp [freeChannel]
@[simp] theorem acts_isolate (x : Target) : acts (isolate s x) = acts s := by
  unfold isolate
  cases x with
  | channel c => exact acts_isolateChannel ..
  | stook k => exact acts_forNat _ _ _ fun _ _ => acts_isolateChannel ..
  | uplane u => simp only [acts_variantAtBoundary, acts_fenceLane]
  | converter k => simp only [acts_stopConverter, acts_calDrop]
  | downlane d => rfl
  | timingPort => rfl
  | triggerPort => rfl
@[simp] theorem steady_isolate (x : Target) : steady (isolate s x) = steady s := by
  unfold isolate
  cases x with
  | channel c => exact steady_isolateChannel ..
  | stook k => exact steady_forNat _ _ _ fun _ _ => steady_isolateChannel ..
  | uplane u => simp only [steady_variantAtBoundary, steady_fenceLane]
  | converter k => simp only [steady_stopConverter, steady_calDrop]
  | downlane d => rfl
  | timingPort => rfl
  | triggerPort => rfl
@[simp] theorem acts_unisolate (x : Target) : acts (unisolate s x) = acts s := by
  unfold unisolate
  cases x with
  | channel c => exact acts_freeChannel ..
  | stook k =>
    dsimp only
    split
    · rfl
    · exact acts_forNat _ _ _ fun _ _ => acts_freeChannel ..
  | uplane u => simp only [acts_ite, acts_negotiate, ite_self]
  | converter k => simp only [acts_ite, acts_resumeConverter, ite_self]
  | downlane d => rfl
  | timingPort => rfl
  | triggerPort => rfl
@[simp] theorem acts_markFence (x : Target) (release : Bool) (src : Nat) : acts (markFence s x release src) = acts s := by
  simp [markFence, fenceMarker]

end

/-! ## Fence bits -/

section
variable {s t : State} {x : Target}

theorem acts_eq (h : acts t = acts s) : (t.flt.fencedCh = s.flt.fencedCh ∧ t.flt.fencedStook = s.flt.fencedStook ∧
    t.flt.fencedUl = s.flt.fencedUl ∧ t.flt.fencedConv = s.flt.fencedConv) ∧ t.flt.cur = s.flt.cur ∧ t.flt.cmds = s.flt.cmds := by
  simpa only [acts, actsOf, Prod.mk.injEq] using h
theorem cmds_of_acts (h : acts t = acts s) : t.flt.cmds = s.flt.cmds := (acts_eq h).2.2
theorem cur_of_acts (h : acts t = acts s) : t.flt.cur = s.flt.cur := (acts_eq h).2.1
theorem isFenced_of_acts (h : acts t = acts s) (x : Target) : isFenced t x = isFenced s x := by
  obtain ⟨⟨hch, hstook, hul, hconv⟩, -⟩ := acts_eq h
  unfold isFenced
  rw [hch, hstook, hul, hconv]
theorem ownFence_of_acts (h : acts t = acts s) (x : Target) : ownFence t x = ownFence s x := by
  have hfenced := isFenced_of_acts h
  obtain ⟨⟨hch, -⟩, -⟩ := acts_eq h
  cases x with
  | channel c => exact congrArg (fun w : BitVec 192 => w.getLsbD c.val) hch
  | stook k => exact hfenced (.stook k)
  | uplane u => exact hfenced (.uplane u)
  | converter k => exact hfenced (.converter k)
  | downlane d => rfl
  | timingPort => rfl
  | triggerPort => rfl
theorem getLsbD_setBit {n : Nat} (w : BitVec n) (k : Fin n) : (w ||| BitVec.ofNat n (2 ^ k.val)).getLsbD k.val = true := by
  rw [BitVec.getLsbD_or, BitVec.getLsbD_ofNat, Nat.testBit_two_pow_self, decide_eq_true k.isLt]
  simp
theorem getLsbD_clearBit {n : Nat} (w : BitVec n) (k : Fin n) : (w &&& ~~~BitVec.ofNat n (2 ^ k.val)).getLsbD k.val = false := by
  rw [BitVec.getLsbD_and, BitVec.getLsbD_not, BitVec.getLsbD_ofNat, Nat.testBit_two_pow_self, decide_eq_true k.isLt]
  simp
/-- A fence that is set holds. -/
theorem isFenced_setFence (s : State) (hx : fenceable x = true) : isFenced (setFence s x true) x = true := by
  cases x with
  | channel c => exact Bool.or_eq_true_iff.2 (.inl (getLsbD_setBit s.flt.fencedCh c))
  | stook k => exact getLsbD_setBit s.flt.fencedStook k
  | uplane u => exact getLsbD_setBit s.flt.fencedUl u
  | converter k => exact getLsbD_setBit s.flt.fencedConv k
  | downlane d => exact absurd hx Bool.false_ne_true
  | timingPort => exact absurd hx Bool.false_ne_true
  | triggerPort => exact absurd hx Bool.false_ne_true
/-- A fence that is cleared is gone. -/
theorem ownFence_setFence (s : State) (hx : fenceable x = true) : ownFence (setFence s x false) x = false := by
  cases x with
  | channel c => exact getLsbD_clearBit s.flt.fencedCh c
  | stook k => exact getLsbD_clearBit s.flt.fencedStook k
  | uplane u => exact getLsbD_clearBit s.flt.fencedUl u
  | converter k => exact getLsbD_clearBit s.flt.fencedConv k
  | downlane d => exact absurd hx Bool.false_ne_true
  | timingPort => exact absurd hx Bool.false_ne_true
  | triggerPort => exact absurd hx Bool.false_ne_true
theorem setFence_acts (s : State) (x : Target) (v : Bool) :
    (setFence s x v).flt.cur = s.flt.cur ∧ (setFence s x v).flt.cmds = s.flt.cmds := by
  cases x <;> exact ⟨rfl, rfl⟩

/-! ## Markers, and the ends of acts -/

/-- The FENCE marker of a target: fenced, or released, by source `src`, at beat `b` (Table 4.10). -/
def markerOf (x : Target) (release : Bool) (src : Nat) (b : Beat) : Sheaf :=
  oneSlot 6 0 15 b ((fenceCode x).1 * 2 ^ 62 + (fenceCode x).2 * 2 ^ 54 + bnat release * 2 ^ 53 + src * 2 ^ 47)
theorem markerTerms (k i src p q v w : Nat) : k * p + i * q + bnat false * v + src * w = k * p + i * q + src * w ∧
    k * p + i * q + bnat false * v + 0 * w = k * p + i * q ∧ k * p + i * q + bnat true * v + 0 * w = k * p + i * q + v := by
  rw [show bnat false = 0 from rfl, show bnat true = 1 from rfl, Nat.zero_mul, Nat.zero_mul, Nat.one_mul]
  exact ⟨rfl, rfl, rfl⟩
/-- The marker of a reaction's fence, of a commanded fence and of a release, word for word. -/
theorem markerOf_words (x : Target) (src : Nat) (b : Beat) :
    markerOf x false src b = oneSlot 6 0 15 b ((fenceCode x).1 * 2 ^ 62 + (fenceCode x).2 * 2 ^ 54 + src * 2 ^ 47) ∧
    markerOf x false 0 b = oneSlot 6 0 15 b ((fenceCode x).1 * 2 ^ 62 + (fenceCode x).2 * 2 ^ 54) ∧
    markerOf x true 0 b = oneSlot 6 0 15 b ((fenceCode x).1 * 2 ^ 62 + (fenceCode x).2 * 2 ^ 54 + 2 ^ 53) := by
  obtain ⟨hreaction, hfenced, hreleased⟩ := markerTerms (fenceCode x).1 (fenceCode x).2 src (2 ^ 62) (2 ^ 54) (2 ^ 53) (2 ^ 47)
  exact ⟨by rw [markerOf, hreaction], by rw [markerOf, hfenced], by rw [markerOf, hreleased]⟩
theorem mem_markFence (hx : fenceable x = true) (hm : s.modes.cur ≠ .held) (release : Bool) (src : Nat) :
    markerOf x release src s.tb.beat ∈ (markFence s x release src).gran.dwq := by
  rw [markFence, if_pos hx, fenceMarker, pushSheaf, if_neg hm]
  exact List.mem_append_right _ (List.mem_singleton_self _)
/-- The marker of a target whose isolation or release left the mode and the beat. -/
theorem mem_markFence_of_steady (h : steady t = steady s) (hx : fenceable x = true) (hm : s.modes.cur ≠ .held) (release : Bool)
    (src : Nat) : markerOf x release src s.tb.beat ∈ (markFence t x release src).gran.dwq := by
  rw [← steady_beat h]
  exact mem_markFence hx (by rw [steady_cur h]; exact hm) release src
theorem gran_of_faultOnly (h : FaultOnly s t) : t.gran = s.gran := by rw [h.1]
theorem dropAct_single (a : Act) : dropAct a [a] = [] := if_pos rfl

/-- The opcode of an act that a command has asked for. -/
def actOp : ActKind → Nat | .fence => 0x50 | .unfence => 0x51 | .reset => 0x55

/-- A commanded act that ends is replied, leaves the list, and changes no fence. -/
theorem endCommand_single {a : Act} {r : Req} (hr : a.req = some r) (hc : s.flt.cmds = [a]) (st dt : Nat) :
    (endCommand s a st dt).flt.cmds = [] ∧ (endCommand s a st dt).gran = s.gran ∧
    (∀ y, isFenced (endCommand s a st dt) y = isFenced s y) ∧ (∀ y, ownFence (endCommand s a st dt) y = ownFence s y) ∧
    replyMsg r (actOp a.kind) st dt [] ∈ msgsOf (endCommand s a st dt) r.port := by
  have hend : endCommand s a st dt =
      closeCmd { s with flt := { s.flt with cmds := dropAct a s.flt.cmds } } r (actOp a.kind) st dt [] := by
    rw [endCommand, hr]; rfl
  have hacts := acts_closeCmd { s with flt := { s.flt with cmds := dropAct a s.flt.cmds } } r (actOp a.kind) st dt []
  have hgran := gran_of_faultOnly (faultOnly_closeCmd { s with flt := { s.flt with cmds := dropAct a s.flt.cmds } } r
    (actOp a.kind) st dt [])
  rw [hend]
  refine ⟨(cmds_of_acts hacts).trans ?_, hgran, fun y => (isFenced_of_acts hacts y).trans ?_,
    fun y => (ownFence_of_acts hacts y).trans ?_, closeCmd_replies ..⟩
  · rw [hc]; exact dropAct_single a
  · cases y <;> rfl
  · cases y <;> rfl

/-! ## FENCE and UNFENCE -/

variable {r : Req} {k : BitVec 2} {n : Byte}

theorem exec_fence (hs : Served s r 0x50) (hx : fenceTarget k.toNat n.toNat = some x) (hno : resetOutstanding s x = false)
    (hfree : isFenced s x = false) : exec (.fence r k n) s = .next (
      if fenceForbidden s x then reply s r 0x50 8 0 []
      else opening s r 0x50 (targetKey x) fun s => addCommand s .fence x r) := by
  change execFence r k n s = _
  rw [execFence, granger_served hs, hx]
  dsimp only
  rw [hno, hfree]
  rfl
theorem exec_unfence (hs : Served s r 0x51) (hx : fenceTarget k.toNat n.toNat = some x) (hno : resetOutstanding s x = false) :
    exec (.unfence r k n) s = .next (
      if !ownFence s x then reply s r 0x51 0 0 []
      else opening s r 0x51 (targetKey x) fun s => addCommand s .unfence x r) := by
  change execUnfence r k n s = _
  rw [execUnfence, granger_served hs, hx]
  dsimp only
  rw [hno]
  rfl

/-! ## Fences take effect -/

variable {a : Act}

/-- A commanded fence within the policy. -/
theorem fenceCommand_fences (hfree : isFenced s a.target = false) (hpolicy : fenceForbidden s a.target = false) :
    fenceCommand s a = endCommand (markFence (isolate (setFence s a.target true) a.target) a.target false 0) a 0 0 := by
  rw [fenceCommand, hfree, hpolicy, if_neg (by decide), if_neg (by decide)]
theorem execFenceTakesEffect_commanded (hb : atBoundary s = true) (hcur : s.flt.cur = none) (hc : s.flt.cmds = [a])
    (hk : a.kind = .fence) (hasked : a.asked < s.tb.up) : exec .fenceTakesEffect s = .next (fenceCommand s a) := by
  have hready : (isAct .fence a && decide (a.asked < s.tb.up)) = true := by
    rw [isAct, hk, decide_eq_true hasked]; rfl
  change execFenceTakesEffect s = _
  rw [execFenceTakesEffect, hb, hcur]
  dsimp only
  rw [if_neg (by decide), hc, List.filter_singleton, hready]
  rfl
theorem execFenceTakesEffect_reaction {b : Nat} (hb : atBoundary s = true) (hcur : s.flt.cur = some a) (hk : a.kind = .fence)
    (hbegun : a.begun = some b) (hlt : b < s.tb.up) (hc : (fenceNow s a).flt.cmds = []) :
    exec .fenceTakesEffect s = .next (fenceNow s a) := by
  have hready : (isAct .fence a && decide (b < s.tb.up)) = true := by rw [isAct, hk, decide_eq_true hlt]; rfl
  change execFenceTakesEffect s = _
  rw [execFenceTakesEffect, hb, hcur]
  dsimp only
  rw [if_neg (by decide), hbegun]
  dsimp only
  rw [if_pos hready, hc]
  rfl
/-- The state in which the fence of a reaction has been set and marked. -/
def reactionFenced (s : State) (a : Act) : State :=
  markFence (isolate (setFence s a.target true) a.target) a.target false a.src
/-- What ends the fence of a reaction keeps its target fenced and its marker. -/
theorem fenceNow_fences (hfree : isFenced s a.target = false) : (fenceNow s a).gran = (reactionFenced s a).gran ∧
    (fenceNow s a).flt.cur = none ∧ (fenceNow s a).flt.cmds = (reactionFenced s a).flt.cmds ∧
    ∀ y, isFenced (fenceNow s a) y = isFenced (reactionFenced s a) y := by
  have hlast : ∀ u, FaultOnly (reactionFenced s a) u → (endCur u a).gran = (reactionFenced s a).gran ∧
      (endCur u a).flt.cur = none ∧ (endCur u a).flt.cmds = (reactionFenced s a).flt.cmds ∧
      ∀ y, isFenced (endCur u a) y = isFenced (reactionFenced s a) y := fun u hu =>
    ⟨show u.gran = _ from gran_of_faultOnly hu, rfl, show u.flt.cmds = _ from cmds_of_acts (acts_of_faultOnly hu), fun y =>
      (show isFenced (endCur u a) y = isFenced u y by cases y <;> rfl).trans (isFenced_of_acts (acts_of_faultOnly hu) y)⟩
  rw [fenceNow, hfree, if_neg (by decide)]
  exact hlast _ (faultOnly_ite (faultOnly_escalateBeyond ..) (faultOnly_refl _))
theorem releaseFences_single (hc : s.flt.cmds = [a]) (hk : a.kind = .unfence) (hasked : a.asked < s.tb.up) : releaseFences s =
    endCommand (markFence (unisolate (setFence s a.target false) a.target) a.target true 0) a 0 0 := by
  have hready : (isAct .unfence a && decide (a.asked < s.tb.up)) = true := by
    rw [isAct, hk, decide_eq_true hasked]; rfl
  rw [releaseFences, hc, List.filter_singleton, hready]
  rfl

end

/-- Settles O50: the commands by their conditions, and each fence and release by its isolation, its marker and its reply. -/
theorem fences : Obligations.Fences := by
  refine ⟨fun r k n x s hs hx hno hfree => ⟨fun h => ?_, fun h hroom => ?_⟩,
    fun a r s hb hm hcur hc hk hasked hr hfree hx hpolicy => ?commanded,
    fun a b s hb hm hcur hc hk hbegun hlt hfree hx => ?reaction,
    fun r k n x s hs hx hno => ⟨fun h => ?_, fun h hroom => ?_⟩, fun a r s hm hc hk hasked hr hx => ?released⟩
  · rw [exec_fence hs hx hno hfree, if_pos h]
  · rw [exec_fence hs hx hno hfree, h, if_neg (by decide), opening_ready hroom]
    exact ⟨_, rfl, rfl⟩
  case commanded =>
    have hcmds : (markFence (isolate (setFence s a.target true) a.target) a.target false 0).flt.cmds = [a] := by
      rw [cmds_of_acts (acts_markFence ..), cmds_of_acts (acts_isolate ..), (setFence_acts ..).2, hc]
    have hfenced : isFenced (markFence (isolate (setFence s a.target true) a.target) a.target false 0) a.target = true := by
      rw [isFenced_of_acts (acts_markFence ..), isFenced_of_acts (acts_isolate ..), isFenced_setFence s hx]
    have hsteady : steady (isolate (setFence s a.target true) a.target) = steady s := by simp
    have hmark := mem_markFence_of_steady hsteady hx hm false 0
    rw [(markerOf_words a.target 0 s.tb.beat).2.1] at hmark
    obtain ⟨hempty, hgran, hsame, -, hreply⟩ := endCommand_single hr hcmds 0 0
    rw [hk] at hreply
    refine ⟨_, (execFenceTakesEffect_commanded hb hcur hc hk hasked).trans (congrArg _ (fenceCommand_fences hfree hpolicy)),
      (hsame _).trans hfenced, hempty, ?_, hreply⟩
    rw [hgran]
    exact hmark
  case reaction =>
    obtain ⟨hgran, hcur', hcmds, hsame⟩ := fenceNow_fences (a := a) hfree
    have hnone : (reactionFenced s a).flt.cmds = [] := by
      rw [reactionFenced, cmds_of_acts (acts_markFence ..), cmds_of_acts (acts_isolate ..), (setFence_acts ..).2, hc]
    have hsteady : steady (isolate (setFence s a.target true) a.target) = steady s := by simp
    have hmark := mem_markFence_of_steady hsteady hx hm false a.src
    rw [(markerOf_words a.target a.src s.tb.beat).1] at hmark
    refine ⟨_, execFenceTakesEffect_reaction hb hcur hk hbegun hlt (hcmds.trans hnone), ?_, hcur', ?_⟩
    · rw [hsame, reactionFenced, isFenced_of_acts (acts_markFence ..), isFenced_of_acts (acts_isolate ..), isFenced_setFence s hx]
    · rw [hgran]
      exact hmark
  · rw [exec_unfence hs hx hno, h]; rfl
  · rw [exec_unfence hs hx hno, h, if_neg (by decide), opening_ready hroom]
    exact ⟨_, rfl, rfl⟩
  case released =>
    have hcmds : (markFence (unisolate (setFence s a.target false) a.target) a.target true 0).flt.cmds = [a] := by
      rw [cmds_of_acts (acts_markFence ..), cmds_of_acts (acts_unisolate ..), (setFence_acts ..).2, hc]
    have hfree : ownFence (markFence (unisolate (setFence s a.target false) a.target) a.target true 0) a.target = false := by
      rw [ownFence_of_acts (acts_markFence ..), ownFence_of_acts (acts_unisolate ..), ownFence_setFence s hx]
    have hsteady : steady (unisolate (setFence s a.target false) a.target) = steady s := by simp
    have hmark := mem_markFence_of_steady hsteady hx hm true 0
    rw [(markerOf_words a.target 0 s.tb.beat).2.2] at hmark
    obtain ⟨hempty, hgran, -, hsame, hreply⟩ := endCommand_single hr hcmds 0 0
    rw [hk] at hreply
    rw [releaseFences_single hc hk hasked]
    refine ⟨(hsame _).trans hfree, hempty, ?_, hreply⟩
    rw [hgran]
    exact hmark

end Sys2Proof.Proofs
end

section
/-!
O51: block resets begin, pass and fail (R362, R363).
-/
namespace Sys2Proof.Proofs
open Sys2Proof Sys2Proof.Machine Sys2Proof.Laws

/-! ## What a reset and a release leave -/

section
variable (s : State)

@[simp] theorem acts_setDlane (d : Nat) (x : Downlane) : acts (setDlane s d x) = acts s := (rfl)
@[simp] theorem acts_discardLatch (c : Nat) : acts (discardLatch s c) = acts s := by simp [discardLatch]
theorem acts_resetChannel (c : Nat) : acts (resetChannel s c) = acts s := by simp [resetChannel]
theorem acts_couchMessage (c : Couch) (status detail : Nat) : acts (couchMessage s c status detail) = acts s := by
  unfold couchMessage
  split
  · rfl
  · dsimp only
    split
    · exact acts_closeCmd ..
    · exact acts_of_faultOnly (faultOnly_send ..)
theorem acts_cancelCouch (p : Couch → Bool) : acts (cancelCouch s p) = acts s := by
  unfold cancelCouch
  split
  · split
    · rw [failCouch, acts_raise, acts_couchMessage]
      rfl
    · rfl
  · rfl
theorem acts_settleTime : acts (settleTime s) = acts s := by
  unfold settleTime
  extract_lets r _ s₁ q _ s₂
  have h₂ : acts s₂ = acts s := by unfold s₂ epochCause; split <;> rfl
  rw [acts_ite, acts_ite, acts_cancelCouch, h₂, ite_self]
  exact ite_self _
theorem acts_portFaulty : acts (portFaulty s) = acts s := acts_levelBegin ..
@[simp] theorem acts_resetLogic (x : Target) : acts (resetLogic s x) = acts s := by
  unfold resetLogic
  cases x with
  | channel c => exact acts_resetChannel ..
  | stook k => exact (acts_setStook ..).trans (acts_forNat _ _ _ fun _ _ => acts_resetChannel ..)
  | uplane u => rfl
  | converter k => rfl
  | downlane d => rfl
  | timingPort => rw [acts_ite, acts_settleTime, acts_portFaulty, ite_self]
  | triggerPort => rfl
theorem raise_gran (src inst ctx : Nat) : (raise s src inst ctx).gran = s.gran := gran_of_faultOnly (faultOnly_raise ..)
theorem resetChannel_gran (c : Nat) : (resetChannel s c).gran = s.gran := by
  unfold resetChannel discardLatch
  dsimp only
  rw [setChan_gran, forNat_view (fun s => s.gran) fun _ _ => by rw [raise_gran, setChan_gran, count_gran, count_gran]]
  exact setChan_gran ..
/-- The reset of a unit that a fence can isolate writes no sheaf. -/
theorem resetLogic_gran {x : Target} (hx : fenceable x = true) : (resetLogic s x).gran = s.gran := by
  unfold resetLogic
  cases x with
  | channel c => exact resetChannel_gran ..
  | stook k => exact (setStook_gran ..).trans (forNat_view (fun s => s.gran) (fun _ _ => resetChannel_gran ..) 16 s)
  | uplane u => rfl
  | converter k => rfl
  | downlane d => exact absurd hx Bool.false_ne_true
  | timingPort => exact absurd hx Bool.false_ne_true
  | triggerPort => exact absurd hx Bool.false_ne_true
theorem freeChannel_cmd (c : Nat) : (freeChannel s c).cmd = s.cmd := by
  unfold freeChannel
  split <;> rfl
theorem negotiate_cmd (u : Nat) : (negotiate s u).cmd = s.cmd := by
  unfold negotiate enterLane
  dsimp only
  rw [levelEnd_cmd, pushSheaf_cmd, setLane_cmd]
theorem nextConversion_cmd (k : Nat) : (nextConversion s k).cmd = s.cmd := by rw [nextConversion_frame]
theorem resumeConverter_cmd (k : Nat) : (resumeConverter s k).cmd = s.cmd := by
  unfold resumeConverter forInputs
  exact (nextConversion_cmd ..).trans (forNat_view (fun s => s.cmd) (fun _ _ => setMonRec_cmd ..) 27 s)
/-- A release sends nothing. -/
theorem unisolate_cmd (x : Target) : (unisolate s x).cmd = s.cmd := by
  unfold unisolate
  cases x with
  | channel c => exact freeChannel_cmd ..
  | stook k =>
    dsimp only
    split
    · rfl
    · exact forNat_view (fun s => s.cmd) (fun _ _ => freeChannel_cmd ..) _ _
  | uplane u =>
    dsimp only
    split
    · rfl
    · exact negotiate_cmd ..
  | converter k =>
    dsimp only
    split
    · rfl
    · exact resumeConverter_cmd ..
  | downlane d => rfl
  | timingPort => rfl
  | triggerPort => rfl
theorem markFence_cmd (x : Target) (release : Bool) (src : Nat) : (markFence s x release src).cmd = s.cmd := by
  unfold markFence fenceMarker
  split
  · exact pushSheaf_cmd ..
  · rfl
theorem keepsMsgs_levelBegin (src inst ctx : Nat) : KeepsMsgs s (levelBegin s src inst ctx) := by
  unfold levelBegin
  refine keepsMsgs_ite (keepsMsgs_refl s) (keepsMsgs_trans ?_ (keepsMsgs_raise ..))
  exact keepsMsgs_of_cmd rfl
theorem keepsMsgs_raiseReset (x : Target) : KeepsMsgs s (raiseReset s x) := by
  cases x with
  | downlane d => exact keepsMsgs_levelBegin ..
  | timingPort => exact keepsMsgs_levelBegin ..
  | channel c => exact keepsMsgs_raise ..
  | stook k => exact keepsMsgs_raise ..
  | uplane u => exact keepsMsgs_raise ..
  | converter k => exact keepsMsgs_raise ..
  | triggerPort => exact keepsMsgs_raise ..
theorem acts_raiseReset (x : Target) : acts (raiseReset s x) = acts s := by
  cases x with
  | downlane d => exact acts_levelBegin ..
  | timingPort => exact acts_levelBegin ..
  | channel c => exact acts_raise ..
  | stook k => exact acts_raise ..
  | uplane u => exact acts_raise ..
  | converter k => exact acts_raise ..
  | triggerPort => exact acts_raise ..

end

section
variable {s : State} {a : Act} {r : Req}

/-! ## RESET_BLOCK and its start -/

theorem exec_resetBlock {k : BitVec 3} {n : Byte} {x : Target} (hs : Served s r 0x55)
    (hx : resetTarget k.toNat n.toNat = some x) : exec (.resetBlock r k n) s = .next (
      if resetOutstanding s x then reply s r 0x55 1 0x55 []
      else if isFenced s x then reply s r 0x55 0 0 []
      else opening s r 0x55 (targetKey x) fun s => addCommand s .reset x r) := by
  change execResetBlock r k n s = _
  rw [execResetBlock, granger_served hs, hx]
  rfl
/-- A reset of the list has begun. -/
def resetBegun (s : State) (a : Act) : Act := { a with acted := true, begun := some s.tb.up }
theorem exec_blockResetStart (hcur : s.flt.cur = none) (hc : s.flt.cmds = [a]) (hk : a.kind = .reset) (hacted : a.acted = false) :
    exec .blockResetStart s = .next (beginReset { s with flt := { s.flt with cmds := [resetBegun s a] } } (resetBegun s a)) := by
  have hready : (isAct .reset a && !a.acted) = true := by rw [isAct, hk, hacted]; rfl
  have hbegin : beginCur s = s := by rw [beginCur, hcur]
  change execBlockResetStart s = _
  rw [execBlockResetStart, hbegin, hc, List.filter_singleton, hready]
  change Host.Outcome.next (beginCommanded s a) = _
  rw [beginCommanded, hc, List.map_singleton, if_pos rfl]
  rfl
theorem beginReset_begins (s : State) (a : Act) : (beginReset s a).flt.cmds = s.flt.cmds := by
  rw [beginReset, cmds_of_acts (acts_resetLogic ..), cmds_of_acts (acts_markFence ..), cmds_of_acts (acts_isolate ..)]
theorem mem_beginReset (hx : fenceable a.target = true) (hm : s.modes.cur ≠ .held) :
    markerOf a.target false a.src s.tb.beat ∈ (beginReset s a).gran.dwq := by
  rw [beginReset, resetLogic_gran _ hx]
  exact mem_markFence_of_steady (steady_isolate ..) hx hm false a.src

/-! ## How a commanded reset ends -/

theorem resetOf_commanded (hcur : s.flt.cur = none) (hc : s.flt.cmds = [a]) (hk : a.kind = .reset) (hacted : a.acted = true) :
    resetOf s a.target = some (a, false) := by
  have his : (isAct .reset a && a.acted && decide (a.target = a.target)) = true := by
    rw [isAct, hk, hacted, decide_eq_true rfl, decide_eq_true rfl]; rfl
  rw [resetOf, hcur, hc]
  dsimp only [Option.toList, List.find?]
  rw [his]
  rfl
/-- A passed reset releases its target and is replied. -/
theorem resetReleased_releases (hr : a.req = some r) (hc : s.flt.cmds = [a]) (hk : a.kind = .reset) :
    (resetReleased (endCommand s a 0 0) a).flt.cmds = [] ∧
    isFenced (resetReleased (endCommand s a 0 0) a) a.target = isFenced s a.target ∧
    replyMsg r 0x55 0 0 [] ∈ msgsOf (resetReleased (endCommand s a 0 0) a) r.port := by
  obtain ⟨hempty, -, hfenced, -, hreply⟩ := endCommand_single hr hc 0 0
  rw [hk] at hreply
  generalize endCommand s a 0 0 = t at *
  have hacts : acts (resetReleased t a) = acts t := by
    rw [resetReleased, acts_ite, acts_markFence, acts_unisolate, ite_self]
  have hcmd : (resetReleased t a).cmd = t.cmd := by
    unfold resetReleased
    split
    · rfl
    · rw [markFence_cmd, unisolate_cmd]
  exact ⟨(cmds_of_acts hacts).trans hempty, (isFenced_of_acts hacts _).trans (hfenced _),
    keepsMsgs_mem (keepsMsgs_of_cmd hcmd) hreply⟩
/-- A failed reset keeps a fenceable target fenced and is replied TIMEOUT. -/
theorem resetCommandFails_fences (hr : a.req = some r) (hc : s.flt.cmds = [a]) (hk : a.kind = .reset) (selfCheck : Bool) :
    (resetCommandFails s a selfCheck).flt.cmds = [] ∧
    (fenceable a.target = true → isFenced (resetCommandFails s a selfCheck) a.target = true) ∧
    replyMsg r 0x55 0x0B (bnat selfCheck) [] ∈ msgsOf (resetCommandFails s a selfCheck) r.port := by
  obtain ⟨hempty, -, -, -, hreply⟩ := endCommand_single hr hc 0x0B (bnat selfCheck)
  rw [hk] at hreply
  unfold resetCommandFails
  extract_lets t u
  have hu : u.flt.cmds = t.flt.cmds ∧ u.cmd = t.cmd ∧ (fenceable a.target = true → isFenced u a.target = true) := by
    unfold u
    split
    · next hx => exact ⟨(setFence_acts ..).2, by cases a.target <;> rfl, isFenced_setFence t⟩
    · next hx => exact ⟨cmds_of_acts (acts_unisolate ..), unisolate_cmd .., fun h => absurd h hx⟩
  obtain ⟨hcmds, hcmd, hfenced⟩ := hu
  have hacts := acts_raiseReset u a.target
  exact ⟨(cmds_of_acts hacts).trans (hcmds.trans hempty), fun hx => (isFenced_of_acts hacts _).trans (hfenced hx),
    keepsMsgs_mem (keepsMsgs_raiseReset ..) (keepsMsgs_mem (keepsMsgs_of_cmd hcmd) hreply)⟩

/-! ## BLOCK_RESET_DECISION -/

variable {b : Nat}

/-- The decision about a commanded reset, in the order of its conditions. -/
theorem exec_blockResetDecision (hcur : s.flt.cur = none) (hc : s.flt.cmds = [a]) (hk : a.kind = .reset)
    (hacted : a.acted = true) (hbegun : a.begun = some b) (check : Option Bool) (line : Bool) :
    exec (.blockResetDecision a.target check line) s = .next (
      if (atBoundary s && decide (b < s.tb.up) && decide (s.tb.up ≤ b + 40960)) && decide (check = some true) && !line then
        resetReleased (endCommand s a 0 0) a
      else if (atBoundary s && decide (b < s.tb.up) && decide (s.tb.up ≤ b + 40960)) && decide (check = some false) then
        resetCommandFails s a true
      else if b + 40960 ≤ s.tb.up then resetCommandFails s a (decide (check = some false)) else s) := by
  change execBlockResetDecision a.target check line s = _
  rw [execBlockResetDecision, resetOf_commanded hcur hc hk hacted]
  dsimp only
  rw [hbegun]
  rfl

end

/-- Settles O51: the command, its start, and each way in which the reset ends. -/
theorem blockResets : Obligations.BlockResets := by
  refine ⟨fun r k n x s hs hx => ⟨fun h => ?_, fun hno hfree hroom => ?_⟩, fun a s hm hcur hc hk hacted => ?start,
    fun a r b line s hcur hc hk hacted hbegun hr hlt hle hb => ?decided,
    fun a r b line s hcur hc hk hacted hbegun hr hle => ?timeout⟩
  · rw [exec_resetBlock hs hx, if_pos h]
  · rw [exec_resetBlock hs hx, hno, hfree, if_neg (by decide), if_neg (by decide), opening_ready hroom]
    exact ⟨_, rfl, rfl⟩
  case start =>
    refine ⟨_, exec_blockResetStart hcur hc hk hacted, beginReset_begins .., fun hx => ?_⟩
    have hmark := mem_beginReset (s := { s with flt := { s.flt with cmds := [resetBegun s a] } }) (a := resetBegun s a) hx hm
    rwa [(markerOf_words ..).1] at hmark
  case decided =>
    have hin : (atBoundary s && decide (b < s.tb.up) && decide (s.tb.up ≤ b + 40960)) = true := by
      rw [hb, decide_eq_true hlt, decide_eq_true hle]; rfl
    refine ⟨⟨_, (exec_blockResetDecision hcur hc hk hacted hbegun ..).trans ?_, resetReleased_releases hr hc hk⟩,
      ⟨_, (exec_blockResetDecision hcur hc hk hacted hbegun ..).trans ?_, resetCommandFails_fences hr hc hk true⟩,
      fun hearly => (exec_blockResetDecision hcur hc hk hacted hbegun ..).trans ?_⟩
    · rw [hin]; rfl
    · rw [hin]; rfl
    · rw [if_neg (by simp), if_neg (by simp), if_neg (Nat.not_le.2 hearly)]
  case timeout =>
    refine ⟨_, (exec_blockResetDecision hcur hc hk hacted hbegun ..).trans ?_, resetCommandFails_fences hr hc hk false⟩
    rw [if_neg (by simp), if_neg (by simp), if_pos hle]
    rfl

end Sys2Proof.Proofs
end

section
/-!
O53: resyncs, retests and the cross-link (R376, R383 to R385, R389). O54: the vote of the Hasp, and the commands and reverts
that move it (R346, R347, R372, R386, R387).
-/
namespace Sys2Proof.Proofs
open Sys2Proof Sys2Proof.Machine Sys2Proof.Laws

/-! ## What raises and replies leave of the Barns -/

theorem barns_of_faultOnly {s t : State} (h : FaultOnly s t) : t.barns = s.barns := by rw [h.1]
theorem raise_barns (s : State) (src inst ctx : Nat) : (raise s src inst ctx).barns = s.barns :=
  barns_of_faultOnly (faultOnly_raise ..)
theorem closeAll_barns (s : State) (op st : Nat) : (closeAll s op st).barns = s.barns :=
  barns_of_faultOnly (faultOnly_closeAll ..)
theorem closeCmd_barns (s : State) (r : Req) (op st dt : Nat) (data : List PWord) :
    (closeCmd s r op st dt data).barns = s.barns := barns_of_faultOnly (faultOnly_closeCmd ..)
/-- Every command that `closeAll` names is replied. -/
theorem closeAll_replies {s : State} {o : Outst} {op : Nat} (st : Nat) (ho : o ∈ s.cmd.outst) (hop : o.opcode = BitVec.ofNat 8 op) :
    replyMsg o.req op st 0 [] ∈ msgsOf (closeAll s op st) o.req.port :=
  foldl_closeCmd_mem Outst.req (List.mem_filter.2 ⟨ho, decide_eq_true hop⟩) s

/-! ## Resyncs (R383, R384) -/

section
variable {s : State} {x : Resync}

theorem startResync_starts (h : s.barns.standby = .detached) (hx : s.barns.xlink = true) (hs : s.barns.suspended = false) :
    startResync s = { s with barns := { s.barns with
      standby := .resyncing, resync := some { phase := 1, since := s.tb.dk, bad := 0 } } } := by
  rw [startResync, h, hx, hs]
  rfl
theorem startResync_xlinkDown (hx : s.barns.xlink = false) : startResync s = s := by
  rw [startResync, hx, Bool.and_false, Bool.false_and]
  rfl
theorem abandonResync_none (h : s.barns.resync = none) (st : Nat) : abandonResync s st = s := by rw [abandonResync, h]
/-- The state of an abandoned resync, before its command is replied. -/
def resyncDropped (s : State) : State :=
  count { s with barns := { s.barns with resync := none, standby := .detached } } A_BN_RESYNC_COUNT 0 31 16 1
theorem abandonResync_some (h : s.barns.resync = some x) (st : Nat) : abandonResync s st =
    if outstanding s 0x62 then
      raise (closeAll (resyncDropped s) 0x62 st) 11 (barnCode (standbyBarn s)) 0
    else resyncDropped s := by
  rw [abandonResync, h]
  rfl
theorem abandonResync_barns (h : s.barns.resync = some x) (st : Nat) :
    (abandonResync s st).barns = { s.barns with resync := none, standby := .detached } := by
  rw [abandonResync_some h]
  split
  · rw [raise_barns, closeAll_barns]
    rfl
  · rfl
/-- What an abandoned resync, or none, leaves of the Barns. -/
theorem abandonResync_keeps (s : State) (st : Nat) : (abandonResync s st).barns.owner = s.barns.owner ∧
    (abandonResync s st).barns.xlink = s.barns.xlink ∧ (abandonResync s st).barns.takeover = s.barns.takeover ∧
    (s.barns.standby = .lockstep → (abandonResync s st).barns.standby = .lockstep ∨
      (abandonResync s st).barns.standby = .detached) := by
  cases h : s.barns.resync with
  | none =>
    rw [abandonResync_none h]
    exact ⟨rfl, rfl, rfl, .inl⟩
  | some x =>
    rw [abandonResync_barns h]
    exact ⟨rfl, rfl, rfl, fun _ => .inr rfl⟩
/-- A BARN_RESYNC that waits is replied as its resync is abandoned. -/
theorem abandonResync_replies (h : s.barns.resync = some x) (st : Nat) {o : Outst} (ho : o ∈ s.cmd.outst) (hop : o.opcode = 0x62) :
    replyMsg o.req 0x62 st 0 [] ∈ msgsOf (abandonResync s st) o.req.port := by
  have hout : outstanding s 0x62 = true := List.any_eq_true.2 ⟨o, ho, by rw [hop]; decide⟩
  rw [abandonResync_some h, if_pos hout]
  exact keepsMsgs_mem (keepsMsgs_raise ..) (closeAll_replies (s := resyncDropped s) st ho hop)

theorem exec_resyncSnapshot (h : s.barns.resync = some x) : exec .resyncSnapshot s = .next (
    if x.phase = 1 then { s with barns := { s.barns with resync := some { x with phase := 2 } } } else s) := by
  change execResyncSnapshot s = _
  rw [execResyncSnapshot, h]
theorem exec_resyncJournal (h : s.barns.resync = some x) (hph : 2 ≤ x.phase) (ok : Bool) : exec (.resyncJournal ok) s = .next (
    if ok then { s with barns := { s.barns with
      resync := some { x with phase := if s.tb.beat.toNat % 1024 ≤ 512 then 3 else 2, bad := 0 } } }
    else if x.bad = 0 then { count s A_BN_XLINK 0 31 16 1 with barns := { s.barns with resync := some { x with phase := 2, bad := 1 } } }
    else abandonResync (count s A_BN_XLINK 0 31 16 1) 0x0C) := by
  change execResyncJournal ok s = _
  rw [execResyncJournal, h]
  dsimp only
  rw [if_neg (Nat.not_lt.2 hph)]
  rfl
theorem exec_resyncJoin (h : s.barns.resync = some x) (hph : x.phase = 3) (hb : atBoundary s = true) :
    exec (.resyncJoin true) s = .next (closeAll (count (enterLockstep s) A_BN_RESYNC_COUNT 0 15 0 1) 0x62 0) := by
  change execResyncJoin true s = _
  rw [execResyncJoin, h]
  dsimp only
  rw [hph, hb]
  rfl
theorem exec_resyncAbandon (h : s.barns.resync = some x) (hold : x.since + 400 ≤ s.tb.dk) :
    exec .resyncAbandon s = .next (abandonResync s 0x0B) := by
  change execResyncAbandon s = _
  rw [execResyncAbandon, h]
  dsimp only
  rw [if_pos hold]

/-! ## Retests (R385) -/

theorem barn_startResync (w : Barn) : barn (startResync s) w = barn s w := by
  rw [startResync_frame]
  cases w <;> rfl
/-- The record of a Barn that is tested. -/
theorem barn_recordTest (w : Barn) (n : Nat) (ok : Bool) : (barn (recordTest s w n ok) w).passed = ok ∧
    (barn (recordTest s w n ok) w).bits = n ∧ (ok = false → (barn (recordTest s w n ok) w).failedAt = s.tb.dk) := by
  unfold recordTest
  dsimp only
  rw [barn_setBarn_same]
  exact ⟨rfl, rfl, fun h => by rw [h]; rfl⟩
/-- What a recorded test leaves. -/
theorem recordTest_keeps (s : State) (w : Barn) (n : Nat) (ok : Bool) : recordTest s w n ok =
    { s with barns := { s.barns with a := (recordTest s w n ok).barns.a, b := (recordTest s w n ok).barns.b } } := by
  unfold recordTest
  exact setBarn_frame ..
theorem exec_barnRetest {b : BitVec 16} (hrun : barnsRun s = true) (hst : s.barns.standby = .failed)
    (ht : s.barns.takeover = none) (hstop : (barn s (standbyBarn s)).stopped = false)
    (hdue : (barn s (standbyBarn s)).failedAt + bits (reg s A_BN_RETEST 0) 15 0 * 40000 ≤ s.tb.dk) :
    exec (.barnRetest b) s = .next (
      if b = 0 then reloadStandby { recordTest s (standbyBarn s) b.toNat (decide (b = 0)) with barns :=
        { (recordTest s (standbyBarn s) b.toNat (decide (b = 0))).barns with standby := .detached } }
      else raise (setBarn (recordTest s (standbyBarn s) b.toNat (decide (b = 0))) (standbyBarn s)
        { barn (recordTest s (standbyBarn s) b.toNat (decide (b = 0))) (standbyBarn s) with
          stopped := decide (bits (reg s A_BN_RETEST 0) 23 16 ≤
            (barn (recordTest s (standbyBarn s) b.toNat (decide (b = 0))) (standbyBarn s)).fails) })
        9 (barnCode (standbyBarn s)) b.toNat) := by
  change execBarnRetest b s = _
  rw [execBarnRetest]
  dsimp only
  rw [if_pos (by rw [hrun, hst, ht, hstop, decide_eq_true hdue]; rfl)]
/-- A detached standby that is loaded anew is resynchronised, and keeps its test result. -/
theorem reloadStandby_resyncs (hst : s.barns.standby = .detached) (hx : s.barns.xlink = true) (hs : s.barns.suspended = false) :
    (reloadStandby s).barns.standby = .resyncing ∧
    (barn (reloadStandby s) (standbyBarn s)).passed = (barn s (standbyBarn s)).passed := by
  unfold reloadStandby
  extract_lets w o
  rw [barn_startResync, barn_setBarn_same]
  refine ⟨?_, rfl⟩
  rw [startResync_starts (by rw [setBarn_frame]; exact hst) (by rw [setBarn_frame]; exact hx) (by rw [setBarn_frame]; exact hs)]
/-- The state of a standby whose retest has passed. -/
def retestPassed (s : State) (w : Barn) (n : Nat) : State :=
  { recordTest s w n true with barns := { (recordTest s w n true).barns with standby := .detached } }
theorem retestPassed_keeps (s : State) (w : Barn) (n : Nat) : (retestPassed s w n).barns.xlink = s.barns.xlink ∧
    (retestPassed s w n).barns.suspended = s.barns.suspended ∧ standbyBarn (retestPassed s w n) = standbyBarn s ∧
    (barn (retestPassed s w n) w).passed = true := by
  have hpass := (barn_recordTest (s := s) w n true).1
  unfold retestPassed
  rw [recordTest_keeps] at hpass ⊢
  exact ⟨rfl, rfl, rfl, by cases w <;> exact hpass⟩
theorem retest_passed (hx : s.barns.xlink = true) (hs : s.barns.suspended = false) (n : Nat) :
    (reloadStandby (retestPassed s (standbyBarn s) n)).barns.standby = .resyncing ∧
    (barn (reloadStandby (retestPassed s (standbyBarn s) n)) (standbyBarn s)).passed = true := by
  obtain ⟨hx', hs', hw, hpass⟩ := retestPassed_keeps s (standbyBarn s) n
  obtain ⟨hst, hkeep⟩ := reloadStandby_resyncs (s := retestPassed s (standbyBarn s) n) rfl (hx'.trans hx) (hs'.trans hs)
  rw [hw] at hkeep
  exact ⟨hst, hkeep.trans hpass⟩
theorem retest_failed (w : Barn) (n : Nat) (hst : s.barns.standby = .failed) (stop : Bool) (src inst ctx : Nat) :
    (raise (setBarn (recordTest s w n false) w { barn (recordTest s w n false) w with stopped := stop }) src inst ctx).barns.standby
      = .failed ∧
    (barn (raise (setBarn (recordTest s w n false) w { barn (recordTest s w n false) w with stopped := stop }) src inst ctx) w).passed
      = false ∧
    (barn (raise (setBarn (recordTest s w n false) w { barn (recordTest s w n false) w with stopped := stop }) src inst ctx) w).failedAt
      = s.tb.dk := by
  obtain ⟨hpass, -, hat⟩ := barn_recordTest (s := s) w n false
  have hbarn : ∀ t : State, barn (raise t src inst ctx) w = barn t w := fun t => by
    unfold barn
    rw [raise_barns]
  rw [hbarn, barn_setBarn_same, raise_barns, setBarn_frame, recordTest_keeps]
  rw [recordTest_keeps] at hpass hat
  exact ⟨hst, hpass, hat rfl⟩

/-! ## The cross-link (R376, R389) -/

theorem cancelCouch_barns (p : Couch → Bool) : (cancelCouch s p).barns = s.barns := by
  unfold cancelCouch
  split
  · split
    · exact (failCouch_frame ..).2.2
    · rfl
  · rfl
/-- Without the cross-link a failed upgrade starts no resync. -/
theorem failUpgrade_xlinkDown (hx : s.barns.xlink = false) : (failUpgrade s).barns.xlink = false ∧
    (failUpgrade s).barns.owner = s.barns.owner ∧ (failUpgrade s).barns.standby = s.barns.standby := by
  have hbarns := cancelCouch_barns (s := s) fun c => c.upgrade
  unfold failUpgrade
  generalize cancelCouch s (fun c => c.upgrade) = t at *
  have hx' : t.barns.xlink = false := (congrArg Barns.xlink hbarns).trans hx
  have howner : t.barns.owner = s.barns.owner := congrArg Barns.owner hbarns
  have hst : t.barns.standby = s.barns.standby := congrArg Barns.standby hbarns
  rw [reloadStandby, startResync_xlinkDown]
  · rw [setBarn_frame]
    exact ⟨hx', howner, hst⟩
  · rw [setBarn_frame]
    exact hx'
theorem detachStandby_keeps (s : State) : (detachStandby s).barns.owner = s.barns.owner ∧
    (detachStandby s).barns.xlink = s.barns.xlink ∧
    (s.barns.standby = .lockstep ∨ s.barns.standby = .detached → (detachStandby s).barns.standby = .detached) := by
  unfold detachStandby
  split
  · exact ⟨rfl, rfl, fun _ => rfl⟩
  · next h => exact ⟨rfl, rfl, fun hor => hor.resolve_left h⟩
/-- The state in which the loss of the cross-link is noted. -/
def xlinkLost (s : State) : State :=
  { count s A_BN_XLINK 0 15 0 1 with barns := { s.barns with xlink := false, xlost := s.tb.dk, agreed := false } }
/-- What the loss ends: a resync, and an upgrade in steps 1 to 3. -/
def xlinkEnded (s : State) : State :=
  let s := abandonResync (xlinkLost s) 0x0C
  if upgrading s then failUpgrade s else s
theorem exec_crosslinkLoss (hrun : barnsRun s = true) (hx : s.barns.xlink = true) :
    exec .crosslinkLoss s = .next (levelBegin (detachStandby (xlinkEnded s)) 10 0 0) := by
  change execCrosslinkLoss s = _
  rw [execCrosslinkLoss, hrun, hx]
  rfl
theorem xlinkEnded_keeps (s : State) : (xlinkEnded s).barns.xlink = false ∧ (xlinkEnded s).barns.owner = s.barns.owner ∧
    (s.barns.standby = .lockstep → (xlinkEnded s).barns.standby = .lockstep ∨ (xlinkEnded s).barns.standby = .detached) := by
  obtain ⟨howner, hx, -, hst⟩ := abandonResync_keeps (xlinkLost s) 0x0C
  unfold xlinkEnded
  dsimp only
  split
  · obtain ⟨hx', howner', hst'⟩ := failUpgrade_xlinkDown (s := abandonResync (xlinkLost s) 0x0C) hx
    rw [hx', howner', hst']
    exact ⟨rfl, howner, hst⟩
  · exact ⟨hx, howner, hst⟩
/-- The state in which the return of the cross-link is noted. -/
def xlinkRestored (s : State) : State := levelEnd { s with barns := { s.barns with xlink := true } } 10 0
theorem exec_crosslinkRestored (hrun : barnsRun s = true) : exec .crosslinkRestored s = .next (
    if s.barns.xlink || decide (s.barns.xlost + 40 ≤ s.tb.dk) then
      if s.barns.takeover.isNone then startResync (xlinkRestored s) else xlinkRestored s
    else s) := by
  change execCrosslinkRestored s = _
  rw [execCrosslinkRestored, hrun]
  rfl

end

/-- Settles O53: each event of a resync by its phase, the retest by its bits, and the cross-link by its state. -/
theorem resyncRuns : Obligations.ResyncRuns := by
  refine ⟨fun x s h => ⟨fun hph => ?_, fun hph hearly => ?_, fun hph hlate => ?_, fun hph hbad => ?_, fun hph hbad => ?_,
    fun hph hb => ?join, fun hold => ?_⟩, fun b s hrun hst ht hstop hdue => ⟨fun hb hx hs => ?_, fun hb => ?_⟩,
    fun s hrun => ⟨fun hx => ?loss, fun hup hst ht hs => ?restored, fun hx hearly => ?_⟩⟩
  · refine ⟨_, exec_resyncSnapshot h, ?_⟩
    rw [if_pos hph]
  · refine ⟨_, exec_resyncJournal h (by omega) true, ?_⟩
    rw [if_pos rfl, if_pos hearly]
  · refine ⟨_, exec_resyncJournal h (by omega) true, ?_⟩
    rw [if_pos rfl, if_neg (by omega)]
  · refine ⟨_, exec_resyncJournal h hph false, ?_⟩
    rw [if_neg Bool.false_ne_true, if_pos hbad]
    exact ⟨⟨_, rfl, rfl⟩, tally_count_same _ _ _ _ (by decide)⟩
  · refine ⟨_, exec_resyncJournal h hph false, ?_⟩
    rw [if_neg Bool.false_ne_true, if_neg hbad, abandonResync_barns (s := count s A_BN_XLINK 0 31 16 1) h]
    exact ⟨rfl, rfl⟩
  case join =>
    refine ⟨_, exec_resyncJoin h hph hb, ?_⟩
    rw [closeAll_barns]
    exact ⟨rfl, rfl, rfl, rfl, fun o ho hop => closeAll_replies 0 ho hop⟩
  · refine ⟨_, exec_resyncAbandon h hold, ?_⟩
    rw [abandonResync_barns h]
    exact ⟨rfl, rfl, fun o ho hop => abandonResync_replies h 0x0B ho hop⟩
  · subst hb
    exact ⟨_, exec_barnRetest hrun hst ht hstop hdue, retest_passed hx hs _⟩
  · refine ⟨_, exec_barnRetest hrun hst ht hstop hdue, ?_⟩
    rw [if_neg hb, decide_eq_false hb]
    exact retest_failed _ _ hst ..
  case loss =>
    obtain ⟨hdown, howner, hst⟩ := xlinkEnded_keeps s
    obtain ⟨howner', hdown', hst'⟩ := detachStandby_keeps (xlinkEnded s)
    have hbarns := barns_of_faultOnly (faultOnly_levelBegin (detachStandby (xlinkEnded s)) 10 0 0)
    refine ⟨_, exec_crosslinkLoss hrun hx, ?_⟩
    rw [eligible, hbarns, hdown', hdown, howner', howner, Bool.and_false, Bool.false_and, Bool.false_and]
    exact ⟨rfl, rfl, rfl, fun hlock => hst' (hst hlock)⟩
  case restored =>
    refine ⟨_, exec_crosslinkRestored hrun, ?_⟩
    rw [if_pos (by simpa using hup), ht, if_pos Option.isNone_none, startResync_starts (s := xlinkRestored s) hst rfl hs]
    exact ⟨rfl, rfl⟩
  · rw [exec_crosslinkRestored hrun, hx, decide_eq_false (by omega)]
    rfl

/-! ## The vote (R372) -/

theorem haspVote_three : ∀ (k : Fin 3) (b c : Bool), haspVote ((HaspCopy.three .a).set k { bit := b, compl := c }) = some .a ∧
    haspVote ((HaspCopy.three .b).set k { bit := b, compl := c }) = some .b := by decide
theorem haspVote_set (w : Barn) (k : Nat) (x : HaspCopy) : haspVote ((HaspCopy.three w).set k x) = some w := by
  obtain ⟨b, c⟩ := x
  rcases Nat.lt_or_ge k 3 with hk | hk
  · obtain ⟨ha, hb⟩ := haspVote_three ⟨k, hk⟩ b c
    cases w with
    | a => exact ha
    | b => exact hb
  · rw [List.set_eq_of_length_le (by cases w <;> exact hk)]
    cases w <;> rfl
theorem haspBeat_agrees {s : State} {w : Barn} (h : haspVote s.barns.hasp = some w) :
    haspBeat s = levelEnd (latchOwner s w) 2 0 := by rw [haspBeat, h]
theorem haspBeat_splits {s : State} (h : haspVote s.barns.hasp = none) :
    ∃ seen, haspBeat s = levelBegin (latchOwner s s.barns.owner) 2 0 seen := by
  rw [haspBeat, h]
  exact ⟨_, rfl⟩
theorem levelBegin_begins {s : State} {src inst : Nat} (ctx : Nat) (h : ∀ l ∈ s.flt.levels, l.src ≠ src) :
    levelBegin s src inst ctx = raise { s with flt := { s.flt with levels := s.flt.levels ++
      [{ src := src, inst := inst, ctx := ctx, suppressed := none }] } } src inst ctx := by
  rw [levelBegin, if_neg]
  rw [List.any_eq_true]
  rintro ⟨l, hl, hsrc⟩
  exact h l hl (by simpa using (Bool.and_eq_true_iff.1 hsrc).1)

/-! ## A raise and the tallies of the Barns -/

/-- The tallies that stand after the fault collector's. -/
def lateTallies (m : PMap Nat) : Nat → Nat := fun k => if (A_FLT_LOST + 1) * 512 ≤ k then pget 0 m k else 0

section
variable (s : State)

theorem lateTallies_ite {p : Prop} [Decidable p] {t u : State} {m : Nat → Nat} (ht : lateTallies t.tal = m)
    (hu : lateTallies u.tal = m) : lateTallies (if p then t else u).tal = m := by split <;> assumption
theorem lateTallies_count {id inst : Nat} (hi lo n : Nat) (h : id ≤ A_FLT_LOST) (hinst : inst < 512) :
    lateTallies (count s id inst hi lo n).tal = lateTallies s.tal := by
  funext k
  unfold lateTallies
  split
  · next hk => exact pget_pset_any _ _ _ _ (by omega)
  · rfl
theorem lateTallies_escalateBeyond (key : Nat) : lateTallies (escalateBeyond s key).tal = lateTallies s.tal := by
  unfold escalateBeyond
  extract_lets s₁ s₂
  have h₂ : lateTallies s₂.tal = lateTallies s.tal := by
    rw [assertErr_tal]
    exact lateTallies_count _ _ _ _ (by decide) (by decide)
  split
  · rw [causeRecovery_tal]; exact h₂
  · rw [causeRecovery_tal]; exact h₂
  · rw [recoveryFail_tal]; exact h₂
  · exact h₂
theorem lateTallies_queueAct (a : Act) : lateTallies (queueAct s a).tal = lateTallies s.tal := by
  unfold queueAct
  exact lateTallies_ite rfl (lateTallies_ite rfl (lateTallies_ite (lateTallies_escalateBeyond ..)
    (lateTallies_count _ _ _ _ (by decide) (by decide))))
theorem lateTallies_react (f : FaultRec) : lateTallies (react s f).tal = lateTallies s.tal := by
  unfold react
  extract_lets m window target s₁ _ s₂ _ s₃ isolates long stop _ s₄ s₅
  have h₁ : lateTallies s₁.tal = lateTallies s.tal := lateTallies_ite (congrArg _ (assertErr_tal s)) rfl
  have h₂ : lateTallies s₂.tal = lateTallies s.tal := lateTallies_ite h₁ h₁
  have h₃ : lateTallies s₃.tal = lateTallies s.tal := lateTallies_ite h₂ h₂
  have h₄ : lateTallies s₄.tal = lateTallies s.tal := lateTallies_ite h₃ h₃
  have h₅ : lateTallies s₅.tal = lateTallies s.tal := lateTallies_ite h₄ h₄
  clear_value isolates s₅
  split
  · exact (lateTallies_queueAct ..).trans h₅
  · exact lateTallies_ite h₅ h₅
theorem lateTallies_logRaise (f : FaultRec) : lateTallies (logRaise s f).tal = lateTallies s.tal :=
  lateTallies_ite (t := s) rfl (lateTallies_count _ _ _ _ (by decide) (by decide))
/-- A raise of a source of Table 12.1 leaves the tallies of the Barns, the clocks and the NL64 configuration. -/
theorem lateTallies_raise {src : Nat} (inst ctx : Nat) (hsrc : src < 512) :
    lateTallies (raise s src inst ctx).tal = lateTallies s.tal := by
  unfold raise
  refine lateTallies_ite rfl ?_
  have hcount : lateTallies (count s A_FLT_COUNT src 15 0 1).tal = lateTallies s.tal :=
    lateTallies_count _ _ _ _ (by decide) hsrc
  dsimp only
  split
  · exact hcount
  · rw [lateTallies_react, lateTallies_logRaise]
    split <;> exact hcount
theorem tally_raise_late {src : Nat} (inst ctx : Nat) {id : Nat} (hsrc : src < 512) (hid : A_FLT_LOST < id) (i : Nat) :
    tally (raise s src inst ctx) id i = tally s id i := by
  have hkey : (A_FLT_LOST + 1) * 512 ≤ id * 512 + i := by omega
  have hk := congrFun (lateTallies_raise s inst ctx hsrc) (id * 512 + i)
  rwa [lateTallies, lateTallies, if_pos hkey, if_pos hkey] at hk

end

/-! ## BARN_STATUS, BARN_SWITCH, BARN_RESYNC and reverts (R346, R347, R386, R387) -/

section
variable {s : State} {r : Req}

theorem exec_barnStatus (hs : Served s r 0x60) :
    exec (.barnStatus r) s = .next (reply s r 0x60 0 0 (valueWords 1 (barnStatusWord s))) := by
  change execBarnStatus r s = _
  rw [execBarnStatus, granger_served hs]
  rfl
theorem exec_barnSwitch (hs : Served s r 0x61) (h61 : outstanding s 0x61 = false) (h62 : outstanding s 0x62 = false) :
    exec (.barnSwitch r) s = .next (
      if !eligible s then reply s r 0x61 8 0 []
      else opening s r 0x61 0 fun s => { s with barns := { s.barns with switch := some (r, s.tb.up) } }) := by
  change execBarnSwitch r s = _
  rw [execBarnSwitch, granger_served hs, h61, h62]
  rfl
theorem exec_barnResync (hs : Served s r 0x62) (h61 : outstanding s 0x61 = false) (h62 : outstanding s 0x62 = false) :
    exec (.barnResync r) s = .next (
      if s.barns.standby = .lockstep then reply s r 0x62 0 0 []
      else if !s.barns.xlink || decide (s.barns.standby = .failed) then reply s r 0x62 8 0 []
      else opening s r 0x62 0 fun s => startResync s) := by
  change execBarnResync r s = _
  rw [execBarnResync, granger_served hs, h61, h62]
  rfl
/-- What a change of owner leaves of the lanes and of the tallies of the Barns. -/
theorem changeOwner_keeps (s : State) (cause : Nat) (st : Standby) : (changeOwner s cause st).lanes = s.lanes ∧
    ∀ id, A_FLT_LOST < id → tally (changeOwner s cause st) id 0 = tally s id 0 := by
  unfold changeOwner
  extract_lets w s₁ _ s₂
  have hlanes : (raise s₂ 46 (barnCode w) cause).lanes = s.lanes := by rw [(faultOnly_raise ..).1]; rfl
  refine ⟨?_, fun id hid => ?_⟩
  · rw [resumeMarker, pushSheaf_lanes, hlanes]
  · exact (tally_eq_of_tal (by rw [resumeMarker, pushSheaf_tal]) ..).trans (tally_raise_late s₂ _ _ (by decide) hid 0)
theorem makeSwitch_eligible {b : Nat} (h : s.barns.switch = some (r, b)) (hdue : switchDue s = true) (hc : couchDue s = false)
    (ht : transitionDue s = false) (he : eligible s = true) : makeSwitch s =
      closeCmd (changeOwner { s with barns := { s.barns with switch := none } } 2 .lockstep) r 0x61 0 0 [] := by
  rw [makeSwitch, h]
  dsimp only
  rw [hdue, hc, ht, he]
  rfl
theorem switchDue_of_pending {b : Nat} (h : s.barns.switch = some (r, b)) (hlt : b < s.tb.up) (hb : atBoundary s = true)
    (ht : s.barns.takeover = none) : switchDue s = true := by
  rw [switchDue, h, hb, ht, Option.isNone_none, Bool.true_and, Bool.true_and]
  exact decide_eq_true hlt
theorem exec_revert (hdue : revertDue s = true) (hsw : switchDue s = false) (hc : couchDue s = false)
    (ht : transitionDue s = false) : exec .revert s = .next (
      if recentReverts s < bits (reg s A_BN_REVERT 0) 3 1 then
        { count (changeOwner s 1 .lockstep) A_BN_REVERTS 0 15 0 1 with barns :=
          { (changeOwner s 1 .lockstep).barns with
              withheld := false
              reverts := ((changeOwner s 1 .lockstep).tb.up :: (changeOwner s 1 .lockstep).barns.reverts).take 255 } }
      else if s.barns.withheld then s
      else count { s with barns := { s.barns with withheld := true } } A_BN_REVERTS 0 31 16 1) := by
  change execRevert s = _
  rw [execRevert, hdue, hsw, hc, ht]
  rfl
theorem homeBarn_of_revertDue (hdue : revertDue s = true) : homeBarn s = standbyBarn s := by
  unfold revertDue at hdue
  simp only [Bool.and_eq_true, decide_eq_true_eq] at hdue
  obtain ⟨⟨⟨⟨-, hhome⟩, -⟩, -⟩, -⟩ := hdue
  exact hhome

end

/-- Settles O54: the vote by its copies, the commands by their conditions, the switch and the revert by what is due. -/
theorem ownership : Obligations.Ownership := by
  refine ⟨⟨haspVote_set, fun w s h => ?_, fun s h => ?split⟩, fun r s hs => exec_barnStatus hs,
    fun r s hs h61 h62 => ⟨fun h => ?_, fun h hroom => ?_⟩, fun r b s h hlt hb ht hc htr he => ?switch,
    fun s hdue hsw hc ht => ⟨fun hmax => ?reverts, fun hmax => ?withheld⟩,
    fun r s hs h61 h62 => ⟨fun h => ?_, fun h => ?_, fun h hx hsusp hroom => ?_⟩⟩
  · rw [haspBeat_agrees h]
    exact ⟨rfl, rfl, rfl⟩
  case split =>
    obtain ⟨seen, hbeat⟩ := haspBeat_splits h
    have hbarns := barns_of_faultOnly (faultOnly_levelBegin (latchOwner s s.barns.owner) 2 0 seen)
    rw [hbeat, hbarns]
    refine ⟨rfl, rfl, fun hnone => ?_⟩
    rw [levelBegin_begins (s := latchOwner s s.barns.owner) seen hnone, count_raise _ _ _ (by decide) (by decide)]
    rfl
  · rw [exec_barnSwitch hs h61 h62, h]; rfl
  · rw [exec_barnSwitch hs h61 h62, h, if_neg (by decide), opening_ready hroom]
    exact ⟨_, rfl, rfl, rfl, rfl⟩
  case switch =>
    rw [makeSwitch_eligible h (switchDue_of_pending h hlt hb ht) hc htr he, closeCmd_barns, changeOwner_barns]
    refine ⟨rfl, rfl, ?_, closeCmd_replies ..⟩
    rw [(faultOnly_closeCmd ..).1]
    exact (changeOwner_keeps ..).1
  case reverts =>
    obtain ⟨hlanes, htally⟩ := changeOwner_keeps s 1 .lockstep
    refine ⟨_, exec_revert hdue hsw hc ht, ?_⟩
    rw [if_pos hmax]
    refine ⟨?_, hlanes, ?_⟩
    · exact (congrArg Barns.owner (changeOwner_barns ..)).trans (homeBarn_of_revertDue hdue).symm
    · refine (tally_count_same _ _ _ _ (by decide)).trans ?_
      rw [htally _ (by decide)]
      rfl
  case withheld =>
    refine ⟨_, exec_revert hdue hsw hc ht, ?_⟩
    rw [if_neg (Nat.not_lt.2 hmax)]
    split
    · next h => exact ⟨rfl, h⟩
    · exact ⟨rfl, rfl⟩
  · rw [exec_barnResync hs h61 h62, if_pos h]
  · rw [exec_barnResync hs h61 h62, h, decide_eq_true rfl, Bool.or_true]
    rfl
  · rw [exec_barnResync hs h61 h62, h, hx, if_neg (by decide), if_neg (by decide), opening_ready hroom]
    exact ⟨_, _, congrArg _ (startResync_starts (s := openCmd s r 0x62 0) h hx hsusp), rfl, rfl, rfl⟩

end Sys2Proof.Proofs
end

section
/-!
O52: the detection of a mismatch, the self-test, its verdict, and the stream that resumes (R373, R374, R377 to R381).
-/
namespace Sys2Proof.Proofs
open Sys2Proof Sys2Proof.Machine Sys2Proof.Laws

/-! ## Loops over parts -/

section
variable {β : Type} (part : State → Nat → β) {f : Nat → State → State}

/-- A loop whose step k changes part k only leaves the parts beyond its length. -/
theorem forNat_beyond (h : ∀ k s u, u ≠ k → part (f k s) u = part s u) {n u : Nat} (hu : n ≤ u) (s : State) :
    part (forNat n f s) u = part s u := by
  induction n with
  | zero => rfl
  | succ n ih => rw [forNat, h _ _ _ (by omega), ih (by omega)]
/-- Part u is what step u makes of it. -/
theorem forNat_at (h : ∀ k s u, u ≠ k → part (f k s) u = part s u) {n u : Nat} (hu : u < n) (s : State) :
    part (forNat n f s) u = part (f u (forNat u f s)) u := by
  induction n with
  | zero => omega
  | succ n ih =>
    rw [forNat]
    rcases Nat.lt_or_ge u n with hlt | hge
    · rw [h _ _ _ (by omega), ih hlt]
    · rw [show u = n by omega]

end

/-! ## Detection (R373, R374) -/

section
variable {s : State}

theorem silence_keeps (s : State) (x : Takeover) : (silence s x).barns = { s.barns with takeover := some x } ∧
    (silence s x).gran = s.gran ∧ (silence s x).modes = s.modes ∧ (silence s x).tal = s.tal := by
  unfold silence
  refine forNat_view (fun t => t.barns) ?_ 4 _ |> fun h => ⟨h, forNat_view (fun t => t.gran) ?_ 4 _,
    forNat_view (fun t => t.modes) ?_ 4 _, forNat_view (fun t => t.tal) ?_ 4 _⟩
  all_goals
    intro k t
    dsimp only
    split <;> rfl
/-- What the detection of a mismatch shows. -/
theorem mismatch_detects (s : State) (kind : Nat) (alarm : Option Barn) : ∃ x, (mismatch s kind alarm).barns.takeover = some x ∧
    x.deckle = deckle s ∧ x.dk = s.tb.dk ∧ x.test = none ∧ x.cold = false ∧ x.checkpoint = s.barns.checkpoint ∧
    (mismatch s kind alarm).barns.owner = s.barns.owner ∧ (mismatch s kind alarm).gran = s.gran ∧
    grangersStopped (mismatch s kind alarm) = true := by
  obtain ⟨hbarns, hgran, -⟩ := silence_keeps s (newTakeover s kind alarm false)
  refine ⟨newTakeover s kind alarm false, ?_, rfl, rfl, rfl, rfl, rfl, ?_, hgran, ?_⟩
  · rw [mismatch, hbarns]
  · rw [mismatch, hbarns]
  · rw [grangersStopped, mismatch, hbarns]; rfl
theorem exec_lockstepMismatch (hrun : barnsRun s = true) (hst : s.barns.standby = .lockstep) (hs : s.barns.suspended = false)
    (ht : s.barns.takeover = none) {k : BitVec 4} (h1 : 1 ≤ k.toNat) (h4 : k.toNat ≤ 4) :
    exec (.lockstepMismatch k) s = .next (mismatch s k.toNat none) := by
  change execLockstepMismatch k s = _
  rw [execLockstepMismatch, hrun, hst, hs, ht, decide_eq_true h1, decide_eq_true h4]
  rfl
theorem exec_barnAlarm (hrun : barnsRun s = true) (hst : s.barns.standby = .lockstep) (hs : s.barns.suspended = false)
    (ht : s.barns.takeover = none) (w : Barn) : exec (.barnAlarm w) s = .next (mismatch s 4 (some w)) := by
  change execBarnAlarm w s = _
  rw [execBarnAlarm, hrun, ht]
  dsimp only
  rw [hst, hs]
  rfl

/-! ## The self-test and its verdict (R378, R379) -/

variable {x : Takeover}

theorem exec_barnSelftestStart (h : s.barns.takeover = some x) (htest : x.test = none) (hdk : x.dk < s.tb.dk)
    (hb : atBoundary s = true) (hboth : s.barns.bothFailed = none) (hrun : barnsRun s = true) :
    exec .barnSelftestStart s = .next { s with barns := { s.barns with takeover := some { x with test := some s.tb.dk } } } := by
  change execBarnSelftestStart s = _
  rw [execBarnSelftestStart, h]
  dsimp only
  rw [hb, htest, hboth, hrun, decide_eq_true hdk]
  rfl
/-- The state with both results recorded. -/
def bothTested (s : State) (nA nB : Nat) (okA okB : Bool) : State := recordTest (recordTest s .a nA okA) .b nB okB
theorem bothTested_eq (s : State) (nA nB : Nat) (okA okB : Bool) : ∃ xa xb : BarnRec,
    bothTested s nA nB okA okB = { s with barns := { s.barns with a := xa, b := xb } } ∧ xa.passed = okA ∧ xa.bits = nA :=
  ⟨_, _, rfl, rfl, rfl⟩
theorem exec_barnSelftestVerdict {b : Nat} (h : s.barns.takeover = some x) (htest : x.test = some b) (hdue : b + 2 ≤ s.tb.dk)
    (hb : atBoundary s = true) (hrun : barnsRun s = true) (hcold : x.cold = false) (hcur : s.modes.cur ≠ .recovery)
    (hA : x.alarmA = false) (hB : x.alarmB = false) (a c : BitVec 16) (ga gc : Bool) :
    exec (.barnSelftestVerdict a c ga gc) s = .next (verdict
      (bothTested s a.toNat c.toNat (decide (a = 0) && ga) (decide (c = 0) && gc)) x a.toNat c.toNat
      (decide (a = 0) && ga) (decide (c = 0) && gc)) := by
  have hnot : (decide ((bothTested s a.toNat c.toNat (decide (a = 0) && ga) (decide (c = 0) && gc)).modes.cur = .recovery)) = false :=
    decide_eq_false hcur
  change execBarnSelftestVerdict a c ga gc s = _
  rw [execBarnSelftestVerdict, h]
  dsimp only
  rw [htest]
  dsimp only
  simp only [hb, decide_eq_true hdue, hrun, hA, hB, hcold, Bool.not_false, Bool.and_true]
  change Host.Outcome.next (if (decide ((bothTested s _ _ _ _).modes.cur = .recovery) && _) = true then _ else _) = _
  rw [hnot]
  rfl

/-! ## The stream resumes (R380, R381) -/

/-- From `s` to `t` every ACTIVE uplane is rewound to its credit, with RWG one greater. -/
def Rewound (s t : State) : Prop :=
  ∀ u < 4, (lane s u).st = .active → (lane t u).rwg = (lane s u).rwg + 1 ∧ (lane t u).qnum = (lane s u).cred
/-- What a pause leaves of a lane. -/
def served (x : Uplane) : LState × BitVec 2 × BitVec 32 := (x.st, x.rwg, x.cred)

theorem served_setLane (s : State) (k : Nat) {y : Uplane} (h : served y = served (lane s k)) (u : Nat) :
    served (lane (setLane s k y) u) = served (lane s u) := by
  rw [lane_setLane]
  split
  · next he => rw [h, he]
  · rfl
theorem served_pauseCredit (s : State) (n u : Nat) : served (lane (pauseCredit s n) u) = served (lane s u) := by
  unfold pauseCredit
  exact forNat_view (fun t => served (lane t u)) (fun k t => served_setLane t k (by rfl) u) 4 s
theorem served_pauseTraining (s : State) (n u : Nat) : served (lane (pauseTraining s n) u) = served (lane s u) := by
  unfold pauseTraining
  exact forNat_view (fun t => served (lane t u)) (fun k t => served_setLane t k (by rfl) u) 4 s
/-- The rewind of one lane by the owner. -/
def rewindStep (u : Nat) (s : State) : State :=
  if (lane s u).st = .active || (lane s u).st = .draining then
    count (rewindLane s u (lane s u).cred ((lane s u).rwg + 1) (some (lane s u).rwg)) A_LK_REWINDS u 31 16 1
  else s
theorem ownerRewind_steps (s : State) : ownerRewind s = forNat 4 rewindStep s := rfl
theorem lane_rewindLane_other {k u : Nat} (h : u ≠ k) (s : State) (c : BitVec 32) (rwg : BitVec 2) (prev : Option (BitVec 2)) :
    lane (rewindLane s k c rwg prev) u = lane s u := by
  rw [rewindLane, lane_setLane_other _ _ h, lane_of_lanes (returnUnits_lanes s k), emptyQuires, lane_count, lane_setLane_other _ _ h]
theorem lane_rewindStep_other (k : Nat) (s : State) (u : Nat) (h : u ≠ k) : lane (rewindStep k s) u = lane s u := by
  unfold rewindStep
  split
  · rw [lane_count, lane_rewindLane_other h]
  · rfl
theorem ownerRewind_rewinds (s : State) : Rewound s (ownerRewind s) := by
  intro u hu hst
  have hsame : lane (forNat u rewindStep s) u = lane s u := forNat_beyond lane lane_rewindStep_other (Nat.le_refl u) s
  rw [ownerRewind_steps, forNat_at lane lane_rewindStep_other hu s, rewindStep, if_pos (by rw [hsame, hst]; rfl), lane_count,
    lane_rewindLane, hsame]
  exact ⟨rfl, rfl⟩

theorem guardLost_barns (s : State) (finder src seq : Nat) (unknown : Bool) :
    (guardLost s finder src seq unknown).barns = s.barns := by
  unfold guardLost
  extract_lets k s₁ src' seq' s₂ s₃
  have h₁ : s₁.barns = s.barns := by unfold s₁; split <;> rfl
  rw [controlLoss, pushSheaf_barns]
  exact (raise_barns s₂ ..).trans ((count_barns ..).trans h₁)
theorem discardPoisoned_barns (s : State) (x : GUnit) : (discardPoisoned s x).barns = s.barns := guardLost_barns ..
theorem dropPoisoned_barns (s : State) : (dropPoisoned s).barns = s.barns := by
  unfold dropPoisoned
  exact foldl_view (fun t => t.barns) discardPoisoned_barns _ s
theorem returnUnit_barns (s : State) (u : Nat) (failed : Bool) (arr : Nat) : (returnUnit s u failed arr).barns = s.barns :=
  dropPoisoned_barns _
theorem rewindStep_barns (k : Nat) (s : State) : (rewindStep k s).barns = s.barns := by
  have hreturn (s : State) : (returnUnits s k).barns = s.barns :=
    foldl_view (fun t => t.barns) (fun _ _ => returnUnit_barns ..) _ _
  unfold rewindStep
  split
  · rw [count_barns, rewindLane, setLane_barns, hreturn]
  · rfl
/-- The state in which the take-over has ended and its pauses are over. -/
def takeoverEnded (s : State) (x : Takeover) : State :=
  let n := s.tb.dk - x.dk
  let s := { s with barns := { s.barns with
    takeover := none, switch := none, lastDeckle := x.deckle, lastDur := max 1 (min 10 n), lastKind := x.kind } }
  pauseTraining (pauseCredit (pauseResets s (1024 * n)) n) n
theorem resumeStream_parts (s : State) (x : Takeover) : resumeStream s x =
    closeAll (closeAll (resumeMarker (ownerRewind (takeoverEnded s x)) 0 x.checkpoint) 0x61 0x0C) 0x62 0x0C := rfl
theorem takeoverEnded_keeps (s : State) (x : Takeover) : (∃ dur, (takeoverEnded s x).barns = { s.barns with
      takeover := none, switch := none, lastDeckle := x.deckle, lastDur := dur, lastKind := x.kind }) ∧
    ∀ u, served (lane (takeoverEnded s x) u) = served (lane s u) := by
  unfold takeoverEnded
  extract_lets n t
  refine ⟨⟨_, (forNat_view (fun t => t.barns) (fun _ _ => rfl) 4 _).trans
    (forNat_view (fun t => t.barns) (fun _ _ => rfl) 4 _)⟩, fun u => ?_⟩
  rw [served_pauseTraining, served_pauseCredit]
  rfl
theorem resumeStream_barns (s : State) (x : Takeover) : ∃ dur, (resumeStream s x).barns = { s.barns with
    takeover := none, switch := none, lastDeckle := x.deckle, lastDur := dur, lastKind := x.kind } := by
  obtain ⟨⟨dur, h⟩, -⟩ := takeoverEnded_keeps s x
  refine ⟨dur, ?_⟩
  rw [resumeStream_parts, closeAll_barns, closeAll_barns, resumeMarker, pushSheaf_barns, ← h]
  exact forNat_view (fun t => t.barns) rewindStep_barns 4 _
theorem resumeStream_rewinds (s : State) (x : Takeover) : Rewound s (resumeStream s x) := by
  obtain ⟨-, hserved⟩ := takeoverEnded_keeps s x
  intro u hu hst
  obtain ⟨hst', hrwg⟩ := Prod.mk.inj (hserved u)
  obtain ⟨hrwg', hcred⟩ := Prod.mk.inj hrwg
  obtain ⟨h₁, h₂⟩ := ownerRewind_rewinds (takeoverEnded s x) u hu (hst'.trans hst)
  have hlane : lane (resumeStream s x) u = lane (ownerRewind (takeoverEnded s x)) u := by
    rw [resumeStream_parts, lane_of_lanes (faultOnly_lanes (faultOnly_closeAll ..)),
      lane_of_lanes (faultOnly_lanes (faultOnly_closeAll ..)), resumeMarker, lane_of_lanes (pushSheaf_lanes ..)]
  rw [hlane, h₁, h₂, hrwg', hcred]
  exact ⟨rfl, rfl⟩

/-- The standby that both verdicts leave detached is resynchronised, whatever the lanes do. -/
theorem startResync_shows (hst : s.barns.standby = .detached) (hx : s.barns.xlink = true) (hs : s.barns.suspended = false) :
    (startResync s).barns.takeover = s.barns.takeover ∧ (startResync s).barns.owner = s.barns.owner ∧
    (startResync s).barns.standby = .resyncing ∧ (startResync s).lanes = s.lanes := by
  rw [startResync_starts hst hx hs]
  exact ⟨rfl, rfl, rfl, rfl⟩
theorem rewound_of_lanes {t u : State} (h : Rewound s t) (hl : u.lanes = t.lanes) : Rewound s u := fun k hk hst => by
  rw [lane_of_lanes hl]
  exact h k hk hst

/-! ## The verdict of Table 13.2, with Barn A the owner -/

/-- The faults of a take-over that neither Barn passes. -/
def bothFailedRaised (s : State) (nA nB kind : Nat) : State :=
  raise (giveHasp (raise (raise s 9 0 nA) 9 1 nB) .a .failed) 8 0xFF kind
/-- The Hasp is given to Barn `w`, raises follow, and the stream resumes. -/
theorem resumed_gives {w : Barn} {st : Standby} {v : State} (h : FaultOnly (giveHasp s w st) v) (x : Takeover) :
    (resumeStream v x).barns.takeover = none ∧ (resumeStream v x).barns.owner = w ∧ (resumeStream v x).barns.standby = st ∧
    (resumeStream v x).barns.a = s.barns.a ∧ (resumeStream v x).barns.xlink = s.barns.xlink ∧
    (resumeStream v x).barns.suspended = s.barns.suspended ∧ Rewound s (resumeStream v x) := by
  obtain ⟨dur, hbarns⟩ := resumeStream_barns v x
  have hlanes : v.lanes = s.lanes := (faultOnly_lanes h).trans rfl
  have hrewound : Rewound s (resumeStream v x) := fun u hu hst => by
    rw [← lane_of_lanes hlanes] at hst ⊢
    exact resumeStream_rewinds v x u hu hst
  rw [hbarns, barns_of_faultOnly h]
  exact ⟨rfl, rfl, rfl, rfl, rfl, rfl, hrewound⟩

section
variable (ho : s.barns.owner = .a) (x : Takeover) (nA nB : Nat)
include ho

theorem verdict_bothPassed : ∃ v, FaultOnly (giveHasp s .a .detached) v ∧
    verdict s x nA nB true true = startResync (resumeStream v x) := by
  unfold verdict
  rw [ho]
  exact ⟨_, faultOnly_trans (faultOnly_count ..) (faultOnly_raise ..), rfl⟩
theorem verdict_ownerPassed : ∃ v, FaultOnly (giveHasp s .a .failed) v ∧ verdict s x nA nB true false = resumeStream v x := by
  unfold verdict
  rw [ho]
  exact ⟨_, faultOnly_trans (faultOnly_count ..) (faultOnly_trans (faultOnly_raise ..) (faultOnly_raise ..)), rfl⟩
theorem verdict_standbyPassed (hx : s.barns.xlink = true) : ∃ v, FaultOnly (giveHasp s .b .failed) v ∧
    verdict s x nA nB false true = resumeStream v x := by
  unfold verdict
  rw [ho]
  dsimp only
  rw [if_pos hx]
  exact ⟨_, faultOnly_trans (faultOnly_count ..) (faultOnly_trans (faultOnly_raise ..) (faultOnly_trans (faultOnly_raise ..)
    (faultOnly_raise ..))), rfl⟩
theorem verdict_nonePassed : verdict s x nA nB false false = doubleFault (bothFailedRaised s nA nB x.kind) := by
  unfold verdict
  rw [ho]
  rfl

end

/-! ## A double fault (R390) -/

theorem count_raise_other {src i : Nat} (hi : i < 512) (h : i ≠ src) (s : State) (inst ctx : Nat) :
    tally (raise s src inst ctx) A_FLT_COUNT i = tally s A_FLT_COUNT i := by
  cases hres : reservedSource src
  · rw [(raise_lines s src inst ctx hres).1 i hi, tally_count_other]
    omega
  · rw [raise, if_pos hres]
theorem abandonResync_count (s : State) (st : Nat) {i : Nat} (hi : i < 512) (h : i ≠ 11) :
    tally (abandonResync s st) A_FLT_COUNT i = tally s A_FLT_COUNT i := by
  have hdropped : tally (resyncDropped s) A_FLT_COUNT i = tally s A_FLT_COUNT i :=
    tally_count_otherId _ _ _ _ (by decide) hi (by decide)
  cases hr : s.barns.resync with
  | none => rw [abandonResync_none hr]
  | some x =>
    rw [abandonResync_some hr]
    split
    · rw [count_raise_other hi h, tally_eq_of_tal (closeAll_tal ..), hdropped]
    · exact hdropped
theorem abandonResync_cur (s : State) (st : Nat) : (abandonResync s st).modes.cur = s.modes.cur := by
  cases hr : s.barns.resync with
  | none => rw [abandonResync_none hr]
  | some x =>
    rw [abandonResync_some hr]
    split
    · have h := faultOnly_trans (faultOnly_closeAll (resyncDropped s) 0x62 st) (faultOnly_raise _ 11 (barnCode (standbyBarn s)) 0)
      exact (faultOnly_cur h).trans rfl
    · rfl
theorem couchMessage_tal (c : Couch) (st dt : Nat) : (couchMessage s c st dt).tal = s.tal := by
  unfold couchMessage
  split
  · rfl
  · dsimp only
    split
    · exact closeCmd_tal ..
    · rw [(outcome_queues ..).2]
theorem cancelCouch_count (p : Couch → Bool) {i : Nat} (hi : i < 512) (h : i ≠ 45) :
    tally (cancelCouch s p) A_FLT_COUNT i = tally s A_FLT_COUNT i := by
  unfold cancelCouch
  split
  · split
    · rw [failCouch, count_raise_other hi h, tally_eq_of_tal (couchMessage_tal ..)]
      exact tally_count_otherId _ _ _ _ (by decide) hi (by decide)
    · rfl
  · rfl
theorem causeRecovery_causes (s : State) (code : Byte) : (causeRecovery s code).modes.toRecovery.isSome = true ∧
    (causeRecovery s code).barns = s.barns ∧ (causeRecovery s code).tal = s.tal := by
  unfold causeRecovery
  split <;> exact ⟨rfl, rfl, rfl⟩
/-- The state of a double fault before its mode change: the Hasp silent, the resync abandoned, the fault raised, and an upgrade
cancelled. -/
def doubleFaulted (s : State) : State :=
  let s := abandonResync (silence s (coldTakeover s)) 0x0C
  cancelUpgrade (raise s 1 (barnCode s.barns.owner) 0)
theorem doubleFaulted_keeps (s : State) : (doubleFaulted s).barns.takeover.isSome = true ∧
    (doubleFaulted s).modes.cur = s.modes.cur ∧ bits (tally (doubleFaulted s) A_FLT_COUNT 1) 15 0 =
      satAdd 65535 (bits (tally s A_FLT_COUNT 1) 15 0) 1 := by
  obtain ⟨hbarns, -, hmodes, htal⟩ := silence_keeps s (coldTakeover s)
  obtain ⟨-, -, htakeover, -⟩ := abandonResync_keeps (silence s (coldTakeover s)) 0x0C
  have hcur := abandonResync_cur (silence s (coldTakeover s)) 0x0C
  have hcount := abandonResync_count (silence s (coldTakeover s)) 0x0C (i := 1) (by decide) (by decide)
  rw [tally_eq_of_tal htal] at hcount
  unfold doubleFaulted
  dsimp only
  generalize abandonResync (silence s (coldTakeover s)) 0x0C = t at *
  refine ⟨?_, ?_, ?_⟩
  · change (cancelCouch _ _).barns.takeover.isSome = true
    rw [cancelCouch_barns, raise_barns, htakeover, hbarns]
    rfl
  · change (cancelCouch _ _).modes.cur = _
    rw [steady_cur (steady_cancelCouch ..), faultOnly_cur (faultOnly_raise ..), hcur, hmodes]
  · change bits (tally (cancelCouch _ _) A_FLT_COUNT 1) 15 0 = _
    rw [cancelCouch_count _ (by decide) (by decide), count_raise _ _ _ (by decide) (by decide), hcount]
theorem doubleFault_eq (s : State) : doubleFault s =
    if serviceMode (doubleFaulted s).modes.cur then causeRecovery (doubleFaulted s) 0x07
    else if (doubleFaulted s).modes.cur = .recovery then recoveryFail (doubleFaulted s) else doubleFaulted s := rfl
theorem doubleFault_service (h : serviceMode s.modes.cur = true) : doubleFault s = causeRecovery (doubleFaulted s) 0x07 := by
  obtain ⟨-, hcur, -⟩ := doubleFaulted_keeps s
  rw [doubleFault_eq, hcur, if_pos h]
theorem doubleFault_recovers (h : serviceMode s.modes.cur = true) : (doubleFault s).barns.takeover.isSome = true ∧
    (doubleFault s).modes.toRecovery.isSome = true ∧ bits (tally (doubleFault s) A_FLT_COUNT 1) 15 0 =
      satAdd 65535 (bits (tally s A_FLT_COUNT 1) 15 0) 1 := by
  obtain ⟨htakeover, -, hcount⟩ := doubleFaulted_keeps s
  obtain ⟨hto, hbarns, htal⟩ := causeRecovery_causes (doubleFaulted s) 0x07
  rw [doubleFault_service h, hbarns, tally_eq_of_tal htal]
  exact ⟨htakeover, hto, hcount⟩
theorem bothFailedRaised_keeps (s : State) (nA nB kind : Nat) :
    tally (bothFailedRaised s nA nB kind) A_FLT_COUNT 1 = tally s A_FLT_COUNT 1 ∧
    (bothFailedRaised s nA nB kind).modes.cur = s.modes.cur := by
  have hcount : tally (giveHasp (raise (raise s 9 0 nA) 9 1 nB) .a .failed) A_FLT_COUNT 1 = tally s A_FLT_COUNT 1 :=
    (count_raise_other (by decide) (by decide) ..).trans (count_raise_other (by decide) (by decide) ..)
  have hcur : (giveHasp (raise (raise s 9 0 nA) 9 1 nB) .a .failed).modes.cur = s.modes.cur :=
    (faultOnly_cur (faultOnly_raise ..)).trans (faultOnly_cur (faultOnly_raise ..))
  exact ⟨(count_raise_other (by decide) (by decide) ..).trans hcount, (faultOnly_cur (faultOnly_raise ..)).trans hcur⟩
theorem bothFailedRaised_recovers (h : serviceMode s.modes.cur = true) (nA nB kind : Nat) :
    (doubleFault (bothFailedRaised s nA nB kind)).barns.takeover.isSome = true ∧
    (doubleFault (bothFailedRaised s nA nB kind)).modes.toRecovery.isSome = true ∧
    bits (tally (doubleFault (bothFailedRaised s nA nB kind)) A_FLT_COUNT 1) 15 0 =
      satAdd 65535 (bits (tally s A_FLT_COUNT 1) 15 0) 1 := by
  obtain ⟨hcount, hcur⟩ := bothFailedRaised_keeps s nA nB kind
  obtain ⟨htakeover, hto, hraised⟩ := doubleFault_recovers (s := bothFailedRaised s nA nB kind) (by rw [hcur]; exact h)
  rw [hcount] at hraised
  exact ⟨htakeover, hto, hraised⟩

end

/-- Settles O52: detection, self-test, and the rows of the verdict with Barn A the owner. -/
theorem takeOver : Obligations.TakeOver := by
  refine ⟨fun k w i s hrun hst hs ht hi => ?detected, fun x s h htest hdk hb hboth hrun =>
    ⟨_, exec_barnSelftestStart h htest hdk hb hboth hrun, rfl⟩,
    fun x b a c ga gc s h htest hdue hb hrun hcold hcur hA hB ho hs hx => ?verdict⟩
  case detected =>
    rcases hi with ⟨rfl, h1, h4⟩ | rfl
    · obtain ⟨x, hx⟩ := mismatch_detects s k.toNat none
      exact ⟨_, x, exec_lockstepMismatch hrun hst hs ht h1 h4, hx⟩
    · obtain ⟨x, hx⟩ := mismatch_detects s 4 (some w)
      exact ⟨_, x, exec_barnAlarm hrun hst hs ht w, hx⟩
  case verdict =>
    have hexec := exec_barnSelftestVerdict h htest hdue hb hrun hcold hcur hA hB a c ga gc
    obtain ⟨xa, xb, htested, hpassed, hbits⟩ :=
      bothTested_eq s a.toNat c.toNat (decide (a = 0) && ga) (decide (c = 0) && gc)
    rw [htested] at hexec
    refine ⟨fun ha hga hc hgc => ?_, fun ha hc hgc => ?_, fun ha hga hc => ?_, fun ha hc hservice => ?_⟩
    · subst hga hgc
      rw [decide_eq_true ha, decide_eq_true hc, Bool.and_self] at hexec
      obtain ⟨v, hv, hverdict⟩ := verdict_bothPassed (s := { s with barns := { s.barns with a := xa, b := xb } }) ho x a.toNat c.toNat
      obtain ⟨htakeover, howner, hstandby, -, hxlink, hsusp, hrewound⟩ := resumed_gives hv x
      rw [hverdict] at hexec
      obtain ⟨htakeover', howner', hstandby', hlanes⟩ := startResync_shows hstandby (hxlink.trans hx) (hsusp.trans hs)
      exact ⟨_, hexec, htakeover'.trans htakeover, howner'.trans howner, hstandby', rewound_of_lanes hrewound hlanes⟩
    · subst hgc
      rw [decide_eq_false ha, decide_eq_true hc, Bool.and_self, Bool.false_and] at hexec
      obtain ⟨v, hv, hverdict⟩ := verdict_standbyPassed (s := { s with barns := { s.barns with a := xa, b := xb } }) ho x
        a.toNat c.toNat hx
      obtain ⟨htakeover, howner, hstandby, ha', -, -, hrewound⟩ := resumed_gives hv x
      rw [hverdict] at hexec
      refine ⟨_, hexec, htakeover, howner, hstandby, ?_, ?_, hrewound⟩
      · rw [ha']; exact hpassed.trans (by rw [decide_eq_false ha, Bool.false_and])
      · rw [ha']; exact hbits
    · subst hga
      rw [decide_eq_true ha, decide_eq_false hc, Bool.and_self, Bool.false_and] at hexec
      obtain ⟨v, hv, hverdict⟩ := verdict_ownerPassed (s := { s with barns := { s.barns with a := xa, b := xb } }) ho x a.toNat c.toNat
      obtain ⟨htakeover, howner, hstandby, -⟩ := resumed_gives hv x
      rw [hverdict] at hexec
      exact ⟨_, hexec, htakeover, howner, hstandby⟩
    · rw [decide_eq_false ha, decide_eq_false hc, Bool.false_and, Bool.false_and,
        verdict_nonePassed (s := { s with barns := { s.barns with a := xa, b := xb } }) ho] at hexec
      exact ⟨_, hexec, bothFailedRaised_recovers (s := { s with barns := { s.barns with a := xa, b := xb } }) hservice _ _ _⟩

end Sys2Proof.Proofs
end

section
/-!
O55: the core PLL and the lane PLLs start, stop and lose lock (R395 to R397).
-/
namespace Sys2Proof.Proofs
open Sys2Proof Sys2Proof.Machine Sys2Proof.Laws

/-! ## The core PLL (R395, R396) -/

section
variable {s : State}

/-- A count in the low word of a tally that has room for it. -/
theorem tally_count_room (s : State) (id inst : Nat) (h : tally s id inst + 1 < 2 ^ 32) :
    tally (count s id inst 31 0 1) id inst = tally s id inst + 1 := by
  unfold tally at h ⊢
  unfold count tallyMap
  dsimp only
  rw [pget_pset_same]
  generalize pget 0 s.tal (id * 512 + inst) = v at h ⊢
  have hbits : bits v 31 0 = v := by
    unfold bits
    omega
  rw [hbits, satAdd, if_pos (by omega)]
  omega
theorem exec_corePllFastStart (h : s.clk.pll = 1) : exec .corePllFastStart s = .next (levelEnd
    { countMax (count s A_CK_WAKES 0 31 0 1) A_CK_WAKE_MAX 0 15 0 (s.tb.up - s.clk.pllReq) with clk := { s.clk with pll := 2 } }
    17 0) := by
  change execCorePllFastStart s = _
  rw [execCorePllFastStart, if_neg (by simp [h])]
  rfl
theorem exec_corePllStop (hb : atBoundary s = true) (hm : serviceMode s.modes.cur = true) (hon : s.clk.pll ≠ 0)
    (hw : pllWanted s = false) (hu : s.clk.pllUsed = false) (hidle : reg s A_CK_SLEEP_DECKLES 0 ≤ s.clk.pllIdle) :
    exec .corePllStop s = .next { s with clk := { s.clk with pll := 0, cores := false, pllIdle := 0 } } := by
  change execCorePllStop s = _
  rw [execCorePllStop, hb, hm, hw, hu, decide_eq_true hon, decide_eq_true hidle]
  rfl
theorem corePllStop_wanted (hw : pllWanted s = true) : exec .corePllStop s = .next s := by
  change execCorePllStop s = _
  rw [execCorePllStop, hw, if_neg (by simp)]

/-- A stook of service stops with the outputs, and waits for them. -/
def stopStep (k : Nat) (s : State) : State :=
  if (stook s k).clock then
    setStook s k { stook s k with clock := false, wake := some ((stook s k).wake.getD s.tb.up) }
  else s
theorem stopStooks_steps (h : serviceMode s.modes.cur = true) : stopStooks s = forNat 12 stopStep s := if_pos h
theorem stook_stopStep_other (k : Nat) (s : State) (j : Nat) (h : j ≠ k) : stook (stopStep k s) j = stook s j := by
  unfold stopStep
  split
  · exact stook_setStook_other _ _ h
  · rfl
theorem stook_stopStep (k : Nat) (s : State) : (stook (stopStep k s) k).clock = false ∧
    ((stook s k).clock = true → (stook (stopStep k s) k).wake.isSome = true) := by
  unfold stopStep
  split
  · rw [stook_setStook_same]
    exact ⟨rfl, fun _ => rfl⟩
  · next h => exact ⟨Bool.eq_false_iff.2 h, fun hc => absurd hc h⟩
theorem stopStooks_stops (h : serviceMode s.modes.cur = true) {k : Nat} (hk : k < 12) : (stook (stopStooks s) k).clock = false ∧
    ((stook s k).clock = true → (stook (stopStooks s) k).wake.isSome = true) := by
  have hsame : stook (forNat k stopStep s) k = stook s k := forNat_beyond stook stook_stopStep_other (Nat.le_refl k) s
  rw [stopStooks_steps h, forNat_at stook stook_stopStep_other hk, ← hsame]
  exact stook_stopStep k _
theorem stopStooks_clk (s : State) : (stopStooks s).clk = s.clk := by
  unfold stopStooks
  split
  · exact forNat_view (fun t => t.clk) (fun k t => by dsimp only; split <;> rfl) 12 s
  · rfl
/-- The outputs have stopped, and the PLL starts again. -/
def pllLost (s : State) : State :=
  { s with clk := { s.clk with pll := 1, pllReq := s.tb.up, pllUsed := true, cores := false } }
theorem exec_corePllLockLoss (h : s.clk.pll = 2) :
    exec .corePllLockLoss s = .next (levelBegin (stopStooks (pllLost s)) 17 0 0) := by
  change execCorePllLockLoss s = _
  rw [execCorePllLockLoss, if_neg (by simp [h])]
  rfl

/-! ## The lane PLLs (R397) -/

theorem setBit2_getLsbD (b : BitVec 2) (p : Fin 2) (v : Bool) : (setBit2 b p.val v).getLsbD p.val = v := by
  cases v with
  | true => exact getLsbD_setBit b p
  | false => exact getLsbD_clearBit b p
/-- The clocks, the registers, the mode and the downlanes. -/
def beyondLanes (s : State) : Clk × PMap Nat × Mode × PMap Downlane := (s.clk, s.cfg, s.modes.cur, s.dls)
theorem beyondLanes_eq {t : State} (h : beyondLanes t = beyondLanes s) :
    t.clk = s.clk ∧ t.cfg = s.cfg ∧ t.modes.cur = s.modes.cur ∧ t.dls = s.dls := by
  simpa only [beyondLanes, Prod.mk.injEq] using h
theorem beyondLanes_of_faultOnly {t : State} (h : FaultOnly s t) : beyondLanes t = beyondLanes s := by
  rw [beyondLanes, faultOnly_cur h, h.1]
  rfl
theorem beyondLanes_pushSheaf (s : State) (x : Sheaf) : beyondLanes (pushSheaf s x) = beyondLanes s := by
  rw [beyondLanes, pushSheaf_clk, pushSheaf_cfg, pushSheaf_modes, pushSheaf_dls]
  rfl
theorem beyondLanes_count (s : State) (id inst hi lo n : Nat) : beyondLanes (count s id inst hi lo n) = beyondLanes s := rfl
theorem beyondLanes_returnLater (s : State) (u : Nat) : beyondLanes (returnLater s u) = beyondLanes s := rfl
theorem beyondLanes_enterLane (s : State) (u : Nat) (st : LState) (x : Uplane) :
    beyondLanes (enterLane s u st x) = beyondLanes s := beyondLanes_pushSheaf ..
theorem beyondLanes_failLane (s : State) (u ctx : Nat) : beyondLanes (failLane s u ctx) = beyondLanes s := by
  unfold failLane
  exact (beyondLanes_of_faultOnly (faultOnly_raise ..)).trans
    ((beyondLanes_enterLane ..).trans ((beyondLanes_count ..).trans (beyondLanes_returnLater ..)))
theorem lane_failLane_other {k u : Nat} (h : u ≠ k) (s : State) (ctx : Nat) : lane (failLane s k ctx) u = lane s u := by
  unfold failLane
  dsimp only
  rw [lane_of_lanes (faultOnly_lanes (faultOnly_raise ..)), lane_enterLane_other _ _ _ h, lane_count]
  exact lane_setLane_other _ _ h
/-- A lane of the PLL's generation fails. -/
def laneLoss (p u : Nat) (s : State) : State :=
  if s.modes.cur ≠ .held && !pmaOff (lane s u).st && decide (lcOfGen (lane s u).gen = p) then failLane s u 2 else s
/-- A downlane of the PLL's generation loses lock. -/
def dlLoss (p d : Nat) (s : State) : State :=
  if dlClock s d && decide (lcOfGen (dlGen s d) = p) then setDlane s d { dlane s d with locked := false } else s
/-- The state in which the loss of lock has been noted. -/
def lcLost (s : State) (p : Nat) : State := levelBegin (setLc s p true false false) 17 (1 + p) 0
theorem exec_lcPllLockLoss {p : Fin 2} (hrun : s.clk.lcRun.getLsbD p.val = true) (hlock : s.clk.lcLock.getLsbD p.val = true) :
    exec (.lcPllLockLoss p) s = .next (variantAtBoundary (forNat 2 (dlLoss p.val) (forNat 4 (laneLoss p.val) (lcLost s p.val)))) := by
  change execLcPllLockLoss p s = _
  rw [execLcPllLockLoss, hrun, hlock, if_neg (by decide)]
  rfl
theorem beyondLanes_laneLoss (p u : Nat) (s : State) : beyondLanes (laneLoss p u s) = beyondLanes s := by
  unfold laneLoss
  split
  · exact beyondLanes_failLane ..
  · rfl
theorem lane_laneLoss_other (p k : Nat) (s : State) (u : Nat) (h : u ≠ k) : lane (laneLoss p k s) u = lane s u := by
  unfold laneLoss
  split
  · exact lane_failLane_other h ..
  · rfl
theorem dlane_dlLoss_other (p k : Nat) (s : State) (d : Nat) (h : d ≠ k) : dlane (dlLoss p k s) d = dlane s d := by
  unfold dlLoss
  split
  · exact (dlane_setDlane ..).trans (if_neg h)
  · rfl
/-- What the loss of lock of the downlanes leaves. -/
theorem dlLosses_keep (p n : Nat) (s : State) : (forNat n (dlLoss p) s).lanes = s.lanes ∧ (forNat n (dlLoss p) s).clk = s.clk ∧
    (forNat n (dlLoss p) s).cfg = s.cfg ∧ (forNat n (dlLoss p) s).modes = s.modes := by
  refine ⟨forNat_view (fun t => t.lanes) (fun k t => ?_) n s, forNat_view (fun t => t.clk) (fun k t => ?_) n s,
    forNat_view (fun t => t.cfg) (fun k t => ?_) n s, forNat_view (fun t => t.modes) (fun k t => ?_) n s⟩
  all_goals
    unfold dlLoss
    split <;> rfl
theorem lane_laneLosses {p u : Nat} (hu : u < 4) (hm : s.modes.cur ≠ .held) (hon : pmaOff (lane s u).st = false)
    (hgen : lcOfGen (lane s u).gen = p) : (lane (forNat 4 (laneLoss p) s) u).st = .failed := by
  have hsame : lane (forNat u (laneLoss p) s) u = lane s u := forNat_beyond lane (lane_laneLoss_other p) (Nat.le_refl u) s
  obtain ⟨-, -, hcur, -⟩ := beyondLanes_eq (forNat_view beyondLanes (beyondLanes_laneLoss p) u s)
  rw [forNat_at lane (lane_laneLoss_other p) hu, laneLoss, hsame, hcur, hon, hgen, if_pos (by simp [hm])]
  exact (failLane_fails ..).1
theorem dlane_dlLosses {p d : Nat} (hd : d < 2) (hon : dlClock s d = true) (hgen : lcOfGen (dlGen s d) = p) :
    (dlane (forNat 2 (dlLoss p) s) d).locked = false := by
  obtain ⟨-, -, hcfg, hmodes⟩ := dlLosses_keep p d s
  have hclock : dlClock (forNat d (dlLoss p) s) d = dlClock s d := by
    unfold dlClock dlEnabled
    rw [hmodes, reg_eq_of_cfg hcfg]
  have hdl : dlGen (forNat d (dlLoss p) s) d = dlGen s d := by
    unfold dlGen
    rw [hmodes, reg_eq_of_cfg hcfg]
  rw [forNat_at dlane (dlane_dlLoss_other p) hd, dlLoss, hclock, hdl, hon, hgen, if_pos (by simp), dlane_setDlane_same]
theorem variantAtBoundary_keeps (s : State) : (variantAtBoundary s).clk = s.clk ∧ (variantAtBoundary s).dls = s.dls := by
  unfold variantAtBoundary chooseVariant
  dsimp only
  split
  · split
    · exact ⟨rfl, rfl⟩
    · exact ⟨pushSheaf_clk .., pushSheaf_dls ..⟩
  · exact ⟨rfl, rfl⟩

end

/-- Settles O55: each event of the core PLL by its state, and a lane PLL by what its lanes and downlanes become. -/
theorem plls : Obligations.Plls := by
  refine ⟨fun s h => ⟨_, exec_corePllFastStart h, rfl, fun hroom => ?_, rfl, rfl, rfl⟩,
    fun s hb hm hon hw hu hidle => ⟨_, exec_corePllStop hb hm hon hw hu hidle, rfl, rfl, rfl⟩,
    fun s hw => corePllStop_wanted hw, fun s h => ?core, fun p s hm hrun hlock => ?lane⟩
  · exact (tally_countMax_otherId _ _ _ _ (by decide) (by decide) (by decide)).trans (tally_count_room s _ 0 hroom)
  case core =>
    have hclk : (levelBegin (stopStooks (pllLost s)) 17 0 0).clk = (pllLost s).clk :=
      (congrArg Prod.fst (beyondLanes_of_faultOnly (faultOnly_levelBegin ..))).trans (stopStooks_clk _)
    have hstook (k : Nat) : stook (levelBegin (stopStooks (pllLost s)) 17 0 0) k = stook (stopStooks (pllLost s)) k :=
      stook_of_stooks (by rw [(faultOnly_levelBegin ..).1]) k
    refine ⟨_, exec_corePllLockLoss h, ?_⟩
    rw [hclk]
    refine ⟨rfl, rfl, rfl, fun hm k hk => ?_⟩
    rw [hstook]
    exact stopStooks_stops (s := pllLost s) hm hk
  case lane =>
    obtain ⟨hclk₁, hcfg₁, hcur₁, -⟩ := beyondLanes_eq
      ((beyondLanes_of_faultOnly (faultOnly_levelBegin (setLc s p.val true false false) 17 (1 + p.val) 0)))
    have hlanes₁ : (lcLost s p.val).lanes = s.lanes :=
      (faultOnly_lanes (faultOnly_levelBegin (setLc s p.val true false false) 17 (1 + p.val) 0)).trans rfl
    change (lcLost s p.val).clk = _ at hclk₁
    change (lcLost s p.val).cfg = s.cfg at hcfg₁
    change (lcLost s p.val).modes.cur = s.modes.cur at hcur₁
    refine ⟨_, exec_lcPllLockLoss hrun hlock, ?_⟩
    generalize lcLost s p.val = x at *
    obtain ⟨hclk₂, hcfg₂, hcur₂, -⟩ := beyondLanes_eq (forNat_view beyondLanes (beyondLanes_laneLoss p.val) 4 x)
    obtain ⟨hlanes₃, hclk₃, -, -⟩ := dlLosses_keep p.val 2 (forNat 4 (laneLoss p.val) x)
    obtain ⟨hclk₄, hdls₄⟩ := variantAtBoundary_keeps (forNat 2 (dlLoss p.val) (forNat 4 (laneLoss p.val) x))
    rw [hclk₄, hclk₃, hclk₂, hclk₁]
    refine ⟨setBit2_getLsbD .., setBit2_getLsbD .., fun u hu hon hgen => ?_, fun d hd hon hgen => ?_⟩
    · rw [← lane_of_lanes hlanes₁] at hon hgen
      rw [lane_variantAtBoundary, lane_of_lanes hlanes₃]
      exact lane_laneLosses hu (by rw [hcur₁]; exact hm) hon hgen
    · have hcur : (forNat 4 (laneLoss p.val) x).modes.cur = s.modes.cur := hcur₂.trans hcur₁
      have hcfg : (forNat 4 (laneLoss p.val) x).cfg = s.cfg := hcfg₂.trans hcfg₁
      rw [dlane_of_dls hdls₄]
      refine dlane_dlLosses hd ?_ ?_
      · rw [dlClock, hcur, if_neg hm, dlEnabled, reg_eq_of_cfg hcfg]
        exact hon
      · rw [dlGen, hcur, reg_eq_of_cfg hcfg]
        exact hgen

end Sys2Proof.Proofs
end

section
/-!
O11: power-on, supplies, straps and LANEREF (R405, R406, R411, R420). O60: the TAP, and what the pins show (R207, R400, R401,
R409, R452, R456 to R459).
-/
namespace Sys2Proof.Proofs
open Sys2Proof Sys2Proof.Machine Sys2Proof.Laws

/-! ## Power-on and supplies (R405, R406) -/

section
variable {s : State}

/-- UL0's idle set, which follows the supplies of its pads, is all that changes. -/
theorem padsFollow_keeps (s : State) : padsFollow s = { s with lanes := (padsFollow s).lanes } := by
  unfold padsFollow
  split <;> rfl
theorem exec_powerOn (haon : isGood s .vddAon = true) (hio : isGood s .vddio = true) (hlost : s.pwr.aonLost = true) :
    exec .powerOn s = .next (heldIdle { powerOn (goHeld s 0x00) with
      pwr := { (powerOn (goHeld s 0x00)).pwr with goodSince := 0 } }) := by
  change execPowerOn s = _
  rw [execPowerOn, haon, hio, hlost]
  rfl
theorem mem_supplies (x : Supply) : x ∈ supplies := by cases x <;> decide
/-- The supplies that are good once `x` is. -/
def goodWith (s : State) (x : Supply) : List Supply := supplies.filter fun y => isGood s y || decide (y = x)
theorem mem_goodWith (s : State) (x : Supply) : x ∈ goodWith s x :=
  List.mem_filter.2 ⟨mem_supplies x, by rw [decide_eq_true rfl, Bool.or_true]⟩
theorem lost_pwr (s : State) (src cls : Nat) : (lost s src cls).pwr = s.pwr := by
  unfold lost
  dsimp only
  split <;> rfl
theorem countBank0_good (s : State) : (countBank0 s).pwr.good = s.pwr.good := by
  have hpwr := foldl_view (fun t => t.pwr) (f := fun t (u : Nat × Nat) => lost t u.1 u.2) (fun _ _ => lost_pwr ..) s.pwr.bank0Lost s
  change (List.foldl (fun t (u : Nat × Nat) => lost t u.1 u.2) s s.pwr.bank0Lost).pwr.good = _
  rw [hpwr]
/-- The state in which the detector's change is noted, with the beat at which all seven are good. -/
def supplySensed (s : State) (x : Supply) : State :=
  let s := { s with pwr := { s.pwr with good := goodWith s x } }
  if allGood s then { s with pwr := { s.pwr with goodSince := s.tb.up } } else s
theorem supplySensed_good (s : State) (x : Supply) : (supplySensed s x).pwr.good = goodWith s x := by
  unfold supplySensed
  dsimp only
  split <;> rfl
theorem exec_supplyGood {x : Supply} (h : isGood s x = false) : exec (.supplyGood x) s =
    .next (padsFollow (if x = .vddMem then countBank0 (supplySensed s x) else supplySensed s x)) := by
  change execSupplyGood x s = _
  rw [execSupplyGood, if_neg (by rw [h]; decide)]
  rfl
theorem supplyGood_good {x : Supply} (h : isGood s x = false) : ∃ t, exec (.supplyGood x) s = .next t ∧ isGood t x = true := by
  have hgood : (goodWith s x).contains x = true := List.elem_iff.2 (mem_goodWith s x)
  refine ⟨_, exec_supplyGood h, ?_⟩
  rw [padsFollow_keeps, isGood]
  dsimp only
  split
  · rw [countBank0_good, supplySensed_good]; exact hgood
  · rw [supplySensed_good]; exact hgood
theorem supplyFail_fails (s : State) (x : Supply) : ∃ t, exec (.supplyFail x) s = .next t ∧ isGood t x = false := by
  refine ⟨_, rfl, ?_⟩
  rw [padsFollow_keeps, isGood]
  refine Bool.eq_false_iff.2 fun h => ?_
  have hmem := List.mem_filter.1 (List.elem_iff.1 h)
  exact of_decide_eq_true hmem.2 rfl
theorem exec_powerGoodAssert (hpow : powered s = true) (hall : allGood s = true) (hgood : s.pwr.powerGood = false)
    (hup : s.pwr.goodSince + 81920 ≤ s.tb.up) (straps : Byte) : exec (.powerGoodAssert straps) s = .next (
      if s.pwr.resetHigh then
        sampleStraps { s with pwr := { s.pwr with powerGood := true }, modes := { s.modes with cause := 0x00 } } straps
      else { s with pwr := { s.pwr with powerGood := true }, modes := { s.modes with cause := 0x00 } }) := by
  change execPowerGoodAssert straps s = _
  rw [execPowerGoodAssert, hpow, hall, hgood, powerGoodBeats, decide_eq_true hup]
  rfl
theorem exec_resetNRise (hreset : s.pwr.resetHigh = false) (hpow : powered s = true) (hgood : s.pwr.powerGood = true)
    (straps : Byte) : exec (.resetNRise straps) s =
      .next (sampleStraps { s with pwr := { s.pwr with resetHigh := true } } straps) := by
  have hpow' : powered { s with pwr := { s.pwr with resetHigh := true } } = true := hpow
  change execResetNRise straps s = _
  rw [execResetNRise, hreset, if_neg (by decide)]
  dsimp only
  rw [hpow', hgood]
  rfl

end

/-- Settles O11: the power-on by what it resets and keeps, then each detector, sampling and return. -/
theorem powerSupplies : Obligations.PowerSupplies := by
  refine ⟨fun s haon hio hlost => ?_, fun s x => supplyGood_good, fun s x _ => supplyFail_fails s x,
    fun s straps hpow hall hgood hup => ?_, fun s straps hreset hpow hgood => ?_, fun s => ?_⟩
  · have hexec := exec_powerOn haon hio hlost
    have hafter : after s (execPowerOn s) = _ := congrArg (after s) hexec
    have hpending := (powerOn_keeps s).1
    obtain ⟨hbank0, hbank1⟩ := powerOn_banks s
    rw [hafter] at hpending hbank0 hbank1
    exact ⟨_, hexec, rfl, rfl, rfl, rfl, rfl, rfl, rfl, rfl, hbank0, hbank1, hpending⟩
  · refine ⟨_, exec_powerGoodAssert hpow hall hgood hup straps, ?_⟩
    split <;> exact ⟨rfl, rfl, rfl⟩
  · exact ⟨_, exec_resetNRise hreset hpow hgood straps, rfl, rfl⟩
  · refine ⟨_, rfl, ?_⟩
    rw [padsFollow_keeps]

/-! ## Pins (R207, R400, R401, R456) -/

section
variable {s : State}

theorem testOut_held (h : s.modes.cur = .held) : testOut s = none := by rw [testOut, h, decide_eq_true rfl, Bool.or_true]; rfl
/-- Outside HELD the source of `TA_TEST_OUT` is shown. -/
theorem testOut_source (hpow : powered s = true) (h : s.modes.cur ≠ .held) :
    (bits (reg s A_TA_TEST_OUT 0) 4 0 = 1 → testOut s = some false) ∧
    (bits (reg s A_TA_TEST_OUT 0) 4 0 = 2 → testOut s = some true) ∧
    (bits (reg s A_TA_TEST_OUT 0) 4 0 = 3 → testOut s = some (decide (s.tb.beat.toNat % 8 < 4))) ∧
    (bits (reg s A_TA_TEST_OUT 0) 4 0 = 4 → testOut s = some (atBoundary s)) ∧
    (bits (reg s A_TA_TEST_OUT 0) 4 0 = 5 → testOut s = some (decide (s.tb.beat.toNat % 40960000 < 409600))) := by
  unfold testOut
  rw [hpow, decide_eq_false h, if_neg (by decide)]
  dsimp only
  refine ⟨fun hv => ?_, fun hv => ?_, fun hv => ?_, fun hv => ?_, fun hv => ?_⟩
  all_goals
    rw [hv]
    rfl
theorem some_decide_eq_true {p : Prop} [Decidable p] : some (decide p) = some true ↔ p := by simp
theorem feclk_off (hpow : powered s = true) {k : Nat} (h : bits (reg s A_CK_FECLK k) 2 0 = 4) (e : Nat) :
    feclk s k e = some false := by
  rw [feclk, hpow, h]
  rfl
theorem feclkPeriod_ne_zero : ∀ code < 4, feclkPeriod code ≠ 0 := by decide
theorem feclk_held (hpow : powered s = true) (hm : s.modes.cur = .held) {k : Nat} (h : bits (reg s A_CK_FECLK k) 2 0 < 4) (e : Nat) :
    feclk s k e = none := by
  rw [feclk, hpow, if_neg (by decide), if_neg (feclkPeriod_ne_zero _ h), if_pos hm]

variable {x : Signal}

theorem pad_off (h : powered s = false ∨ isGood s (padSupply x) = false) : pad s x = .off := by
  rw [pad, if_pos]
  rcases h with h | h <;> rw [h]
  · rfl
  · exact Bool.or_true _
theorem pad_powered (hpow : powered s = true) (hgood : isGood s (padSupply x) = true) : pad s x =
    if scanned x && (s.tap.inst = .extest || s.tap.inst = .clamp) then .scan
    else if drives x && s.tap.inst = .highz then .highZ else padInMode s x := by
  rw [pad, hpow, hgood]
  rfl
theorem pad_scan (hpow : powered s = true) (hgood : isGood s (padSupply x) = true) (hx : scanned x = true)
    (h : s.tap.inst = .extest ∨ s.tap.inst = .clamp) : pad s x = .scan := by
  rw [pad_powered hpow hgood, if_pos]
  rw [hx, Bool.true_and, Bool.or_eq_true, decide_eq_true_eq, decide_eq_true_eq]
  exact h
theorem pad_highZ (hpow : powered s = true) (hgood : isGood s (padSupply x) = true) (hx : drives x = true)
    (h : s.tap.inst = .highz) : pad s x = .highZ := by
  rw [pad_powered hpow hgood, h, hx, if_neg (by simp), if_pos (by simp)]
theorem pad_inMode (hpow : powered s = true) (hgood : isGood s (padSupply x) = true)
    (h : s.tap.inst = .idcode ∨ s.tap.inst = .bypass ∨ s.tap.inst = .sample) : pad s x = padInMode s x := by
  rw [pad_powered hpow hgood]
  rcases h with h | h | h <;> rw [h, if_neg (by simp), if_neg (by simp)]

/-! ## The TAP (R457, R458) and the drive of an uplane -/

theorem tapLoad_powered (hpow : powered s = true) (i : TapInst) (code : BitVec 6) (dr : Nat) :
    tapLoad s i code dr = { s with tap := { s.tap with inst := i, code := code, dr := dr } } := if_pos hpow
theorem exec_tapSamplePreload (hpow : powered s = true) : exec .tapSamplePreload s = .next
    { s with tap := { s.tap with inst := .sample, code := 0x01, dr := 0, sampled := some s.tb.up } } := by
  change execTapSamplePreload s = _
  rw [execTapSamplePreload, tapLoad_powered hpow, hpow]
  rfl
theorem exec_tapBypass (hpow : powered s = true) {code : BitVec 6} (h : 5 ≤ code.toNat) : exec (.tapBypass code) s =
    .next { s with tap := { s.tap with inst := .bypass, code := code, dr := 2 } } := by
  change execTapBypass code s = _
  rw [execTapBypass, if_pos h, tapLoad_powered hpow]
theorem valueOf_idcode (s : State) : valueOf s A_TA_IDCODE 0 = taIdcode := rfl
/-- A sparse table that lists what differs from its default gives back each value. -/
theorem pget_listed {α : Type} [DecidableEq α] (d : α) (f : Nat → α) (l : List Nat) {u : Nat} (hu : u ∈ l) :
    pget d ((l.filter fun u => decide (f u ≠ d)).map fun u => (u, f u)) u = f u := by
  induction l with
  | nil => exact absurd hu List.not_mem_nil
  | cons v l ih =>
    rw [List.filter_cons]
    split
    · next hv =>
      rw [List.map_cons, pget]
      split
      · next he => rw [he]
      · next hne => exact ih ((List.mem_cons.1 hu).resolve_left fun he => hne he.symm)
    · next hv =>
      by_cases hmem : u ∈ l
      · exact ih hmem
      · have he : u = v := (List.mem_cons.1 hu).resolve_right hmem
        subst he
        have hd : f u = d := by simpa using hv
        rw [← List.append_nil (List.map _ _), pget_append, pget_nil, hd]
        intro e hmem'
        obtain ⟨w, hw, rfl⟩ := List.mem_map.1 hmem'
        exact fun he => hmem (he ▸ (List.mem_filter.1 hw).1)
theorem tapDeckle_ulEq (s : State) {u : Nat} (hu : u < 4) : pget 0x46 (tapDeckle s).tap.ulEq u = reg s A_TA_UL_EQ u :=
  pget_listed 0x46 (fun u => reg s A_TA_UL_EQ u) (List.range 4) (List.mem_range.2 hu)

end

/-- Settles O60: the TAP instruction by instruction, then each pin. -/
theorem testAccess : Obligations.TestAccess := by
  refine ⟨fun s hpow => ⟨?_, exec_tapSamplePreload hpow, ?_, ?_, ?_, fun code h => exec_tapBypass hpow h, ?_, ?_, ?_, ?_, ?_, ?_,
    fun _ => rfl⟩, fun s h => testOut_held h, fun s hpow h => ?testOut, fun s k e hpow => ⟨fun h => feclk_off hpow h e, fun hm h =>
    feclk_held hpow hm h e⟩, fun s x h => pad_off h, fun s x hpow hgood => ⟨fun hx h => pad_scan hpow hgood hx h, fun hx h =>
    pad_highZ hpow hgood hx h, fun h => ?pads⟩, fun s u hu => tapDeckle_ulEq s hu⟩
  · exact congrArg Host.Outcome.next (tapLoad_powered hpow ..)
  · exact congrArg Host.Outcome.next (tapLoad_powered hpow ..)
  · exact congrArg Host.Outcome.next (tapLoad_powered hpow ..)
  · exact congrArg Host.Outcome.next (tapLoad_powered hpow ..)
  · exact congrArg Host.Outcome.next (tapLoad_powered hpow ..)
  · rw [padsFree]
    simp
  · rw [valueOf_idcode]; decide
  · rw [valueOf_idcode]; decide
  · rw [valueOf_idcode]; decide
  · rw [valueOf_idcode]; decide
  case testOut =>
    obtain ⟨hlow, hhigh, hbeat, hdeckle, hsecond⟩ := testOut_source hpow h
    exact ⟨hlow, hhigh, fun hv => by rw [hbeat hv, some_decide_eq_true], fun hv => by rw [hdeckle hv, atBoundary, some_decide_eq_true],
      fun hv => by rw [hsecond hv, some_decide_eq_true]⟩
  case pads =>
    have hpad := pad_inMode hpow hgood h
    refine ⟨?_, fun k => ?_, ?_, ?_⟩ <;> rintro rfl <;> exact hpad

end Sys2Proof.Proofs
end
